-- ==== Sys2Proof/Word.lean ====
section
/-! DEFINITION. The word types of the model and the table type every sparse memory of it uses. -/
namespace Sys2Proof

/-- WACC, the wide accumulator of a Rung Processor (spec/03, "Structure of an engine"). -/
abbrev Word64 := BitVec 64

/-- The raw operand field of a rung instruction, bits [23:0] of its word (R99). -/
abbrev Operand := BitVec 24

/-- A sparse table: key and value pairs, keys strictly rising, no entry at its default (log 4). -/
abbrev Table (α : Type) := List (Nat × α)

end Sys2Proof
end

