-- ==== Sys2Proof/Syntax.lean ====
section
/-! DEFINITION. The commands of the block: one constructor of Instr per row of spec/opcode_table.json, with the row's operands.
A rung instruction names its engine and carries the raw operand field of its word (R99). A ZCP command carries the message
as received (R192, R197). An event carries its instant t, in ns of the module's time base since power-on, and what the
outside supplies at it. -/
namespace Sys2Proof

/-- A ZCP message as received on a DTLS connection: its header fields as read at their offsets (R197) and its parameter bytes. -/
structure Msg where
  /-- DTLS connection it came on (R191: at most 32). -/
  conn : Fin 32
  /-- Reception instant, ns of the time base. -/
  t : Nat
  /-- Length of the message in bytes, header included. -/
  size : Nat
  /-- MAGIC. -/
  magic : Nat
  /-- VERSION. -/
  version : Nat
  /-- The flags byte: REPLY [7], EVENT [6], MORE [5], reserved [4:2], REPLAYED [1], NO_REPLY [0]. -/
  flags : Nat
  /-- QUEUE. -/
  queue : Nat
  /-- OPCODE. -/
  opcode : Nat
  /-- SESSION_TAG. -/
  tag : Nat
  /-- SEQUENCE. -/
  seq : Nat
  /-- STATUS. -/
  status : Nat
  /-- PARAM_LENGTH. -/
  plen : Nat
  /-- PARTITION. -/
  part : Nat
  /-- The reserved 24 bits at offset 21. -/
  resv : Nat
  /-- DEADLINE. -/
  deadline : Nat
  /-- Parameter bytes. -/
  params : List Nat
deriving DecidableEq, Repr

/-- A host certificate chain as the handshake finds it (R553); the module checks these facts of it. -/
structure Chain where
  /-- Certificates, the anchor excluded. -/
  count : Nat
  /-- Every signature ECDSA P-384 with SHA-384. -/
  p384 : Bool
  /-- End entity: keyUsage digitalSignature, cA false. -/
  endEntity : Bool
  /-- Within its validity period by GZ time. -/
  inPeriod : Bool
  /-- Fingerprint of the anchor certificate the chain ends at (R577). -/
  anchor : Nat
  /-- 0 no Rybrion anchor, 1 Rybrion factory anchor, 2 Rybrion service anchor. -/
  rybrion : Nat
  /-- Identity: the subject of the end entity. -/
  identity : Nat
deriving DecidableEq, Repr

/-- A DTLS ClientHello and how far its handshake gets (R191). -/
structure Hello where
  /-- Port: 0 NET-A, 1 NET-B, 2 SVC-ETH, 3 SVC-USB (R190). -/
  port : Fin 4
  /-- Destination: UDP port, IPv6; 0 a link-local address, 1 the one DHCPv6 gave, 2 the static one (R190). -/
  udp : Nat
  v6 : Bool
  addr : Fin 3
  /-- DTLS 1.3 offered. -/
  dtls13 : Bool
  /-- A supported cipher suite offered. -/
  suite : Bool
  /-- secp384r1 offered. -/
  curve : Bool
  /-- Early data or connection IDs asked for (refused, not fatal). -/
  early : Bool
  /-- The chain presented when the handshake completes; none while it has not. -/
  done : Option Chain
  /-- MACsec has protected its frames (R563). -/
  secured : Bool
deriving DecidableEq, Repr

/-- A plant publication fragment as received (spec/02, publication frame header). -/
structure PubFrame where
  /-- Port: 0 NET-A, 1 NET-B. -/
  port : Fin 2
  etherType : Nat
  version : Nat
  last : Bool
  index : Nat
  resv : Nat
  moduleId : Nat
  partition : Nat
  startCount : Nat
  cycle : Nat
  validFrom : Nat
  listHash : Nat
  firstEntry : Nat
  entryCount : Nat
  /-- Entry values. -/
  values : List Nat
  /-- Entry quality codes. -/
  quality : List Nat
  /-- MACsec protects the frame (R563). -/
  secured : Bool
deriving DecidableEq, Repr

/-- The cartridge at a CARTRIDGE_LEVEL_CHANGE (R410, R412, R416): its charge-count and voltage estimates in mJ, its voltage in mV, its
temperature in 0.1 °C, a fault of it. -/
structure CartLevel where
  cc : Nat
  v : Nat
  mv : Nat
  temp : Int
  fault : Bool
deriving DecidableEq, Repr

/-- What the time unit makes of a Sync and its Follow_Up (R28, R54): domain, logMessageInterval, grandmaster time minus module time in ns. -/
structure SyncMsg where
  domain : Nat
  log : Int
  offset : Int
deriving DecidableEq, Repr

/-- An IEEE 802.1AS Announce message of a grandmaster as received (R28): what the best master clock algorithm compares. -/
structure Announce where
  domain : Nat
  priority1 : Nat
  clockClass : Nat
  accuracy : Nat
  variance : Nat
  priority2 : Nat
  /-- clockIdentity of the grandmaster. -/
  identity : Nat
deriving DecidableEq, Repr

/-- The outcome of the best master clock algorithm (R28). -/
inductive GmSel
  /-- No grandmaster is heard and the module is not selected. -/
  | none
  /-- The algorithm selects this module. -/
  | self
  /-- The algorithm selects another grandmaster that is heard, by its clockIdentity. -/
  | other (id : Nat)
deriving DecidableEq, Repr

/-- A subscription to a publication list of another module's partition (R57 to R60). -/
structure SubList where
  /-- Publisher's module ID. -/
  moduleId : Nat
  /-- Publisher's partition. -/
  partition : Nat
  /-- Publisher's period m (P_A). -/
  periodM : Nat
  /-- LIST_HASH of the subscriber's copy of the list definition. -/
  hash : Nat
  /-- Entries in the list. -/
  count : Nat
  /-- Subscribing partition. -/
  reader : Nat
  /-- For each subscribed entry: list index and the slot of this module it is placed at (R60). -/
  places : List (Nat × Nat)
deriving DecidableEq, Repr

/-- A CALL of a body: the block it names and where its record lies in the record of the body (R118, R159). -/
structure CallRec where
  block : Nat
  offset : Nat
deriving DecidableEq, Repr

/-- A task of a configuration (R87, R123): its code, in which a CALL names an entry of its list of calls; the loader gives it its place in
the bank and its descriptors (log 7). -/
structure TaskCode where
  /-- Task number. -/
  task : Nat
  /-- Byte offset of its root record in the partition's instance region (R123). -/
  root : Nat
  calls : List CallRec
  /-- Its instructions. -/
  code : List Nat
deriving DecidableEq, Repr

/-- A composed block of a configuration (R159): its BLOCK_ID, the size of its record, its calls, its body. -/
structure BlockCode where
  block : Nat
  size : Nat
  calls : List CallRec
  code : List Nat
deriving DecidableEq, Repr

/-- A named field of a record's layout (R163): name, byte offset, size in bytes, type: 0 unsigned, 1 signed, 2 F32, 3 one bit, by its number in
the byte, 4 other. -/
structure FieldDesc where
  name : Nat
  offset : Nat
  size : Nat
  ty : Nat
  bit : Nat
deriving DecidableEq, Repr

/-- One instance record of a configuration (R123, R124): its partition, the number of its path (R163), its offset in the region, its bytes with
their configured values, its layout's named fields. The bytes of a record that lies inside it are that record's own entry's. -/
structure InstRec where
  partition : Nat
  path : Nat
  offset : Nat
  bytes : List Nat
  retain : Bool
  fields : List FieldDesc
deriving DecidableEq, Repr

/-- A configuration package (R588): every object, program, table, safety set and map, as Elaro Studio built it (log 7). -/
structure Pkg where
  /-- Program identity (R481). -/
  programId : Nat
  /-- Object fields: class, instance, field, value. -/
  objs : List (Nat × Nat × Nat × Nat)
  tasks : List TaskCode
  /-- Composed blocks (R159). -/
  blocks : List BlockCode
  /-- Ownership table entries: slot, entry (R171). -/
  own : List (Nat × Nat)
  /-- Fallback presets: slot, value (R173). -/
  presets : List (Nat × Nat)
  insts : List InstRec
  /-- Publication lists: partition, slots (R57). -/
  pubs : List (Nat × List Nat)
  subs : List SubList
  /-- Storyboards: table, bytes (R379, R380). -/
  boards : List (Nat × List Nat)
  /-- Causes, effects: number, entry bytes; intersections: cause, effect (R425, R426). -/
  causes : List (Nat × List Nat)
  effects : List (Nat × List Nat)
  inters : List (Nat × Nat)
deriving DecidableEq, Repr

/-- What a bring-up step finds (R543). -/
structure BringUp where
  /-- The step's tests passed, or its target was reached; false where its longest time ran out or its test failed. -/
  ok : Bool
  /-- Step 4: both images failed. -/
  bootFail : Bool
  /-- Step 5: engines that fail their pass, bit n. -/
  badCe : Nat
  /-- Step 5: uncorrectable error in configuration, image or ownership regions. -/
  badMem : Bool
  /-- Step 7: the configuration's identity and CRC verify. -/
  cfgOk : Bool
deriving DecidableEq, Repr

/-- What the verification of an update image finds (R583). -/
structure Verdict where
  /-- Signature correct, or for a node VENDOR and PRODUCT matching and the node's own check passed. -/
  ok : Bool
  version : Nat
  vendor : Nat
  product : Nat
  /-- RESTART_MS of a node image's header. -/
  restartMs : Nat
deriving DecidableEq, Repr

/-- A node's IDENTITY record (R251) with the trunk it was heard on and its MAC address. -/
structure NodeId where
  hopsA : Nat
  hopsB : Nat
  vendor : Nat
  product : Nat
  serial : Nat
  firmware : Nat
  inSlots : Nat
  outSlots : Nat
  /-- Assigned module ID, 0xFFFF if none. -/
  moduleId : Nat
  place : Nat
  flags : Nat
  mac : Nat
deriving DecidableEq, Repr

/-- A GFP frame from a node as received (R234). -/
structure GfpIn where
  /-- Trunk it arrived on. -/
  trunk : Fin 4
  viaB : Bool
  fcs : Bool
  /-- EtherType, and TYPE of the GFP header. -/
  etherType : Nat
  version : Nat
  kind : Nat
  flags : Nat
  trunkField : Nat
  moduleId : Nat
  ctrlEpoch : Nat
  assignEpoch : Nat
  time : Nat
  place : Nat
  length : Nat
  mac : Nat
  data : List Nat
deriving DecidableEq, Repr

/-- What a MANAGE_REPLY carries (R235; R252). -/
inductive ManageRep
  /-- The node confirms an assignment. -/
  | confirm (epoch : Nat)
  /-- Its diagnostic block. -/
  | diag (bytes : List Nat)
  /-- Its reachability: hops from A and from B, 0xFF unreachable. -/
  | reach (a b : Nat)
  /-- It has cleared its assignment. -/
  | disowned
deriving DecidableEq, Repr

/-- A frame heard on a segment (R255, R258). -/
structure SegIn where
  /-- Segment. -/
  seg : Fin 8
  /-- Instant of its start of frame, ns of the time base. -/
  sof : Nat
  /-- CRC valid. -/
  ok : Bool
  /-- 0 XL, 1 FD with bit-rate switch, 2 FD without, 3 classical. -/
  fmt : Fin 4
  ext : Bool
  remote : Bool
  ident : Nat
  af : Nat
  sdt : Nat
  vcid : Nat
  data : List Nat
deriving DecidableEq, Repr

/-- What a rate detection found (R278): codes of ARB_RATE, XL_RATE and FD_RATE, the formats seen, the load in percent. -/
structure ListenRes where
  arb : Fin 4
  xl : Option (Fin 7)
  fd : Option (Fin 5)
  formats : Nat
  load : Nat
deriving DecidableEq, Repr

/-- What an absolute sensor sends in one frame (R331, R332). -/
structure AbsRead where
  /-- Data bits, first bit most significant: SSI all SENS_BITS; BiSS-C position, nE, nW, CRC. -/
  raw : Nat
  /-- SSI: the line was high before the frame and after RECOVERY_US; BiSS-C: the acknowledge was short enough. -/
  lineOk : Bool
  /-- BiSS-C: measured line delay, ns. -/
  delay : Nat
deriving DecidableEq, Repr

/-- What the converters and input circuits hold at a Clapper (R292, R318, R324, R359, R413). -/
structure ClapIn where
  /-- Loop outputs: number, READBACK, TERM_V, AT_COMPLIANCE. -/
  loops : List (Nat × Nat × Int × Bool)
  /-- Motor stages: number, load angle where valid, phase current mA rms, temperature 0.1 °C, FM voltage 10 mV. -/
  stages : List (Nat × Option Int × Nat × Int × Nat)
  /-- Feedback ports: number, line fault, supply fault. -/
  ports : List (Nat × Bool × Bool)
  /-- FA, FB, FM voltages, mV. -/
  rails : List Nat
  /-- Logic load, mW (R413 ride-through). -/
  loadMw : Nat
deriving DecidableEq, Repr

/-- A take or full-take slice frame as received on PAIR (R480). -/
structure TakeIn where
  /-- Full-take slice, not a take. -/
  slice : Bool
  etherType : Nat
  last : Bool
  final : Bool
  migrate : Bool
  restart : Bool
  part : Fin 8
  moduleId : Nat
  gen : Nat
  cycle : Nat
  index : Nat
  /-- Runs: headers and lines, the trailer left out. -/
  payload : List Nat
  /-- CRC-32C of the trailer, in the last frame. -/
  crc : Nat
  /-- MACsec protects the frame (R563). -/
  secured : Bool
deriving DecidableEq, Repr

/-- A partner's heartbeat as received (R483), with what the link and the partner's certificate show of it (R469). -/
structure HbIn where
  moduleId : Nat
  epoch : Nat
  seq : Nat
  role : Nat
  flags : Nat
  cause : Nat
  programId : Nat
  slate : Nat
  gens : List Nat
  etherType : Nat
  /-- Order code: 0 GZ-640-M4, 1 GZ-640-M0 (R3); serial number of the device certificate. -/
  variant : Nat
  serial : Nat
  /-- Same firmware versions. -/
  firmware : Bool
  /-- Plant port of one heard on the network; MACsec protects the frame (R563). -/
  port : Fin 2
  secured : Bool
deriving DecidableEq, Repr

/-- A word of memory that is read, and its reader (R70, R86, R91, R496). -/
inductive MemWord
  /-- The scrub, in the Larder. -/
  | larder
  /-- The scrub, or a fetch of a Rung Processor during Solve, in an engine's program bank. -/
  | bank (fetch : Bool)
  /-- An engine, in the images or the instance data. -/
  | data
  /-- An engine, in its frame file (parity: nothing is corrected). -/
  | frame
deriving DecidableEq, Repr

/-- What the comparison of a dry solve finds (R497). -/
inductive DryRes
  /-- The remote input images differ: skipped. -/
  | skipped
  /-- Every line written equals the take's. -/
  | same
  /-- First differing line. -/
  | differs (line : Nat)
deriving DecidableEq, Repr

/-- A pair control frame (R480): what it asks. -/
inductive PairCtl
  /-- The stand-in asks for full takes of partitions, bit p (R478, R497). -/
  | fullTake (parts : Nat)
  /-- The active module sends a full load (R481). -/
  | config (pkg : Pkg)
  /-- The active module sends an online change (R499). -/
  | change (pkg : Pkg)
  /-- The stand-in has verified a change by its program identity, or could not load it (R499). -/
  | changeTold (programId : Nat) (ok : Bool)
  /-- The active module announces a planned switch at C_s, on this module's time base (R500). -/
  | switchTo (at_ : Nat)
  /-- The home primary asks to take control back (R501). -/
  | handback
  /-- The switch is abandoned (R505). -/
  | abandon
deriving DecidableEq, Repr


/-- The commands: one constructor per row of the table; the rule named is the row's. -/
inductive Instr
  /-- LD (R103). -/
  | ld (ce : Fin 8) (op : Operand)
  /-- LDN (R103). -/
  | ldn (ce : Fin 8) (op : Operand)
  /-- AND (R103). -/
  | and (ce : Fin 8) (op : Operand)
  /-- ANDN (R103). -/
  | andn (ce : Fin 8) (op : Operand)
  /-- OR (R103). -/
  | or (ce : Fin 8) (op : Operand)
  /-- ORN (R103). -/
  | orn (ce : Fin 8) (op : Operand)
  /-- XOR (R103). -/
  | xor (ce : Fin 8) (op : Operand)
  /-- ST (R103). -/
  | st (ce : Fin 8) (op : Operand)
  /-- STN (R103). -/
  | stn (ce : Fin 8) (op : Operand)
  /-- SET (R103). -/
  | set (ce : Fin 8) (op : Operand)
  /-- RST (R103). -/
  | rst (ce : Fin 8) (op : Operand)
  /-- LDQ (R103). -/
  | ldq (ce : Fin 8) (op : Operand)
  /-- LDI (R104). -/
  | ldi (ce : Fin 8) (op : Operand)
  /-- LDNI (R104). -/
  | ldni (ce : Fin 8) (op : Operand)
  /-- ANDI (R104). -/
  | andi (ce : Fin 8) (op : Operand)
  /-- ANDNI (R104). -/
  | andni (ce : Fin 8) (op : Operand)
  /-- ORI (R104). -/
  | ori (ce : Fin 8) (op : Operand)
  /-- ORNI (R104). -/
  | orni (ce : Fin 8) (op : Operand)
  /-- XORI (R104). -/
  | xori (ce : Fin 8) (op : Operand)
  /-- STI (R104). -/
  | sti (ce : Fin 8) (op : Operand)
  /-- STNI (R104). -/
  | stni (ce : Fin 8) (op : Operand)
  /-- SETI (R104). -/
  | seti (ce : Fin 8) (op : Operand)
  /-- RSTI (R104). -/
  | rsti (ce : Fin 8) (op : Operand)
  /-- PE (R104). -/
  | pe (ce : Fin 8) (op : Operand)
  /-- NE (R104). -/
  | ne (ce : Fin 8) (op : Operand)
  /-- BPUSH (R105). -/
  | bpush (ce : Fin 8) (op : Operand)
  /-- BAND (R105). -/
  | band (ce : Fin 8) (op : Operand)
  /-- BOR (R105). -/
  | bor (ce : Fin 8) (op : Operand)
  /-- BPEEK (R105). -/
  | bpeek (ce : Fin 8) (op : Operand)
  /-- BPOP (R105). -/
  | bpop (ce : Fin 8) (op : Operand)
  /-- BDROP (R105). -/
  | bdrop (ce : Fin 8) (op : Operand)
  /-- NOT (R105). -/
  | not (ce : Fin 8) (op : Operand)
  /-- ONE (R105). -/
  | one (ce : Fin 8) (op : Operand)
  /-- NEG (R105). -/
  | neg (ce : Fin 8) (op : Operand)
  /-- ABS (R105). -/
  | abs (ce : Fin 8) (op : Operand)
  /-- WNOT (R105). -/
  | wnot (ce : Fin 8) (op : Operand)
  /-- LW_16 (R106). -/
  | lw16 (ce : Fin 8) (op : Operand)
  /-- LW_32 (R106). -/
  | lw32 (ce : Fin 8) (op : Operand)
  /-- LW_64 (R106). -/
  | lw64 (ce : Fin 8) (op : Operand)
  /-- LWS_16 (R106). -/
  | lws16 (ce : Fin 8) (op : Operand)
  /-- LWS_32 (R106). -/
  | lws32 (ce : Fin 8) (op : Operand)
  /-- SW_16 (R106). -/
  | sw16 (ce : Fin 8) (op : Operand)
  /-- SW_32 (R106). -/
  | sw32 (ce : Fin 8) (op : Operand)
  /-- SW_64 (R106). -/
  | sw64 (ce : Fin 8) (op : Operand)
  /-- SWC_16 (R106). -/
  | swc16 (ce : Fin 8) (op : Operand)
  /-- SWC_32 (R106). -/
  | swc32 (ce : Fin 8) (op : Operand)
  /-- SWC_64 (R106). -/
  | swc64 (ce : Fin 8) (op : Operand)
  /-- LI_8 (R107). -/
  | li8 (ce : Fin 8) (op : Operand)
  /-- LI_16 (R107). -/
  | li16 (ce : Fin 8) (op : Operand)
  /-- LI_32 (R107). -/
  | li32 (ce : Fin 8) (op : Operand)
  /-- LI_64 (R107). -/
  | li64 (ce : Fin 8) (op : Operand)
  /-- LIS_8 (R107). -/
  | lis8 (ce : Fin 8) (op : Operand)
  /-- LIS_16 (R107). -/
  | lis16 (ce : Fin 8) (op : Operand)
  /-- LIS_32 (R107). -/
  | lis32 (ce : Fin 8) (op : Operand)
  /-- SI_8 (R107). -/
  | si8 (ce : Fin 8) (op : Operand)
  /-- SI_16 (R107). -/
  | si16 (ce : Fin 8) (op : Operand)
  /-- SI_32 (R107). -/
  | si32 (ce : Fin 8) (op : Operand)
  /-- SI_64 (R107). -/
  | si64 (ce : Fin 8) (op : Operand)
  /-- SIC_16 (R107). -/
  | sic16 (ce : Fin 8) (op : Operand)
  /-- SIC_32 (R107). -/
  | sic32 (ce : Fin 8) (op : Operand)
  /-- SIC_64 (R107). -/
  | sic64 (ce : Fin 8) (op : Operand)
  /-- LDK (R107). -/
  | ldk (ce : Fin 8) (op : Operand)
  /-- LDKS (R107). -/
  | ldks (ce : Fin 8) (op : Operand)
  /-- ADDK (R108). -/
  | addk (ce : Fin 8) (op : Operand)
  /-- SUBK (R108). -/
  | subk (ce : Fin 8) (op : Operand)
  /-- MULK (R108). -/
  | mulk (ce : Fin 8) (op : Operand)
  /-- DIVK (R109). -/
  | divk (ce : Fin 8) (op : Operand)
  /-- MODK (R109). -/
  | modk (ce : Fin 8) (op : Operand)
  /-- ANDK (R108). -/
  | andk (ce : Fin 8) (op : Operand)
  /-- ORK (R108). -/
  | ork (ce : Fin 8) (op : Operand)
  /-- XORK (R108). -/
  | xork (ce : Fin 8) (op : Operand)
  /-- SHLK (R108). -/
  | shlk (ce : Fin 8) (op : Operand)
  /-- SHRK (R108). -/
  | shrk (ce : Fin 8) (op : Operand)
  /-- SARK (R108). -/
  | sark (ce : Fin 8) (op : Operand)
  /-- MAXK (R108). -/
  | maxk (ce : Fin 8) (op : Operand)
  /-- MINK (R108). -/
  | mink (ce : Fin 8) (op : Operand)
  /-- ADDI (R108). -/
  | addi (ce : Fin 8) (op : Operand)
  /-- SUBI (R108). -/
  | subi (ce : Fin 8) (op : Operand)
  /-- MULI (R108). -/
  | muli (ce : Fin 8) (op : Operand)
  /-- DIVI (R109). -/
  | divi (ce : Fin 8) (op : Operand)
  /-- MODI (R109). -/
  | modi (ce : Fin 8) (op : Operand)
  /-- ANDI_W (R108). -/
  | andiW (ce : Fin 8) (op : Operand)
  /-- ORI_W (R108). -/
  | oriW (ce : Fin 8) (op : Operand)
  /-- XORI_W (R108). -/
  | xoriW (ce : Fin 8) (op : Operand)
  /-- SHLI (R108). -/
  | shli (ce : Fin 8) (op : Operand)
  /-- SHRI (R108). -/
  | shri (ce : Fin 8) (op : Operand)
  /-- SARI (R108). -/
  | sari (ce : Fin 8) (op : Operand)
  /-- MAXI (R108). -/
  | maxi (ce : Fin 8) (op : Operand)
  /-- MINI (R108). -/
  | mini (ce : Fin 8) (op : Operand)
  /-- EQK (R110). -/
  | eqk (ce : Fin 8) (op : Operand)
  /-- NEK (R110). -/
  | nek (ce : Fin 8) (op : Operand)
  /-- GTK (R110). -/
  | gtk (ce : Fin 8) (op : Operand)
  /-- GEK (R110). -/
  | gek (ce : Fin 8) (op : Operand)
  /-- LTK (R110). -/
  | ltk (ce : Fin 8) (op : Operand)
  /-- LEK (R110). -/
  | lek (ce : Fin 8) (op : Operand)
  /-- GTUK (R110). -/
  | gtuk (ce : Fin 8) (op : Operand)
  /-- LTUK (R110). -/
  | ltuk (ce : Fin 8) (op : Operand)
  /-- EQI (R110). -/
  | eqi (ce : Fin 8) (op : Operand)
  /-- NEI (R110). -/
  | nei (ce : Fin 8) (op : Operand)
  /-- GTI (R110). -/
  | gti (ce : Fin 8) (op : Operand)
  /-- GEI (R110). -/
  | gei (ce : Fin 8) (op : Operand)
  /-- LTI (R110). -/
  | lti (ce : Fin 8) (op : Operand)
  /-- LEI (R110). -/
  | lei (ce : Fin 8) (op : Operand)
  /-- GTUI (R110). -/
  | gtui (ce : Fin 8) (op : Operand)
  /-- LTUI (R110). -/
  | ltui (ce : Fin 8) (op : Operand)
  /-- ADDD (R111). -/
  | addd (ce : Fin 8) (op : Operand)
  /-- SUBD (R111). -/
  | subd (ce : Fin 8) (op : Operand)
  /-- EQD (R111). -/
  | eqd (ce : Fin 8) (op : Operand)
  /-- NED (R111). -/
  | ned (ce : Fin 8) (op : Operand)
  /-- GTD (R111). -/
  | gtd (ce : Fin 8) (op : Operand)
  /-- LTD (R111). -/
  | ltd (ce : Fin 8) (op : Operand)
  /-- GTUD (R111). -/
  | gtud (ce : Fin 8) (op : Operand)
  /-- LTUD (R111). -/
  | ltud (ce : Fin 8) (op : Operand)
  /-- WBIT (R112). -/
  | wbit (ce : Fin 8) (op : Operand)
  /-- WSETB (R112). -/
  | wsetb (ce : Fin 8) (op : Operand)
  /-- NOP (R113). -/
  | nop (ce : Fin 8) (op : Operand)
  /-- END (R113). -/
  | endTask (ce : Fin 8) (op : Operand)
  /-- JMP (R113). -/
  | jmp (ce : Fin 8) (op : Operand)
  /-- JMPC (R113). -/
  | jmpc (ce : Fin 8) (op : Operand)
  /-- JMPN (R113). -/
  | jmpn (ce : Fin 8) (op : Operand)
  /-- LPI (R114). -/
  | lpi (ce : Fin 8) (op : Operand)
  /-- LOOP (R114). -/
  | loop (ce : Fin 8) (op : Operand)
  /-- IDX (R116). -/
  | idx (ce : Fin 8) (op : Operand)
  /-- CALL (R119). -/
  | call (ce : Fin 8) (op : Operand)
  /-- SYNC (R81). -/
  | sync (ce : Fin 8) (op : Operand)
  /-- STORE_BUFFER_DRAIN (R76). -/
  | storeBufferDrain (ce : Fin 8)
  /-- BARRIER_RELEASE (R81). -/
  | barrierRelease (t : Nat) (p : Fin 8) (b : Fin 64)
  /-- BARRIER_TIMEOUT (R91). -/
  | barrierTimeout (t : Nat) (p : Fin 8) (b : Fin 64)
  /-- CLAPPER (R38). -/
  | clapper (t : Nat) (p : Fin 8) (x : ClapIn)
  /-- IMAGE_SWAP (R49). -/
  | imageSwap (t : Nat) (p : Fin 8)
  /-- SOLVE_COMPLETE (R50). -/
  | solveComplete (t : Nat) (p : Fin 8)
  /-- OVERRUN_PUBLISH_DEADLINE (R51). -/
  | overrunPublishDeadline (t : Nat) (p : Fin 8)
  /-- SELF_TEST_SLICE_END (R92). -/
  | selfTestSliceEnd (t : Nat) (ce : Fin 8) (pass : Bool)
  /-- CE_RETEST_DONE (R98). -/
  | ceRetestDone (t : Nat) (ce : Fin 8) (pass : Bool)
  /-- GPTP_SYNC (R54). -/
  | gptpSync (t : Nat) (msg : SyncMsg)
  /-- TIME_STEP_COMPLETE (R64). -/
  | timeStepComplete (t : Nat)
  /-- GPTP_ANNOUNCE (R30). -/
  | gptpAnnounce (t : Nat) (a : Announce)
  /-- GRANDMASTER_LOST (R30). -/
  | grandmasterLost (t : Nat)
  /-- HOLDOVER_LIMIT_EXPIRY (R30). -/
  | holdoverLimitExpiry (t : Nat)
  /-- ACQ_TIMEOUT (R31): identities of the grandmasters heard whose announcements have ceased by then. -/
  | acqTimeout (t : Nat) (silent : List Nat)
  /-- GZ_TIME_SAVE (R33). -/
  | gzTimeSave (t : Nat)
  /-- PUBLICATION_FRAME (R57). -/
  | publicationFrame (t : Nat) (f : PubFrame)
  /-- PUBLICATION_ABSENT (R59). -/
  | publicationAbsent (t : Nat) (list : Nat)
  /-- MODULE_ID_ANNOUNCE (R25). -/
  | moduleIdAnnounce (t : Nat) (id device : Nat)
  /-- ID_CONFLICT_CLEAR (R25). -/
  | idConflictClear (t : Nat) (id : Nat)
  /-- DTLS_HANDSHAKE (R191). -/
  | dtlsHandshake (t : Nat) (conn : Fin 32) (h : Hello)
  /-- HANDSHAKE_TIMEOUT (R191). -/
  | handshakeTimeout (t : Nat) (conn : Fin 32)
  /-- DTLS_CONNECTION_CLOSE (R193). -/
  | dtlsConnectionClose (t : Nat) (conn : Fin 32)
  /-- SESSION_IDLE_TIMEOUT (R193). -/
  | sessionIdleTimeout (t : Nat) (conn : Fin 32)
  /-- FRAGMENT_TIMEOUT (R206). -/
  | fragmentTimeout (t : Nat) (q : Fin 64)
  /-- EVENT_RESEND (R209). -/
  | eventResend (t : Nat) (q : Fin 64)
  /-- SHED_WINDOW (R220). -/
  | shedWindow (t : Nat) (load : Nat)
  /-- SESSION_OPEN (R194). -/
  | sessionOpen (msg : Msg)
  /-- SESSION_CLOSE (R193). -/
  | sessionClose (msg : Msg)
  /-- SESSION_PING (R193). -/
  | sessionPing (msg : Msg)
  /-- QUEUE_ATTACH (R196). -/
  | queueAttach (msg : Msg)
  /-- QUEUE_DETACH (R196). -/
  | queueDetach (msg : Msg)
  /-- EVENT_ACK (R212). -/
  | eventAck (msg : Msg)
  /-- GET_OBJECT (R215). -/
  | getObject (msg : Msg)
  /-- SET_OBJECT (R216). -/
  | setObject (msg : Msg)
  /-- MODULE_ID_WRITE (R222). -/
  | moduleIdWrite (msg : Msg)
  /-- CYCLE_OBJECT_WRITE (R62). -/
  | cycleObjectWrite (msg : Msg)
  /-- PARTITION_OBJECT_WRITE (R168). -/
  | partitionObjectWrite (msg : Msg)
  /-- TASK_OBJECT_WRITE (R87). -/
  | taskObjectWrite (msg : Msg)
  /-- PLACE_OBJECT_WRITE (R254). -/
  | placeObjectWrite (msg : Msg)
  /-- SEGMENT_OBJECT_WRITE (R280). -/
  | segmentObjectWrite (msg : Msg)
  /-- NODE_SERIAL_WRITE (R281). -/
  | nodeSerialWrite (msg : Msg)
  /-- PORT_MODE_WRITE (R343). -/
  | portModeWrite (msg : Msg)
  /-- EFFECT_LATCH_RELEASE (R433). -/
  | effectLatchRelease (msg : Msg)
  /-- MAX_SHELVE_MIN_WRITE (R421). -/
  | maxShelveMinWrite (msg : Msg)
  /-- LOW_OK_WRITE (R569). -/
  | lowOkWrite (msg : Msg)
  /-- RIDE_MS_WRITE (R579). -/
  | rideMsWrite (msg : Msg)
  /-- MODULE_IDENTIFY (R608). -/
  | moduleIdentify (msg : Msg)
  /-- IDENTIFY_EXPIRY (R608). -/
  | identifyExpiry (t : Nat)
  /-- TIME_GET (R63). -/
  | timeGet (msg : Msg)
  /-- TIME_SET (R64). -/
  | timeSet (msg : Msg)
  /-- MODE_SET (R548). -/
  | modeSet (msg : Msg)
  /-- RESET (R549). -/
  | reset (msg : Msg)
  /-- BLOCK_QUIESCE (R550). -/
  | blockQuiesce (msg : Msg)
  /-- PART_START (R186). -/
  | partStart (msg : Msg)
  /-- PART_HALT (R187). -/
  | partHalt (msg : Msg)
  /-- PART_STOP (R187). -/
  | partStop (msg : Msg)
  /-- LOAD_BEGIN (R588). -/
  | loadBegin (msg : Msg)
  /-- LOAD_DATA (R588). -/
  | loadData (msg : Msg)
  /-- LOAD_COMMIT (R588). -/
  | loadCommit (msg : Msg) (pkg : Pkg)
  /-- LOAD_ABORT (R588). -/
  | loadAbort (msg : Msg)
  /-- CHANGE_COMMIT (R588). -/
  | changeCommit (msg : Msg) (pkg : Pkg)
  /-- CE_FENCE (R97). -/
  | ceFence (msg : Msg)
  /-- CE_RETEST (R98). -/
  | ceRetest (msg : Msg)
  /-- POINT_READ (R217). -/
  | pointRead (msg : Msg)
  /-- POINT_WRITE (R218). -/
  | pointWrite (msg : Msg)
  /-- TRUNK_DISCOVER (R251). -/
  | trunkDiscover (msg : Msg)
  /-- DISCOVERY_COMPLETE (R251). -/
  | discoveryComplete (t : Nat) (trunk : Fin 4)
  /-- NODE_ASSIGN (R252). -/
  | nodeAssign (msg : Msg)
  /-- NODE_UNASSIGN (R252). -/
  | nodeUnassign (msg : Msg)
  /-- NODE_REPLACE (R252). -/
  | nodeReplace (msg : Msg)
  /-- NODE_DIAG_READ (R252). -/
  | nodeDiagRead (msg : Msg)
  /-- NODE_CONFIRM_TIMEOUT (R252). -/
  | nodeConfirmTimeout (t : Nat) (place : Fin 1024)
  /-- GFP_INPUT_FRAME (R245). -/
  | gfpInputFrame (t : Nat) (f : GfpIn)
  /-- DISOWN_REPEAT (R248). -/
  | disownRepeat (t : Nat) (trunk : Fin 4)
  /-- GFP_IDENTITY_FRAME (R235). -/
  | gfpIdentityFrame (t : Nat) (trunk : Fin 4) (id : NodeId)
  /-- MANAGE_REPLY (R252). -/
  | manageReply (t : Nat) (trunk : Fin 4) (mac place : Nat) (r : ManageRep)
  /-- SAFETY_IN (R444). -/
  | safetyIn (t : Nat) (place : Fin 1024) (conn counter data crc : Nat)
  /-- TRUNK_LINK_LOSS (R228). -/
  | trunkLinkLoss (t : Nat) (trunk : Fin 4) (linkA linkB reachA reachB isolated : Nat)
  /-- TRUNK_LINK_UP (R228). -/
  | trunkLinkUp (t : Nat) (trunk : Fin 4) (linkA linkB reachA reachB : Nat)
  /-- EXTRA_REFERENCE_FRAME (R261). -/
  | extraReferenceFrame (t : Nat) (seg : Fin 8)
  /-- SEG_INPUT_FRAME (R268). -/
  | segInputFrame (t : Nat) (f : SegIn)
  /-- JOIN (R269). -/
  | join (t : Nat) (f : SegIn)
  /-- SEG_IDENTITY (R269). -/
  | segIdentity (t : Nat) (f : SegIn)
  /-- MATCH_FILTER_FRAME (R271). -/
  | matchFilterFrame (t : Nat) (f : SegIn)
  /-- FILTER_PROGRAM_FRAME (R272). -/
  | filterProgramFrame (t : Nat) (f : SegIn)
  /-- SEG_FRAME (R272). -/
  | segFrame (t : Nat) (seg route : Fin 8)
  /-- SEG_TX_END (R275). -/
  | segTxEnd (t : Nat) (seg : Fin 8) (handle sof : Nat) (outcome : Fin 3)
  /-- SEG_BUS_OFF (R277). -/
  | segBusOff (t : Nat) (seg : Fin 8)
  /-- BUS_OFF_RECOVERY (R255). -/
  | busOffRecovery (t : Nat) (seg : Fin 8)
  /-- TRANSCEIVER_FAULT (R277). -/
  | transceiverFault (t : Nat) (seg : Fin 8) (present : Bool)
  /-- SEG_LOAD_MEASURE (R266). -/
  | segLoadMeasure (t : Nat) (seg : Fin 8) (pct : Nat)
  /-- SEG_LISTEN (R278). -/
  | segListen (msg : Msg)
  /-- SEG_LISTEN_COMPLETE (R278). -/
  | segListenComplete (t : Nat) (seg : Fin 8) (found : Option ListenRes)
  /-- SEG_TX (R283). -/
  | segTx (msg : Msg)
  /-- SEG_TX_CANCEL (R284). -/
  | segTxCancel (msg : Msg)
  /-- FILTER_LOAD (R285). -/
  | filterLoad (msg : Msg)
  /-- LC_SHORT (R293). -/
  | lcShort (t : Nat) (n : Fin 32)
  /-- LIMIT_TIMEOUT (R293). -/
  | limitTimeout (t : Nat) (n : Fin 32)
  /-- THERMAL (R297). -/
  | thermal (t : Nat) (n : Fin 32)
  /-- LC_COOLED (R297). -/
  | lcCooled (t : Nat) (n : Fin 32)
  /-- LC_RESTART_DELAY (R297). -/
  | lcRestartDelay (t : Nat) (n : Fin 32)
  /-- INRUSH_SEGMENT_END (R294). -/
  | inrushSegmentEnd (t : Nat) (n : Fin 32) (early : Bool)
  /-- RAIL_UNDERVOLTAGE (R298). -/
  | railUndervoltage (t : Nat) (rail : Fin 2)
  /-- RAIL_RECOVERED (R298). -/
  | railRecovered (t : Nat) (rail : Fin 2)
  /-- CLAMP_END (R299). -/
  | clampEnd (t : Nat) (n : Fin 32) (uj : Nat)
  /-- BUCKET_FULL (R299). -/
  | bucketFull (t : Nat) (n : Fin 32)
  /-- LC_OPEN_LOAD (R300). -/
  | lcOpenLoad (t : Nat) (n : Fin 32) (result : Fin 3)
  /-- SENSE_VISIT (R291). -/
  | senseVisit (t : Nat) (k : Fin 4) (cur : Nat) (vout temp : Int) (limiting clean : Bool)
  /-- ALIVE_LOST_2MS (R310). -/
  | aliveLost2ms (t : Nat) (ctl : Fin 2)
  /-- ALIVE_LOST_50MS (R310). -/
  | aliveLost50ms (t : Nat) (ctl : Fin 2)
  /-- ALIVE_RETURN (R312). -/
  | aliveReturn (t : Nat) (ctl : Fin 2)
  /-- LIMP_FORCE_CHANGE (R310). -/
  | limpForceChange (t : Nat) (level : Bool)
  /-- LH_INPUT_CHANGE (R311). -/
  | lhInputChange (t : Nat) (k : Fin 8) (level : Bool)
  /-- LC_CONTROLLER_POWER (R310). -/
  | lcControllerPower (t : Nat) (ctl : Fin 2) (up : Bool)
  /-- LC_UNLOCK (R305). -/
  | lcUnlock (msg : Msg)
  /-- LC_CLEAR_LATCH (R306). -/
  | lcClearLatch (msg : Msg)
  /-- LIMP_MAP_WRITE (R309). -/
  | limpMapWrite (msg : Msg)
  /-- LO_TRIM (R320). -/
  | loTrim (msg : Msg)
  /-- LO_LOOP_BREAK (R318). -/
  | loLoopBreak (t : Nat) (n : Fin 8)
  /-- LOOP_BREAK_CLEAR (R318). -/
  | loopBreakClear (t : Nat) (n : Fin 8)
  /-- LO_RAIL_LOW (R315). -/
  | loRailLow (t : Nat) (low : Bool)
  /-- EP_EDGE (R325). -/
  | epEdge (t : Nat) (n : Fin 8) (a b : Bool)
  /-- Z_EDGE (R325). -/
  | zEdge (t : Nat) (n : Fin 8) (level : Bool)
  /-- HALL_TRANSITION (R326). -/
  | hallTransition (t : Nat) (n : Fin 8) (code : Fin 8)
  /-- ABSOLUTE_READ (R333). -/
  | absoluteRead (t : Nat) (n : Fin 8) (r : AbsRead)
  /-- EP_STANDSTILL (R329). -/
  | epStandstill (t : Nat) (n : Fin 8)
  /-- EP_FENCED (R341). -/
  | epFenced (t : Nat) (n : Fin 8) (cause : Fin 5)
  /-- PROBE_LATCH (R337). -/
  | probeLatch (t : Nat) (k : Fin 8) (level : Bool)
  /-- EM_EDGE (R338). -/
  | emEdge (t : Nat) (k : Fin 4)
  /-- EP_SET_POSITION (R346). -/
  | epSetPosition (msg : Msg)
  /-- EP_UNFENCE (R347). -/
  | epUnfence (msg : Msg) (present : Bool)
  /-- MOVE_DONE (R352). -/
  | moveDone (t : Nat) (n : Fin 16)
  /-- AX_LIMIT (R357). -/
  | axLimit (t : Nat) (n : Fin 16) (positive active : Bool)
  /-- AX_STALL (R362). -/
  | axStall (t : Nat) (n : Fin 16)
  /-- FOLLOWING_ERROR (R362). -/
  | followingError (t : Nat) (n : Fin 16)
  /-- MS_FAULT (R360). -/
  | msFault (t : Nat) (k : Fin 4) (fault : Fin 6)
  /-- MS_FAULT_CLEAR (R360). -/
  | msFaultClear (t : Nat) (k : Fin 4)
  /-- HOLD_DELAY_EXPIRY (R359). -/
  | holdDelayExpiry (t : Nat) (k : Fin 4)
  /-- GEAR_SYNC_MATCHED (R364). -/
  | gearSyncMatched (t : Nat) (g : Fin 8)
  /-- SPLICE (R366). -/
  | splice (t : Nat) (g : Fin 8)
  /-- RUNDOWN_END (R367). -/
  | rundownEnd (t : Nat) (g : Fin 8)
  /-- AXIS_JOG (R372). -/
  | axisJog (msg : Msg)
  /-- AXIS_STOP (R373). -/
  | axisStop (msg : Msg)
  /-- AXIS_HOME (R374). -/
  | axisHome (msg : Msg)
  /-- DOOR_TICK (R381). -/
  | doorTick (t : Nat) (mas : List (Nat × Nat))
  /-- ROW_TIMEOUT (R381). -/
  | rowTimeout (t : Nat) (n : Fin 256)
  /-- STEP_TIME_EXPIRY (R384). -/
  | stepTimeExpiry (t : Nat) (n : Fin 256)
  /-- DOOR_COMMAND (R399). -/
  | doorCommand (msg : Msg)
  /-- DOOR_LEARN (R400). -/
  | doorLearn (msg : Msg)
  /-- DOOR_LEARNED (R400). -/
  | doorLearned (t : Nat) (n : Fin 256)
  /-- STORYBOARD_LOAD (R401). -/
  | storyboardLoad (msg : Msg)
  /-- SHED_STAGE_RISE (R408). -/
  | shedStageRise (t : Nat) (rail : Fin 2) (ma mv : Nat)
  /-- SHED_STAGE_FALL (R409). -/
  | shedStageFall (t : Nat) (rail : Fin 2) (ma mv : Nat)
  /-- GAUGE_DISAGREE (R410). -/
  | gaugeDisagree (t : Nat) (cc v : Nat)
  /-- GAUGE_AGREE (R410). -/
  | gaugeAgree (t : Nat) (cc v : Nat)
  /-- IMPEDANCE_TEST_DONE (R411). -/
  | impedanceTestDone (t : Nat) (esr : Nat) (recovered : Bool)
  /-- IMPEDANCE_TEST_PERIOD (R410). -/
  | impedanceTestPeriod (t : Nat)
  /-- CAPACITY_LEARN (R411). -/
  | capacityLearn (t : Nat) (capacity esr : Nat)
  /-- CARTRIDGE_END_OF_LIFE (R412). -/
  | cartridgeEndOfLife (t : Nat)
  /-- GAUGE_TEST (R416). -/
  | gaugeTest (msg : Msg)
  /-- ALARM_DELAY_EXPIRY (R417). -/
  | alarmDelayExpiry (t : Nat) (a : Fin 65536)
  /-- SHELVE_EXPIRY (R419). -/
  | shelveExpiry (t : Nat) (a : Fin 65536)
  /-- FLOOD_END (R420). -/
  | floodEnd (t : Nat) (g : Fin 256)
  /-- ALARM_ACK (R424). -/
  | alarmAck (msg : Msg)
  /-- ALARM_SHELVE (R424). -/
  | alarmShelve (msg : Msg)
  /-- ALARM_UNSHELVE (R424). -/
  | alarmUnshelve (msg : Msg)
  /-- EFFECT_DELAY_EXPIRY (R426). -/
  | effectDelayExpiry (t : Nat) (e : Fin 4096)
  /-- CAUSE_MATRIX_LOAD (R431). -/
  | causeMatrixLoad (msg : Msg)
  /-- SAFETY_CYCLE (R438). -/
  | safetyCycle (t : Nat) (ppm : Int)
  /-- CONTACT_SAMPLE (R441). -/
  | contactSample (t : Nat) (n : Fin 16) (isB level : Bool)
  /-- TEST_PULSE (R440). -/
  | testPulse (t : Nat) (k : Fin 8) (followed : Nat)
  /-- DISCREPANCY (R442). -/
  | discrepancy (t : Nat) (n : Fin 16)
  /-- CONN_LOSS (R445). -/
  | connLoss (t : Nat) (c : Fin 256)
  /-- RESET_PULSE (R449). -/
  | resetPulse (t : Nat) (src : Fin 32) (level : Bool)
  /-- AUTO_REARM (R449). -/
  | autoRearm (t : Nat) (f : Fin 64)
  /-- SQ_DELAY_EXPIRY (R448). -/
  | sqDelayExpiry (t : Nat) (f : Fin 64)
  /-- DARK_TEST (R451). -/
  | darkTest (t : Nat) (stuck groups : Nat)
  /-- SQ_READBACK_FAULT (R451). -/
  | sqReadbackFault (t : Nat) (n : Fin 8)
  /-- SQ_FAULT_CLEAR (R451). -/
  | sqFaultClear (t : Nat) (n : Fin 8)
  /-- SAFETY_FAULT (R439). -/
  | safetyFault (t : Nat) (cause : Fin 9)
  /-- BRAKE_RELEASE_DELAY (R452). -/
  | brakeReleaseDelay (t : Nat) (k : Fin 4)
  /-- BRAKE_TEST_OVERDUE (R452). -/
  | brakeTestOverdue (t : Nat) (k : Fin 4)
  /-- BRAKE_TEST (R453). -/
  | brakeTest (msg : Msg)
  /-- BRAKE_TEST_STEP (R453). -/
  | brakeTestStep (t : Nat) (k : Fin 4) (moved : Nat) (lost : Bool)
  /-- SAFETY_PARAM_WRITE (R462). -/
  | safetyParamWrite (msg : Msg)
  /-- SLATE_CONFIRM (R463). -/
  | slateConfirm (msg : Msg)
  /-- CONFIRM_KEY (R561). -/
  | confirmKey (t : Nat)
  /-- SELECT_KEY (R607). -/
  | selectKey (t : Nat)
  /-- PRESENCE_TIMEOUT (R561). -/
  | presenceTimeout (t : Nat)
  /-- TAKE_FRAME (R478). -/
  | takeFrame (t : Nat) (f : TakeIn)
  /-- FULL_TAKE_PERIOD (R479). -/
  | fullTakePeriod (t : Nat) (p : Fin 8)
  /-- HEARTBEAT (R484). -/
  | heartbeat (t : Nat) (net : Bool) (h : HbIn)
  /-- HEARTBEAT_MISSED (R484). -/
  | heartbeatMissed (t : Nat) (net : Bool)
  /-- PARTNER_LOST (R485). -/
  | partnerLost (t : Nat)
  /-- LARDER_RESTORED (R487). -/
  | larderRestored (t : Nat)
  /-- TAKEOVER_READY (R487). -/
  | takeoverReady (t : Nat)
  /-- DRY_SOLVE (R497). -/
  | drySolve (t : Nat) (p : Fin 8) (res : DryRes)
  /-- STANDIN_HEALTH (R498). -/
  | standinHealth (t : Nat)
  /-- PAIR_LISTEN_END (R472). -/
  | pairListenEnd (t : Nat)
  /-- ALONE_WAIT_EXPIRY (R472). -/
  | aloneWaitExpiry (t : Nat)
  /-- SWITCH_INSTANT (R500). -/
  | switchInstant (t : Nat)
  /-- SWITCH_MAX_WAIT (R500). -/
  | switchMaxWait (t : Nat)
  /-- CLEAN_PERIOD_ELAPSED (R501). -/
  | cleanPeriodElapsed (t : Nat)
  /-- PAIR_SET (R504). -/
  | pairSet (msg : Msg)
  /-- SWITCHOVER (R505). -/
  | switchover (msg : Msg)
  /-- HANDBACK (R506). -/
  | handback (msg : Msg)
  /-- FULL_TAKE (R507). -/
  | fullTake (msg : Msg)
  /-- RECORD_COMMIT (R517). -/
  | recordCommit (t : Nat)
  /-- FLASH_PAGE_PROGRAM (R520). -/
  | flashPageProgram (t : Nat) (cls : Fin 2)
  /-- FLASH_BLOCK_FAIL (R523). -/
  | flashBlockFail (t : Nat) (device : Bool)
  /-- WINDOW_IDLE_EXPIRY (R524). -/
  | windowIdleExpiry (t : Nat) (w : Fin 8)
  /-- OPEN_WINDOW (R525). -/
  | openWindow (msg : Msg)
  /-- READ_WINDOW (R526). -/
  | readWindow (msg : Msg)
  /-- CLOSE_WINDOW (R527). -/
  | closeWindow (msg : Msg)
  /-- MAINS_POWER_ON (R535). -/
  | mainsPowerOn (t : Nat)
  /-- BROWN_OUT (R535). -/
  | brownOut (t : Nat) (island : Bool)
  /-- RESET_N (R535). -/
  | resetN (t : Nat) (low : Nat) (acts : Bool)
  /-- WATCHDOG_EXPIRY (R536). -/
  | watchdogExpiry (t : Nat)
  /-- SUPERVISOR_RESTART_DONE (R536). -/
  | supervisorRestartDone (t : Nat)
  /-- BRINGUP_STEP_COMPLETE (R543). -/
  | bringupStepComplete (t : Nat) (r : BringUp)
  /-- RESET_TAKES_EFFECT (R549). -/
  | resetTakesEffect (t : Nat)
  /-- PARTITION_RESET_DONE (R538). -/
  | partitionResetDone (t : Nat) (p : Fin 8) (passed : Nat)
  /-- BLOCK_RESET (R539). -/
  | blockReset (t : Nat) (block : Nat) (hangs : Bool)
  /-- QUIESCE_DONE (R550). -/
  | quiesceDone (t : Nat) (block : Nat) (busy : Bool)
  /-- QUIESCE_EXPIRY (R540). -/
  | quiesceExpiry (t : Nat) (block : Nat)
  /-- MODULE_LEVEL_FAULT (R532). -/
  | moduleLevelFault (t : Nat) (unit : Fin 5)
  /-- MAINS_LOST (R570). -/
  | mainsLost (t : Nat) (island : Bool)
  /-- MAINS_RETURN (R570). -/
  | mainsReturn (t : Nat)
  /-- WRAP_START (R571). -/
  | wrapStart (t : Nat)
  /-- WRAP_STEP_COMPLETE (R571). -/
  | wrapStepComplete (t : Nat)
  /-- LOW_ENTRY (R569). -/
  | lowEntry (t : Nat)
  /-- DEBUG_LEASE_EXPIRY (R565). -/
  | debugLeaseExpiry (t : Nat)
  /-- AUTH_BLOCK_EXPIRY (R567). -/
  | authBlockExpiry (t : Nat)
  /-- MKA_SECURED (R563). -/
  | mkaSecured (t : Nat) (port : Fin 3) (ok : Bool) (cipher : Nat)
  /-- SAK_RENEWAL (R562). -/
  | sakRenewal (t : Nat) (port : Fin 3) (exhausted : Bool)
  /-- CERT_GET (R580). -/
  | certGet (msg : Msg)
  /-- CERT_INSTALL (R581). -/
  | certInstall (msg : Msg)
  /-- DEBUG_AUTH (R567). -/
  | debugAuth (msg : Msg)
  /-- DEBUG_CLOSE (R567). -/
  | debugClose (msg : Msg)
  /-- LIFECYCLE_SET (R558). -/
  | lifecycleSet (msg : Msg)
  /-- UPDATE_BEGIN (R584). -/
  | updateBegin (msg : Msg)
  /-- UPDATE_DATA (R584). -/
  | updateData (msg : Msg)
  /-- IMAGE_VERIFIED (R583). -/
  | imageVerified (t : Nat) (v : Verdict)
  /-- UPDATE_ACTIVATE (R585). -/
  | updateActivate (msg : Msg)
  /-- ACTIVATION_DONE (R585). -/
  | activationDone (t : Nat) (ok : Bool)
  /-- TRIAL_END (R587). -/
  | trialEnd (t : Nat)
  /-- UPDATE_IDLE_EXPIRY (R583). -/
  | updateIdleExpiry (t : Nat)
  /-- LOAD_IDLE_EXPIRY (R588). -/
  | loadIdleExpiry (t : Nat)
  /-- CALIBRATE (R590). -/
  | calibrate (msg : Msg)
  /-- CALIBRATED (R590). -/
  | calibrated (t : Nat) (offset gain : Int)
  /-- CARTRIDGE_REPLACE (R589). -/
  | cartridgeReplace (msg : Msg)
  /-- CARTRIDGE_REMOVED (R589). -/
  | cartridgeRemoved (t : Nat)
  /-- CARTRIDGE_INSERTED (R589). -/
  | cartridgeInserted (t : Nat) (serial : Nat)
  /-- PRECHARGE_DONE (R589). -/
  | prechargeDone (t : Nat)
  /-- CARTRIDGE_WINDOW_EXPIRY (R589). -/
  | cartridgeWindowExpiry (t : Nat)
  /-- DIGITAL_INPUT_CHANGE (R615). -/
  | digitalInputChange (t : Nat) (n : Fin 32) (level : Bool)
  /-- DEBUG_MEMORY_WRITE (R566). -/
  | debugMemoryWrite (t : Nat) (sp : Nat) (a v : Nat)
  /-- DEBUG_RESET (R535). -/
  | debugReset (t : Nat)
  /-- SEG_FRAME_ERROR (R263). -/
  | segFrameError (t : Nat) (seg : Fin 8) (ident tec rec : Nat)
  /-- MEMORY_SCRUB (R496). -/
  | memoryScrub (t : Nat) (mem : MemWord) (k : Fin 8) (res : Fin 3) (last : Bool)
  /-- STANDIN_HUB_TEST (R496). -/
  | standinHubTest (t : Nat) (pass : Bool)
  /-- VIOLATION_SUMMARY (R177). -/
  | violationSummary (t : Nat) (p : Fin 8)
  /-- DEMOTION_SELF_TEST_DONE (R494). -/
  | demotionSelfTestDone (t : Nat) (pass : Bool)
  /-- SUPERVISOR_RESTART_TIMEOUT (R536). -/
  | supervisorRestartTimeout (t : Nat)
  /-- CARTRIDGE_LEVEL_CHANGE (R412). -/
  | cartridgeLevelChange (t : Nat) (level : CartLevel)
  /-- OPERATING_SECOND (R35). -/
  | operatingSecond (t : Nat)
  /-- SEGMENT_GATE_OPEN (R275). -/
  | segmentGateOpen (t : Nat) (seg : Fin 8)
  /-- PAIR_CONTROL_FRAME (R480). -/
  | pairControlFrame (t : Nat) (c : PairCtl)
  /-- DISPLAY_PAGE_TIMEOUT (R607). -/
  | displayPageTimeout (t : Nat)
  /-- RAIL_UV_STAGGERED_RETURN (R298). -/
  | railUvStaggeredReturn (t : Nat) (n : Fin 32)
  /-- AXIS_STEP_EDGE (R351). -/
  | axisStepEdge (t : Nat) (n : Fin 16)
deriving DecidableEq, Repr

end Sys2Proof
end

