-- ==== Sys2Proof/Machine/Bits.lean ====
section
/-! DEFINITION. Byte orders (R6, R7), signed readings, bit tests, the checksums the manual names. -/
namespace Sys2Proof.Machine

/-- The number a big-endian byte string spells (R6). -/
def beNat (bs : List Nat) : Nat := bs.foldl (fun a b => a * 256 + b % 256) 0

/-- The number a little-endian byte string spells (R7). -/
def leNat : List Nat → Nat
  | [] => 0
  | b :: r => b % 256 + 256 * leNat r

/-- The n little-endian bytes of a number. -/
def toLe : Nat → Nat → List Nat
  | 0, _ => []
  | n + 1, v => v % 256 :: toLe n (v / 256)

/-- The n big-endian bytes of a number. -/
def toBe (n v : Nat) : List Nat := (toLe n v).reverse

/-- Bit i of a number. -/
def bit (v i : Nat) : Bool := v / 2 ^ i % 2 == 1

/-- Bits [hi:lo] of a number. -/
def field (v hi lo : Nat) : Nat := v / 2 ^ lo % 2 ^ (hi + 1 - lo)

/-- A number with its bits [hi:lo] replaced. -/
def setField (v hi lo x : Nat) : Nat :=
  v - field v hi lo * 2 ^ lo + x % 2 ^ (hi + 1 - lo) * 2 ^ lo

/-- One bit set or cleared. -/
def setBit (v i : Nat) (b : Bool) : Nat := setField v i i b.toNat

/-- The two's complement reading of the low w bits. -/
def sint (w v : Nat) : Int :=
  if v % 2 ^ w < 2 ^ (w - 1) then (v % 2 ^ w : Nat) else (v % 2 ^ w : Nat) - (2 ^ w : Nat)

/-- The w-bit two's complement code of an integer. -/
def uint (w : Nat) (i : Int) : Nat := (i % (2 ^ w : Nat)).toNat

/-- An integer held within bounds. -/
def clampI (lo hi v : Int) : Int := if v < lo then lo else if hi < v then hi else v

/-- The numbers of the bits set among the low w, rising. -/
def bitsOf (w v : Nat) : List Nat := (List.range w).filter (bit v)

/-- Ceiling of a quotient. -/
def cdiv (a b : Nat) : Nat := (a + b - 1) / b

/-- Replace the n-th entry of a list. -/
def lset {α : Type} (l : List α) (n : Nat) (v : α) : List α := l.set n v

/-- One bit step of a reflected CRC-32. -/
def crcBit (poly c : Nat) : Nat := if c % 2 = 1 then (c / 2).xor poly else c / 2

/-- One byte of a reflected CRC-32. -/
def crcByte (poly c b : Nat) : Nat := (List.range 8).foldl (fun x _ => crcBit poly x) (c.xor (b % 256))

/-- CRC-32C (Castagnoli): reflected polynomial 0x82F63B78, initial and final value all ones (R461, R511). -/
def crc32c (bs : List Nat) : Nat := (bs.foldl (crcByte 0x82F63B78) 0xFFFFFFFF).xor 0xFFFFFFFF

/-- The entry of an association list. -/
def alook {α : Type} (d : α) : List (Nat × α) → Nat → α
  | [], _ => d
  | (a, v) :: r, k => if a = k then v else alook d r k

/-- An association list with an entry replaced or added. -/
def aset {α : Type} : List (Nat × α) → Nat → α → List (Nat × α)
  | [], k, w => [(k, w)]
  | (a, v) :: r, k, w => if a = k then (a, w) :: r else (a, v) :: aset r k w

/-- An association list without a key. -/
def adel {α : Type} (l : List (Nat × α)) (k : Nat) : List (Nat × α) := l.filter (fun e => e.1 != k)

end Sys2Proof.Machine
end

