-- ==== Sys2Proof/Machine/FieldNames.lean ====
section
/-! DEFINITION. Names of the object fields: class, field number and width in bits of each (the field maps of the spec). -/
namespace Sys2Proof.Machine

/-- An object field: its class, its number in the class, its width in bits. -/
structure Fld where
  /-- Object class. -/
  cls : Nat
  /-- Field number. -/
  num : Nat
  /-- Width in bits. -/
  bits : Nat
deriving DecidableEq, Repr

namespace F

-- class 0x0002, R61
abbrev timeTIME_STATE : Fld := ⟨0x0002, 0, 8⟩
abbrev timeGM_CAPABLE : Fld := ⟨0x0002, 2, 1⟩
abbrev timeGZ_VALID : Fld := ⟨0x0002, 1, 1⟩
abbrev timePRIORITY1 : Fld := ⟨0x0002, 3, 8⟩
abbrev timePRIORITY2 : Fld := ⟨0x0002, 4, 8⟩
abbrev timeDOMAIN : Fld := ⟨0x0002, 5, 8⟩
abbrev timeACQ_TIMEOUT : Fld := ⟨0x0002, 6, 16⟩
abbrev timeHOLDOVER_LIMIT : Fld := ⟨0x0002, 7, 32⟩
abbrev timeOFFSET_NS : Fld := ⟨0x0002, 8, 32⟩
abbrev timeLAST_STEP_NS : Fld := ⟨0x0002, 9, 64⟩
abbrev timeSTEP_COUNT : Fld := ⟨0x0002, 10, 32⟩
abbrev timeTRANSIT_US : Fld := ⟨0x0002, 11, 16⟩
abbrev timeGM_IDENTITY : Fld := ⟨0x0002, 12, 64⟩
-- class 0x0202, R62
abbrev cycPERIOD_M : Fld := ⟨0x0202, 0, 11⟩
abbrev cycOVR_POLICY : Fld := ⟨0x0202, 2, 8⟩
abbrev cycOVR_LIMIT : Fld := ⟨0x0202, 3, 8⟩
abbrev cycMARGIN_NS : Fld := ⟨0x0202, 1, 32⟩
abbrev cycG_NS : Fld := ⟨0x0202, 4, 32⟩
abbrev cycS_NS : Fld := ⟨0x0202, 5, 32⟩
abbrev cycE_NS : Fld := ⟨0x0202, 6, 32⟩
abbrev cycT_NS : Fld := ⟨0x0202, 7, 32⟩
abbrev cycU_NS : Fld := ⟨0x0202, 8, 32⟩
abbrev cycMARGIN_USED_NS : Fld := ⟨0x0202, 9, 32⟩
abbrev cycIDLE_NS : Fld := ⟨0x0202, 10, 32⟩
abbrev cycOVR_COUNT : Fld := ⟨0x0202, 11, 32⟩
abbrev cycOVR_CONSEC : Fld := ⟨0x0202, 12, 16⟩
abbrev cycLATE_FRAMES : Fld := ⟨0x0202, 13, 32⟩
abbrev cycMAX_USED_NS : Fld := ⟨0x0202, 14, 32⟩
-- class 0x0301, R87
abbrev taskPARTITION : Fld := ⟨0x0301, 0, 8⟩
abbrev taskHOME_CE : Fld := ⟨0x0301, 1, 8⟩
abbrev taskORDER : Fld := ⟨0x0301, 2, 8⟩
abbrev taskSHEDDABLE : Fld := ⟨0x0301, 3, 1⟩
abbrev taskSHED_RANK : Fld := ⟨0x0301, 4, 8⟩
abbrev taskSHED_ACTION : Fld := ⟨0x0301, 5, 8⟩
abbrev taskENTRY : Fld := ⟨0x0301, 6, 32⟩
abbrev taskLENGTH : Fld := ⟨0x0301, 7, 32⟩
abbrev taskWCET_CLK : Fld := ⟨0x0301, 8, 32⟩
abbrev taskMAX_DEPTH : Fld := ⟨0x0301, 9, 16⟩
abbrev taskWORST_SPILLS : Fld := ⟨0x0301, 10, 16⟩
abbrev taskSTATE : Fld := ⟨0x0301, 11, 8⟩
abbrev taskCURRENT_CE : Fld := ⟨0x0301, 12, 8⟩
-- class 0x0303, R89
abbrev sheetCE_SET : Fld := ⟨0x0303, 0, 8⟩
abbrev sheetFENCE_DEPTH : Fld := ⟨0x0303, 1, 8⟩
abbrev sheetTASKS : Fld := ⟨0x0303, 2, 8⟩
abbrev sheetBARRIERS : Fld := ⟨0x0303, 3, 8⟩
abbrev sheetS_CLK : Fld := ⟨0x0303, 4, 32⟩
abbrev sheetCRIT_CE : Fld := ⟨0x0303, 5, 8⟩
abbrev sheetPLAN_MOVE : Fld := ⟨0x0303, 6, 8⟩
abbrev sheetPLAN_SHED : Fld := ⟨0x0303, 7, 8⟩
abbrev sheetPLAN_FAULT : Fld := ⟨0x0303, 8, 8⟩
abbrev sheetFENCED_2 : Fld := ⟨0x0303, 9, 8⟩
abbrev sheetFENCED_1 : Fld := ⟨0x0303, 10, 8⟩
abbrev sheetS_CLK_NOW : Fld := ⟨0x0303, 11, 32⟩
-- class 0x0302, R96
abbrev ceSTATE : Fld := ⟨0x0302, 0, 8⟩
abbrev cePARTITION : Fld := ⟨0x0302, 1, 8⟩
abbrev ceFENCE_CAUSE : Fld := ⟨0x0302, 2, 8⟩
abbrev ceSOLVES : Fld := ⟨0x0302, 3, 32⟩
abbrev ceMAX_SOLVE_CLK : Fld := ⟨0x0302, 4, 32⟩
abbrev ceWCET_CLK : Fld := ⟨0x0302, 5, 32⟩
abbrev ceFWD_HITS : Fld := ⟨0x0302, 6, 32⟩
abbrev cePARTIAL_STALLS : Fld := ⟨0x0302, 7, 32⟩
abbrev cePARTIAL_CLK : Fld := ⟨0x0302, 8, 32⟩
abbrev ceFULL_STALLS : Fld := ⟨0x0302, 9, 32⟩
abbrev ceSPILLS : Fld := ⟨0x0302, 10, 32⟩
abbrev ceFILLS : Fld := ⟨0x0302, 11, 32⟩
abbrev ceSYNC_WAIT_MAX : Fld := ⟨0x0302, 12, 32⟩
abbrev ceECC_CORRECTED : Fld := ⟨0x0302, 13, 32⟩
abbrev ceSLICES : Fld := ⟨0x0302, 14, 32⟩
abbrev cePASSES : Fld := ⟨0x0302, 15, 32⟩
abbrev ceMAX_DEPTH_SEEN : Fld := ⟨0x0302, 16, 16⟩
-- class 0x0201, R168
abbrev partSTATE : Fld := ⟨0x0201, 0, 8⟩
abbrev partCE_SET : Fld := ⟨0x0201, 1, 8⟩
abbrev partAUTOSTART : Fld := ⟨0x0201, 2, 8⟩
abbrev partREDUNDANT : Fld := ⟨0x0201, 3, 1⟩
abbrev partINST_BASE : Fld := ⟨0x0201, 4, 32⟩
abbrev partINST_SIZE : Fld := ⟨0x0201, 5, 32⟩
abbrev partREC_QUOTA : Fld := ⟨0x0201, 6, 16⟩
abbrev partCMD_CREDITS : Fld := ⟨0x0201, 7, 16⟩
abbrev partQUEUES : Fld := ⟨0x0201, 8, 64⟩
abbrev partFAULT_CAUSE : Fld := ⟨0x0201, 9, 8⟩
abbrev partFAULT_CE : Fld := ⟨0x0201, 10, 8⟩
abbrev partFAULT_TASK : Fld := ⟨0x0201, 11, 8⟩
abbrev partFAULT_PC : Fld := ⟨0x0201, 12, 32⟩
abbrev partFAULT_CYCLE : Fld := ⟨0x0201, 13, 64⟩
abbrev partWRITES_DISCARDED : Fld := ⟨0x0201, 14, 32⟩
abbrev partREADS_DENIED : Fld := ⟨0x0201, 15, 32⟩
abbrev partFIRST_VIOLATION : Fld := ⟨0x0201, 16, 32⟩
abbrev partSTARTS : Fld := ⟨0x0201, 17, 32⟩
abbrev partPOINTS_OWNED : Fld := ⟨0x0201, 18, 32⟩
abbrev partXP_READ : Fld := ⟨0x0201, 19, 32⟩
-- class 0x0003, R197
abbrev cqCLASS : Fld := ⟨0x0003, 0, 8⟩
abbrev cqOWNER : Fld := ⟨0x0003, 1, 8⟩
abbrev cqATTACHED : Fld := ⟨0x0003, 2, 8⟩
abbrev cqOUTSTANDING : Fld := ⟨0x0003, 3, 8⟩
abbrev cqSESSION_TAG : Fld := ⟨0x0003, 4, 32⟩
abbrev cqQUEUE_EPOCH : Fld := ⟨0x0003, 5, 32⟩
abbrev cqNEXT_SEQ : Fld := ⟨0x0003, 6, 32⟩
abbrev cqEV_NEXT : Fld := ⟨0x0003, 7, 32⟩
abbrev cqEV_ACKED : Fld := ⟨0x0003, 8, 32⟩
abbrev cqEV_HELD : Fld := ⟨0x0003, 9, 16⟩
abbrev cqEV_LOST : Fld := ⟨0x0003, 10, 16⟩
abbrev cqEXECUTED : Fld := ⟨0x0003, 11, 32⟩
abbrev cqREPLAYED : Fld := ⟨0x0003, 12, 32⟩
abbrev cqBUSY_REPLIES : Fld := ⟨0x0003, 13, 32⟩
abbrev cqGAP_REPLIES : Fld := ⟨0x0003, 14, 32⟩
-- class 0x0004, R221
abbrev zcpZCP_PORT : Fld := ⟨0x0004, 0, 16⟩
abbrev zcpSYS_CREDITS : Fld := ⟨0x0004, 1, 16⟩
abbrev zcpEV_RETRY_MS : Fld := ⟨0x0004, 2, 16⟩
abbrev zcpADDR_MODE : Fld := ⟨0x0004, 3, 2⟩
abbrev zcpPREFIX_LEN : Fld := ⟨0x0004, 4, 8⟩
abbrev zcpSTATIC_ADDR : Fld := ⟨0x0004, 5, 128⟩
abbrev zcpSESSIONS : Fld := ⟨0x0004, 6, 8⟩
abbrev zcpSHED_STAGE : Fld := ⟨0x0004, 7, 8⟩
abbrev zcpSUP_LOAD : Fld := ⟨0x0004, 8, 8⟩
abbrev zcpDISCARDED : Fld := ⟨0x0004, 9, 32⟩
abbrev zcpAUTH_FAIL : Fld := ⟨0x0004, 10, 32⟩
-- class 0x0001, R222
abbrev modMODULE_ID : Fld := ⟨0x0001, 0, 16⟩
abbrev modVARIANT : Fld := ⟨0x0001, 3, 8⟩
abbrev modID_CONFLICT : Fld := ⟨0x0001, 6, 1⟩
abbrev modPUB_ETHERTYPE : Fld := ⟨0x0001, 4, 16⟩
abbrev modPAIR_ETHERTYPE : Fld := ⟨0x0001, 5, 16⟩
abbrev modSERIAL : Fld := ⟨0x0001, 1, 64⟩
abbrev modHW_ISSUE : Fld := ⟨0x0001, 2, 32⟩
abbrev modID_CHANGES : Fld := ⟨0x0001, 7, 32⟩
-- class 0x0501, R253
abbrev trunkTOPOLOGY : Fld := ⟨0x0501, 0, 8⟩
abbrev trunkLINK_A : Fld := ⟨0x0501, 1, 8⟩
abbrev trunkLINK_B : Fld := ⟨0x0501, 2, 8⟩
abbrev trunkRING_STATE : Fld := ⟨0x0501, 3, 8⟩
abbrev trunkETHERTYPE : Fld := ⟨0x0501, 4, 16⟩
abbrev trunkNODES_SEEN : Fld := ⟨0x0501, 5, 16⟩
abbrev trunkREACH_A : Fld := ⟨0x0501, 6, 16⟩
abbrev trunkREACH_B : Fld := ⟨0x0501, 7, 16⟩
abbrev trunkBREAKS : Fld := ⟨0x0501, 8, 32⟩
abbrev trunkHYPERPERIOD_NS : Fld := ⟨0x0501, 9, 32⟩
abbrev trunkSCHED_NS : Fld := ⟨0x0501, 10, 32⟩
abbrev trunkUNKNOWN_FRAMES : Fld := ⟨0x0501, 11, 32⟩
abbrev trunkSTALE_ASSIGN : Fld := ⟨0x0501, 12, 32⟩
abbrev trunkSTALE_EPOCH_HEARD : Fld := ⟨0x0501, 13, 32⟩
-- class 0x0502, R254
abbrev placeSTATE : Fld := ⟨0x0502, 0, 8⟩
abbrev placePARTITION : Fld := ⟨0x0502, 1, 8⟩
abbrev placeGROUP_FIRST : Fld := ⟨0x0502, 2, 8⟩
abbrev placeVENDOR : Fld := ⟨0x0502, 3, 32⟩
abbrev placePRODUCT : Fld := ⟨0x0502, 4, 32⟩
abbrev placeSERIAL : Fld := ⟨0x0502, 5, 64⟩
abbrev placeASSIGN_EPOCH : Fld := ⟨0x0502, 6, 32⟩
abbrev placeIN_BASE : Fld := ⟨0x0502, 7, 32⟩
abbrev placeOUT_BASE : Fld := ⟨0x0502, 8, 32⟩
abbrev placeSTATUS_POINT : Fld := ⟨0x0502, 9, 32⟩
abbrev placeIN_SLOTS : Fld := ⟨0x0502, 10, 16⟩
abbrev placeOUT_SLOTS : Fld := ⟨0x0502, 11, 16⟩
abbrev placeHOLD_MS : Fld := ⟨0x0502, 12, 16⟩
abbrev placeHOPS : Fld := ⟨0x0502, 13, 16⟩
abbrev placeMISSING : Fld := ⟨0x0502, 14, 32⟩
abbrev placeLATE : Fld := ⟨0x0502, 15, 32⟩
abbrev placeLOST : Fld := ⟨0x0502, 16, 32⟩
abbrev placeBAD_FRAMES : Fld := ⟨0x0502, 17, 32⟩
-- class 0x0601, R280
abbrev segMODE : Fld := ⟨0x0601, 0, 8⟩
abbrev segARB_RATE : Fld := ⟨0x0601, 1, 8⟩
abbrev segXL_RATE : Fld := ⟨0x0601, 2, 8⟩
abbrev segFD_RATE : Fld := ⟨0x0601, 3, 8⟩
abbrev segSP_ARB : Fld := ⟨0x0601, 4, 8⟩
abbrev segSP_DATA : Fld := ⟨0x0601, 5, 8⟩
abbrev segSDT : Fld := ⟨0x0601, 6, 8⟩
abbrev segTERM : Fld := ⟨0x0601, 7, 1⟩
abbrev segFAST : Fld := ⟨0x0601, 8, 1⟩
abbrev segAPER_MAX : Fld := ⟨0x0601, 9, 16⟩
abbrev segTX_RATE : Fld := ⟨0x0601, 10, 16⟩
abbrev segTX_RETRIES : Fld := ⟨0x0601, 11, 8⟩
abbrev segCOPY_AGE_MS : Fld := ⟨0x0601, 12, 16⟩
abbrev segROUTES : Fld := ⟨0x0601, 13, 64⟩
abbrev segSTATE : Fld := ⟨0x0601, 14, 8⟩
abbrev segTEC : Fld := ⟨0x0601, 15, 8⟩
abbrev segREC : Fld := ⟨0x0601, 16, 8⟩
abbrev segLOAD_PCT : Fld := ⟨0x0601, 17, 8⟩
abbrev segLOAD_PLAN : Fld := ⟨0x0601, 18, 32⟩
abbrev segHYPERPERIOD_NS : Fld := ⟨0x0601, 19, 32⟩
abbrev segCLOSE_LEAD_NS : Fld := ⟨0x0601, 20, 32⟩
abbrev segBUS_OFFS : Fld := ⟨0x0601, 21, 32⟩
abbrev segERR_FRAMES : Fld := ⟨0x0601, 22, 32⟩
abbrev segLOST_CYCLIC : Fld := ⟨0x0601, 23, 32⟩
abbrev segGATE_VIOLATIONS : Fld := ⟨0x0601, 24, 32⟩
abbrev segRX_DROPPED : Fld := ⟨0x0601, 25, 32⟩
abbrev segFILTER_HASH : Fld := ⟨0x0601, 26, 32⟩
-- class 0x0602, R281
abbrev nodeSTATE : Fld := ⟨0x0602, 0, 8⟩
abbrev nodePARTITION : Fld := ⟨0x0602, 1, 8⟩
abbrev nodeFORMAT : Fld := ⟨0x0602, 2, 8⟩
abbrev nodeGROUP : Fld := ⟨0x0602, 3, 8⟩
abbrev nodeVENDOR : Fld := ⟨0x0602, 4, 32⟩
abbrev nodePRODUCT : Fld := ⟨0x0602, 5, 32⟩
abbrev nodeASSIGN_EPOCH : Fld := ⟨0x0602, 6, 32⟩
abbrev nodeSERIAL : Fld := ⟨0x0602, 7, 64⟩
abbrev nodeIN_BASE : Fld := ⟨0x0602, 8, 32⟩
abbrev nodeOUT_BASE : Fld := ⟨0x0602, 9, 32⟩
abbrev nodeSTATUS_POINT : Fld := ⟨0x0602, 10, 32⟩
abbrev nodeIN_SLOTS : Fld := ⟨0x0602, 11, 16⟩
abbrev nodeOUT_SLOTS : Fld := ⟨0x0602, 12, 16⟩
abbrev nodeHOLD_MS : Fld := ⟨0x0602, 13, 16⟩
abbrev nodeEVT_BYTES : Fld := ⟨0x0602, 14, 16⟩
abbrev nodeEVT_ID : Fld := ⟨0x0602, 15, 16⟩
abbrev nodeEVT_MIN_US : Fld := ⟨0x0602, 16, 32⟩
abbrev nodeLAT_BOUND_US : Fld := ⟨0x0602, 17, 32⟩
abbrev nodeMISSING : Fld := ⟨0x0602, 18, 32⟩
abbrev nodeLATE : Fld := ⟨0x0602, 19, 32⟩
abbrev nodeOVER_RATE : Fld := ⟨0x0602, 20, 32⟩
-- class 0x0603, R282
abbrev mfENABLE : Fld := ⟨0x0603, 0, 8⟩
abbrev mfCHANNEL : Fld := ⟨0x0603, 1, 8⟩
abbrev mfPARTITION : Fld := ⟨0x0603, 2, 8⟩
abbrev mfID_VALUE : Fld := ⟨0x0603, 3, 16⟩
abbrev mfID_MASK : Fld := ⟨0x0603, 4, 16⟩
abbrev mfAF_VALUE : Fld := ⟨0x0603, 5, 32⟩
abbrev mfAF_MASK : Fld := ⟨0x0603, 6, 32⟩
abbrev mfPOINT : Fld := ⟨0x0603, 7, 32⟩
abbrev mfCOPY_BYTES : Fld := ⟨0x0603, 8, 16⟩
abbrev mfFILL : Fld := ⟨0x0603, 9, 8⟩
abbrev mfMATCHES : Fld := ⟨0x0603, 10, 32⟩
abbrev mfDROPPED : Fld := ⟨0x0603, 11, 32⟩
-- class 0x0702, R295
abbrev profSEGMENTS : Fld := ⟨0x0702, 0, 8⟩
abbrev profEND_US0 : Fld := ⟨0x0702, 1, 32⟩
abbrev profEND_US1 : Fld := ⟨0x0702, 3, 32⟩
abbrev profEND_US2 : Fld := ⟨0x0702, 5, 32⟩
abbrev profEND_US3 : Fld := ⟨0x0702, 7, 32⟩
abbrev profEND_US4 : Fld := ⟨0x0702, 9, 32⟩
abbrev profEND_US5 : Fld := ⟨0x0702, 11, 32⟩
abbrev profEND_US6 : Fld := ⟨0x0702, 13, 32⟩
abbrev profEND_US7 : Fld := ⟨0x0702, 15, 32⟩
abbrev profMULT0 : Fld := ⟨0x0702, 2, 8⟩
abbrev profMULT1 : Fld := ⟨0x0702, 4, 8⟩
abbrev profMULT2 : Fld := ⟨0x0702, 6, 8⟩
abbrev profMULT3 : Fld := ⟨0x0702, 8, 8⟩
abbrev profMULT4 : Fld := ⟨0x0702, 10, 8⟩
abbrev profMULT5 : Fld := ⟨0x0702, 12, 8⟩
abbrev profMULT6 : Fld := ⟨0x0702, 14, 8⟩
abbrev profMULT7 : Fld := ⟨0x0702, 16, 8⟩
-- class 0x0701, R304
abbrev lcPROFILE : Fld := ⟨0x0701, 0, 8⟩
abbrev lcOL_DETECT : Fld := ⟨0x0701, 2, 1⟩
abbrev lcRESTART : Fld := ⟨0x0701, 1, 1⟩
abbrev lcILIM_MA : Fld := ⟨0x0701, 3, 16⟩
abbrev lcLIM_TIME_MS : Fld := ⟨0x0701, 4, 16⟩
abbrev lcAUTO_MAX : Fld := ⟨0x0701, 5, 8⟩
abbrev lcSTATE : Fld := ⟨0x0701, 6, 8⟩
abbrev lcCAUSES : Fld := ⟨0x0701, 7, 6⟩
abbrev lcPRIMARY : Fld := ⟨0x0701, 8, 8⟩
abbrev lcAUTO_COUNT : Fld := ⟨0x0701, 9, 8⟩
abbrev lcTEMP : Fld := ⟨0x0701, 10, 16⟩
abbrev lcBUCKET_MJ : Fld := ⟨0x0701, 11, 32⟩
abbrev lcBUCKET_CAP_MJ : Fld := ⟨0x0701, 12, 32⟩
abbrev lcSWITCH_ONS : Fld := ⟨0x0701, 13, 32⟩
abbrev lcTRIPS : Fld := ⟨0x0701, 14, 16⟩
abbrev lcLOCKS : Fld := ⟨0x0701, 15, 16⟩
abbrev lcOPEN_LOADS : Fld := ⟨0x0701, 16, 16⟩
abbrev lcUV_EVENTS : Fld := ⟨0x0701, 17, 16⟩
abbrev lcCLAMP_MJ_LAST : Fld := ⟨0x0701, 18, 32⟩
-- class 0x0704, R314
abbrev limpMAP_CRC : Fld := ⟨0x0704, 0, 32⟩
abbrev limpENGAGED : Fld := ⟨0x0704, 1, 32⟩
abbrev limpENGAGE_COUNT : Fld := ⟨0x0704, 2, 32⟩
abbrev limpENGAGED_S : Fld := ⟨0x0704, 3, 32⟩
abbrev limpLH_LEVELS : Fld := ⟨0x0704, 4, 8⟩
abbrev limpLIMP_AUTO : Fld := ⟨0x0704, 5, 1⟩
-- class 0x0703, R321
abbrev loMODE : Fld := ⟨0x0703, 0, 8⟩
abbrev loSTATE : Fld := ⟨0x0703, 5, 8⟩
abbrev loBREAK_MS : Fld := ⟨0x0703, 1, 16⟩
abbrev loZERO_TRIM : Fld := ⟨0x0703, 2, 16⟩
abbrev loSPAN_TRIM : Fld := ⟨0x0703, 3, 32⟩
abbrev loTRIM_COUNT : Fld := ⟨0x0703, 4, 32⟩
abbrev loTRIM_TIME : Fld := ⟨0x0703, 6, 64⟩
abbrev loBREAKS : Fld := ⟨0x0703, 7, 32⟩
-- class 0x0801, R343
abbrev epMODE : Fld := ⟨0x0801, 0, 8⟩
abbrev epELECTRICAL : Fld := ⟨0x0801, 1, 8⟩
abbrev epSUPPLY : Fld := ⟨0x0801, 2, 8⟩
abbrev epFILTER_CLK : Fld := ⟨0x0801, 3, 8⟩
abbrev epINVERT : Fld := ⟨0x0801, 5, 1⟩
abbrev epEXTRAPOLATE : Fld := ⟨0x0801, 6, 1⟩
abbrev epMULT : Fld := ⟨0x0801, 4, 2⟩
abbrev epFAIL_LIMIT : Fld := ⟨0x0801, 20, 8⟩
abbrev epZERO_TIMEOUT_MS : Fld := ⟨0x0801, 7, 16⟩
abbrev epCPR : Fld := ⟨0x0801, 8, 32⟩
abbrev epV_CO : Fld := ⟨0x0801, 9, 32⟩
abbrev epERR_LIMIT : Fld := ⟨0x0801, 10, 16⟩
abbrev epHALL_FENCE_MS : Fld := ⟨0x0801, 11, 16⟩
abbrev epSENS_CLK_KHZ : Fld := ⟨0x0801, 12, 16⟩
abbrev epSENS_BITS : Fld := ⟨0x0801, 13, 8⟩
abbrev epPOS_WIDTH : Fld := ⟨0x0801, 14, 8⟩
abbrev epPOS_SHIFT : Fld := ⟨0x0801, 15, 8⟩
abbrev epCODE : Fld := ⟨0x0801, 16, 8⟩
abbrev epERR_BIT : Fld := ⟨0x0801, 17, 8⟩
abbrev epRECOVERY_US : Fld := ⟨0x0801, 18, 8⟩
abbrev epLINE_DELAY_NS : Fld := ⟨0x0801, 19, 16⟩
abbrev epJUMP_MAX : Fld := ⟨0x0801, 21, 32⟩
abbrev epSTATE : Fld := ⟨0x0801, 22, 8⟩
abbrev epFENCE_CAUSE : Fld := ⟨0x0801, 23, 8⟩
abbrev epREAD_INTERVAL_NS : Fld := ⟨0x0801, 24, 32⟩
abbrev epLEAD_NS : Fld := ⟨0x0801, 25, 32⟩
abbrev epV_CO_USED : Fld := ⟨0x0801, 26, 32⟩
abbrev epCOUNT_ERRORS : Fld := ⟨0x0801, 27, 32⟩
abbrev epHALL_ERRORS : Fld := ⟨0x0801, 28, 32⟩
abbrev epSENSOR_FAILS : Fld := ⟨0x0801, 29, 32⟩
abbrev epFENCES : Fld := ⟨0x0801, 30, 32⟩
abbrev epOFFSET : Fld := ⟨0x0801, 31, 32⟩
-- class 0x0802, R344
abbrev prSOURCE : Fld := ⟨0x0802, 0, 8⟩
abbrev prFILTER_TB : Fld := ⟨0x0802, 1, 8⟩
abbrev prLATCHES : Fld := ⟨0x0802, 2, 32⟩
abbrev prOVERRUNS : Fld := ⟨0x0802, 3, 32⟩
-- class 0x0803, R345
abbrev emSOURCE : Fld := ⟨0x0803, 0, 8⟩
abbrev emZ_MODE : Fld := ⟨0x0803, 1, 8⟩
abbrev emLINES : Fld := ⟨0x0803, 2, 32⟩
abbrev emZ_POS : Fld := ⟨0x0803, 3, 32⟩
abbrev emCPR_S : Fld := ⟨0x0803, 4, 32⟩
abbrev emSTATE : Fld := ⟨0x0803, 5, 8⟩
abbrev emBACKLOG_MAX : Fld := ⟨0x0803, 6, 32⟩
abbrev emLOST_SYNC : Fld := ⟨0x0803, 7, 32⟩
abbrev emOVERSPEEDS : Fld := ⟨0x0803, 8, 32⟩
-- class 0x0901, R369
abbrev axDRIVE : Fld := ⟨0x0901, 0, 8⟩
abbrev axFB_PORT : Fld := ⟨0x0901, 1, 8⟩
abbrev axSTEP_WIDTH_NS : Fld := ⟨0x0901, 2, 16⟩
abbrev axDIR_SETUP_NS : Fld := ⟨0x0901, 3, 16⟩
abbrev axLIM_POS_DI : Fld := ⟨0x0901, 4, 8⟩
abbrev axLIM_NEG_DI : Fld := ⟨0x0901, 5, 8⟩
abbrev axVS : Fld := ⟨0x0901, 6, 32⟩
abbrev axVE : Fld := ⟨0x0901, 7, 32⟩
abbrev axV1 : Fld := ⟨0x0901, 8, 32⟩
abbrev axV_DEFAULT : Fld := ⟨0x0901, 9, 32⟩
abbrev axA1 : Fld := ⟨0x0901, 10, 32⟩
abbrev axA2 : Fld := ⟨0x0901, 11, 32⟩
abbrev axD2 : Fld := ⟨0x0901, 12, 32⟩
abbrev axD1 : Fld := ⟨0x0901, 13, 32⟩
abbrev axDQ : Fld := ⟨0x0901, 14, 32⟩
abbrev axFE_MAX : Fld := ⟨0x0901, 15, 32⟩
abbrev axPOS_MIN : Fld := ⟨0x0901, 16, 64⟩
abbrev axPOS_MAX : Fld := ⟨0x0901, 17, 64⟩
abbrev axFB_NUM : Fld := ⟨0x0901, 18, 32⟩
abbrev axFB_DEN : Fld := ⟨0x0901, 19, 32⟩
abbrev axSTATE : Fld := ⟨0x0901, 20, 8⟩
abbrev axLAST_CAUSE : Fld := ⟨0x0901, 21, 8⟩
abbrev axSTALLS : Fld := ⟨0x0901, 22, 32⟩
abbrev axQUICK_STOPS : Fld := ⟨0x0901, 23, 32⟩
abbrev axREFUSALS : Fld := ⟨0x0901, 24, 32⟩
abbrev axCMD_POS : Fld := ⟨0x0901, 25, 64⟩
-- class 0x0902, R370
abbrev ggMASTER : Fld := ⟨0x0902, 0, 8⟩
abbrev ggSTATE : Fld := ⟨0x0902, 1, 8⟩
abbrev ggMEMBERS : Fld := ⟨0x0902, 2, 16⟩
abbrev ggVM_ACCEL : Fld := ⟨0x0902, 3, 32⟩
abbrev ggMASTER_POS : Fld := ⟨0x0902, 4, 64⟩
abbrev ggMASTER_VEL : Fld := ⟨0x0902, 5, 32⟩
abbrev ggRUNDOWN_NS : Fld := ⟨0x0902, 6, 32⟩
abbrev ggSPLICES : Fld := ⟨0x0902, 7, 32⟩
abbrev ggRUNDOWNS : Fld := ⟨0x0902, 8, 32⟩
abbrev ggREFUSALS : Fld := ⟨0x0902, 9, 32⟩
-- class 0x0903, R371
abbrev msSTAGE_MODE : Fld := ⟨0x0903, 0, 8⟩
abbrev msMICROSTEP_LOG2 : Fld := ⟨0x0903, 1, 8⟩
abbrev msI_RUN_MA : Fld := ⟨0x0903, 2, 16⟩
abbrev msI_HOLD_MA : Fld := ⟨0x0903, 3, 16⟩
abbrev msHOLD_DELAY_MS : Fld := ⟨0x0903, 4, 16⟩
abbrev msPOLE_PAIRS : Fld := ⟨0x0903, 5, 8⟩
abbrev msFALLBACK_STAGE : Fld := ⟨0x0903, 6, 8⟩
abbrev msLOAD_ANGLE_MAX : Fld := ⟨0x0903, 7, 16⟩
abbrev msSTALL_MS : Fld := ⟨0x0903, 8, 16⟩
abbrev msKP_V : Fld := ⟨0x0903, 9, 16⟩
abbrev msKI_V : Fld := ⟨0x0903, 10, 16⟩
abbrev msKP_P : Fld := ⟨0x0903, 11, 16⟩
abbrev msSTATE : Fld := ⟨0x0903, 12, 8⟩
abbrev msFAULT : Fld := ⟨0x0903, 13, 8⟩
abbrev msTEMP : Fld := ⟨0x0903, 14, 16⟩
abbrev msFM_V : Fld := ⟨0x0903, 15, 16⟩
abbrev msFAULTS : Fld := ⟨0x0903, 16, 32⟩
-- class 0x0A01, R397
abbrev doorSTORYBOARD : Fld := ⟨0x0A01, 0, 8⟩
abbrev doorDRIVE_KIND : Fld := ⟨0x0A01, 1, 8⟩
abbrev doorDRIVE : Fld := ⟨0x0A01, 2, 8⟩
abbrev doorCLOSE_LC : Fld := ⟨0x0A01, 3, 8⟩
abbrev doorFB_PORT : Fld := ⟨0x0A01, 4, 8⟩
abbrev doorFALLBACK_ACTION : Fld := ⟨0x0A01, 5, 8⟩
abbrev doorOBST_METHODS : Fld := ⟨0x0A01, 6, 8⟩
abbrev doorOBST_SAMPLES : Fld := ⟨0x0A01, 7, 8⟩
abbrev doorDIN0 : Fld := ⟨0x0A01, 8, 32⟩
abbrev doorDIN1 : Fld := ⟨0x0A01, 9, 32⟩
abbrev doorDIN2 : Fld := ⟨0x0A01, 10, 32⟩
abbrev doorDIN3 : Fld := ⟨0x0A01, 11, 32⟩
abbrev doorDIN4 : Fld := ⟨0x0A01, 12, 32⟩
abbrev doorDIN5 : Fld := ⟨0x0A01, 13, 32⟩
abbrev doorDIN6 : Fld := ⟨0x0A01, 14, 32⟩
abbrev doorDIN7 : Fld := ⟨0x0A01, 15, 32⟩
abbrev doorOUT0 : Fld := ⟨0x0A01, 16, 8⟩
abbrev doorOUT1 : Fld := ⟨0x0A01, 17, 8⟩
abbrev doorOUT2 : Fld := ⟨0x0A01, 18, 8⟩
abbrev doorOUT3 : Fld := ⟨0x0A01, 19, 8⟩
abbrev doorPERMIT_DOOR : Fld := ⟨0x0A01, 20, 16⟩
abbrev doorPERMIT_STEP : Fld := ⟨0x0A01, 21, 8⟩
abbrev doorMARGIN_PCT : Fld := ⟨0x0A01, 22, 8⟩
abbrev doorMARGIN_MA : Fld := ⟨0x0A01, 23, 16⟩
abbrev doorPROF_BLANK_MS : Fld := ⟨0x0A01, 24, 16⟩
abbrev doorSPEED_DROP_PCT : Fld := ⟨0x0A01, 25, 8⟩
abbrev doorSTEP_PRESENT : Fld := ⟨0x0A01, 26, 1⟩
abbrev doorSPEED_DROP_MS : Fld := ⟨0x0A01, 27, 16⟩
abbrev doorSTEP_TIME_MS : Fld := ⟨0x0A01, 28, 16⟩
abbrev doorOPEN_POS : Fld := ⟨0x0A01, 29, 32⟩
abbrev doorDOOR_STATE : Fld := ⟨0x0A01, 30, 8⟩
abbrev doorSTEP_STATE : Fld := ⟨0x0A01, 31, 8⟩
abbrev doorROW : Fld := ⟨0x0A01, 32, 8⟩
abbrev doorLAST_FAULT : Fld := ⟨0x0A01, 33, 8⟩
abbrev doorCYCLES : Fld := ⟨0x0A01, 34, 32⟩
abbrev doorOBSTACLES : Fld := ⟨0x0A01, 35, 32⟩
abbrev doorLAST_OBST_POS : Fld := ⟨0x0A01, 36, 32⟩
abbrev doorLAST_OBST_METHOD : Fld := ⟨0x0A01, 37, 8⟩
abbrev doorPROFILE_VALID : Fld := ⟨0x0A01, 38, 1⟩
abbrev doorHOLD : Fld := ⟨0x0A01, 39, 1⟩
abbrev doorREF_LOST : Fld := ⟨0x0A01, 40, 1⟩
abbrev doorPERMIT : Fld := ⟨0x0A01, 41, 1⟩
abbrev doorREVERSALS : Fld := ⟨0x0A01, 42, 32⟩
abbrev doorFAULTS : Fld := ⟨0x0A01, 43, 32⟩
-- class 0x0A02, R398
abbrev bindKIND : Fld := ⟨0x0A02, 0, 8⟩
abbrev bindDOOR : Fld := ⟨0x0A02, 1, 8⟩
abbrev bindINDEX : Fld := ⟨0x0A02, 2, 8⟩
abbrev bindPOINT : Fld := ⟨0x0A02, 3, 32⟩
abbrev bindSTATE : Fld := ⟨0x0A02, 4, 8⟩
abbrev bindINHIBITS : Fld := ⟨0x0A02, 5, 32⟩
-- class 0x0B01, R414
abbrev railBUDGET_MA : Fld := ⟨0x0B01, 0, 16⟩
abbrev railPEAK_MA : Fld := ⟨0x0B01, 1, 16⟩
abbrev railSHED_MA : Fld := ⟨0x0B01, 2, 16⟩
abbrev railSHED_MV : Fld := ⟨0x0B01, 3, 16⟩
abbrev railSHED_MS : Fld := ⟨0x0B01, 4, 16⟩
abbrev railRESTORE_S : Fld := ⟨0x0B01, 5, 16⟩
abbrev railSHED_STAGE : Fld := ⟨0x0B01, 6, 8⟩
abbrev railQUEUED : Fld := ⟨0x0B01, 7, 8⟩
abbrev railCHARGE_MA : Fld := ⟨0x0B01, 8, 16⟩
abbrev railMEAS_MA : Fld := ⟨0x0B01, 9, 16⟩
abbrev railRAIL_MV : Fld := ⟨0x0B01, 10, 16⟩
abbrev railSTARTS : Fld := ⟨0x0B01, 11, 32⟩
abbrev railMAX_WAIT_US : Fld := ⟨0x0B01, 12, 32⟩
abbrev railSHEDS : Fld := ⟨0x0B01, 13, 32⟩
-- class 0x0B02, R415
abbrev chanPRIO_DEFAULT : Fld := ⟨0x0B02, 0, 8⟩
abbrev chanSHED_RANK : Fld := ⟨0x0B02, 1, 8⟩
abbrev chanRUN_MA : Fld := ⟨0x0B02, 2, 16⟩
abbrev chanWAIT_BOUND_US : Fld := ⟨0x0B02, 3, 32⟩
abbrev chanWAIT_US : Fld := ⟨0x0B02, 4, 32⟩
abbrev chanSTATE : Fld := ⟨0x0B02, 5, 8⟩
-- class 0x0B05, R416
abbrev gaugePF_STATE : Fld := ⟨0x0B05, 0, 8⟩
abbrev gaugeGAUGE_STATE : Fld := ⟨0x0B05, 1, 8⟩
abbrev gaugeCART_MV : Fld := ⟨0x0B05, 2, 16⟩
abbrev gaugeE_CC_MJ : Fld := ⟨0x0B05, 3, 32⟩
abbrev gaugeE_V_MJ : Fld := ⟨0x0B05, 4, 32⟩
abbrev gaugeE_USED_MJ : Fld := ⟨0x0B05, 5, 32⟩
abbrev gaugeCAPACITY_MJ : Fld := ⟨0x0B05, 6, 32⟩
abbrev gaugeWRAP_MJ : Fld := ⟨0x0B05, 7, 32⟩
abbrev gaugeESR_MOHM : Fld := ⟨0x0B05, 8, 16⟩
abbrev gaugeTEMP : Fld := ⟨0x0B05, 9, 16⟩
abbrev gaugeAGE_H : Fld := ⟨0x0B05, 10, 32⟩
abbrev gaugeDISAGREEMENTS : Fld := ⟨0x0B05, 11, 32⟩
-- class 0x0B06, R421
abbrev alarmOWNER : Fld := ⟨0x0B06, 0, 8⟩
abbrev alarmPRIORITY : Fld := ⟨0x0B06, 1, 8⟩
abbrev alarmTRIP : Fld := ⟨0x0B06, 2, 2⟩
abbrev alarmRECORD : Fld := ⟨0x0B06, 3, 1⟩
abbrev alarmLATCHING : Fld := ⟨0x0B06, 4, 1⟩
abbrev alarmFLOOD_GROUP : Fld := ⟨0x0B06, 5, 8⟩
abbrev alarmSOURCE : Fld := ⟨0x0B06, 6, 32⟩
abbrev alarmON_DELAY_MS : Fld := ⟨0x0B06, 7, 16⟩
abbrev alarmOFF_DELAY_MS : Fld := ⟨0x0B06, 8, 16⟩
abbrev alarmLIMIT : Fld := ⟨0x0B06, 9, 32⟩
abbrev alarmDEADBAND : Fld := ⟨0x0B06, 12, 32⟩
abbrev alarmSUPPRESS : Fld := ⟨0x0B06, 13, 32⟩
abbrev alarmMAX_SHELVE_MIN : Fld := ⟨0x0B06, 14, 16⟩
abbrev alarmIN_SERVICE : Fld := ⟨0x0B06, 10, 1⟩
abbrev alarmSTATE : Fld := ⟨0x0B06, 11, 8⟩
abbrev alarmLAST_CHANGE : Fld := ⟨0x0B06, 15, 64⟩
-- class 0x0B03, R432
abbrev causeSTATE : Fld := ⟨0x0B03, 0, 8⟩
abbrev causeACTIVATIONS : Fld := ⟨0x0B03, 1, 32⟩
abbrev causeLAST_CHANGE : Fld := ⟨0x0B03, 2, 64⟩
-- class 0x0B04, R433
abbrev effLATCHED : Fld := ⟨0x0B04, 0, 1⟩
abbrev effSTATE : Fld := ⟨0x0B04, 1, 8⟩
abbrev effVOTES : Fld := ⟨0x0B04, 2, 8⟩
abbrev effINTERSECTIONS : Fld := ⟨0x0B04, 3, 8⟩
abbrev effACTIVATIONS : Fld := ⟨0x0B04, 4, 32⟩
abbrev effLAST_CHANGE : Fld := ⟨0x0B04, 5, 64⟩
-- class 0x0C01, R467
abbrev islSTATE : Fld := ⟨0x0C01, 0, 8⟩
abbrev islFAULT_CAUSE : Fld := ⟨0x0C01, 1, 8⟩
abbrev islHOLD_CAUSE : Fld := ⟨0x0C01, 2, 8⟩
abbrev islSTAGED : Fld := ⟨0x0C01, 3, 1⟩
abbrev islSLATE : Fld := ⟨0x0C01, 4, 32⟩
abbrev islSTAGED_SLATE : Fld := ⟨0x0C01, 5, 32⟩
abbrev islSET_NO : Fld := ⟨0x0C01, 6, 32⟩
abbrev islCONFIRMED_AT : Fld := ⟨0x0C01, 7, 64⟩
abbrev islCLOCK_DEV_PPM : Fld := ⟨0x0C01, 8, 32⟩
abbrev islTRIPS : Fld := ⟨0x0C01, 9, 32⟩
abbrev islRESETS_REFUSED : Fld := ⟨0x0C01, 10, 32⟩
abbrev islINPUT_FAULTS : Fld := ⟨0x0C01, 11, 32⟩
abbrev islTELEGRAMS_REFUSED : Fld := ⟨0x0C01, 12, 32⟩
abbrev islCONN_LOSSES : Fld := ⟨0x0C01, 13, 32⟩
abbrev islSAFETY_CYCLES : Fld := ⟨0x0C01, 14, 64⟩
abbrev islSELFTEST_PASSES : Fld := ⟨0x0C01, 15, 32⟩
-- class 0x0C02, R468
abbrev sfSTATE : Fld := ⟨0x0C02, 0, 8⟩
abbrev sfFIRST_SOURCE : Fld := ⟨0x0C02, 1, 16⟩
abbrev sfTRIPS : Fld := ⟨0x0C02, 2, 32⟩
abbrev sfLAST_TRIP : Fld := ⟨0x0C02, 3, 64⟩
abbrev sfLAST_RESET : Fld := ⟨0x0C02, 4, 64⟩
-- class 0x0D01, R502
abbrev pairROLE_HOME : Fld := ⟨0x0D01, 0, 8⟩
abbrev pairSTATE : Fld := ⟨0x0D01, 1, 8⟩
abbrev pairPARTNER : Fld := ⟨0x0D01, 2, 8⟩
abbrev pairLOW_OK : Fld := ⟨0x0D01, 4, 1⟩
abbrev pairREVERTIVE : Fld := ⟨0x0D01, 3, 1⟩
abbrev pairCLEAN_S : Fld := ⟨0x0D01, 5, 16⟩
abbrev pairUNSYNC_ACTION : Fld := ⟨0x0D01, 6, 8⟩
abbrev pairDRY_S : Fld := ⟨0x0D01, 7, 8⟩
abbrev pairALONE_WAIT_S : Fld := ⟨0x0D01, 8, 16⟩
abbrev pairNOT_READY_CAUSE : Fld := ⟨0x0D01, 9, 16⟩
abbrev pairEPOCH : Fld := ⟨0x0D01, 10, 32⟩
abbrev pairPROGRAM_ID : Fld := ⟨0x0D01, 11, 32⟩
abbrev pairPARTNER_PROGRAM_ID : Fld := ⟨0x0D01, 12, 32⟩
abbrev pairLARDER_BYTES : Fld := ⟨0x0D01, 13, 32⟩
abbrev pairTAKEOVERS : Fld := ⟨0x0D01, 14, 32⟩
abbrev pairCLEAN_ELAPSED_S : Fld := ⟨0x0D01, 15, 32⟩
abbrev pairHB_MISSED_PAIR : Fld := ⟨0x0D01, 16, 32⟩
abbrev pairHB_MISSED_NET : Fld := ⟨0x0D01, 17, 32⟩
abbrev pairTAKES_LOST : Fld := ⟨0x0D01, 18, 32⟩
abbrev pairLAST_TAKEOVER : Fld := ⟨0x0D01, 19, 64⟩
abbrev pairPARTNER_SERIAL : Fld := ⟨0x0D01, 20, 64⟩
-- class 0x0D02, R503
abbrev takeSYNC : Fld := ⟨0x0D02, 0, 8⟩
abbrev takeTAKE_BYTES_MAX : Fld := ⟨0x0D02, 1, 32⟩
abbrev takeSLICE_BYTES : Fld := ⟨0x0D02, 2, 32⟩
abbrev takeTAKEOVER_NS : Fld := ⟨0x0D02, 3, 32⟩
abbrev takeFULL_TAKE_NS : Fld := ⟨0x0D02, 4, 32⟩
abbrev takeLAST_GEN : Fld := ⟨0x0D02, 5, 32⟩
abbrev takeMAX_TAKE_BYTES : Fld := ⟨0x0D02, 6, 32⟩
abbrev takeFULL_TAKES : Fld := ⟨0x0D02, 7, 32⟩
abbrev takeDRY_SOLVES : Fld := ⟨0x0D02, 8, 32⟩
abbrev takeDRY_MISMATCHES : Fld := ⟨0x0D02, 9, 32⟩
abbrev takeDRY_SKIPPED : Fld := ⟨0x0D02, 10, 32⟩
-- class 0x0E01, R528
abbrev recSTATE : Fld := ⟨0x0E01, 0, 8⟩
abbrev recWEAR_PCT : Fld := ⟨0x0E01, 1, 8⟩
abbrev recRUSHES_FILL : Fld := ⟨0x0E01, 2, 16⟩
abbrev recRUSHES_PEAK : Fld := ⟨0x0E01, 3, 16⟩
abbrev recSTAGING_FILL : Fld := ⟨0x0E01, 4, 32⟩
abbrev recSTAGING_PEAK : Fld := ⟨0x0E01, 5, 32⟩
abbrev recCHRON_NEXT : Fld := ⟨0x0E01, 6, 64⟩
abbrev recCYCLE_NEXT : Fld := ⟨0x0E01, 7, 64⟩
abbrev recCHRON_OLDEST : Fld := ⟨0x0E01, 8, 64⟩
abbrev recCYCLE_OLDEST : Fld := ⟨0x0E01, 9, 64⟩
abbrev recLOST_CHRON : Fld := ⟨0x0E01, 10, 32⟩
abbrev recLOST_CYCLE : Fld := ⟨0x0E01, 11, 32⟩
abbrev recTORN : Fld := ⟨0x0E01, 12, 32⟩
abbrev recSPARE_BLOCKS : Fld := ⟨0x0E01, 13, 32⟩
-- class 0x0E02, R529
abbrev quotaRESERVED : Fld := ⟨0x0E02, 0, 16⟩
abbrev quotaFILL : Fld := ⟨0x0E02, 1, 16⟩
abbrev quotaPEAK : Fld := ⟨0x0E02, 2, 16⟩
abbrev quotaLOST_CHRON : Fld := ⟨0x0E02, 3, 32⟩
abbrev quotaLOST_CYCLE : Fld := ⟨0x0E02, 4, 32⟩
-- class 0x0101, R547
abbrev modeMODE : Fld := ⟨0x0101, 0, 8⟩
abbrev modeMODE_ON_START : Fld := ⟨0x0101, 1, 8⟩
abbrev modeSTANDING : Fld := ⟨0x0101, 3, 1⟩
abbrev modePRESENCE_REQ : Fld := ⟨0x0101, 2, 1⟩
abbrev modeSAFE_HALT_CAUSE : Fld := ⟨0x0101, 4, 8⟩
abbrev modeDEGRADED_CAUSES : Fld := ⟨0x0101, 5, 3⟩
abbrev modeLAST_RESET : Fld := ⟨0x0101, 6, 8⟩
abbrev modeSTORM_COUNT : Fld := ⟨0x0101, 7, 8⟩
abbrev modeDISCOVERY_S : Fld := ⟨0x0101, 8, 16⟩
abbrev modePRECHARGE_MAX_S : Fld := ⟨0x0101, 9, 16⟩
abbrev modeBRINGUP_MS : Fld := ⟨0x0101, 10, 32⟩
abbrev modeRESETS : Fld := ⟨0x0101, 11, 32⟩
abbrev modeSUP_RESTARTS : Fld := ⟨0x0101, 12, 32⟩
abbrev modeLAST_RESET_TIME : Fld := ⟨0x0101, 13, 64⟩
abbrev modeRETAIN_BYTES : Fld := ⟨0x0101, 14, 32⟩
abbrev modeRETAIN_STATE : Fld := ⟨0x0101, 15, 8⟩
-- class 0x0F01, R576
abbrev secLIFECYCLE : Fld := ⟨0x0F01, 0, 8⟩
abbrev secDEBUG_LEVEL : Fld := ⟨0x0F01, 1, 8⟩
abbrev secDEBUG_LEASE_S : Fld := ⟨0x0F01, 2, 16⟩
abbrev secTAINTED : Fld := ⟨0x0F01, 4, 1⟩
abbrev secOWNER_CERT : Fld := ⟨0x0F01, 5, 1⟩
abbrev secVENDOR_DEBUG : Fld := ⟨0x0F01, 3, 1⟩
abbrev secIMAGE_ACTIVE : Fld := ⟨0x0F01, 6, 8⟩
abbrev secROLLBACK_USED : Fld := ⟨0x0F01, 7, 8⟩
abbrev secSERIAL : Fld := ⟨0x0F01, 8, 64⟩
abbrev secLIFECYCLE_NONCE : Fld := ⟨0x0F01, 9, 64⟩
abbrev secAUTH_FAILS : Fld := ⟨0x0F01, 10, 32⟩
abbrev secDEBUG_GRANTS : Fld := ⟨0x0F01, 11, 32⟩
-- class 0x0F02, R577
abbrev ancUSE : Fld := ⟨0x0F02, 0, 8⟩
abbrev ancROLE_MASK : Fld := ⟨0x0F02, 1, 8⟩
abbrev ancQUEUES : Fld := ⟨0x0F02, 2, 64⟩
abbrev ancFINGERPRINT : Fld := ⟨0x0F02, 3, 64⟩
-- class 0x0F03, R578
abbrev psecMACSEC_MODE : Fld := ⟨0x0F03, 0, 8⟩
abbrev psecKEY_SOURCE : Fld := ⟨0x0F03, 1, 8⟩
abbrev psecCIPHER : Fld := ⟨0x0F03, 2, 8⟩
abbrev psecSTATE : Fld := ⟨0x0F03, 3, 8⟩
abbrev psecDROPPED : Fld := ⟨0x0F03, 4, 32⟩
abbrev psecREKEYS : Fld := ⟨0x0F03, 5, 32⟩
-- class 0x0B09, R579
abbrev powPOWER_STATE : Fld := ⟨0x0B09, 0, 8⟩
abbrev powRIDE_MS : Fld := ⟨0x0B09, 1, 16⟩
abbrev powT_WRAP_US : Fld := ⟨0x0B09, 2, 32⟩
abbrev powHOLDUPS : Fld := ⟨0x0B09, 3, 32⟩
abbrev powWRAPS : Fld := ⟨0x0B09, 4, 32⟩
abbrev powLAST_WRAP_US : Fld := ⟨0x0B09, 5, 32⟩
abbrev powLOW_S : Fld := ⟨0x0B09, 6, 32⟩
-- class 0x1001, R593
abbrev updSTATE : Fld := ⟨0x1001, 0, 8⟩
abbrev updTARGET : Fld := ⟨0x1001, 1, 8⟩
abbrev updSUP_VER_A : Fld := ⟨0x1001, 2, 32⟩
abbrev updSUP_VER_B : Fld := ⟨0x1001, 3, 32⟩
abbrev updISLAND_VER : Fld := ⟨0x1001, 4, 32⟩
abbrev updLCC_VER_FA : Fld := ⟨0x1001, 5, 32⟩
abbrev updLCC_VER_FB : Fld := ⟨0x1001, 6, 32⟩
abbrev updRECEIVED : Fld := ⟨0x1001, 7, 32⟩
abbrev updTRIAL_LEFT_S : Fld := ⟨0x1001, 8, 32⟩
abbrev updACTIVATIONS : Fld := ⟨0x1001, 9, 32⟩
-- class 0x0401, R615
abbrev diFILTER_US : Fld := ⟨0x0401, 0, 16⟩
abbrev diEDGES : Fld := ⟨0x0401, 1, 32⟩
-- class 0x0B07, R422
abbrev alsumALARM_BASE : Fld := ⟨0x0B07, 0, 32⟩
-- class 0x0B08, R423
abbrev floodFLOOD_COUNT : Fld := ⟨0x0B08, 0, 16⟩
abbrev floodFLOOD_WINDOW_S : Fld := ⟨0x0B08, 1, 16⟩
abbrev floodFLOOD_HOLD_S : Fld := ⟨0x0B08, 2, 16⟩
abbrev floodFLOOD_KEEP : Fld := ⟨0x0B08, 3, 8⟩
abbrev floodSTATE : Fld := ⟨0x0B08, 4, 8⟩
abbrev floodFLOODS : Fld := ⟨0x0B08, 5, 32⟩
end F
end Sys2Proof.Machine
end

