-- ==== Sys2Proof/Machine/Objects.lean ====
section
/-! DEFINITION. What describes an object field (spec/00, "Field maps"): access kinds, field rows, class rows. -/
namespace Sys2Proof.Machine

/-- Access kinds of a field map (spec/00): read-only, read and write, write 1 to clear, write-only, read clears. -/
inductive Acc | ro | rw | w1c | wo | rc
deriving DecidableEq, Repr

/-- One field of an object class. -/
structure FieldDef where
  /-- Field number. -/
  num : Nat
  /-- Byte offset of its word. -/
  off : Nat
  /-- Width of that word in bits. -/
  wide : Nat
  /-- Highest bit in the word. -/
  hi : Nat
  /-- Lowest bit in the word. -/
  lo : Nat
  /-- Access. -/
  acc : Acc
  /-- Kept in non-volatile memory (Reset column NV). -/
  nv : Bool
  /-- Value after a MODULE reset, or the factory value of an NV field. -/
  init : Nat
  /-- Values a write may carry, as ranges; empty: every value of the width. -/
  rng : List (Nat × Nat)
deriving DecidableEq, Repr

/-- One object class. -/
structure ClassDef where
  /-- Class code. -/
  code : Nat
  /-- Number of instances, from 0. -/
  insts : Nat
  /-- Bytes of one instance. -/
  size : Nat
  /-- Its fields. -/
  fields : List FieldDef
deriving DecidableEq, Repr

end Sys2Proof.Machine
end

