-- ==== Sys2Proof/Machine/FieldTable.lean ====
section
/-! DEFINITION. The object fields of the GZ-640: one row per field, transcribed from the field maps of the spec's chapters
(the rule of each class stands in its docstring): field number, byte offset, width of the word at that offset, high and
low bit, access, whether it is kept in non-volatile memory, the value after reset (for an NV field its factory value; zero,
or the field's own "none" code, where the manual states none: log 2), and the values a write may carry (none listed: all). -/
namespace Sys2Proof.Machine

/-- Class 0x0002 (R61). -/
def cls0002 : List FieldDef :=
  [⟨0, 0, 8, 7, 0, .ro, false, 4, []⟩,
   ⟨2, 1, 8, 1, 1, .rw, true, 0, [(0, 1)]⟩,
   ⟨1, 1, 8, 0, 0, .ro, false, 0, []⟩,
   ⟨3, 2, 8, 7, 0, .rw, true, 250, []⟩,
   ⟨4, 3, 8, 7, 0, .rw, true, 248, []⟩,
   ⟨5, 4, 8, 7, 0, .rw, true, 0, [(0, 127)]⟩,
   ⟨6, 6, 16, 15, 0, .rw, true, 10, [(0, 120)]⟩,
   ⟨7, 8, 32, 31, 0, .rw, true, 60, [(10, 86400)]⟩,
   ⟨8, 12, 32, 31, 0, .ro, false, 0, []⟩,
   ⟨9, 16, 64, 63, 0, .ro, false, 0, []⟩,
   ⟨10, 24, 32, 31, 0, .ro, true, 0, []⟩,
   ⟨11, 28, 16, 15, 0, .rw, true, 100, [(20, 2000)]⟩,
   ⟨12, 32, 64, 63, 0, .ro, false, 0, []⟩]

/-- Class 0x0202 (R62). -/
def cls0202 : List FieldDef :=
  [⟨0, 0, 16, 10, 0, .rw, true, 8, [(1, 1024)]⟩,
   ⟨2, 2, 8, 7, 0, .rw, true, 0, [(0, 1)]⟩,
   ⟨3, 3, 8, 7, 0, .rw, true, 3, [(1, 16)]⟩,
   ⟨1, 4, 32, 31, 0, .rw, true, 0, []⟩,
   ⟨4, 8, 32, 31, 0, .ro, true, 0, []⟩,
   ⟨5, 12, 32, 31, 0, .ro, true, 0, []⟩,
   ⟨6, 16, 32, 31, 0, .ro, true, 0, []⟩,
   ⟨7, 20, 32, 31, 0, .ro, true, 0, []⟩,
   ⟨8, 24, 32, 31, 0, .ro, true, 0, []⟩,
   ⟨9, 28, 32, 31, 0, .ro, true, 0, []⟩,
   ⟨10, 32, 32, 31, 0, .ro, true, 0, []⟩,
   ⟨11, 36, 32, 31, 0, .ro, false, 0, []⟩,
   ⟨12, 40, 16, 15, 0, .ro, false, 0, []⟩,
   ⟨13, 44, 32, 31, 0, .ro, false, 0, []⟩,
   ⟨14, 48, 32, 31, 0, .rc, false, 0, []⟩]

/-- Class 0x0301 (R87). -/
def cls0301 : List FieldDef :=
  [⟨0, 0, 8, 7, 0, .rw, true, 255, [(0, 7), (255, 255)]⟩,
   ⟨1, 1, 8, 7, 0, .rw, true, 0, [(0, 7)]⟩,
   ⟨2, 2, 8, 7, 0, .rw, true, 0, []⟩,
   ⟨3, 3, 8, 7, 7, .rw, true, 0, []⟩,
   ⟨4, 4, 8, 7, 0, .rw, true, 0, []⟩,
   ⟨5, 5, 8, 7, 0, .rw, true, 0, [(0, 1)]⟩,
   ⟨6, 8, 32, 31, 0, .ro, true, 0, []⟩,
   ⟨7, 12, 32, 31, 0, .ro, true, 0, []⟩,
   ⟨8, 16, 32, 31, 0, .ro, true, 0, []⟩,
   ⟨9, 20, 16, 15, 0, .ro, true, 0, []⟩,
   ⟨10, 22, 16, 15, 0, .ro, true, 0, []⟩,
   ⟨11, 24, 8, 7, 0, .ro, false, 0, []⟩,
   ⟨12, 25, 8, 7, 0, .ro, true, 0, []⟩]

/-- Class 0x0303 (R89). -/
def cls0303 : List FieldDef :=
  [⟨0, 0, 8, 7, 0, .ro, true, 0, []⟩,
   ⟨1, 1, 8, 7, 0, .rw, true, 1, [(1, 2)]⟩,
   ⟨2, 2, 8, 7, 0, .ro, true, 0, []⟩,
   ⟨3, 3, 8, 7, 0, .ro, true, 0, []⟩,
   ⟨4, 4, 32, 31, 0, .ro, true, 0, []⟩,
   ⟨5, 8, 8, 7, 0, .ro, true, 0, []⟩,
   ⟨6, 9, 8, 7, 0, .ro, true, 0, []⟩,
   ⟨7, 10, 8, 7, 0, .ro, true, 0, []⟩,
   ⟨8, 11, 8, 7, 0, .ro, true, 0, []⟩,
   ⟨9, 12, 16, 15, 8, .ro, false, 255, []⟩,
   ⟨10, 12, 16, 7, 0, .ro, false, 255, []⟩,
   ⟨11, 16, 32, 31, 0, .ro, true, 0, []⟩]

/-- Class 0x0302 (R96). -/
def cls0302 : List FieldDef :=
  [⟨0, 0, 8, 7, 0, .ro, false, 0, []⟩,
   ⟨1, 1, 8, 7, 0, .ro, true, 255, []⟩,
   ⟨2, 2, 8, 7, 0, .ro, false, 0, []⟩,
   ⟨3, 4, 32, 31, 0, .ro, false, 0, []⟩,
   ⟨4, 8, 32, 31, 0, .rc, false, 0, []⟩,
   ⟨5, 12, 32, 31, 0, .ro, true, 0, []⟩,
   ⟨6, 16, 32, 31, 0, .rc, false, 0, []⟩,
   ⟨7, 20, 32, 31, 0, .rc, false, 0, []⟩,
   ⟨8, 24, 32, 31, 0, .rc, false, 0, []⟩,
   ⟨9, 28, 32, 31, 0, .rc, false, 0, []⟩,
   ⟨10, 32, 32, 31, 0, .rc, false, 0, []⟩,
   ⟨11, 36, 32, 31, 0, .rc, false, 0, []⟩,
   ⟨12, 40, 32, 31, 0, .rc, false, 0, []⟩,
   ⟨13, 44, 32, 31, 0, .rc, false, 0, []⟩,
   ⟨14, 48, 32, 31, 0, .ro, false, 0, []⟩,
   ⟨15, 52, 32, 31, 0, .ro, true, 0, []⟩] ++
  [⟨16, 56, 16, 15, 0, .rc, false, 0, []⟩]

/-- Class 0x0201 (R168). -/
def cls0201 : List FieldDef :=
  [⟨0, 0, 8, 7, 0, .ro, false, 0, []⟩,
   ⟨1, 1, 8, 7, 0, .rw, true, 0, []⟩,
   ⟨2, 2, 8, 7, 0, .rw, true, 0, [(0, 2)]⟩,
   ⟨3, 3, 8, 0, 0, .rw, true, 0, []⟩,
   ⟨4, 4, 32, 31, 0, .rw, true, 0, []⟩,
   ⟨5, 8, 32, 31, 0, .rw, true, 0, []⟩,
   ⟨6, 12, 16, 15, 0, .rw, true, 0, [(0, 2048)]⟩,
   ⟨7, 14, 16, 15, 0, .rw, true, 0, [(0, 0), (16, 65535)]⟩,
   ⟨8, 16, 64, 63, 0, .rw, true, 0, []⟩,
   ⟨9, 24, 8, 7, 0, .ro, false, 0, []⟩,
   ⟨10, 25, 8, 7, 0, .ro, false, 255, []⟩,
   ⟨11, 26, 8, 7, 0, .ro, false, 255, []⟩,
   ⟨12, 28, 32, 31, 0, .ro, false, 0, []⟩,
   ⟨13, 32, 64, 63, 0, .ro, false, 0, []⟩,
   ⟨14, 40, 32, 31, 0, .rc, false, 0, []⟩,
   ⟨15, 44, 32, 31, 0, .rc, false, 0, []⟩] ++
  [⟨16, 48, 32, 31, 0, .rc, false, 4294967295, []⟩,
   ⟨17, 52, 32, 31, 0, .ro, false, 0, []⟩,
   ⟨18, 56, 32, 31, 0, .ro, true, 0, []⟩,
   ⟨19, 60, 32, 31, 0, .ro, true, 0, []⟩]

/-- Class 0x0003 (R197). -/
def cls0003 : List FieldDef :=
  [⟨0, 0, 8, 7, 0, .rw, true, 0, [(0, 1)]⟩,
   ⟨1, 1, 8, 7, 0, .ro, true, 255, []⟩,
   ⟨2, 2, 8, 7, 0, .ro, false, 0, []⟩,
   ⟨3, 3, 8, 7, 0, .ro, false, 0, []⟩,
   ⟨4, 4, 32, 31, 0, .ro, false, 0, []⟩,
   ⟨5, 8, 32, 31, 0, .ro, true, 0, []⟩,
   ⟨6, 12, 32, 31, 0, .ro, false, 0, []⟩,
   ⟨7, 16, 32, 31, 0, .ro, false, 1, []⟩,
   ⟨8, 20, 32, 31, 0, .ro, false, 0, []⟩,
   ⟨9, 24, 16, 15, 0, .ro, false, 0, []⟩,
   ⟨10, 26, 16, 15, 0, .rc, false, 0, []⟩,
   ⟨11, 28, 32, 31, 0, .rc, false, 0, []⟩,
   ⟨12, 32, 32, 31, 0, .rc, false, 0, []⟩,
   ⟨13, 36, 32, 31, 0, .rc, false, 0, []⟩,
   ⟨14, 40, 32, 31, 0, .rc, false, 0, []⟩]

/-- Class 0x0004 (R221). -/
def cls0004 : List FieldDef :=
  [⟨0, 0, 16, 15, 0, .rw, true, 47230, [(1024, 65535)]⟩,
   ⟨1, 2, 16, 15, 0, .rw, true, 0, [(0, 0), (16, 65535)]⟩,
   ⟨2, 4, 16, 15, 0, .rw, true, 200, [(20, 5000)]⟩,
   ⟨3, 6, 8, 1, 0, .rw, true, 1, [(0, 2)]⟩,
   ⟨4, 7, 8, 7, 0, .rw, true, 64, [(1, 128)]⟩,
   ⟨5, 8, 128, 127, 0, .rw, true, 0, []⟩,
   ⟨6, 24, 8, 7, 0, .ro, false, 0, []⟩,
   ⟨7, 25, 8, 7, 0, .ro, false, 0, []⟩,
   ⟨8, 26, 8, 7, 0, .ro, false, 0, []⟩,
   ⟨9, 28, 32, 31, 0, .rc, false, 0, []⟩,
   ⟨10, 32, 32, 31, 0, .rc, false, 0, []⟩]

/-- Class 0x0001 (R222). -/
def cls0001 : List FieldDef :=
  [⟨0, 0, 16, 15, 0, .rw, true, 65535, [(0, 511), (65535, 65535)]⟩,
   ⟨3, 2, 8, 7, 0, .ro, true, 0, []⟩,
   ⟨6, 3, 8, 0, 0, .ro, false, 0, []⟩,
   ⟨4, 4, 16, 15, 0, .rw, true, 34998, [(1536, 35062), (35064, 65535)]⟩,
   ⟨5, 6, 16, 15, 0, .rw, true, 34999, [(1536, 35062), (35064, 65535)]⟩,
   ⟨1, 8, 64, 63, 0, .ro, true, 0, []⟩,
   ⟨2, 16, 32, 31, 0, .ro, true, 0, []⟩,
   ⟨7, 20, 32, 31, 0, .ro, true, 0, []⟩]

/-- Class 0x0501 (R253). -/
def cls0501 : List FieldDef :=
  [⟨0, 0, 8, 7, 0, .rw, true, 0, [(0, 2)]⟩,
   ⟨1, 1, 8, 7, 0, .ro, false, 0, []⟩,
   ⟨2, 2, 8, 7, 0, .ro, false, 0, []⟩,
   ⟨3, 3, 8, 7, 0, .ro, false, 0, []⟩,
   ⟨4, 4, 16, 15, 0, .rw, true, 34997, [(1536, 35062), (35064, 65535)]⟩,
   ⟨5, 6, 16, 15, 0, .ro, false, 0, []⟩,
   ⟨6, 8, 16, 15, 0, .ro, false, 0, []⟩,
   ⟨7, 10, 16, 15, 0, .ro, false, 0, []⟩,
   ⟨8, 12, 32, 31, 0, .rc, false, 0, []⟩,
   ⟨9, 16, 32, 31, 0, .ro, true, 0, []⟩,
   ⟨10, 20, 32, 31, 0, .ro, true, 0, []⟩,
   ⟨11, 24, 32, 31, 0, .rc, false, 0, []⟩,
   ⟨12, 28, 32, 31, 0, .rc, false, 0, []⟩,
   ⟨13, 32, 32, 31, 0, .rc, false, 0, []⟩]

/-- Class 0x0502 (R254). -/
def cls0502 : List FieldDef :=
  [⟨0, 0, 8, 7, 0, .ro, false, 0, []⟩,
   ⟨1, 1, 8, 7, 0, .ro, true, 255, []⟩,
   ⟨2, 2, 8, 7, 0, .rw, true, 0, []⟩,
   ⟨3, 4, 32, 31, 0, .rw, true, 0, []⟩,
   ⟨4, 8, 32, 31, 0, .rw, true, 0, []⟩,
   ⟨5, 16, 64, 63, 0, .ro, true, 0, []⟩,
   ⟨6, 24, 32, 31, 0, .ro, true, 0, []⟩,
   ⟨7, 28, 32, 31, 0, .rw, true, 0, [(0, 1048575)]⟩,
   ⟨8, 32, 32, 31, 0, .rw, true, 0, [(0, 1048575)]⟩,
   ⟨9, 36, 32, 31, 0, .rw, true, 4294967295, [(0, 1048575), (4294967295, 4294967295)]⟩,
   ⟨10, 40, 16, 15, 0, .rw, true, 0, [(0, 738)]⟩,
   ⟨11, 42, 16, 15, 0, .rw, true, 0, [(0, 738)]⟩,
   ⟨12, 44, 16, 15, 0, .rw, true, 50, [(1, 2000)]⟩,
   ⟨13, 46, 16, 15, 0, .ro, false, 65535, []⟩,
   ⟨14, 48, 32, 31, 0, .rc, false, 0, []⟩,
   ⟨15, 52, 32, 31, 0, .rc, false, 0, []⟩] ++
  [⟨16, 56, 32, 31, 0, .rc, false, 0, []⟩,
   ⟨17, 60, 32, 31, 0, .rc, false, 0, []⟩]

/-- Class 0x0601 (R280). -/
def cls0601 : List FieldDef :=
  [⟨0, 0, 8, 7, 0, .rw, true, 0, [(0, 3)]⟩,
   ⟨1, 1, 8, 7, 0, .rw, true, 3, [(0, 3)]⟩,
   ⟨2, 2, 8, 7, 0, .rw, true, 6, [(0, 6)]⟩,
   ⟨3, 3, 8, 7, 0, .rw, true, 2, [(0, 4), (255, 255)]⟩,
   ⟨4, 4, 8, 7, 0, .rw, true, 80, [(60, 90)]⟩,
   ⟨5, 5, 8, 7, 0, .rw, true, 70, [(50, 85)]⟩,
   ⟨6, 6, 8, 7, 0, .rw, true, 0, []⟩,
   ⟨7, 7, 8, 1, 1, .rw, true, 1, []⟩,
   ⟨8, 7, 8, 0, 0, .rw, true, 1, []⟩,
   ⟨9, 8, 16, 15, 0, .rw, true, 16, [(1, 2048)]⟩,
   ⟨10, 10, 16, 15, 0, .rw, true, 100, [(0, 10000)]⟩,
   ⟨11, 12, 8, 7, 0, .rw, true, 3, [(0, 15)]⟩,
   ⟨12, 14, 16, 15, 0, .rw, true, 100, [(1, 10000)]⟩,
   ⟨13, 16, 64, 63, 0, .rw, true, 18446744073709551615, []⟩,
   ⟨14, 24, 8, 7, 0, .ro, false, 0, []⟩,
   ⟨15, 25, 8, 7, 0, .ro, false, 0, []⟩] ++
  [⟨16, 26, 8, 7, 0, .ro, false, 0, []⟩,
   ⟨17, 27, 8, 7, 0, .ro, false, 0, []⟩,
   ⟨18, 28, 32, 31, 0, .ro, true, 0, []⟩,
   ⟨19, 32, 32, 31, 0, .ro, true, 0, []⟩,
   ⟨20, 36, 32, 31, 0, .ro, true, 0, []⟩,
   ⟨21, 40, 32, 31, 0, .rc, false, 0, []⟩,
   ⟨22, 44, 32, 31, 0, .rc, false, 0, []⟩,
   ⟨23, 48, 32, 31, 0, .rc, false, 0, []⟩,
   ⟨24, 52, 32, 31, 0, .rc, false, 0, []⟩,
   ⟨25, 56, 32, 31, 0, .rc, false, 0, []⟩,
   ⟨26, 60, 32, 31, 0, .ro, true, 0, []⟩]

/-- Class 0x0602 (R281). -/
def cls0602 : List FieldDef :=
  [⟨0, 0, 8, 7, 0, .ro, false, 0, []⟩,
   ⟨1, 1, 8, 7, 0, .ro, true, 255, []⟩,
   ⟨2, 2, 8, 7, 0, .rw, true, 0, [(0, 1)]⟩,
   ⟨3, 3, 8, 7, 0, .rw, true, 255, [(0, 23), (255, 255)]⟩,
   ⟨4, 4, 32, 31, 0, .rw, true, 0, []⟩,
   ⟨5, 8, 32, 31, 0, .rw, true, 0, []⟩,
   ⟨6, 12, 32, 31, 0, .ro, true, 0, []⟩,
   ⟨7, 16, 64, 63, 0, .rw, true, 0, []⟩,
   ⟨8, 24, 32, 31, 0, .rw, true, 0, [(0, 1048575)]⟩,
   ⟨9, 28, 32, 31, 0, .rw, true, 0, [(0, 1048575)]⟩,
   ⟨10, 32, 32, 31, 0, .rw, true, 4294967295, [(0, 1048575), (4294967295, 4294967295)]⟩,
   ⟨11, 36, 16, 15, 0, .rw, true, 0, [(0, 1023)]⟩,
   ⟨12, 38, 16, 15, 0, .rw, true, 0, []⟩,
   ⟨13, 40, 16, 15, 0, .rw, true, 50, [(1, 2000)]⟩,
   ⟨14, 42, 16, 15, 0, .rw, true, 0, [(0, 2048)]⟩,
   ⟨15, 44, 16, 15, 0, .rw, true, 0, [(0, 0), (128, 1791)]⟩] ++
  [⟨16, 48, 32, 31, 0, .rw, true, 0, [(0, 0), (100, 10000000)]⟩,
   ⟨17, 52, 32, 31, 0, .ro, true, 0, []⟩,
   ⟨18, 56, 32, 31, 0, .rc, false, 0, []⟩,
   ⟨19, 60, 32, 31, 0, .rc, false, 0, []⟩,
   ⟨20, 64, 32, 31, 0, .rc, false, 0, []⟩]

/-- Class 0x0603 (R282). -/
def cls0603 : List FieldDef :=
  [⟨0, 0, 8, 7, 0, .rw, true, 0, [(0, 1)]⟩,
   ⟨1, 1, 8, 7, 0, .rw, true, 255, [(0, 63), (255, 255)]⟩,
   ⟨2, 2, 8, 7, 0, .rw, true, 0, [(0, 7)]⟩,
   ⟨3, 4, 16, 15, 0, .rw, true, 0, [(0, 2047)]⟩,
   ⟨4, 6, 16, 15, 0, .rw, true, 0, [(0, 2047)]⟩,
   ⟨5, 8, 32, 31, 0, .rw, true, 0, []⟩,
   ⟨6, 12, 32, 31, 0, .rw, true, 0, []⟩,
   ⟨7, 16, 32, 31, 0, .rw, true, 4294967295, [(0, 1048575), (4294967295, 4294967295)]⟩,
   ⟨8, 20, 16, 15, 0, .rw, true, 0, [(0, 64)]⟩,
   ⟨9, 22, 8, 7, 0, .ro, false, 0, []⟩,
   ⟨10, 24, 32, 31, 0, .rc, false, 0, []⟩,
   ⟨11, 28, 32, 31, 0, .rc, false, 0, []⟩]

/-- Class 0x0702 (R295). -/
def cls0702 : List FieldDef :=
  [⟨0, 0, 8, 7, 0, .rw, true, 1, [(1, 8)]⟩,
   ⟨1, 4, 32, 31, 0, .rw, true, 1000, [(1, 10000000)]⟩,
   ⟨3, 12, 32, 31, 0, .rw, true, 1000, [(1, 10000000)]⟩,
   ⟨5, 20, 32, 31, 0, .rw, true, 1000, [(1, 10000000)]⟩,
   ⟨7, 28, 32, 31, 0, .rw, true, 1000, [(1, 10000000)]⟩,
   ⟨9, 36, 32, 31, 0, .rw, true, 1000, [(1, 10000000)]⟩,
   ⟨11, 44, 32, 31, 0, .rw, true, 1000, [(1, 10000000)]⟩,
   ⟨13, 52, 32, 31, 0, .rw, true, 1000, [(1, 10000000)]⟩,
   ⟨15, 60, 32, 31, 0, .rw, true, 1000, [(1, 10000000)]⟩,
   ⟨2, 8, 8, 7, 0, .rw, true, 16, [(16, 255)]⟩,
   ⟨4, 16, 8, 7, 0, .rw, true, 16, [(16, 255)]⟩,
   ⟨6, 24, 8, 7, 0, .rw, true, 16, [(16, 255)]⟩,
   ⟨8, 32, 8, 7, 0, .rw, true, 16, [(16, 255)]⟩,
   ⟨10, 40, 8, 7, 0, .rw, true, 16, [(16, 255)]⟩,
   ⟨12, 48, 8, 7, 0, .rw, true, 16, [(16, 255)]⟩,
   ⟨14, 56, 8, 7, 0, .rw, true, 16, [(16, 255)]⟩] ++
  [⟨16, 64, 8, 7, 0, .rw, true, 16, [(16, 255)]⟩]

/-- Class 0x0701 (R304). -/
def cls0701 : List FieldDef :=
  [⟨0, 0, 8, 7, 0, .rw, true, 0, []⟩,
   ⟨2, 1, 8, 1, 1, .rw, true, 0, []⟩,
   ⟨1, 1, 8, 0, 0, .rw, true, 0, []⟩,
   ⟨3, 2, 16, 15, 0, .rw, true, 2500, []⟩,
   ⟨4, 4, 16, 15, 0, .rw, true, 10, [(1, 1000)]⟩,
   ⟨5, 6, 8, 7, 0, .rw, true, 8, [(1, 32)]⟩,
   ⟨6, 7, 8, 7, 0, .ro, false, 0, []⟩,
   ⟨7, 8, 16, 5, 0, .ro, true, 0, []⟩,
   ⟨8, 10, 8, 7, 0, .ro, true, 0, []⟩,
   ⟨9, 11, 8, 7, 0, .ro, false, 0, []⟩,
   ⟨10, 12, 16, 15, 0, .ro, false, 0, []⟩,
   ⟨11, 16, 32, 31, 0, .ro, true, 0, []⟩,
   ⟨12, 20, 32, 31, 0, .ro, true, 0, []⟩,
   ⟨13, 24, 32, 31, 0, .ro, true, 0, []⟩,
   ⟨14, 28, 16, 15, 0, .rc, false, 0, []⟩,
   ⟨15, 30, 16, 15, 0, .rc, false, 0, []⟩] ++
  [⟨16, 32, 16, 15, 0, .rc, false, 0, []⟩,
   ⟨17, 34, 16, 15, 0, .rc, false, 0, []⟩,
   ⟨18, 36, 32, 31, 0, .ro, false, 0, []⟩]

/-- Class 0x0704 (R314). -/
def cls0704 : List FieldDef :=
  [⟨0, 0, 32, 31, 0, .ro, true, 0, []⟩,
   ⟨1, 4, 32, 31, 0, .ro, false, 0, []⟩,
   ⟨2, 8, 32, 31, 0, .ro, true, 0, []⟩,
   ⟨3, 12, 32, 31, 0, .ro, true, 0, []⟩,
   ⟨4, 16, 8, 7, 0, .ro, false, 0, []⟩,
   ⟨5, 17, 8, 0, 0, .ro, true, 0, []⟩]

/-- Class 0x0703 (R321). -/
def cls0703 : List FieldDef :=
  [⟨0, 0, 8, 7, 0, .rw, true, 1, [(0, 2)]⟩,
   ⟨5, 1, 8, 7, 0, .ro, false, 0, []⟩,
   ⟨1, 2, 16, 15, 0, .rw, true, 20, [(5, 1000)]⟩,
   ⟨2, 4, 16, 15, 0, .ro, true, 0, []⟩,
   ⟨3, 8, 32, 31, 0, .ro, true, 0, []⟩,
   ⟨4, 12, 32, 31, 0, .ro, true, 0, []⟩,
   ⟨6, 16, 64, 63, 0, .ro, true, 0, []⟩,
   ⟨7, 24, 32, 31, 0, .rc, false, 0, []⟩]

/-- Class 0x0801 (R343). -/
def cls0801 : List FieldDef :=
  [⟨0, 0, 8, 7, 0, .rw, true, 0, [(0, 6)]⟩,
   ⟨1, 1, 8, 7, 0, .rw, true, 1, [(0, 1)]⟩,
   ⟨2, 2, 8, 7, 0, .rw, true, 0, [(0, 2)]⟩,
   ⟨3, 3, 8, 7, 0, .rw, true, 4, [(1, 16)]⟩,
   ⟨5, 4, 8, 3, 3, .rw, true, 0, []⟩,
   ⟨6, 4, 8, 2, 2, .rw, true, 0, []⟩,
   ⟨4, 4, 8, 1, 0, .rw, true, 2, [(0, 2)]⟩,
   ⟨20, 5, 8, 7, 0, .rw, true, 8, [(3, 255)]⟩,
   ⟨7, 6, 16, 15, 0, .rw, true, 100, [(1, 1000)]⟩,
   ⟨8, 8, 32, 31, 0, .rw, true, 24, []⟩,
   ⟨9, 12, 32, 31, 0, .rw, true, 0, []⟩,
   ⟨10, 16, 16, 15, 0, .rw, true, 16, [(1, 1000)]⟩,
   ⟨11, 18, 16, 15, 0, .rw, true, 20, [(1, 1000)]⟩,
   ⟨12, 20, 16, 15, 0, .rw, true, 1000, []⟩,
   ⟨13, 22, 8, 7, 0, .rw, true, 25, [(8, 40)]⟩,
   ⟨14, 23, 8, 7, 0, .rw, true, 25, [(1, 32)]⟩] ++
  [⟨15, 24, 8, 7, 0, .rw, true, 0, [(0, 40)]⟩,
   ⟨16, 25, 8, 7, 0, .rw, true, 1, [(0, 1)]⟩,
   ⟨17, 26, 8, 7, 0, .rw, true, 255, []⟩,
   ⟨18, 27, 8, 7, 0, .rw, true, 20, [(1, 64)]⟩,
   ⟨19, 28, 16, 15, 0, .rw, true, 0, [(0, 2000)]⟩,
   ⟨21, 32, 32, 31, 0, .rw, true, 0, []⟩,
   ⟨22, 36, 8, 7, 0, .ro, false, 0, []⟩,
   ⟨23, 37, 8, 7, 0, .ro, false, 0, []⟩,
   ⟨24, 40, 32, 31, 0, .ro, true, 0, []⟩,
   ⟨25, 44, 32, 31, 0, .ro, true, 0, []⟩,
   ⟨26, 48, 32, 31, 0, .ro, true, 0, []⟩,
   ⟨27, 52, 32, 31, 0, .rc, false, 0, []⟩,
   ⟨28, 56, 32, 31, 0, .rc, false, 0, []⟩,
   ⟨29, 60, 32, 31, 0, .rc, false, 0, []⟩,
   ⟨30, 64, 32, 31, 0, .rc, false, 0, []⟩,
   ⟨31, 68, 32, 31, 0, .ro, false, 0, []⟩]

/-- Class 0x0802 (R344). -/
def cls0802 : List FieldDef :=
  [⟨0, 0, 8, 7, 0, .rw, true, 255, [(0, 7), (16, 31), (255, 255)]⟩,
   ⟨1, 1, 8, 7, 0, .rw, true, 20, [(0, 255)]⟩,
   ⟨2, 4, 32, 31, 0, .rc, false, 0, []⟩,
   ⟨3, 8, 32, 31, 0, .rc, false, 0, []⟩]

/-- Class 0x0803 (R345). -/
def cls0803 : List FieldDef :=
  [⟨0, 0, 8, 7, 0, .rw, true, 255, [(0, 7), (16, 31), (255, 255)]⟩,
   ⟨1, 1, 8, 7, 0, .rw, true, 1, [(0, 1)]⟩,
   ⟨2, 4, 32, 31, 0, .rw, true, 1024, [(1, 65536)]⟩,
   ⟨3, 8, 32, 31, 0, .rw, true, 0, []⟩,
   ⟨4, 12, 32, 31, 0, .rw, true, 0, []⟩,
   ⟨5, 16, 8, 7, 0, .ro, false, 0, []⟩,
   ⟨6, 20, 32, 31, 0, .rc, false, 0, []⟩,
   ⟨7, 24, 32, 31, 0, .rc, false, 0, []⟩,
   ⟨8, 28, 32, 31, 0, .rc, false, 0, []⟩]

/-- Class 0x0901 (R369). -/
def cls0901 : List FieldDef :=
  [⟨0, 0, 8, 7, 0, .rw, true, 0, [(0, 2)]⟩,
   ⟨1, 1, 8, 7, 0, .rw, true, 255, [(0, 7), (255, 255)]⟩,
   ⟨2, 2, 16, 15, 0, .rw, true, 1000, [(100, 20000)]⟩,
   ⟨3, 4, 16, 15, 0, .rw, true, 1000, [(0, 20000)]⟩,
   ⟨4, 6, 8, 7, 0, .rw, true, 255, [(0, 31), (255, 255)]⟩,
   ⟨5, 7, 8, 7, 0, .rw, true, 255, [(0, 31), (255, 255)]⟩,
   ⟨6, 8, 32, 31, 0, .rw, true, 500, [(0, 4000000)]⟩,
   ⟨7, 12, 32, 31, 0, .rw, true, 500, [(0, 4000000)]⟩,
   ⟨8, 16, 32, 31, 0, .rw, true, 4000, [(0, 4000000)]⟩,
   ⟨9, 20, 32, 31, 0, .rw, true, 10000, [(1, 1000000000)]⟩,
   ⟨10, 24, 32, 31, 0, .rw, true, 50000, [(1, 1000000000)]⟩,
   ⟨11, 28, 32, 31, 0, .rw, true, 25000, [(1, 1000000000)]⟩,
   ⟨12, 32, 32, 31, 0, .rw, true, 25000, [(1, 1000000000)]⟩,
   ⟨13, 36, 32, 31, 0, .rw, true, 50000, [(1, 1000000000)]⟩,
   ⟨14, 40, 32, 31, 0, .rw, true, 200000, [(1, 1000000000)]⟩,
   ⟨15, 44, 32, 31, 0, .rw, true, 0, []⟩] ++
  [⟨16, 48, 64, 63, 0, .rw, true, 9223372036854775808, []⟩,
   ⟨17, 56, 64, 63, 0, .rw, true, 9223372036854775807, []⟩,
   ⟨18, 64, 32, 31, 0, .rw, true, 1, [(1, 4294967295)]⟩,
   ⟨19, 68, 32, 31, 0, .rw, true, 1, [(1, 4294967295)]⟩,
   ⟨20, 72, 8, 7, 0, .ro, false, 0, []⟩,
   ⟨21, 73, 8, 7, 0, .ro, false, 0, []⟩,
   ⟨22, 76, 32, 31, 0, .rc, false, 0, []⟩,
   ⟨23, 80, 32, 31, 0, .rc, false, 0, []⟩,
   ⟨24, 84, 32, 31, 0, .rc, false, 0, []⟩,
   ⟨25, 88, 64, 63, 0, .ro, false, 0, []⟩]

/-- Class 0x0902 (R370). -/
def cls0902 : List FieldDef :=
  [⟨0, 0, 8, 7, 0, .rw, true, 255, [(0, 7), (16, 16), (255, 255)]⟩,
   ⟨1, 1, 8, 7, 0, .ro, false, 0, []⟩,
   ⟨2, 2, 16, 15, 0, .rw, true, 0, []⟩,
   ⟨3, 4, 32, 31, 0, .rw, true, 100000, [(1, 1000000000)]⟩,
   ⟨4, 8, 64, 63, 0, .ro, false, 0, []⟩,
   ⟨5, 16, 32, 31, 0, .ro, false, 0, []⟩,
   ⟨6, 20, 32, 31, 0, .ro, false, 0, []⟩,
   ⟨7, 24, 32, 31, 0, .rc, false, 0, []⟩,
   ⟨8, 28, 32, 31, 0, .rc, false, 0, []⟩,
   ⟨9, 32, 32, 31, 0, .rc, false, 0, []⟩]

/-- Class 0x0903 (R371). -/
def cls0903 : List FieldDef :=
  [⟨0, 0, 8, 7, 0, .rw, true, 2, [(0, 2)]⟩,
   ⟨1, 1, 8, 7, 0, .rw, true, 4, [(0, 8)]⟩,
   ⟨2, 2, 16, 15, 0, .rw, true, 2000, [(100, 6000)]⟩,
   ⟨3, 4, 16, 15, 0, .rw, true, 1000, []⟩,
   ⟨4, 6, 16, 15, 0, .rw, true, 200, [(0, 10000)]⟩,
   ⟨5, 8, 8, 7, 0, .rw, true, 4, [(1, 32)]⟩,
   ⟨6, 9, 8, 7, 0, .rw, true, 1, [(0, 1)]⟩,
   ⟨7, 10, 16, 15, 0, .rw, true, 900, [(300, 1200)]⟩,
   ⟨8, 12, 16, 15, 0, .rw, true, 20, [(1, 1000)]⟩,
   ⟨9, 14, 16, 15, 0, .rw, true, 40, []⟩,
   ⟨10, 16, 16, 15, 0, .rw, true, 4, []⟩,
   ⟨11, 18, 16, 15, 0, .rw, true, 320, []⟩,
   ⟨12, 20, 8, 7, 0, .ro, false, 0, []⟩,
   ⟨13, 21, 8, 7, 0, .ro, false, 0, []⟩,
   ⟨14, 22, 16, 15, 0, .ro, false, 0, []⟩,
   ⟨15, 24, 16, 15, 0, .ro, false, 0, []⟩] ++
  [⟨16, 28, 32, 31, 0, .rc, false, 0, []⟩]

/-- Class 0x0A01 (R397). -/
def cls0A01 : List FieldDef :=
  [⟨0, 0, 8, 7, 0, .rw, true, 255, [(0, 63), (255, 255)]⟩,
   ⟨1, 1, 8, 7, 0, .rw, true, 0, [(0, 2)]⟩,
   ⟨2, 2, 8, 7, 0, .rw, true, 0, [(0, 31)]⟩,
   ⟨3, 3, 8, 7, 0, .rw, true, 255, [(0, 31), (255, 255)]⟩,
   ⟨4, 4, 8, 7, 0, .rw, true, 255, [(0, 7), (255, 255)]⟩,
   ⟨5, 5, 8, 7, 0, .rw, true, 0, [(0, 2)]⟩,
   ⟨6, 6, 8, 7, 0, .rw, true, 2, [(0, 15)]⟩,
   ⟨7, 7, 8, 7, 0, .rw, true, 4, [(1, 255)]⟩,
   ⟨8, 8, 32, 31, 0, .rw, true, 4294967295, []⟩,
   ⟨9, 12, 32, 31, 0, .rw, true, 4294967295, []⟩,
   ⟨10, 16, 32, 31, 0, .rw, true, 4294967295, []⟩,
   ⟨11, 20, 32, 31, 0, .rw, true, 4294967295, []⟩,
   ⟨12, 24, 32, 31, 0, .rw, true, 4294967295, []⟩,
   ⟨13, 28, 32, 31, 0, .rw, true, 4294967295, []⟩,
   ⟨14, 32, 32, 31, 0, .rw, true, 4294967295, []⟩,
   ⟨15, 36, 32, 31, 0, .rw, true, 4294967295, []⟩] ++
  [⟨16, 40, 8, 7, 0, .rw, true, 255, []⟩,
   ⟨17, 41, 8, 7, 0, .rw, true, 255, []⟩,
   ⟨18, 42, 8, 7, 0, .rw, true, 255, []⟩,
   ⟨19, 43, 8, 7, 0, .rw, true, 255, []⟩,
   ⟨20, 44, 16, 15, 0, .rw, true, 8, []⟩,
   ⟨21, 46, 8, 7, 0, .rw, true, 17, []⟩,
   ⟨22, 47, 8, 7, 0, .rw, true, 20, [(0, 200)]⟩,
   ⟨23, 48, 16, 15, 0, .rw, true, 300, [(0, 6000)]⟩,
   ⟨24, 50, 16, 15, 0, .rw, true, 300, [(0, 2000)]⟩,
   ⟨25, 52, 8, 7, 0, .rw, true, 50, [(10, 90)]⟩,
   ⟨26, 53, 8, 0, 0, .rw, true, 0, []⟩,
   ⟨27, 54, 16, 15, 0, .rw, true, 20, [(1, 1000)]⟩,
   ⟨28, 56, 16, 15, 0, .rw, true, 5000, [(100, 60000)]⟩,
   ⟨29, 60, 32, 31, 0, .ro, true, 0, []⟩,
   ⟨30, 64, 8, 7, 0, .ro, false, 0, []⟩,
   ⟨31, 65, 8, 7, 0, .ro, false, 0, []⟩] ++
  [⟨32, 66, 8, 7, 0, .ro, false, 255, []⟩,
   ⟨33, 67, 8, 7, 0, .ro, false, 0, []⟩,
   ⟨34, 68, 32, 31, 0, .ro, true, 0, []⟩,
   ⟨35, 72, 32, 31, 0, .ro, true, 0, []⟩,
   ⟨36, 76, 32, 31, 0, .ro, false, 0, []⟩,
   ⟨37, 80, 8, 7, 0, .ro, false, 0, []⟩,
   ⟨38, 81, 8, 3, 3, .ro, true, 0, []⟩,
   ⟨39, 81, 8, 2, 2, .ro, false, 0, []⟩,
   ⟨40, 81, 8, 1, 1, .ro, false, 1, []⟩,
   ⟨41, 81, 8, 0, 0, .ro, false, 0, []⟩,
   ⟨42, 84, 32, 31, 0, .rc, false, 0, []⟩,
   ⟨43, 88, 32, 31, 0, .rc, false, 0, []⟩]

/-- Class 0x0A02 (R398). -/
def cls0A02 : List FieldDef :=
  [⟨0, 0, 8, 7, 0, .rw, true, 0, [(0, 4)]⟩,
   ⟨1, 1, 8, 7, 0, .rw, true, 0, [(0, 255)]⟩,
   ⟨2, 2, 8, 7, 0, .rw, true, 0, []⟩,
   ⟨3, 4, 32, 31, 0, .rw, true, 4294967295, []⟩,
   ⟨4, 8, 8, 7, 0, .ro, false, 1, []⟩,
   ⟨5, 12, 32, 31, 0, .rc, false, 0, []⟩]

/-- Class 0x0B01 (R414). -/
def cls0B01 : List FieldDef :=
  [⟨0, 0, 16, 15, 0, .rw, true, 40000, [(1000, 40000)]⟩,
   ⟨1, 2, 16, 15, 0, .rw, true, 60000, [(1000, 65000)]⟩,
   ⟨2, 4, 16, 15, 0, .rw, true, 0, [(0, 0), (1000, 65000)]⟩,
   ⟨3, 6, 16, 15, 0, .rw, true, 0, [(0, 0), (17600, 32000)]⟩,
   ⟨4, 8, 16, 15, 0, .rw, true, 20, [(1, 1000)]⟩,
   ⟨5, 10, 16, 15, 0, .rw, true, 30, [(1, 3600)]⟩,
   ⟨6, 12, 8, 7, 0, .ro, false, 0, []⟩,
   ⟨7, 13, 8, 7, 0, .ro, false, 0, []⟩,
   ⟨8, 14, 16, 15, 0, .ro, false, 0, []⟩,
   ⟨9, 16, 16, 15, 0, .ro, false, 0, []⟩,
   ⟨10, 18, 16, 15, 0, .ro, false, 0, []⟩,
   ⟨11, 20, 32, 31, 0, .rc, false, 0, []⟩,
   ⟨12, 24, 32, 31, 0, .rc, false, 0, []⟩,
   ⟨13, 28, 32, 31, 0, .rc, false, 0, []⟩]

/-- Class 0x0B02 (R415). -/
def cls0B02 : List FieldDef :=
  [⟨0, 0, 8, 7, 0, .rw, true, 8, [(0, 15)]⟩,
   ⟨1, 1, 8, 7, 0, .rw, true, 0, [(0, 15)]⟩,
   ⟨2, 2, 16, 15, 0, .rw, true, 0, []⟩,
   ⟨3, 4, 32, 31, 0, .ro, true, 0, []⟩,
   ⟨4, 8, 32, 31, 0, .ro, false, 0, []⟩,
   ⟨5, 12, 8, 7, 0, .ro, false, 0, []⟩]

/-- Class 0x0B05 (R416). -/
def cls0B05 : List FieldDef :=
  [⟨0, 0, 8, 7, 0, .ro, false, 2, []⟩,
   ⟨1, 1, 8, 7, 0, .ro, false, 0, []⟩,
   ⟨2, 2, 16, 15, 0, .ro, false, 0, []⟩,
   ⟨3, 4, 32, 31, 0, .ro, true, 0, []⟩,
   ⟨4, 8, 32, 31, 0, .ro, false, 0, []⟩,
   ⟨5, 12, 32, 31, 0, .ro, false, 0, []⟩,
   ⟨6, 16, 32, 31, 0, .ro, true, 0, []⟩,
   ⟨7, 20, 32, 31, 0, .ro, true, 0, []⟩,
   ⟨8, 24, 16, 15, 0, .ro, true, 0, []⟩,
   ⟨9, 26, 16, 15, 0, .ro, false, 0, []⟩,
   ⟨10, 28, 32, 31, 0, .ro, true, 0, []⟩,
   ⟨11, 32, 32, 31, 0, .rc, false, 0, []⟩]

/-- Class 0x0B06 (R421). -/
def cls0B06 : List FieldDef :=
  [⟨0, 0, 8, 7, 0, .rw, true, 255, [(0, 7), (255, 255)]⟩,
   ⟨1, 1, 8, 7, 0, .rw, true, 3, [(1, 4)]⟩,
   ⟨2, 2, 8, 3, 2, .rw, true, 0, [(0, 2)]⟩,
   ⟨3, 2, 8, 1, 1, .rw, true, 1, []⟩,
   ⟨4, 2, 8, 0, 0, .rw, true, 0, []⟩,
   ⟨5, 3, 8, 7, 0, .rw, true, 0, [(0, 255)]⟩,
   ⟨6, 4, 32, 31, 0, .rw, true, 4294967295, []⟩,
   ⟨7, 8, 16, 15, 0, .rw, true, 0, [(0, 60000)]⟩,
   ⟨8, 10, 16, 15, 0, .rw, true, 0, [(0, 60000)]⟩,
   ⟨9, 12, 32, 31, 0, .rw, true, 0, []⟩,
   ⟨12, 16, 32, 31, 0, .rw, true, 0, []⟩,
   ⟨13, 20, 32, 31, 0, .rw, true, 4294967295, []⟩,
   ⟨14, 24, 16, 15, 0, .rw, true, 480, [(1, 10080)]⟩,
   ⟨10, 26, 8, 0, 0, .rw, true, 1, []⟩,
   ⟨11, 27, 8, 7, 0, .ro, false, 0, []⟩,
   ⟨15, 28, 64, 63, 0, .ro, false, 0, []⟩]

/-- Class 0x0B03 (R432). -/
def cls0B03 : List FieldDef :=
  [⟨0, 0, 8, 7, 0, .ro, false, 0, []⟩,
   ⟨1, 4, 32, 31, 0, .rc, false, 0, []⟩,
   ⟨2, 8, 64, 63, 0, .ro, false, 0, []⟩]

/-- Class 0x0B04 (R433). -/
def cls0B04 : List FieldDef :=
  [⟨0, 0, 8, 0, 0, .w1c, false, 0, []⟩,
   ⟨1, 1, 8, 7, 0, .ro, false, 0, []⟩,
   ⟨2, 2, 8, 7, 0, .ro, false, 0, []⟩,
   ⟨3, 3, 8, 7, 0, .ro, true, 0, []⟩,
   ⟨4, 4, 32, 31, 0, .rc, false, 0, []⟩,
   ⟨5, 8, 64, 63, 0, .ro, false, 0, []⟩]

/-- Class 0x0C01 (R467). -/
def cls0C01 : List FieldDef :=
  [⟨0, 0, 8, 7, 0, .ro, false, 0, []⟩,
   ⟨1, 1, 8, 7, 0, .ro, true, 0, []⟩,
   ⟨2, 2, 8, 7, 0, .ro, false, 0, []⟩,
   ⟨3, 3, 8, 0, 0, .ro, false, 0, []⟩,
   ⟨4, 4, 32, 31, 0, .ro, true, 0, []⟩,
   ⟨5, 8, 32, 31, 0, .ro, false, 0, []⟩,
   ⟨6, 12, 32, 31, 0, .ro, true, 0, []⟩,
   ⟨7, 16, 64, 63, 0, .ro, true, 0, []⟩,
   ⟨8, 24, 32, 31, 0, .ro, false, 0, []⟩,
   ⟨9, 28, 32, 31, 0, .rc, false, 0, []⟩,
   ⟨10, 32, 32, 31, 0, .rc, false, 0, []⟩,
   ⟨11, 36, 32, 31, 0, .rc, false, 0, []⟩,
   ⟨12, 40, 32, 31, 0, .rc, false, 0, []⟩,
   ⟨13, 44, 32, 31, 0, .rc, false, 0, []⟩,
   ⟨14, 48, 64, 63, 0, .ro, false, 0, []⟩,
   ⟨15, 56, 32, 31, 0, .ro, true, 0, []⟩]

/-- Class 0x0C02 (R468). -/
def cls0C02 : List FieldDef :=
  [⟨0, 0, 8, 7, 0, .ro, false, 0, []⟩,
   ⟨1, 2, 16, 15, 0, .ro, false, 65535, []⟩,
   ⟨2, 4, 32, 31, 0, .rc, false, 0, []⟩,
   ⟨3, 8, 64, 63, 0, .ro, false, 0, []⟩,
   ⟨4, 16, 64, 63, 0, .ro, false, 0, []⟩]

/-- Class 0x0D01 (R502). -/
def cls0D01 : List FieldDef :=
  [⟨0, 0, 8, 7, 0, .rw, true, 0, [(0, 2)]⟩,
   ⟨1, 1, 8, 7, 0, .ro, false, 0, []⟩,
   ⟨2, 2, 8, 7, 0, .ro, false, 0, []⟩,
   ⟨4, 3, 8, 1, 1, .rw, true, 0, []⟩,
   ⟨3, 3, 8, 0, 0, .rw, true, 1, []⟩,
   ⟨5, 4, 16, 15, 0, .rw, true, 600, [(60, 86400)]⟩,
   ⟨6, 6, 8, 7, 0, .rw, true, 0, [(0, 1)]⟩,
   ⟨7, 7, 8, 7, 0, .rw, true, 10, [(1, 255)]⟩,
   ⟨8, 8, 16, 15, 0, .rw, true, 10, [(0, 3600)]⟩,
   ⟨9, 10, 16, 15, 0, .ro, false, 0, []⟩,
   ⟨10, 12, 32, 31, 0, .ro, true, 0, []⟩,
   ⟨11, 16, 32, 31, 0, .ro, true, 0, []⟩,
   ⟨12, 20, 32, 31, 0, .ro, false, 0, []⟩,
   ⟨13, 24, 32, 31, 0, .ro, true, 0, []⟩,
   ⟨14, 28, 32, 31, 0, .ro, true, 0, []⟩,
   ⟨15, 32, 32, 31, 0, .ro, false, 0, []⟩] ++
  [⟨16, 36, 32, 31, 0, .rc, false, 0, []⟩,
   ⟨17, 40, 32, 31, 0, .rc, false, 0, []⟩,
   ⟨18, 44, 32, 31, 0, .rc, false, 0, []⟩,
   ⟨19, 48, 64, 63, 0, .ro, true, 0, []⟩,
   ⟨20, 56, 64, 63, 0, .ro, true, 0, []⟩]

/-- Class 0x0D02 (R503). -/
def cls0D02 : List FieldDef :=
  [⟨0, 0, 8, 7, 0, .ro, false, 0, []⟩,
   ⟨1, 4, 32, 31, 0, .ro, true, 0, []⟩,
   ⟨2, 8, 32, 31, 0, .ro, true, 0, []⟩,
   ⟨3, 12, 32, 31, 0, .ro, true, 0, []⟩,
   ⟨4, 16, 32, 31, 0, .ro, true, 0, []⟩,
   ⟨5, 20, 32, 31, 0, .ro, false, 0, []⟩,
   ⟨6, 24, 32, 31, 0, .rc, false, 0, []⟩,
   ⟨7, 28, 32, 31, 0, .rc, false, 0, []⟩,
   ⟨8, 32, 32, 31, 0, .rc, false, 0, []⟩,
   ⟨9, 36, 32, 31, 0, .rc, false, 0, []⟩,
   ⟨10, 40, 32, 31, 0, .rc, false, 0, []⟩]

/-- Class 0x0E01 (R528). -/
def cls0E01 : List FieldDef :=
  [⟨0, 0, 8, 7, 0, .ro, false, 0, []⟩,
   ⟨1, 1, 8, 7, 0, .ro, true, 0, []⟩,
   ⟨2, 2, 16, 15, 0, .ro, false, 0, []⟩,
   ⟨3, 4, 16, 15, 0, .rc, false, 0, []⟩,
   ⟨4, 8, 32, 31, 0, .ro, true, 0, []⟩,
   ⟨5, 12, 32, 31, 0, .rc, false, 0, []⟩,
   ⟨6, 16, 64, 63, 0, .ro, true, 0, []⟩,
   ⟨7, 24, 64, 63, 0, .ro, true, 0, []⟩,
   ⟨8, 32, 64, 63, 0, .ro, true, 0, []⟩,
   ⟨9, 40, 64, 63, 0, .ro, true, 0, []⟩,
   ⟨10, 48, 32, 31, 0, .ro, true, 0, []⟩,
   ⟨11, 52, 32, 31, 0, .ro, true, 0, []⟩,
   ⟨12, 56, 32, 31, 0, .rc, false, 0, []⟩,
   ⟨13, 60, 32, 31, 0, .ro, true, 0, []⟩]

/-- Class 0x0E02 (R529). -/
def cls0E02 : List FieldDef :=
  [⟨0, 0, 16, 15, 0, .ro, true, 0, []⟩,
   ⟨1, 2, 16, 15, 0, .ro, false, 0, []⟩,
   ⟨2, 4, 16, 15, 0, .rc, false, 0, []⟩,
   ⟨3, 8, 32, 31, 0, .rc, false, 0, []⟩,
   ⟨4, 12, 32, 31, 0, .rc, false, 0, []⟩]

/-- Class 0x0101 (R547). -/
def cls0101 : List FieldDef :=
  [⟨0, 0, 8, 7, 0, .ro, false, 255, []⟩,
   ⟨1, 1, 8, 7, 0, .rw, true, 0, [(0, 1)]⟩,
   ⟨3, 2, 8, 1, 1, .ro, true, 0, []⟩,
   ⟨2, 2, 8, 0, 0, .rw, true, 1, [(0, 1)]⟩,
   ⟨4, 3, 8, 7, 0, .ro, false, 0, []⟩,
   ⟨5, 4, 16, 2, 0, .ro, false, 0, []⟩,
   ⟨6, 6, 8, 7, 0, .ro, true, 0, []⟩,
   ⟨7, 7, 8, 7, 0, .ro, true, 0, []⟩,
   ⟨8, 8, 16, 15, 0, .rw, true, 5, [(0, 60)]⟩,
   ⟨9, 10, 16, 15, 0, .rw, true, 30, [(0, 120)]⟩,
   ⟨10, 12, 32, 31, 0, .ro, true, 0, []⟩,
   ⟨11, 16, 32, 31, 0, .ro, true, 0, []⟩,
   ⟨12, 20, 32, 31, 0, .ro, true, 0, []⟩,
   ⟨13, 24, 64, 63, 0, .ro, true, 0, []⟩,
   ⟨14, 32, 32, 31, 0, .ro, true, 0, []⟩,
   ⟨15, 36, 8, 7, 0, .ro, false, 0, []⟩]

/-- Class 0x0F01 (R576). -/
def cls0F01 : List FieldDef :=
  [⟨0, 0, 8, 7, 0, .ro, true, 0, []⟩,
   ⟨1, 1, 8, 7, 0, .ro, false, 0, []⟩,
   ⟨2, 2, 16, 15, 0, .rw, true, 3600, [(60, 28800)]⟩,
   ⟨4, 4, 8, 2, 2, .ro, false, 0, []⟩,
   ⟨5, 4, 8, 1, 1, .ro, true, 0, []⟩,
   ⟨3, 4, 8, 0, 0, .rw, true, 0, []⟩,
   ⟨6, 5, 8, 7, 0, .ro, true, 0, []⟩,
   ⟨7, 6, 8, 7, 0, .ro, true, 0, []⟩,
   ⟨8, 8, 64, 63, 0, .ro, true, 0, []⟩,
   ⟨9, 16, 64, 63, 0, .ro, true, 0, []⟩,
   ⟨10, 24, 32, 31, 0, .rc, false, 0, []⟩,
   ⟨11, 28, 32, 31, 0, .ro, true, 0, []⟩]

/-- Class 0x0F02 (R577). -/
def cls0F02 : List FieldDef :=
  [⟨0, 0, 8, 7, 0, .ro, true, 0, []⟩,
   ⟨1, 1, 8, 7, 0, .ro, true, 0, []⟩,
   ⟨2, 4, 64, 63, 0, .ro, true, 0, []⟩,
   ⟨3, 12, 64, 63, 0, .ro, true, 0, []⟩]

/-- Class 0x0F03 (R578). -/
def cls0F03 : List FieldDef :=
  [⟨0, 0, 8, 7, 0, .rw, true, 0, [(0, 2)]⟩,
   ⟨1, 1, 8, 7, 0, .rw, true, 0, [(0, 1)]⟩,
   ⟨2, 2, 8, 7, 0, .ro, false, 0, []⟩,
   ⟨3, 3, 8, 7, 0, .ro, false, 0, []⟩,
   ⟨4, 4, 32, 31, 0, .rc, false, 0, []⟩,
   ⟨5, 8, 32, 31, 0, .rc, false, 0, []⟩]

/-- Class 0x0B09 (R579). -/
def cls0B09 : List FieldDef :=
  [⟨0, 0, 8, 7, 0, .ro, false, 0, []⟩,
   ⟨1, 2, 16, 15, 0, .rw, true, 100, [(0, 100)]⟩,
   ⟨2, 4, 32, 31, 0, .ro, true, 0, []⟩,
   ⟨3, 8, 32, 31, 0, .ro, true, 0, []⟩,
   ⟨4, 12, 32, 31, 0, .ro, true, 0, []⟩,
   ⟨5, 16, 32, 31, 0, .ro, true, 0, []⟩,
   ⟨6, 20, 32, 31, 0, .ro, true, 0, []⟩]

/-- Class 0x1001 (R593). -/
def cls1001 : List FieldDef :=
  [⟨0, 0, 8, 7, 0, .ro, false, 0, []⟩,
   ⟨1, 1, 8, 7, 0, .ro, false, 255, []⟩,
   ⟨2, 4, 32, 31, 0, .ro, true, 0, []⟩,
   ⟨3, 8, 32, 31, 0, .ro, true, 0, []⟩,
   ⟨4, 12, 32, 31, 0, .ro, true, 0, []⟩,
   ⟨5, 16, 32, 31, 0, .ro, true, 0, []⟩,
   ⟨6, 20, 32, 31, 0, .ro, true, 0, []⟩,
   ⟨7, 24, 32, 31, 0, .ro, false, 0, []⟩,
   ⟨8, 28, 32, 31, 0, .ro, false, 0, []⟩,
   ⟨9, 32, 32, 31, 0, .ro, true, 0, []⟩]

/-- Class 0x0401 (R615). -/
def cls0401 : List FieldDef :=
  [⟨0, 0, 16, 15, 0, .rw, true, 3000, [(0, 20000)]⟩,
   ⟨1, 4, 32, 31, 0, .rc, false, 0, []⟩]

/-- Class 0x0B07 (R422). -/
def cls0B07 : List FieldDef :=
  [⟨0, 0, 32, 31, 0, .rw, true, 0, [(0, 1048575)]⟩]

/-- Class 0x0B08 (R423). -/
def cls0B08 : List FieldDef :=
  [⟨0, 0, 16, 15, 0, .rw, true, 10, []⟩,
   ⟨1, 2, 16, 15, 0, .rw, true, 60, []⟩,
   ⟨2, 4, 16, 15, 0, .rw, true, 120, []⟩,
   ⟨3, 6, 8, 7, 0, .rw, true, 1, [(1, 4)]⟩,
   ⟨4, 7, 8, 7, 0, .ro, false, 0, []⟩,
   ⟨5, 8, 32, 31, 0, .ro, false, 0, []⟩]

/-- Every object class of the module. -/
def classTable : List ClassDef :=
  [⟨0x0002, 1, 40, cls0002⟩, ⟨0x0202, 8, 52, cls0202⟩, ⟨0x0301, 256, 28, cls0301⟩, ⟨0x0303, 8, 20, cls0303⟩, ⟨0x0302, 8, 60, cls0302⟩, ⟨0x0201, 8, 64, cls0201⟩, ⟨0x0003, 64, 48, cls0003⟩, ⟨0x0004, 1, 36, cls0004⟩, ⟨0x0001, 1, 24, cls0001⟩, ⟨0x0501, 4, 36, cls0501⟩, ⟨0x0502, 1024, 64, cls0502⟩, ⟨0x0601, 8, 64, cls0601⟩] ++
  [⟨0x0602, 512, 68, cls0602⟩, ⟨0x0603, 32, 32, cls0603⟩, ⟨0x0702, 4, 68, cls0702⟩, ⟨0x0701, 32, 40, cls0701⟩, ⟨0x0704, 1, 20, cls0704⟩, ⟨0x0703, 8, 28, cls0703⟩, ⟨0x0801, 8, 72, cls0801⟩, ⟨0x0802, 8, 12, cls0802⟩, ⟨0x0803, 4, 32, cls0803⟩, ⟨0x0901, 16, 96, cls0901⟩, ⟨0x0902, 8, 36, cls0902⟩, ⟨0x0903, 4, 32, cls0903⟩] ++
  [⟨0x0A01, 256, 92, cls0A01⟩, ⟨0x0A02, 1024, 16, cls0A02⟩, ⟨0x0B01, 3, 32, cls0B01⟩, ⟨0x0B02, 32, 16, cls0B02⟩, ⟨0x0B05, 1, 36, cls0B05⟩, ⟨0x0B06, 65536, 36, cls0B06⟩, ⟨0x0B03, 4096, 16, cls0B03⟩, ⟨0x0B04, 4096, 16, cls0B04⟩, ⟨0x0C01, 1, 60, cls0C01⟩, ⟨0x0C02, 64, 24, cls0C02⟩, ⟨0x0D01, 1, 64, cls0D01⟩, ⟨0x0D02, 8, 44, cls0D02⟩] ++
  [⟨0x0E01, 1, 64, cls0E01⟩, ⟨0x0E02, 10, 16, cls0E02⟩, ⟨0x0101, 1, 40, cls0101⟩, ⟨0x0F01, 1, 32, cls0F01⟩, ⟨0x0F02, 8, 20, cls0F02⟩, ⟨0x0F03, 3, 12, cls0F03⟩, ⟨0x0B09, 1, 24, cls0B09⟩, ⟨0x1001, 1, 36, cls1001⟩, ⟨0x0401, 32, 8, cls0401⟩, ⟨0x0B07, 8, 4, cls0B07⟩, ⟨0x0B08, 256, 12, cls0B08⟩]

end Sys2Proof.Machine
end

