-- ==== Sys2Proof/Config.lean ====
section
/-! DEFINITION. What the manual leaves open: free values (constants without a body; the n-th free value taken is the value at n of
the state's counter, log 5) and the cryptography the module's secure element and verifier perform (log 6). -/
namespace Sys2Proof.Config

/-- Random values the module draws: session tags (R193), nonces (R557, R567). -/
opaque freeNat : Nat → Nat

/-- A result word an instruction leaves open. -/
opaque freeWord : Nat → BitVec 64

/-- clockClass, clockAccuracy and offsetScaledLogVariance the module announces of itself (R28); the manual gives none. -/
opaque gmQuality : Nat

/-- The ECDSA P-384 verification of a signature over a message, by the anchor the caller names (R553, R557, R567). -/
opaque ecdsaOk : List Nat → List Nat → Nat → Bool

/-- A DER certificate is ECDSA P-384 with SHA-384 (R553). -/
opaque certP384 : List Nat → Bool

/-- A DER certificate is a CA certificate (R581). -/
opaque certIsCa : List Nat → Bool

/-- A DER certificate is for the device's public key (R552). -/
opaque certForDevice : List Nat → Bool

/-- First 8 bytes of the SHA-256 of a certificate (R577). -/
opaque certPrint : List Nat → Nat

/-- The anchor fingerprint a DER chain, end entity first, ends at (R553). -/
opaque chainAnchor : List (List Nat) → Nat

/-- Fingerprints of the Rybrion factory and service anchors (R556). -/
opaque factoryAnchor : Nat

/-- The service anchor. -/
opaque serviceAnchor : Nat

/-- The device certificate chain, DER, end entity first (R551). -/
opaque deviceChain : List (List Nat)

/-- The check over bytes 0 to 63 of a frame (R83, FRAME_CHECK); the manual gives no polynomial. -/
opaque frameCheck : List Nat → Nat

/-- SHA-256 of a byte string, as a 256-bit number (R280 FILTER_HASH, R561). -/
opaque sha256 : List Nat → Nat

/-- MATRIX_HASH of a cause-and-effect matrix (R431); the manual names no hash. -/
opaque matrixHash : List (Nat × List Nat) → List (Nat × List Nat) → List (Nat × Nat) → Nat

/-- A native record after the change of its block's layout version: BLOCK_ID, old and new VERSION, old bytes (R163); the manual gives no table. -/
opaque convertBlock : Nat → Nat → Nat → List Nat → List Nat

end Sys2Proof.Config
end

