-- ==== Sys2Proof/Machine/Tab.lean ====
section
/-! DEFINITION. Reading and writing a sparse table with a default (log 4): keys strictly rising, no entry equal to what
an unlisted key reads as, so that equal contents are equal data. -/
namespace Sys2Proof.Machine

/-- The value at a key: the listed one, else the default. -/
def tget {α : Type} (d : Nat → α) : Table α → Nat → α
  | [], k => d k
  | (a, v) :: r, k => if a = k then v else tget d r k

/-- Drop the entry of a key. -/
def tdel {α : Type} : Table α → Nat → Table α
  | [], _ => []
  | (a, v) :: r, k => if a = k then tdel r k else (a, v) :: tdel r k

/-- Insert an entry at its place, replacing one of the same key. -/
def tins {α : Type} : Table α → Nat → α → Table α
  | [], k, w => [(k, w)]
  | (a, v) :: r, k, w =>
    if k < a then (k, w) :: (a, v) :: r
    else if a = k then (k, w) :: r
    else (a, v) :: tins r k w

/-- Write a value: an entry, or none where the value is the default. DESIGN CHOICE, log 4. -/
def tput {α : Type} [DecidableEq α] (d : Nat → α) (m : Table α) (k : Nat) (w : α) : Table α :=
  if w = d k then tdel m k else tins m k w

/-- Keys rise strictly from a bound on and no entry is at its default. -/
def twfFrom {α : Type} [DecidableEq α] (d : Nat → α) : Nat → Table α → Bool
  | _, [] => true
  | b, (a, v) :: r => decide (b ≤ a) && decide (v ≠ d a) && twfFrom d (a + 1) r

/-- The canonical form of a table. -/
def twf {α : Type} [DecidableEq α] (d : Nat → α) (m : Table α) : Bool := twfFrom d 0 m

/-- The values of a table of one-default units. -/
def ug {α : Type} (d : α) (m : Table α) (k : Nat) : α := tget (fun _ => d) m k

/-- Change one unit of a table. -/
def uset {α : Type} [DecidableEq α] (d : α) (m : Table α) (k : Nat) (f : α → α) : Table α :=
  tput (fun _ => d) m k (f (ug d m k))

end Sys2Proof.Machine
end

