-- ==== Sys2Proof/Machine/State.lean ====
section
/-! DEFINITION. The state of the block: every register, buffer, queue, counter, mode and timer the spec gives the module, as plain
data. Object fields (the spec's field maps) live in one table, objs; everything the spec names beside them has a field here. A field's
value in its structure's declaration is its value at reset; where the spec states none it is zero, empty or idle (log 3). -/
namespace Sys2Proof.Machine

/-- The reasons the block can stop. -/
inductive Fault
  /-- A command names a motor stage or the motor rail on a GZ-640-M0, which has neither (R1). No command
  of the table raises it: a motor-stage event is wired to a stage that exists, and a unit a message names and the module lacks is answered
  by a completion. Safe. -/
  | unitAbsent (unit : String)
deriving DecidableEq, Repr

/-- The reasons a command has no meaning. -/
inductive Refusal
  /-- The command's meaning has not been modelled. Raised by arms of exec only. Safe. -/
  | notModelled (mnemonic : String)
deriving DecidableEq, Repr

/-- The memory spaces of the module (spec/01, memories; R71; R171; R173). -/
inductive Space
  /-- Back input image of a partition (address p × 2^20 + slot). -/
  | back
  /-- Quality of the back input image of a partition. -/
  | backQ
  /-- Front input image of a partition (address p × 2^20 + slot). -/
  | front
  /-- Quality of the front input image of a partition. -/
  | frontQ
  /-- Working output image: output and internal points. -/
  | work
  /-- Publish copy of the output image, after Effects. -/
  | pub
  /-- Output quality of the publish copy. -/
  | pubQ
  /-- The value the last publication of an output slot carries, applied at the next Clapper; here, in its quality, in pub and pubQ, the copy
  Effects have prepared stands at 2^20 + slot until it is published. -/
  | next
  /-- Its output quality. -/
  | nextQ
  /-- The values applied at local latches and nodes. -/
  | applied
  /-- Commissioning-command values (R218). -/
  | comm
  /-- The value of the last publish copy sent while RUNNING, for FALLBACK HOLD (R173). -/
  | hold
  /-- Fallback preset table (R173). -/
  | preset
  /-- Point ownership table, one 24-bit entry a slot (R171). -/
  | own
  /-- Cross-partition buffer: the two latest copies of a published slot, half × 2^20 + slot (R175). -/
  | cross
  /-- Its translated quality; at (2 + p) × 2^20 + slot that of the copy partition p holds. -/
  | crossQ
  /-- Instance data, bytes (R170). -/
  | inst
  /-- Program banks: engine × 2^21 + instruction index (R68). -/
  | bank
  /-- Frame files, bytes: engine × 8192 + window × 512 + offset (R83). -/
  | frame
  /-- Retain image in MRAM, bytes by instance address (R542). -/
  | retain
  /-- The Larder of the stand-in, bytes: partition × 2^35 + region × 2^33 + offset in the region (R478, R481). -/
  | larder
  /-- Dirty-line bitmaps of the takes: partition × 2^36 + region × 2^32 + 64-byte line, 1 where the cycle wrote it (R474). -/
  | dirty
  /-- What the programs see, as of each partition's latest completed Publish (R217): partition × 2^20 + slot. -/
  | seen
  /-- Its input quality. -/
  | seenQ
deriving DecidableEq, Repr

/-- The number of a space. -/
def Space.idx : Space → Nat
  | .back => 0 | .backQ => 1 | .front => 2 | .frontQ => 3 | .work => 4 | .pub => 5 | .pubQ => 6 | .next => 7 | .nextQ => 8
  | .applied => 9 | .comm => 10 | .hold => 11 | .preset => 12 | .own => 13 | .cross => 14 | .crossQ => 15
  | .inst => 18 | .bank => 19 | .frame => 20 | .retain => 21 | .larder => 22
  | .dirty => 23 | .seen => 24 | .seenQ => 25

/-- The key of a cell: its space and its address in it (addresses below 2^40). -/
def Space.key (sp : Space) (a : Nat) : Nat := sp.idx * 2 ^ 40 + a % 2 ^ 40

/-- The memories of the module: cells that differ from their space's reset content, by rising key (log 4). -/
abbrev Ram := Table Nat

/-- What a cell reads as that nothing has written since reset: 0; in the input quality arrays BAD (0b11, R217: an unconfigured slot
reads 0 with quality BAD); in the output quality array FALLBACK (0b11, R179: a partition is STOPPED at reset) (log 4). -/
def ramInit (k : Nat) : Nat :=
  if k / 2 ^ 40 = 1 ∨ k / 2 ^ 40 = 3 ∨ k / 2 ^ 40 = 6 ∨ k / 2 ^ 40 = 8 ∨ k / 2 ^ 40 = 15 ∨ k / 2 ^ 40 = 25 then 3 else 0

/-- Bits of a cell, by its space's number: 16-bit slots, 2-bit qualities, 24-bit ownership entries, 32-bit instruction words, bytes, dirty
bits; a commissioning value is held plus 1 (0: none). -/
def bitsAt (i : Nat) : Nat :=
  if i = 1 ∨ i = 3 ∨ i = 6 ∨ i = 8 ∨ i = 15 ∨ i = 25 then 2
  else if i = 13 then 24
  else if i = 10 then 17
  else if i = 19 then 32
  else if i = 18 ∨ i = 20 ∨ i = 21 ∨ i = 22 then 8
  else if i = 23 then 1
  else 16

/-- The memories are in their canonical form: keys strictly rising, no entry at its reset content, every value within its cell. -/
def Memory.wf (r : Ram) : Bool := twf ramInit r && r.all (fun e => decide (e.2 < 2 ^ bitsAt (e.1 / 2 ^ 40)))

/-- One write to the memories. -/
inductive W
  /-- Write one cell. -/
  | put (sp : Space) (a v : Nat)
  /-- Return a whole space to its reset content. -/
  | clear (sp : Space)
deriving DecidableEq, Repr

/-- A type-length-value item of a ZCP message (R199). -/
structure Item where
  /-- Its type. -/
  ty : Nat
  /-- Its value bytes. -/
  val : List Nat
deriving DecidableEq, Repr

/-- A message or frame the block has sent on a DTLS connection: a reply or an event (R197, R207, R208). -/
structure OutMsg where
  conn : Nat
  event : Bool
  more : Bool
  replayed : Bool
  queue : Nat
  opcode : Nat
  tag : Nat
  seq : Nat
  status : Nat
  part : Nat
  deadline : Nat
  fields : List Item
  /-- Ports it went out on (R190). -/
  ports : List Nat := []
deriving DecidableEq, Repr

/-- A reply kept in a queue's cache (R203). -/
structure Cached where
  seq : Nat
  /-- The reply was sent, or none exists: a non-final fragment. -/
  final : Bool
  fragment : Bool
  opcode : Nat
  status : Nat
  part : Nat
  deadline : Nat
  fields : List Item
deriving DecidableEq, Repr

/-- An event held on a channel (R208, R209). -/
structure Ev where
  seq : Nat
  code : Nat
  status : Nat
  part : Nat
  gz : Nat
  fields : List Item
deriving DecidableEq, Repr

/-- An open fragment assembly of a queue (R206). -/
structure Asm where
  opcode : Nat
  part : Nat
  deadline : Nat
  /-- Index of the last fragment received. -/
  index : Nat
  lastSeq : Nat
  lastAt : Nat
  noReply : Bool
  bytes : List Nat
deriving DecidableEq, Repr

/-- A DTLS connection and the session on it (R191, R193, R194). -/
structure Conn where
  /-- 0 free, 1 handshaking, 2 established (R191). -/
  state : Nat := 0
  /-- Port it came in on (R190). -/
  port : Nat := 0
  /-- Instant of the ClientHello (R191). -/
  helloAt : Nat := 0
  /-- Host identity, the subject of the host's certificate (R193). -/
  identity : Nat := 0
  /-- Roles the chain's anchor grants, bits of R559. -/
  roleMask : Nat := 0
  /-- Queues the anchor grants (R560). -/
  queues : Nat := 0
  /-- Session tag, 0 while the connection has no session (R193). -/
  tag : Nat := 0
  /-- Role of the session (R559). -/
  role : Nat := 0
  /-- IDLE_S of the session (R194). -/
  idleS : Nat := 30
  /-- CLIENT_NAME bytes (R194). -/
  name : List Nat := []
  /-- The validity period of the host's chain went unchecked, GZ time not being valid (R553). -/
  unchecked : Bool := false
  /-- Instant of the last message that passed step 5 of the acceptance order (R193). -/
  lastAt : Nat := 0
deriving DecidableEq, Repr

/-- What a request brings beside its message: nothing, the package its load staged, whether the encoder answers. -/
inductive Extra
  | plain
  | pkg (k : Pkg)
  | present (b : Bool)
deriving DecidableEq, Repr

/-- An accepted request that waits for an earlier one of its queue to end (R204), with its session's role and its QUEUE_EPOCH. -/
structure Waiting where
  msg : Msg
  extra : Extra
  role : Nat
  epoch : Nat
deriving DecidableEq, Repr

/-- A command queue and its event channel (R195 to R212); its counters are the fields of object 0x0003.n. -/
structure Cq where
  /-- Connection whose session the queue is attached to (R196); 255 none. -/
  conn : Nat := 255
  /-- Identity of the session that last held the queue (R196). -/
  identity : Nat := 0
  /-- Requests accepted since the attach (bounds the duplicate window, R202). -/
  accepted : Nat := 0
  /-- Reply cache, oldest first, at most 32 (R203). -/
  cache : List Cached := []
  /-- Open fragment assembly (R206). -/
  asm : Option Asm := none
  /-- Request in execution whose reply is still to come, with the QUEUE_EPOCH it was accepted under (R204). -/
  running : Option (Msg × Nat) := none
  /-- Requests accepted behind it, oldest first (R204). -/
  waiting : List Waiting := []
  /-- Held events, oldest first, at most 256 (R209, R210). -/
  held : List Ev := []
  /-- Events not held since the EVENTS_LOST entry was made (R210). -/
  lost : Nat := 0
  /-- Held events already sent once. -/
  sentEv : Nat := 0
  /-- Instant of the last send or resend (R209). -/
  resentAt : Nat := 0
deriving DecidableEq, Repr

/-- A credit pool (R205), in credits per 10^9 (nanocredits). -/
structure Pool where
  /-- Content; none is full (R205: full after a MODULE reset). -/
  level : Option Nat := none
  /-- Instant of the last refill. -/
  since : Nat := 0
deriving DecidableEq, Repr

/-- The step of time being applied (R55, R56). -/
structure Stepping where
  before : Nat
  after : Nat
  size : Int
  /-- 0 grandmaster offset, 1 grandmaster change, 2 TIME_SET. -/
  cause : Nat
  /-- Partitions that have not re-phased. -/
  waiting : List Nat
  /-- Re-phased lengths of P0 to P7. -/
  lengths : List Nat
  /-- Queue and sequence of the TIME_SET, and the STEP_NS it announced. -/
  by_ : Option (Nat × Nat)
deriving DecidableEq, Repr

/-- Time: the time base, GZ time, the counters (R30 to R35). -/
structure TimeSt where
  /-- GZ time minus the time base, ns, where no slew runs. -/
  gzOff : Int := 0
  /-- Slew running (R54): the offset it removes, signed, and the instant it began. -/
  slew : Int := 0
  slewAt : Nat := 0
  /-- GZ time has been set by command, or received while LOCKED, since power-on (R30). -/
  received : Bool := false
  /-- Grandmasters heard announced in the domain of this module (R28, R30). -/
  heard : List Announce := []
  /-- logSyncInterval of the grandmaster followed, or this module's own (R28: −7 to 0, default −3). -/
  syncLog : Int := -3
  /-- Start of the operating second that runs (R33). -/
  secAt : Nat := 0
  /-- GZ time last saved to MRAM (R33). -/
  saved : Nat := 0
  /-- Instant of the last save. -/
  savedAt : Nat := 0
  /-- Operating seconds, 32 bits, MRAM (R33). -/
  opSeconds : Nat := 0
  /-- Power-cycle count, 32 bits, MRAM (R33). -/
  powerCycles : Nat := 0
  /-- Their limit record has been written once (R35): bit 0 operating seconds, bit 1 power cycles. -/
  limitSaid : Nat := 0
  /-- Instant the module last left LOCKED or GRANDMASTER (R30); none since power-on. -/
  leftAt : Option Nat := none
  /-- Consecutive sync intervals with the offset beyond ±100 ns (R30). -/
  outOfWin : Nat := 0
  /-- The next offset comes from a newly selected grandmaster (R56 cause 1). -/
  gmChanged : Bool := false
  /-- Step being applied (R55). -/
  stepping : Option Stepping := none
  /-- Module IDs heard announced in the plant: ID, device identity, instant last heard (R25). -/
  announcers : List (Nat × Nat × Nat) := []
deriving DecidableEq, Repr

/-- A state command waiting for the partition's Clapper (R183, R185). -/
structure PartCmd where
  /-- 0 cold start, 1 warm start, 2 halt, 3 stop. -/
  kind : Nat
deriving DecidableEq, Repr

/-- A fence plan of an engine or of a pair of engines (R93): where each task goes, which tasks are shed, and the solve clocks. -/
structure FencePlan where
  /-- Fenced engines, bit n = CEn. -/
  fenced : Nat
  /-- The plan faults the partition. -/
  faults : Bool
  /-- Ordered task lists: engine, task numbers. -/
  lists : List (Nat × List Nat)
  /-- Tasks shed. -/
  shed : List Nat
  /-- Solve clocks under the plan. -/
  sClk : Nat
  /-- Finish clocks of each engine. -/
  ceClk : List (Nat × Nat)
  /-- Release clocks of each barrier (R90). -/
  rel : List (Nat × Nat)
  /-- Participants of each barrier (R81): barrier, engines, bit n = CEn. -/
  parts : List (Nat × Nat)
deriving DecidableEq, Repr

/-- Where the loader has placed code in the banks (R68, R118). -/
structure CallSheet where
  /-- At the upper end of every bank; else at the lower one (R69). -/
  top : Bool := false
  /-- Call descriptor tables: engine, instruction index of the first descriptor, descriptors. -/
  tables : List (Nat × Nat × Nat) := []
  /-- Entries of the task bodies: engine, task, instruction index. -/
  entries : List (Nat × Nat × Nat) := []
deriving DecidableEq, Repr

/-- A partition's sequencer (spec/02, spec/06); its registers are the fields of objects 0x0201.p, 0x0202.p, 0x0303.p. -/
structure Part where
  /-- CYCLE_NUMBER, 64 bits (R37). -/
  cycle : Nat := 0
  /-- Instant of the last Clapper, on the time base. -/
  clapAt : Nat := 0
  /-- Instant Solve began in this cycle. -/
  solveAt : Nat := 0
  /-- A Clapper has been seen since reset. -/
  clapped : Bool := false
  /-- Length of the previous cycle in ns (R40). -/
  lastLen : Nat := 0
  /-- Previous cycle length differed from P (R40 TIME_FLAGS [4]). -/
  lenOff : Bool := false
  /-- Previous cycle was skipped by overrun (R40 TIME_FLAGS [5]). -/
  skipped : Bool := false
  /-- The next Clapper is re-phased (R55). -/
  rephase : Bool := false
  /-- Phase of the cycle: 0 idle, 1 gather, 2 solve, 3 effects to publish done. -/
  phase : Nat := 0
  /-- This cycle solves (R183: first Solve at the next Clapper after a start). -/
  solves : Bool := false
  /-- End of the last Publish (R55). -/
  pubEnd : Nat := 0
  /-- A Publish has run since the last Clapper (R55). -/
  published : Bool := false
  /-- CYCLE_NUMBER of the cycle whose Publish completed last (R217). -/
  pubCycle : Nat := 0
  /-- Publish withheld by an overrun: instant by which it must start (R51). -/
  withheld : Option Nat := none
  /-- The Clapper after an overrun samples but does not gather (R51). -/
  noGather : Bool := false
  /-- Start count, 32 bits, MRAM (R57). -/
  startCount : Nat := 0
  /-- State command pending (R185). -/
  cmd : Option PartCmd := none
  /-- Fence plan latched, effective at the next start of Solve (R94): fenced set. -/
  latched : Option Nat := none
  /-- Plan in force (R94): none the base placement. -/
  plan : Option FencePlan := none
  /-- Violation reports (R177): instant of the last; discarded writes and denied reads since it. -/
  vioAt : Option Nat := none
  vioWrites : Nat := 0
  vioReads : Nat := 0
  /-- Slots whose bound block a change dropped, at fallback in the next Publish (R164). -/
  dropped : List Nat := []
  /-- Copies in the cross-partition buffer, newest first, at most 2: VALID_FROM, half (R175). -/
  crossFrom : List (Nat × Nat) := []
  /-- A partition reset running: queue, sequence (R538). -/
  resetBy : Option (Nat × Nat) := none
  /-- Tasks whose engines have arrived at each barrier this cycle: barrier, engine mask (R81). -/
  barriers : List (Nat × Nat) := []
  /-- Barriers released this cycle (R81). -/
  released : List Nat := []
  /-- Cross-partition copies held: owner partition, VALID_FROM, instant of the latch (R175, R59); copies latched late. -/
  crossAt : List (Nat × Nat × Nat) := []
  crossLate : Nat := 0
deriving DecidableEq, Repr

/-- The memories a store buffer writes (R76): the working output image and instance data. -/
inductive Buffered
  | work
  | inst
deriving DecidableEq, Repr

/-- An entry of a store buffer (R76): a granule of 8 bytes, the bits stored, their mask. -/
structure SbEnt where
  /-- Memory of the granule. -/
  sp : Buffered
  /-- Granule number: slots in fours, bytes in eights. -/
  gran : Nat
  mask : BitVec 64
  data : BitVec 64
  /-- Clock in which the entry entered. -/
  entered : Nat
deriving DecidableEq, Repr

/-- A cycle engine (spec/03): Rung Processor, store buffer, frame ring; its counters are the fields of object 0x0302.c. -/
structure Engine where
  /-- ACC (1 bit). -/
  acc : Bool := false
  /-- WACC (64 bits). -/
  wacc : Word64 := 0#64
  /-- Branch stack, top first (32 entries of 1 bit). -/
  stack : List Bool := []
  /-- Program counter, instruction index in the bank (21 bits). -/
  pc : Nat := 0
  /-- Index that IDX applies to the next instruction, and the declared maximum (R116); none without a prefix. -/
  idx : Option (Nat × Nat) := none
  /-- Clocks since the start of Solve (R90). -/
  clk : Nat := 0
  /-- Store buffer, head first, at most 8 entries (R76). -/
  sb : List SbEnt := []
  /-- Clock at which the write port is free (R76). -/
  portFree : Nat := 0
  /-- 0 idle, 1 solving, 2 waiting at a barrier, 3 done with its Solve. -/
  run : Nat := 0
  /-- Task running. -/
  task : Nat := 0
  /-- Tasks still to run this Solve, in order. -/
  todo : List Nat := []
  /-- Live frames: nesting depth of the present frame plus 1; 0 between tasks (R83). -/
  frames : Nat := 0
  /-- Depth of the oldest frame still in a window (R84). -/
  oldest : Nat := 0
  /-- Barrier waited at, and the clock of arrival (R81). -/
  waitAt : Option (Nat × Nat) := none
  /-- Self-test slice running in idle time, its start (R92). -/
  slice : Nat := 0
  /-- Retest running: queue and sequence of its CE_RETEST, or of a partition reset (R98, R538). -/
  retest : Option (Option (Nat × Nat)) := none
deriving DecidableEq, Repr

/-- A record waiting in Rushes for its commit (R517): 64 bytes, SEQ, CHECK and VALID still open. -/
structure Rush where
  /-- Quota owner: 0 to 7 partitions, 8 system, 9 Safety Island (R518). -/
  owner : Nat
  /-- CLASS code: 1 Chronicle, 2 Cycle (R508). -/
  cls : Nat
  bytes : List Nat
  /-- Event channels of the RECORD_NOTICE due at its commit (R211). -/
  notice : List Nat
  /-- Last part of its chain (R513). -/
  last : Bool
deriving DecidableEq, Repr

/-- Losses of one owner and one cause not yet reported (R519). -/
structure Loss where
  owner : Nat
  cause : Nat
  chron : Nat
  cyc : Nat
  /-- GZ time of the first loss. -/
  first : Nat
deriving DecidableEq, Repr

/-- A recorder read window (R524). -/
structure Win where
  queue : Nat
  cls : Nat
  cursor : Nat
  owners : Nat
  lastAt : Nat
deriving DecidableEq, Repr

/-- The recorder (spec/17); its counters are the fields of objects 0x0E01.0 and 0x0E02.q. -/
structure Recorder where
  /-- Rushes, oldest first, at most 16,384 entries (R517). -/
  rushes : List Rush := []
  /-- Parts of a chain committed and not yet raised in a RECORD_NOTICE (R211). -/
  chain : List (List Nat) := []
  /-- Losses not yet reported (R519). -/
  losses : List Loss := []
  /-- Instant of the last lost-count record: owner × 4 + cause, instant (R519). -/
  lossAt : List (Nat × Nat) := []
  /-- Ingest counter and committed count, MRAM (R521). -/
  ingested : Nat := 0
  committed : Nat := 0
  /-- MRAM staging, oldest first: class, SEQ, record (R520). -/
  staging : List (Nat × Nat × List Nat) := []
  /-- Cellar of each class, by SEQ; class × 2^64 + SEQ (R520). -/
  cellar : List (Nat × List Nat) := []
  /-- Attic of each class, by SEQ; class × 2^64 + SEQ (R520). -/
  attic : List (Nat × List Nat) := []
  /-- Open read windows by handle 0 to 7 (R524). -/
  wins : List (Nat × Win) := []
  /-- Ingest is open (R521, R522). -/
  isOpen : Bool := false
  /-- Records raised in bring-up before ingest opens, at most 256 (R521). -/
  waiting : List (List Rush) := []
  /-- Records of bring-up beyond 256 (R521). -/
  overWait : Nat := 0
  /-- The 80 % wear record was written (R520). -/
  wearSaid : Bool := false
deriving DecidableEq, Repr

/-- What a presence window is open for (R561). -/
inductive Presence
  /-- MODE_SET to a mode (R548). -/
  | mode (target : Nat)
  /-- CERT_INSTALL (R581): kind, slot, data, use, role mask, queues. -/
  | cert (kind slot : Nat) (data : List Nat) (use roles queues : Nat)
  /-- LIFECYCLE_SET to a state (R558). -/
  | life (target : Nat)
  /-- DEBUG_AUTH for INTRUSIVE, with the connection that authenticated (R567). -/
  | debug (conn : Nat)
  /-- UPDATE_ACTIVATE of the open update (R585). -/
  | activate (raise : Bool) (force : Bool)
  /-- SLATE_CONFIRM (R463). -/
  | slate
deriving DecidableEq, Repr

/-- An open presence window (R561). -/
structure Window where
  what : Presence
  queue : Nat
  seq : Nat
  ends : Nat
deriving DecidableEq, Repr

/-- The progress of the hold-up wrap (R571). -/
structure Wrap where
  start : Nat
  step : Nat
  due : Nat
deriving DecidableEq, Repr

/-- Modes, resets, bring-up, power and front panel (spec/18, spec/19, spec/21). -/
structure Sys where
  /-- Bring-up step running, 1 to 8; 0 none (R543). -/
  bringup : Nat := 1
  /-- Instant bring-up began at the step the reset named. -/
  bringupAt : Nat := 0
  /-- Start of the present bring-up step. -/
  stepAt : Nat := 0
  /-- Both supervisor images failed to boot: bring-up stands at step 4 (R543). -/
  bootFailed : Bool := false
  /-- Safe-halt cause that mode entry will take: 0 none, 4 configuration check, 5 memory test (R543). -/
  haltAtEntry : Nat := 0
  /-- Open presence window (R561). -/
  window : Option Window := none
  /-- Commanded MODULE reset pending: due instant and cause (R549, R557). -/
  resetDue : Option (Nat × Nat) := none
  /-- Lifecycle state to take at the pending reset (R557). -/
  lifeNext : Option Nat := none
  /-- The new lifecycle state is to be announced at the end of bring-up (R558). -/
  lifeSay : Bool := false
  /-- Superseded: the module demotes at its next Clapper (R494). -/
  demoting : Bool := false
  /-- Instant of the last supervisor watchdog expiry (R536). -/
  wdAt : Option Nat := none
  /-- Supervisor restarting since (R536). -/
  restarting : Option Nat := none
  /-- Operating-seconds stamps and causes of the last 8 MODULE-scope resets, newest first, MRAM (R541). -/
  storm : List (Nat × Nat) := []
  /-- Retain image valid, its program identity, its CYCLE_NUMBERs, and whether it is the one of the last stop (R542). -/
  imageOk : Bool := false
  imageProg : Nat := 0
  imageCycles : List Nat := []
  imageFresh : Bool := false
  imageSaved : Bool := false
  /-- Partitions whose first cold start after bring-up has happened (R542), bit p. -/
  restored : Nat := 0
  /-- Blocks quiesced: block, end of the 10 s period (R540). -/
  quiesced : List (Nat × Nat) := []
  /-- Blocks quiescing: block, start, queue, sequence (R550). -/
  quiescing : List (Nat × Nat × Nat × Nat) := []
  /-- Blocks whose fabric port hangs (R539, R540). -/
  hung : List Nat := []
  /-- BLOCK resets running (R539): block, FORCE on an unquiesced block, the RESET message owed its reply. -/
  resetting : List (Nat × Bool × Msg) := []
  /-- A module-level fault is present (R532): faulted unit. -/
  unitFault : Option Nat := none
  /-- Mains present (R570). -/
  mains : Bool := false
  /-- Instant mains was declared lost (R570). -/
  lostAt : Option Nat := none
  /-- The wrap (R571). -/
  wrap : Option Wrap := none
  /-- Logic supply off (power state OFF, R568). -/
  off : Bool := true
  /-- In STAND-IN since (R569). -/
  standSince : Option Nat := none
  /-- In LOW since (R569, LOW_S). -/
  lowSince : Option Nat := none
  /-- Identification ends (R608). -/
  identify : Option Nat := none
  /-- Display page, 1 to 10 (R607). -/
  page : Nat := 1
  /-- Instant of the last key press (R607). -/
  keyAt : Nat := 0
  /-- End of the latest load window (R220). -/
  loadAt : Nat := 0
  /-- Windows of SUP_LOAD at 90 % or more, and at 70 % or less, since the last stage change (R220). -/
  hiLoads : Nat := 0
  loLoads : Nat := 0
  /-- Online change verified and waiting for a cycle boundary (R166). -/
  change : Option Pkg := none
  /-- Online change that the stand-in is to verify before it switches, and the queue of its CHANGE_COMMIT (R499). -/
  changeAsk : Option (Pkg × Nat) := none
  /-- CLIENT_NAME of the session whose request is in execution (R194). -/
  client : List Nat := []
  /-- MODULE_ID written and not yet in force: the new ID, the partitions whose Clapper is still to come (R222). -/
  idNext : Option (Nat × List Nat) := none
  /-- In force since the last MODULE reset: PUB_ETHERTYPE, PAIR_ETHERTYPE (R222), ZCP_PORT, ADDR_MODE, PREFIX_LEN, STATIC_ADDR (R221). -/
  pubType : Nat := 0x88B6
  pairType : Nat := 0x88B7
  udpPort : Nat := 47230
  addrMode : Nat := 1
  prefixLen : Nat := 64
  staticAddr : Nat := 0
deriving DecidableEq, Repr

/-- Security and debug (spec/19); its registers are the fields of objects 0x0F01.0, 0x0F02.k and 0x0F03.n. -/
structure Sec where
  /-- Owner certificate, DER bytes (R552). -/
  ownerCert : List Nat := []
  /-- Owner anchor certificates by slot (R577). -/
  anchors : List (Nat × List Nat) := []
  /-- Pre-shared CAKs by port 0, 1 (R562, R581). -/
  caks : List (Nat × List Nat) := []
  /-- Debug nonce: value, instant issued (R567); none when used or not issued. -/
  nonce : Option (Nat × Nat) := none
  /-- Instants of AUTH_FAILED replies of DEBUG_AUTH, newest first (R567). -/
  fails : List Nat := []
  /-- DEBUG_AUTH blocked until (R567). -/
  blocked : Option Nat := none
  /-- End of the debug lease (R565). -/
  leaseEnd : Option Nat := none
  /-- Connection whose session authenticated debug (R565). -/
  debugConn : Nat := 255
  /-- Instant of the last SAK of each port (R562). -/
  sakAt : List (Nat × Nat) := []
deriving DecidableEq, Repr

/-- An open update (R583). -/
structure Update where
  target : Nat
  index : Nat
  size : Nat
  serial : Nat
  /-- Image bytes received so far. -/
  data : List Nat
  /-- Verified. -/
  verified : Bool
  version : Nat
  restartMs : Nat
  vendor : Nat
  product : Nat
  queue : Nat
  tag : Nat
  lastAt : Nat
deriving DecidableEq, Repr

/-- An activation running (R585): target, index, queue, sequence, deadline, RAISE_FLOOR. -/
structure Activation where
  target : Nat
  index : Nat
  queue : Nat
  seq : Nat
  start : Nat
  raise : Bool
  version : Nat
  /-- A node image: MANAGE has gone out at the owner's Clapper (R586). -/
  sent : Bool
deriving DecidableEq, Repr

/-- The supervisor trial (R587). -/
structure Trial where
  ends : Nat
  raise : Bool
  previous : Nat
  version : Nat
deriving DecidableEq, Repr

/-- Service: updates, calibration, cartridge replacement, configuration loads (spec/20). -/
structure Service where
  /-- Open update (R583). -/
  update : Option Update := none
  /-- Activation running (R585). -/
  activation : Option Activation := none
  /-- Supervisor trial (R587). -/
  trial : Option Trial := none
  /-- Fused minimum versions by target, NV (R554, R587). -/
  floors : List (Nat × Nat) := []
  /-- Raises of the fused minimum used, of 64, NV (R554). -/
  raises : Nat := 0
  /-- Readings latched UNCERTAIN by a calibration: kind, unit, until (R590). -/
  calUnc : Option (Nat × Nat × Nat) := none
  /-- The inactive store of a target holds a partial image marked invalid (R583): targets. -/
  partialOf : List Nat := []
  /-- Calibration running: kind, unit, queue, sequence, end (R590). -/
  calib : Option (Nat × Nat × Nat × Nat × Nat) := none
  /-- Stored corrections of the converters, NV: kind × 16 + unit, offset (0.001 % FS), gain (ppm) (R590). -/
  corr : List (Nat × Int × Int) := []
  /-- Cartridge replacement window: queue and sequence of the command (none without one), end (R589). -/
  cartWin : Option (Option (Nat × Nat) × Nat) := none
  /-- Cartridge fitted, its serial number, isolated (R589). -/
  cartIn : Bool := true
  cartSerial : Nat := 0
  cartFault : Bool := false
  /-- Open configuration load: kind, SIZE, bytes received, queue, instant of the last data (R588). -/
  load : Option (Nat × Nat × List Nat × Nat × Nat) := none
deriving DecidableEq, Repr

/-- A publication of a list (R56, R57): START_COUNT, CYCLE_NUMBER, VALID_FROM, arrival instant; entries: index, value, quality. -/
structure PlantSet where
  start : Nat
  cycle : Nat
  valid : Nat
  at_ : Nat
  values : List (Nat × Nat × Nat)
deriving DecidableEq, Repr

/-- What a subscriber holds of one publication list (R57 to R59). -/
structure SubSet where
  /-- Set being assembled: fragments received by index, index of the LAST fragment. -/
  asm : Option (PlantSet × List Nat × Option Nat) := none
  /-- Complete sets that wait for their Clapper, newest first. -/
  ready : List PlantSet := []
  /-- The set latched last, the instant of its latch. -/
  last : Option (PlantSet × Nat) := none
  /-- Sets latched late under R59. -/
  late : Nat := 0
  /-- A hash mismatch or an absence marks the points BAD (R57, R59). -/
  bad : Bool := true
  /-- The mismatch has its record. -/
  mismatch : Bool := false
deriving DecidableEq, Repr
/-- What the trunk controller holds of a place (R245 to R248). -/
structure PlaceSt where
  /-- MAC address recorded at assignment. -/
  mac : Nat := 0
  /-- Flags byte of the latest INPUT frame. -/
  flags : Nat := 0
  /-- A frame has been latched for this Clapper. -/
  got : Bool := false
  /-- That copy came in on port B. -/
  viaB : Bool := false
  /-- STALE_HEARD since the previous Clapper. -/
  stale : Bool := false
  /-- Consecutive missing frames, saturating at 255. -/
  missed : Nat := 255
  /-- Assignment awaiting confirmation: queue, sequence, opcode, start. -/
  confirm : Option (Nat × Nat × Nat × Nat) := none
  /-- Instant of the last stale-node and wrong-trunk records (R248: one a minute). -/
  staleAt : Option Nat := none
  wrongAt : Option Nat := none
  /-- Latest diagnostic block the node sent (R252). -/
  diag : List Nat := []
deriving DecidableEq, Repr

/-- What the trunk controller holds of a trunk. -/
structure TrunkSt where
  /-- Discovery running: queue, sequence, start. -/
  disc : Option (Nat × Nat × Nat) := none
  /-- Nodes heard by IDENTITY frames. -/
  heard : List NodeId := []
  /-- MAC addresses being disowned (R248). -/
  disown : List Nat := []
deriving DecidableEq, Repr

/-- A frame for a field port, the plant network or PAIR, beside the process outputs. -/
structure Frame where
  /-- 0 to 3 trunk, 4 to 7 its port B, 8 to 15 segment, 16 NET-A, 17 NET-B, 20 PAIR. -/
  port : Nat
  /-- Kind: on a trunk the TYPE of R235 (0x8 DISCOVER, 0xA MANAGE: 1 assign, 2 disown as the first body number, 0x5 SAFETY_ACK). -/
  kind : Nat
  /-- Destination: MAC address, place or node. -/
  dest : Nat
  body : List Nat
deriving DecidableEq, Repr

/-- A frame the module has sent: its EtherType (0 on a segment), and on a segment its format and, of an XL frame, AF, SDT and VCID. -/
structure Wire extends Frame where
  ether : Nat
  bus : List Nat
deriving DecidableEq, Repr

/-- What the segment controller holds of a node (R268 to R269). -/
structure NodeSt where
  /-- TOGGLE of the last frame latched. -/
  toggle : Option Nat := none
  /-- Header word of the latest input frame (R259). -/
  header : Nat := 0
  /-- A frame has been latched for this Clapper. -/
  got : Bool := false
  /-- A JOIN was refused since the previous Clapper (R260). -/
  refused : Bool := false
  /-- Consecutive missing frames, saturating at 255. -/
  missed : Nat := 255
  /-- Instant of the last event frame (R266). -/
  eventAt : Option Nat := none
  /-- Instant of the last stale-JOIN record (R269: one a minute). -/
  staleAt : Option Nat := none
deriving DecidableEq, Repr

/-- A host frame in a transmit queue (R275, R283). -/
structure TxFrame where
  handle : Nat
  queue : Nat
  seq : Nat
  /-- Owner of its queue: partition, or 0xFF. -/
  owner : Nat
  ident : Nat
  ext : Bool
  fmt : Nat
  af : Nat
  vcid : Nat
  data : List Nat
  retries : Nat
deriving DecidableEq, Repr

/-- What a segment controller holds (spec/09). -/
structure SegSt where
  /-- Filter program in force, three words an instruction; the one before it, and the instant of the change (R273). -/
  prog : List (Nat × Nat × Nat) := []
  progOld : List (Nat × Nat × Nat) := []
  progAt : Nat := 0
  /-- The 16 counters of the filter program (R272). -/
  counters : List (Nat × Nat) := []
  /-- Copied slots: slot, value, instant of the copy (R274). -/
  copies : List (Nat × Nat × Nat) := []
  /-- Batches of routed frames: route, channel, FRAME items (R272). -/
  batches : List (Nat × Nat × List Item) := []
  /-- Transmit queue, in order of acceptance (R275). -/
  tx : List TxFrame := []
  /-- Handle of the frame in arbitration or transmission (R276). -/
  flying : Option Nat := none
  /-- Handles given so far, and the queue of each (R284). -/
  issued : List (Nat × Nat) := []
  /-- Instants of the frames started in the last second (R275 TX_RATE). -/
  starts : List Nat := []
  /-- Instant of the last reference frame (R261). -/
  refAt : Nat := 0
  /-- LOAD_PCT exceeds 70 (R266). -/
  overload : Bool := false
  /-- Instant of the latest measurement of its load. -/
  loadAt : Nat := 0
  /-- Gate violations and over-rate events not yet recorded, instant of the last record (R266). -/
  vio : Nat := 0
  vioAt : Option Nat := none
  /-- Frames that carried a higher epoch; stale JOINs (R268, R269). -/
  epochHeard : Nat := 0
  staleHeard : Nat := 0
  /-- Serial numbers reported by SEG_NODE_FOUND (R269). -/
  found : List Nat := []
  /-- Rate detection running: queue, sequence, STATE before (R278). -/
  listen : Option (Nat × Nat × Nat) := none
deriving DecidableEq, Repr

/-- A start entry of a rail's queue (R404). -/
structure Entry where
  prio : Nat
  cycle : Nat
  /-- Instant of its Clapper. -/
  at_ : Nat
deriving DecidableEq, Repr

/-- What LSTART reports of a channel, latched at its owner's Clapper (R156). -/
structure LcRep where
  inhibited : Bool := false
  guarded : Bool := false
  shed : Bool := false
  on : Bool := false
  granted : Bool := false
  queued : Bool := false
  waitUs : Nat := 0
  starts : Nat := 0
deriving DecidableEq, Repr

/-- A load channel: its output stage, its controller's and the power manager's state of it (spec/10, R403 to R409). -/
structure LcSt where
  /-- Output stage on (R287). -/
  on : Bool := false
  /-- Value and source applied at the owner's Clapper: 0 program, 1 effect, 5 fallback (R16, R179, R289). -/
  prog : Bool := false
  src : Nat := 5
  /-- Claimed value followed so far. -/
  claim : Bool := false
  /-- Held off by the Safety Island; inhibited by a traction binding (R18). -/
  isl : Bool := false
  trac : Bool := false
  /-- Limp-home: 0 not engaged, 1 by LIMP_FORCE alone, 2 with the alive signal absent (R310, R312). -/
  limp : Nat := 0
  /-- Instant of switch-on. -/
  onAt : Nat := 0
  /-- Taken as admitted at a release of limp-home: charged RUN_MA (R312). -/
  flat : Bool := false
  /-- Profile taken at switch-on (R296): code, segments as end time in µs and multiple in 1/16; segment running. -/
  profile : Nat := 0
  segs : List (Nat × Nat) := []
  seg : Nat := 0
  /-- Instant of the latest trip; junction not yet below 150 °C after THERMAL. -/
  tripAt : Option Nat := none
  hot : Bool := false
  /-- The first switch-on after an auto-restart trip counts (R297); instants of the returns in the rolling 60 s. -/
  owed : Bool := false
  autos : List Nat := []
  /-- Earliest return after RAIL_UV: T_r + i × 1 ms (R298). -/
  uvAt : Option Nat := none
  /-- Energy missing from the clamp bucket, nJ, at an instant (R299). -/
  used : Nat := 0
  usedAt : Nat := 0
  /-- Off-state diagnosis: 0 load present or none, 1 OPEN_LOAD, 2 SHORT_TO_RAIL (R300). -/
  diag : Nat := 0
  /-- Current limit active, as the channel's circuit reports. -/
  limiting : Bool := false
  /-- Samples since the owner's Clapper: current, voltage, temperature sums, number; the means last latched; latest temperature. -/
  sumI : Nat := 0
  sumV : Int := 0
  sumT : Int := 0
  num : Nat := 0
  meanI : Nat := 0
  meanV : Int := 0
  meanT : Int := 0
  temp : Int := 0
  /-- Highest CURRENT reading during the profile (R516). -/
  peak : Nat := 0
  /-- Records and events limited to one a second (R303): cause, instant of the last, count since. -/
  said : List (Nat × Nat × Nat) := []
  /-- Start entry waiting (R404). -/
  entry : Option Entry := none
  /-- Admitted: RUN_MA is charged (R403). -/
  admitted : Bool := false
  /-- Start whose record is open: priority, source, wait in µs (R516). -/
  started : Option (Nat × Nat × Nat) := none
  /-- Held off by the shed stage; claim seen off at a Clapper since (R408, R409). -/
  shed : Bool := false
  seenOff : Bool := false
  /-- PRIO of the LSTART block that drives the channel (R404). -/
  prio : Option Nat := none
  /-- Admitted starts (R155). -/
  starts : Nat := 0
  rep : LcRep := {}
deriving DecidableEq, Repr

/-- A load-channel controller: 0 for FA (LC0 to LC15), 1 for FB (R286, R308 to R313). -/
structure CtlSt where
  /-- Its rail is at 10 V or more. -/
  powered : Bool := true
  /-- Its rail is in undervoltage (R290). -/
  uv : Bool := false
  /-- Alive signal: 0 present, 1 absent for 2 ms, 2 absent for 50 ms (R310). -/
  alive : Nat := 0
  /-- Limp map in force, header and 32 entries, and the other copy (R308). -/
  map : List Nat := List.replicate 33 0
  copy : List Nat := List.replicate 33 0
  /-- Engaged since. -/
  since : Option Nat := none
  /-- Since the last controller record: engagements, ns engaged, trips, channel and PRIMARY of the latest (R313). -/
  engages : Nat := 0
  engagedNs : Nat := 0
  trips : Nat := 0
  lastCh : Nat := 0
  lastPrim : Nat := 0
deriving DecidableEq, Repr

/-- A loop output (R315 to R319). -/
structure LoSt where
  /-- Target in 0.5 µA units, 0 disabled; clamped; a fault flag decides it; source applied. -/
  target : Nat := 0
  clamped : Bool := false
  faulted : Bool := false
  src : Nat := 5
  /-- Current driven, in 10^-6 of 0.5 µA: the target trimmed (R319). -/
  drive : Int := 0
  brk : Bool := false
  compliance : Bool := false
  /-- Means latched at the owner's Clapper. -/
  readback : Nat := 0
  termV : Int := 0
deriving DecidableEq, Repr

/-- A feedback port (R325 to R334). -/
structure EpSt where
  /-- The counter C (R327). -/
  c : Int := 0
  refLost : Bool := true
  /-- Accepted levels. -/
  a : Bool := false
  b : Bool := false
  z : Bool := false
  /-- Instant of the last change of B, and the level before it (R325 STEP_DIR). -/
  bAt : Nat := 0
  bOld : Bool := false
  /-- Direction of the latest counted edge: 0 up, 1 down. -/
  dir : Nat := 0
  /-- Instants of the latest counted edge, and of the one before. -/
  edgeAt : Option Nat := none
  /-- Interval between the last two counted edges where R329 allows it. -/
  te : Option Nat := none
  /-- The next counted edge ends no valid interval (R329). -/
  void : Bool := false
  /-- SPEED is held at 0 (R329). -/
  speedVoid : Bool := true
  standstill : Bool := false
  /-- Counting mode at the previous Clapper (R328), C at that Clapper. -/
  counting : Bool := false
  cPrev : Int := 0
  indexPos : Nat := 0
  /-- Since the previous Clapper: index, count error, Hall skip (R324). -/
  indexSeen : Bool := false
  countErr : Bool := false
  hallSkip : Bool := false
  /-- Present Hall code, last valid one, instant of entry to an invalid one (R326). -/
  hall : Nat := 0
  hallValid : Nat := 0
  hallBadAt : Option Nat := none
  /-- ERRORS slot (R323). -/
  errors : Nat := 0
  /-- Instants of count errors and of Hall errors within 1 s (R341). -/
  errAt : List Nat := []
  hallErrAt : List Nat := []
  lineFault : Bool := false
  supplyFault : Bool := false
  /-- Absolute modes: last good reading, C before it, its sample instant, consecutive failures, warning flag (R330 to R333). -/
  reading : Option Nat := none
  cOld : Int := 0
  sampleAt : Nat := 0
  fails : Nat := 0
  warning : Bool := false
  /-- C by instant within the last 1 ms, newest first (R350 MASTER_VEL). -/
  hist : List (Nat × Int) := []
  /-- Armed preset: WHEN (1 or 2), value of C, queue and sequence (R346). -/
  preset : Option (Nat × Int × Nat × Nat) := none
  /-- Records and events limited to one a second (R342): cause, instant. -/
  said : List (Nat × Nat) := []
deriving DecidableEq, Repr

/-- A probe (R335 to R337). -/
structure PrSt where
  /-- CTRL applied. -/
  ctrl : Nat := 0
  armed : Bool := false
  level : Bool := false
  /-- Latest latch: C, instant. -/
  latch : Option (Int × Nat) := none
  /-- Latches since the previous Clapper; LATCH_COUNT. -/
  since : Nat := 0
  count : Nat := 0
deriving DecidableEq, Repr

/-- An emulation output (R338 to R340). -/
structure EmSt where
  /-- Quadrature position E. -/
  e : Int := 0
  /-- Quadrature state of the levels, 0 to 3, and Z. -/
  phase : Nat := 0
  z : Bool := false
  edgeAt : Option Nat := none
  overspeed : Bool := false
  /-- Instant of the last reduction of the backlog. -/
  lostAt : Option Nat := none
  /-- Source lost; re-base when it returns. -/
  lost : Bool := false
deriving DecidableEq, Repr

/-- A stretch of a profile at constant acceleration (R352): start speed in 10^-6 steps/s, acceleration in steps/s², duration in ps,
length in 10^-18 steps. -/
structure PSeg where
  v0 : Nat
  acc : Int
  dur : Nat
  len : Nat
deriving DecidableEq, Repr

/-- A stretch of motion in one direction: exact start position in 10^-18 steps, direction, its segments. -/
structure Leg where
  x0 : Int
  up : Bool
  segs : List PSeg
deriving DecidableEq, Repr

/-- A record of a running axis request (R515). -/
structure MoveRec where
  mode : Nat
  seq : Nat
  startAt : Nat
  startPos : Int
  peakV : Nat
  peakMa : Nat
  angle : Option Int
deriving DecidableEq, Repr

/-- An axis (spec/12). -/
structure AxSt where
  /-- CMD_POS at rest, or where the latest plan ended. -/
  pos : Int := 0
  /-- Motion planned, from an instant in ns (R352 to R354); its final position, where it has one. -/
  plan : List Leg := []
  planAt : Nat := 0
  goal : Option Int := none
  /-- What runs: 0 none, 1 move, 2 velocity, 3 normal stop, 4 fallback stop, 5 quick stop, 6 stopped immediately (R355). -/
  kind : Nat := 0
  /-- Mode 2: instant at which the speed is reached. -/
  speedAt : Nat := 0
  /-- SEQ last written in REQ; ACK word (R348). -/
  seq : Nat := 0
  ack : Nat := 0
  busy : Bool := false
  done : Bool := false
  aborted : Bool := false
  refLost : Bool := true
  stall : Bool := false
  limPos : Bool := false
  limNeg : Bool := false
  following : Bool := false
  /-- Held by the Safety Island, a traction binding, cause-and-effect; the program source is the fallback (R16). -/
  isl : Bool := false
  trac : Bool := false
  ce : Bool := false
  fell : Bool := true
  /-- Drive switched off by a door row (R380 DRIVE_OP 5). -/
  off : Bool := false
  /-- A brake test runs on it (R453). -/
  test : Bool := false
  /-- Instant of the latest step edge. -/
  stepAt : Nat := 0
  /-- Direction output. -/
  dirUp : Bool := true
  /-- Measured by the motor stage: load angle, phase current. -/
  angle : Option Int := none
  ma : Nat := 0
  /-- Request whose record is open. -/
  run : Option MoveRec := none
deriving DecidableEq, Repr

/-- A gear group (R363 to R368). -/
structure GgSt where
  /-- 0 idle, 1 synchronising, 2 engaged, 3 running down. -/
  state : Nat := 0
  engage : Bool := false
  seq : Nat := 0
  /-- Ratio in force or stored. -/
  num : Int := 1
  den : Nat := 1
  m0 : Int := 0
  /-- S0 of each member; members that have left. -/
  s0 : List (Nat × Int) := []
  left : Nat := 0
  /-- Splice armed: ratio, position, and whether M stood below it (R366). -/
  splice : Option (Int × Nat × Int × Bool) := none
  spliceDone : Bool := false
  masterLost : Bool := false
  refused : Bool := false
  reason : Nat := 0
  /-- Virtual master: position in 10^-18 counts and speed in 10^-6 counts/s at an instant, target speed. -/
  vmX : Int := 0
  vmV : Int := 0
  vmAt : Nat := 0
  vmTo : Int := 0
  /-- Run-down: start, M and speed then, T in ns (R367). -/
  downAt : Nat := 0
  downM : Int := 0
  downV : Int := 0
  downT : Nat := 0
  /-- Held by cause-and-effect, by a traction binding; source fallback. -/
  ce : Bool := false
  trac : Bool := false
  fell : Bool := true
deriving DecidableEq, Repr

/-- A motor stage (R359, R360). -/
structure MsSt where
  /-- The fault's condition has cleared; the fault clears at the next accepted request. -/
  clearable : Bool := false
  /-- Instant of the fault. -/
  faultAt : Nat := 0
deriving DecidableEq, Repr

/-- An open door cycle (R396). -/
structure CycSt where
  maxStep : Nat := 0
  methods : Nat := 0
  /-- ns in OPENING, OPEN, CLOSING. -/
  opening : Nat := 0
  open_ : Nat := 0
  closing : Nat := 0
  peakMa : Nat := 0
  margin : Option Int := none
  obstPos : Option Int := none
  reversals : Nat := 0
deriving DecidableEq, Repr

/-- A learn running (R400). -/
structure LearnSt where
  queue : Nat
  seq : Nat
  /-- Runs still to begin after the present one. -/
  left : Nat
  /-- The present run opens, or closes. -/
  up : Bool
  /-- Highest current found so far at each position: opening, position, mA. -/
  samples : List (Bool × Int × Nat)
  /-- End positions of opening and of closing. -/
  opens : List Int
  closes : List Int
  /-- How it ended: 0 success, else FAIL_CAUSE. -/
  result : Option Nat
deriving DecidableEq, Repr

/-- A door, as the door engine holds it (spec/13); the rest are fields of object 0x0A01. -/
structure DoorSt where
  /-- Bytes of the table the present sequence runs from (R385); entry to run after a reference sequence (R382). -/
  board : List Nat := []
  next_ : Option Nat := none
  /-- Row timer start (R381). -/
  rowAt : Nat := 0
  /-- SEQ last written in CMD; ACK word; instant the command was taken (R375). -/
  seq : Nat := 0
  ack : Nat := 0
  cmdAt : Option Nat := none
  /-- Inputs active at the last tick, bit i DINi; those of points from 0x00100 on, as the image swap left them (R377). -/
  din : Nat := 0
  far : Nat := 0
  /-- OUT0 to OUT3; since when OUT0 is on with DIN5 inactive, OUT1 with DIN4 inactive (R384). -/
  outs : Nat := 0
  depAt : Option Nat := none
  stowAt : Option Nat := none
  stepFault : Bool := false
  /-- Consecutive ticks with DIN0 and DIN1 both active (R388). -/
  both : Nat := 0
  /-- Drive: instant of the latest request, direction of a load-channel drive (0 off, 1 opening, 2 closing) and its target. -/
  reqAt : Nat := 0
  run : Nat := 0
  target : Int := 0
  /-- Axis stall, stage fault or abort already seen (R388). -/
  stallSeen : Bool := false
  abortSeen : Bool := false
  /-- Held by a higher source (R389). -/
  inhibited : Bool := false
  /-- Obstacle methods: samples above threshold in a row; start of a speed drop; drive positions of the last ms, newest first. -/
  over_ : Nat := 0
  slowAt : Option Nat := none
  hist : List (Nat × Int) := []
  /-- Entry to run when the drive has stopped after an obstacle (R387): 3 ENTRY_REVERSE, 2 ENTRY_STOP; instants of obstacle and fault. -/
  pend : Option Nat := none
  obstAt : Option Nat := none
  faultAt : Option Nat := none
  /-- OBSTACLE flag of STATUS. -/
  obst : Bool := false
  /-- DOOR_OBSTACLE raised at; obstacles since. -/
  saidAt : Option Nat := none
  said : Nat := 0
  /-- Its program source has fallen back since; the action is due (R395). -/
  fell : Bool := false
  fallAt : Option Nat := none
  /-- Learned profile, MRAM: 64 bins opening, 64 closing. -/
  profile : List Nat := []
  learn : Option LearnSt := none
  /-- Instant of the last change of DOOR_STATE; open cycle (R396). -/
  stateAt : Nat := 0
  cyc : Option CycSt := none
deriving DecidableEq, Repr

/-- An alarm (R417 to R419); its STATE is a field of object 0x0B06. -/
structure AlSt where
  /-- Raw condition, its value, the acknowledge toggle last sent. -/
  raw : Bool := false
  value : Int := 0
  tog : Bool := false
  /-- Condition after the trip, since. -/
  cond : Bool := false
  condAt : Nat := 0
  /-- Condition after the delays. -/
  active : Bool := false
  /-- An acknowledgement waits for the owner's Clapper. -/
  ack : Bool := false
  /-- Shelved: start, end. -/
  shelf : Option (Nat × Nat) := none
  /-- Suppressed by flood; the SUPPRESS bit at the last evaluation. -/
  flood : Bool := false
  sup : Bool := false
deriving DecidableEq, Repr

/-- A flood group (R420). -/
structure FloodSt where
  /-- Instants at which alarms of the group entered UNACK. -/
  entries : List Nat := []
  /-- Start of the flood. -/
  began : Nat := 0
deriving DecidableEq, Repr

/-- A cause-and-effect matrix (R425, R426). -/
structure Matrix where
  causes : List (Nat × List Nat) := []
  effects : List (Nat × List Nat) := []
  /-- Intersections: cause, effect. -/
  inters : List (Nat × Nat) := []
deriving DecidableEq, Repr

/-- An effect (R428, R429). -/
structure EffSt where
  /-- Its vote has held since. -/
  since : Option Nat := none
  active : Bool := false
deriving DecidableEq, Repr

/-- The hold-up gauge (R410 to R412). -/
structure GaugeSt where
  /-- An impedance test runs; instant of the latest; the GAUGE_TEST that asked for it. -/
  testing : Bool := false
  testAt : Option Nat := none
  by_ : Option (Nat × Nat) := none
  /-- End-of-life bit. -/
  eol : Bool := false
  /-- The hourly tests of a disagreement run from here (R410). -/
  hourAt : Nat := 0
  /-- Seconds in service beyond AGE_H (R416). -/
  ageS : Nat := 0
deriving DecidableEq, Repr

/-- What the power manager follows of a rail (R408, R409): a trigger holds, the instant it last came or went, the instant the rail was
last overdrawn, the instants of the latest rise and fall of its stage. -/
structure RailSt where
  trig : Bool := false
  since : Nat := 0
  ended : Nat := 0
  riseAt : Nat := 0
  fallAt : Nat := 0
deriving DecidableEq, Repr

/-- The factory safety set (R468 and after): its bytes that are not 0. -/
def factorySet : Table Nat :=
  [(0, 1), (4, 255), (5, 255), (12, 100), (14, 184), (15, 11), (16, 10), (32, 1), (34, 3), (36, 244), (37, 1), (38, 144), (39, 1), (40, 100),
   (288, 255), (304, 255), (320, 255), (336, 255)] ++
  [(386, 255), (387, 255), (388, 255), (389, 255), (390, 255), (391, 255), (392, 255), (393, 255), (394, 255), (395, 255), (396, 255),
   (397, 255), (398, 255), (399, 255), (400, 255), (403, 3), (404, 255), (405, 255), (406, 255), (407, 255), (408, 15), (412, 31)]

/-- The same of a GZ-640-M0: its VARIANT, no axis (R544). -/
def factorySetM0 : Table Nat := tput (fun _ => 0) (tput (fun _ => 0) factorySet 408 0) 6 1

/-- A contact of a safety pair (R441). -/
structure Contact where
  /-- Accepted level: closed. -/
  closed : Bool := false
  /-- A different level holds since. -/
  cand : Option Nat := none
  /-- The accepted level is held until (test pulse). -/
  hold : Nat := 0
  /-- Pulses in a row not followed. -/
  miss : Nat := 0
deriving DecidableEq, Repr

/-- A safety pair (R442). -/
structure PairSt where
  a : Contact := {}
  b : Contact := {}
  /-- 0 healthy, 1 one contact has left its level, 2 both at the demand level, 3 one has returned, 4 faulted, waiting for both at the demand
  level, 5 not yet seen healthy. -/
  phase : Nat := 5
  /-- Instant the first contact left or returned. -/
  at_ : Nat := 0
  disc : Bool := false
  test : Bool := false
deriving DecidableEq, Repr

/-- A GFP-S connection (R444, R445). -/
structure GfpsSt where
  /-- Last accepted COUNTER; none after a loss. -/
  last : Option Nat := none
  healthy : Bool := false
  /-- Cycles with an accepted telegram in a row, each with d = 1. -/
  good : Nat := 0
  /-- Safety cycles since one was accepted. -/
  quiet : Nat := 0
  data : Nat := 0
  /-- Accepted in this safety cycle; the latest with d = 1. -/
  got : Bool := false
  one : Bool := false
deriving DecidableEq, Repr

/-- A safety function (R447 to R450). -/
structure SfSt where
  tripAt : Nat := 0
  /-- End of DELAY_MS. -/
  delayEnd : Option Nat := none
  /-- Every source healthy since. -/
  since : Option Nat := none
  /-- A pulse is needed (START_RESET). -/
  need : Bool := false
  /-- A valid pulse has ended since the last safety cycle. -/
  pulse : Bool := false
deriving DecidableEq, Repr

/-- A reset input (R449). -/
structure RstSt where
  level : Bool := false
  lowAt : Option Nat := none
  riseAt : Option Nat := none
deriving DecidableEq, Repr

/-- A brake test running (R453). -/
structure BrTest where
  queue : Nat
  seq : Nat
  start : Nat
  /-- Next step, 2 to 5. -/
  step : Nat
  pos : Nat := 0
  neg : Nat := 0
  cause : Nat := 0
deriving DecidableEq, Repr

/-- A brake output (R452). -/
structure BrSt where
  /-- Drive of its axis enabled since. -/
  enAt : Option Nat := none
  /-- Operating seconds at the last passed test, MRAM. -/
  passedAt : Nat := 0
  due : Bool := false
  failed : Bool := false
  test : Option BrTest := none
deriving DecidableEq, Repr

/-- The Safety Island (spec/15); its registers are the fields of objects 0x0C01.0 and 0x0C02.f. -/
structure IslSt where
  /-- Parameter set in force and the staged one: bytes that are not 0 (R455). -/
  set : Table Nat := factorySet
  staged : Option (Table Nat) := none
  /-- A confirmed switch waits for the cycle boundary (R461): queue, sequence. -/
  switch : Option (Nat × Nat) := none
  pairs : Table PairSt := []
  conns : Table GfpsSt := []
  fns : Table SfSt := []
  rsts : Table RstSt := []
  brakes : Table BrSt := []
  /-- SQ outputs commanded on; output faults. -/
  sqOn : Nat := 0
  sqFault : Nat := 0
  /-- Dark tests done, and the instant of the latest (R451). -/
  darks : Nat := 0
  darkAt : Nat := 0
  /-- Status slots as the latest completed safety cycle left them: slot, value (R27, R438). -/
  shown : List (Nat × Nat) := []
  /-- Group switches closed: bit 0 GA, bit 1 GB. -/
  groups : Nat := 3
  /-- Cycles in a row with the clock deviation beyond 1 %. -/
  devCycles : Nat := 0
  /-- INTRUSIVE debug, or the end of the wrap, holds the island (R465). -/
  debugHold : Bool := false
  wrapHold : Bool := false
deriving DecidableEq, Repr

/-- The partner as its heartbeats show it (R483, R484). -/
structure Peer where
  /-- Role of the latest heartbeat: 0 bring-up, 1 active, 2 stand-in; none while none is heard. -/
  role : Option Nat := none
  epoch : Nat := 0
  /-- Byte 9: [0] ready, [1] home primary, [2] LOW. -/
  flags : Nat := 0
  cause : Nat := 0
  programId : Nat := 0
  slate : Nat := 0
  gens : List Nat := []
  /-- Meets R469 and has the opposite home role, as of the latest heartbeat of a paired module. -/
  fits : Bool := true
  /-- What R469 compares: order code, serial number, module ID, equal firmware versions. -/
  variant : Nat := 0
  serial : Nat := 0
  moduleId : Nat := 0
  firmware : Bool := true
  /-- C_j: Clapper of the last heartbeat received; when the partner was last declared lost. -/
  clap : Nat := 0
  lostAt : Option Nat := none
  /-- Heartbeats missed in a row on each path; path down. -/
  missPair : Nat := 0
  missNet : Nat := 0
  downPair : Bool := true
  downNet : Bool := true
deriving DecidableEq, Repr

/-- Takes of a redundant partition: what the active module sends, what the stand-in applies (R474 to R479). -/
structure TakeSt where
  /-- Frames of the take being received: generation, frames so far, payload so far; the runs of its full-take slices. -/
  asm : Option (Nat × Nat × List Nat) := none
  /-- A generation has been seen: LAST_GEN is of a take. -/
  seen : Bool := false
  /-- CYCLE_NUMBER of the last take; own Clappers of the partition since. -/
  cycle : Nat := 0
  since : Nat := 0
  /-- Full take: lines sent or received of it, instant of its start; it is running; it began after the last gap. -/
  cursor : Nat := 0
  fullAt : Nat := 0
  full : Bool := false
  clean : Bool := false
  /-- A full take is asked for; own Clappers since the latest began. -/
  ask : Bool := false
  claps : Nat := 0
  /-- The next take carries RESTART, or MIGRATE. -/
  restart : Bool := false
  migrate : Bool := false
deriving DecidableEq, Repr

/-- A takeover running (R487). -/
structure Takeover where
  /-- D on the time base, its GZ time. -/
  at_ : Nat
  gz : Nat
  /-- Every partition starts cold (UNSYNC_ACTION 0). -/
  cold : Bool
  /-- The Larder is in SRAM since. -/
  restored : Option Nat := none
deriving DecidableEq, Repr

/-- A planned switch under way (R500). -/
structure Switch where
  /-- The command it completes: opcode, queue, sequence; none for one the other module asked for. -/
  by_ : Option (Nat × Nat × Nat)
  start : Nat
  maxMs : Nat
  /-- C_s on the time base. -/
  at_ : Nat
  /-- This module is the incoming one. -/
  incoming : Bool
deriving DecidableEq, Repr

/-- Stand-in redundancy (spec/16). -/
structure PairMach where
  peer : Peer := {}
  takes : Table TakeSt := []
  /-- Outcome of R472: the module is to stand in. -/
  standin : Option Bool := none
  /-- Waiting alone since (R472). -/
  aloneAt : Option Nat := none
  takeover : Option Takeover := none
  switch : Option Switch := none
  /-- Full takes commanded: queue, sequence, partitions not yet synchronised (R507). -/
  fulls : List (Nat × Nat × Nat) := []
  /-- Readiness as last reported. -/
  ready : Bool := false
  /-- The conditions of R501 hold since. -/
  cleanAt : Option Nat := none
  /-- The module runs the member, in COMMISSION and SERVICE too (R534). -/
  leads : Bool := false
  /-- A full self-test pass runs after a demotion (R494). -/
  testing : Bool := false
  /-- A self-test failed; uncorrectable error in the Larder since the last full take (R482 bit 3). -/
  testFail : Bool := false
  larderBad : Bool := false
  /-- Dry solves: instant and partition of the latest; solves and mismatches since the last report. -/
  dryAt : Nat := 0
  dryPart : Nat := 8
  drySaid : Nat := 0
  dryDiff : Nat := 0
  /-- Instants of the last STANDIN_HEALTH, Larder scrub pass, I/O hub test. -/
  healthAt : Nat := 0
  scrubAt : Nat := 0
  hubAt : Nat := 0
  /-- Frames were latched from a node in each of the last n cycles, to 3. -/
  heardCycles : Nat := 0
deriving DecidableEq, Repr


/-- The machine, the waiting commands and the memories apart. -/
structure Mach where
  /-- Time base: ns since power-on (R26, R34). -/
  now : Nat := 0
  /-- The model's own counter of free values taken (log 5). -/
  fresh : Nat := 0
  /-- Object fields that differ from their reset or factory value: class × 2^32 + instance × 2^8 + field. -/
  objs : Table Nat := []
  /-- Messages and events sent on the DTLS connections, newest first. -/
  sent : List OutMsg := []
  /-- DTLS connections (R191). -/
  conns : Table Conn := []
  /-- Command queues (R195). -/
  cqs : Table Cq := []
  /-- Credit pools: 0 to 7 partitions, 8 system (R205). -/
  pools : Table Pool := []
  /-- Time (R30 to R35). -/
  time : TimeSt := {}
  /-- Partitions (spec/06). -/
  parts : Table Part := []
  /-- Cycle engines (spec/03). -/
  engines : Table Engine := []
  /-- Recorder (spec/17). -/
  recd : Recorder := {}
  /-- Modes, resets, bring-up, power (spec/18, spec/19). -/
  sys : Sys := {}
  /-- Security and debug (spec/19). -/
  sec : Sec := {}
  /-- Service (spec/20). -/
  svc : Service := {}
  /-- Configuration in force (R588), with its fence plans (R93); none while the Standing Program runs. -/
  cfg : Option Pkg := none
  /-- Where its code stands in the banks (R68, R118). -/
  sheet : CallSheet := {}
  /-- Fence plans of the configuration in force (R93): partition, plan. -/
  plans : List (Nat × FencePlan) := []
  /-- Sets of the subscribed publication lists (R57). -/
  subs : Table SubSet := []
  /-- Plant publication fragments sent, newest first (R56). -/
  published : List PubFrame := []
  /-- Places (R254): t × 256 + place. -/
  places : Table PlaceSt := []
  /-- Trunks. -/
  trunks : Table TrunkSt := []
  /-- Frames sent, newest first. -/
  wire : List Wire := []
  /-- Segment controllers. -/
  segs : Table SegSt := []
  /-- Nodes of the segments: s × 64 + a. -/
  nodes : Table NodeSt := []
  /-- Receive buffers of the match filters, oldest first, at most 16 FRAME items each (R271): filter, items. -/
  hpBufs : List (Nat × List Item) := []
  /-- Load channels. -/
  lcs : Table LcSt := []
  /-- Load-channel controllers. -/
  ctls : Table CtlSt := []
  /-- Levels of LH0 to LH7 and of LIMP_FORCE after their filters (R307). -/
  lh : Nat := 0
  limpForce : Bool := false
  /-- Sense converters: position in the rotation, clean visits still needed (R291, R292). -/
  senses : List (Nat × Nat × Nat) := []
  /-- Loop outputs. -/
  los : Table LoSt := []
  /-- FA is below 12 V (R315). -/
  faLow : Bool := false
  /-- Feedback ports. -/
  eps : Table EpSt := []
  /-- Probes. -/
  prs : Table PrSt := []
  /-- Emulation outputs. -/
  ems : Table EmSt := []
  /-- Axes. -/
  axs : Table AxSt := []
  /-- Gear groups. -/
  ggs : Table GgSt := []
  /-- Motor stages. -/
  mss : Table MsSt := []
  /-- Axes and gear groups the matrix stops, by the Effects of their owners (R429): bit masks. -/
  ceAxes : Nat := 0
  ceGroups : Nat := 0
  /-- Doors. -/
  doors : Table DoorSt := []
  /-- Storyboards loaded: table, bytes (R379); table 0 is R545's where none is listed. -/
  boards : List (Nat × List Nat) := []
  /-- Accepted levels of DI0 to DI31 (R615). -/
  di : Nat := 0
  /-- Alarms. -/
  alarms : Table AlSt := []
  /-- Flood groups. -/
  floods : Table FloodSt := []
  /-- The matrix in force; the one before it and the partitions that have not changed to the new one (R431), bit p. -/
  matrix : Matrix := {}
  matrixOld : Matrix := {}
  matrixWait : Nat := 0
  /-- Sections staged: connection, session tag, the matrix as staged so far (R431). -/
  matrixStage : Option (Nat × Nat × Matrix) := none
  /-- Effects. -/
  effs : Table EffSt := []
  /-- The gauge. -/
  gauge : GaugeSt := {}
  /-- The rails FA and FB as load shedding follows them. -/
  rails : Table RailSt := []
  /-- The Safety Island. -/
  isl : IslSt := {}
  /-- Stand-in redundancy. -/
  pm : PairMach := {}
deriving DecidableEq, Repr

/-- The state of the block. -/
structure State where
  /-- Commands waiting, first in first out. -/
  pending : List Instr := []
  /-- The memories. -/
  ram : Ram := []
  /-- Everything else. -/
  m : Mach := {}
deriving DecidableEq, Repr

/-- The machine right after reset: no command waiting, every memory at its reset content, every field at its reset value. -/
def State.reset : State := {}

end Sys2Proof.Machine
end

