-- ==== Sys2Proof/Machine/Ops.lean ====
section
/-! DEFINITION. The named operations every meaning is written in: the object fields, the memories, time, records, events,
and the ways a command changes the state. -/
namespace Sys2Proof.Machine

/-- The outcome of a step. -/
abbrev Out := Host.Outcome State Fault Refusal

/-! ### Object fields -/

/-- The class row of a class code. -/
def classOf (c : Nat) : Option ClassDef := classTable.find? (·.code == c)

/-- The field row of a class. -/
def fieldOf (c f : Nat) : Option FieldDef := (classOf c).bind (fun d => d.fields.find? (·.num == f))

/-- Factory values that depend on the instance: the ports, axes and doors of a GZ-640-M4 (R343, R369, R397), the queue classes
(R197), the rated channel currents (R286, R304), PAIR's MACsec mode (R578), the Standing Program's P0 and its task (R544), a place's own
group (R254), the Slate of the factory safety set (R461). DESIGN CHOICE, log 2; DESIGN CHOICE, log 70. -/
def instInit (c i f d : Nat) : Nat :=
  if c = 0x0003 then (if f = 0 then (if i < 16 then 0 else 1) else d)
  else if c = 0x0201 then
    (if i = 0 then (if f = 1 then 1 else if f = 2 then 1 else if f = 6 then 1024 else if f = 5 then 4096 else if f = 18 then 2993 else d) else if f = 18 then 1 else d)
  else if c = 0x0302 then (if i = 0 ∧ f = 1 then 0 else if i = 0 ∧ f = 0 then 1 else d)
  else if c = 0x0303 then (if i = 0 ∧ f = 0 then 1 else if i = 0 ∧ f = 2 then 1 else d)
  else if c = 0x0301 then (if i = 0 ∧ f = 0 then 0 else d)
  else if c = 0x0502 then (if f = 2 then i % 256 else d)
  else if c = 0x0701 then
    (if f = 3 then (if i < 24 then 2500 else 8000) else if f = 11 ∨ f = 12 then (if i < 24 then 600 else 2000) else d)
  else if c = 0x0704 then (if f = 0 then 2606653433 else d)
  else if c = 0x0801 then (if i < 4 then (if f = 0 then 2 else if f = 2 then 2 else d) else d)
  else if c = 0x0901 then (if i < 4 then (if f = 0 then 2 else if f = 1 then i else d) else d)
  else if c = 0x0A01 then (if i < 4 then (if f = 0 then 0 else if f = 1 then 1 else if f = 2 then i else if f = 4 then i else d) else d)
  else if c = 0x0C01 then (if f = 4 then 2428752904 else d)
  else if c = 0x0E01 then (if f = 6 then 1 else if f = 7 then 1 else if f = 8 then 1 else if f = 9 then 1 else if f = 13 then 64 else d)
  else if c = 0x0E02 then (if f = 0 then (if i = 0 then 1024 else if i = 8 then 14336 else if i = 9 then 1024 else 0) else d)
  else if c = 0x0F03 then (if i = 2 ∧ f = 0 then 2 else d)
  else d

/-- What field f of instance i of class c reads as that nothing has written: its reset or factory value. DESIGN CHOICE, log 2. -/
def fieldStart (c i f : Nat) : Nat :=
  match fieldOf c f with
  | some d => instInit c i f d.init
  | none => 0

/-- The same by the key of the field. -/
def objInit (k : Nat) : Nat := fieldStart (k / 2 ^ 32) (k / 2 ^ 8 % 2 ^ 24) (k % 2 ^ 8)

/-- The key of an object field. -/
def objKey (c i f : Nat) : Nat := c * 2 ^ 32 + i % 2 ^ 24 * 2 ^ 8 + f % 2 ^ 8

/-- An object field. -/
def Mach.obj (m : Mach) (f : Fld) (i : Nat := 0) : Nat :=
  tget (fun _ => fieldStart f.cls (i % 2 ^ 24) (f.num % 2 ^ 8)) m.objs (objKey f.cls i f.num)

/-- Write an object field, cut to its width. -/
def Mach.setObj (m : Mach) (f : Fld) (i v : Nat) : Mach :=
  { m with objs := tput objInit m.objs (objKey f.cls i f.num) (v % 2 ^ f.bits) }

/-- Raise a counter field by n, saturating at its width (R96: RC counters saturate). -/
def Mach.bump (m : Mach) (f : Fld) (i : Nat := 0) (n : Nat := 1) : Mach :=
  m.setObj f i (min (m.obj f i + n) (2 ^ f.bits - 1))

/-- Change the gauge. -/
def Mach.updGauge (m : Mach) (f : GaugeSt → GaugeSt) : Mach := { m with gauge := f m.gauge }

/-- Keep a field at its largest value seen. -/
def Mach.peak (m : Mach) (f : Fld) (i v : Nat) : Mach :=
  if m.obj f i < v then m.setObj f i (min v (2 ^ f.bits - 1)) else m

/-- Set or clear a flag field. -/
def Mach.flag (m : Mach) (f : Fld) (i : Nat) (b : Bool) : Mach := m.setObj f i b.toNat

/-- A flag field as a truth value. -/
def Mach.isSet (m : Mach) (f : Fld) (i : Nat := 0) : Bool := m.obj f i != 0

/-! ### Memories -/

/-- One cell. DESIGN CHOICE, log 4. -/
def rd (r : Ram) (sp : Space) (a : Nat) : Nat := tget ramInit r (sp.key a)

/-- One write; a value is cut to its cell. DESIGN CHOICE, log 4. -/
def W.apply (r : Ram) : W → Ram
  | .put sp a v => tput ramInit r (sp.key a) (v % 2 ^ bitsAt sp.idx)
  | .clear sp => r.filter (fun e => decide (e.1 / 2 ^ 40 ≠ sp.idx))

/-- Writes in their order. -/
def wr (r : Ram) (ws : List W) : Ram := ws.foldl W.apply r

/-- Consecutive cells. -/
def rdN (r : Ram) (sp : Space) (a n : Nat) : List Nat := (List.range n).map (fun i => rd r sp (a + i))

/-- Writes of consecutive cells. -/
def putN (sp : Space) (a : Nat) (vs : List Nat) : List W :=
  (vs.zip (List.range vs.length)).map (fun e => .put sp (a + e.2) e.1)

/-! ### How a command changes the state -/

/-- The machine at an instant: the time base never runs back (R34). DESIGN CHOICE, log 9. -/
def Mach.upTo (m : Mach) (t : Nat) : Mach := { m with now := max m.now t }

/-- An event at instant t that leaves the memories alone. DESIGN CHOICE, log 9. -/
def ev (t : Nat) (f : Mach → Mach) (s : State) : Out :=
  .next { s with m := { f (s.m.upTo t) with now := max s.m.now t } }

/-- An event at instant t that may write the memories. DESIGN CHOICE, log 9. -/
def evR (t : Nat) (f : Ram → Mach → Mach × List W) (s : State) : Out :=
  let x := f s.ram (s.m.upTo t)
  .next { s with ram := wr s.ram x.2, m := { x.1 with now := max s.m.now t } }

/-- Effects one after another on one instant, each on the memories and the machine the ones before it leave (R621). -/
def chain (fs : List (Ram → Mach → Mach × List W)) (r : Ram) (m : Mach) : Mach × List W :=
  (fs.foldl (fun (x : Ram × Mach × List W) f =>
    let y := f x.1 x.2.1
    (wr x.1 y.2, y.1, x.2.2 ++ y.2)) (r, m, [])).2

/-- An effect on the machine alone, and writes alone, as members of a chain. -/
def onM (f : Mach → Mach) : Ram → Mach → Mach × List W := fun _ m => (f m, [])
def onRM (f : Ram → Mach → Mach) : Ram → Mach → Mach × List W := fun r m => (f r m, [])
def onW (f : Ram → Mach → List W) : Ram → Mach → Mach × List W := fun r m => (m, f r m)

/-! ### Time -/

/-- What the running slew has removed of its offset by an instant: 50 ppm, 1 ns in 20,000 (R54). -/
def Mach.slewed (m : Mach) (t : Nat) : Int :=
  let d : Int := ((t - m.time.slewAt) / 20000 : Nat)
  if m.time.slew < 0 then max m.time.slew (-d) else min m.time.slew d

/-- GZ time (R33), 64 bits. -/
def Mach.gzAt (m : Mach) (t : Nat) : Nat := (((t : Int) + m.time.gzOff + m.slewed t).toNat) % 2 ^ 64

/-- GZ time at the present instant. -/
def Mach.gz (m : Mach) : Nat := m.gzAt m.now

/-- GZ time is valid (R30). -/
def Mach.gzValid (m : Mach) : Bool := m.isSet F.timeGZ_VALID

/-- GZ time where valid, else 0 (R197, R510). -/
def Mach.gzStamp (m : Mach) : Nat := if m.gzValid then m.gz else 0

/-- The next free value (log 5). -/
def Mach.takeFree (m : Mach) : Nat × Mach := (Config.freeNat m.fresh, { m with fresh := m.fresh + 1 })

/-! ### Units -/

/-- A DTLS connection. -/
def Mach.conn (m : Mach) (i : Nat) : Conn := ug {} m.conns i

/-- Change a DTLS connection. -/
def Mach.updConn (m : Mach) (i : Nat) (f : Conn → Conn) : Mach := { m with conns := uset {} m.conns i f }

/-- A command queue. -/
def Mach.cq (m : Mach) (i : Nat) : Cq := ug {} m.cqs i

/-- Change a command queue. -/
def Mach.updCq (m : Mach) (i : Nat) (f : Cq → Cq) : Mach := { m with cqs := uset {} m.cqs i f }

/-- A partition's sequencer. -/
def Mach.part (m : Mach) (i : Nat) : Part := ug {} m.parts i

/-- Change a partition's sequencer. -/
def Mach.updPart (m : Mach) (i : Nat) (f : Part → Part) : Mach := { m with parts := uset {} m.parts i f }

/-- A cycle engine. -/
def Mach.eng (m : Mach) (i : Nat) : Engine := ug {} m.engines i

/-- Change a cycle engine. -/
def Mach.updEng (m : Mach) (i : Nat) (f : Engine → Engine) : Mach := { m with engines := uset {} m.engines i f }

/-- Change the system group. -/
def Mach.updSys (m : Mach) (f : Sys → Sys) : Mach := { m with sys := f m.sys }

/-- Change the time group. -/
def Mach.updTime (m : Mach) (f : TimeSt → TimeSt) : Mach := { m with time := f m.time }

/-- Change the recorder. -/
def Mach.updRec (m : Mach) (f : Recorder → Recorder) : Mach := { m with recd := f m.recd }

/-- Change the security group. -/
def Mach.updSec (m : Mach) (f : Sec → Sec) : Mach := { m with sec := f m.sec }

/-- Change the service group. -/
def Mach.updSvc (m : Mach) (f : Service → Service) : Mach := { m with svc := f m.svc }

/-- Do something for each of a list. -/
def Mach.each {α : Type} (m : Mach) (l : List α) (f : Mach → α → Mach) : Mach := l.foldl f m

/-- Do something on a condition. -/
def Mach.when (m : Mach) (b : Bool) (f : Mach → Mach) : Mach := if b then f m else m

/-! ### Operating mode (R530, R547) -/

/-- COMMISSION 0, RUN 1, DEGRADED 2, STAND-IN 3, SAFE-HALT 4, SERVICE 5, bring-up 0xFF. -/
def Mach.mode (m : Mach) : Nat := m.obj F.modeMODE

/-- RUN or DEGRADED. -/
def Mach.running (m : Mach) : Bool := m.mode == 1 || m.mode == 2

/-- The variant is a GZ-640-M4 (R3). -/
def Mach.isM4 (m : Mach) : Bool := m.obj F.modVARIANT == 0

/-! ### Queues, channels and owners (R181, R195) -/

/-- Owner of a queue: partition 0 to 7, or 0xFF (system), from the partition objects' QUEUES fields. -/
def Mach.queueOwner (m : Mach) (q : Nat) : Nat :=
  ((List.range 8).find? (fun p => q != 0 && bit (m.obj F.partQUEUES p) q)).getD 0xFF

/-- A partition's event channel: the one of its lowest-numbered queue, else EC0 (R181). -/
def Mach.partChan (m : Mach) (p : Nat) : Nat :=
  ((List.range 64).find? (fun q => q != 0 && bit (m.obj F.partQUEUES p) q)).getD 0

/-! ### Messages and events (R197, R207 to R211) -/

/-- Bytes of a list of items: 3 and the value of each. -/
def itemsLen (fs : List Item) : Nat := fs.foldl (fun n i => n + 3 + i.val.length) 0

/-- The bytes of items on the wire (R199). -/
def itemBytes (fs : List Item) : List Nat := fs.foldr (fun i r => i.ty :: (toBe 2 i.val.length ++ (i.val ++ r))) []

/-- Cut a byte list into pieces of at most n. -/
def chunks (n : Nat) : Nat → List Nat → List (List Nat)
  | 0, _ => []
  | _, [] => []
  | f + 1, bs => bs.take n :: chunks n f (bs.drop n)

/-- A block is in its reset, hung or quiesced (R539, R540). -/
def Mach.blockOut (m : Mach) (b : Nat) : Bool :=
  m.sys.resetting.any (fun e => e.1 == b) || m.sys.hung.contains b || m.sys.quiesced.any (fun e => e.1 == b && decide (m.now < e.2))

/-- MACsec lets a frame in at a port: 0 NET-A, 1 NET-B, 2 PAIR (R563): any in mode 0, an unprotected one in mode 1 until MKA has secured the
link, and none in mode 2. -/
def Mach.macPass (m : Mach) (n : Nat) (secured : Bool) : Bool :=
  let mode := m.obj F.psecMACSEC_MODE n
  if mode = 0 then true else if secured then m.obj F.psecSTATE n == 2 else mode == 1 && m.obj F.psecSTATE n != 2

/-- A frame MACsec does not let in is dropped and counted (R563, R578). -/
def Mach.macDrop (m : Mach) (n : Nat) : Mach := m.bump F.psecDROPPED n

/-- A port's MACsec starts over: off in mode 0, else MKA negotiates (R562, R578). -/
def Mach.macStart (m : Mach) (n : Nat) : Mach :=
  (m.setObj F.psecSTATE n (if m.obj F.psecMACSEC_MODE n = 0 then 0 else 1)).setObj F.psecCIPHER n 0

/-- The plant ports that carry what the module sends on the plant network: both under PRP and into the ring under HSR (R190), less one
whose controller is out (R539). -/
def Mach.plantPorts (m : Mach) : List Nat := [0, 1].filter (fun k => !m.blockOut (0x20 + k))

/-- Ports a message of a connection goes out on (R190): never one of another kind. -/
def Mach.portsOf (m : Mach) (conn : Nat) : List Nat :=
  if (m.conn conn).port ≤ 1 then m.plantPorts else [(m.conn conn).port].filter (fun k => !m.blockOut (0x21 + k))

/-- Send a message on the connection, in fragments where its fields exceed 1400 bytes (R207): each fragment carries FRAGMENT
(type 0xF2) first, then its piece of the field stream (held here as one item of type 0). DESIGN CHOICE, log 10. -/
def Mach.send (m : Mach) (o : OutMsg) : Mach :=
  let o := { o with ports := m.portsOf o.conn }
  if itemsLen o.fields ≤ 1400 then { m with sent := o :: m.sent }
  else
    let ps := chunks 1395 64 (itemBytes o.fields)
    let n := ps.length
    { m with sent := ((ps.zip (List.range n)).map (fun e =>
        { o with more := decide (e.2 + 1 < n), fields := [⟨0xF2, toBe 2 e.2⟩, ⟨0, e.1⟩] })).reverse ++ m.sent }

/-- The message of a held event on the connection of the attached session (R208). -/
def Mach.sendEv (m : Mach) (ch : Nat) (e : Ev) : Mach :=
  m.send { conn := (m.cq ch).conn, event := true, more := false, replayed := false, queue := ch, opcode := e.code,
           tag := (m.conn (m.cq ch).conn).tag, seq := e.seq, status := e.status, part := e.part, deadline := e.gz, fields := e.fields }

/-- Send what of the held events is within 16 beyond the oldest unacknowledged and has not been sent; the time to resend runs from the
first in flight (R209). -/
def Mach.pumpEv (m : Mach) (ch : Nat) : Mach :=
  let c := m.cq ch
  if c.conn = 255 then m
  else
    let m := m.each ((c.held.take 17).drop c.sentEv) (fun m e => m.sendEv ch e)
    m.updCq ch (fun c => { c with sentEv := max c.sentEv (min 17 c.held.length), resentAt := if c.sentEv = 0 then m.now else c.resentAt })

/-- The sequence number after n, skipping 0 at the wrap (R208). -/
def nextSeq (n : Nat) : Nat := if (n + 1) % 2 ^ 32 = 0 then 1 else (n + 1) % 2 ^ 32

/-- Raise an event on a channel (R208 to R210): at 255 held, the 256th entry is an EVENTS_LOST event that counts. DESIGN CHOICE, log 12; DEDUCED, log 62. -/
def Mach.event (m : Mach) (ch code part status : Nat) (fields : List Item) : Mach :=
  let c := m.cq ch
  let sq := m.obj F.cqEV_NEXT ch
  let m' :=
    if c.held.length < 255 then
      (m.updCq ch (fun c => { c with held := c.held ++ [⟨sq, code, status, part, m.gzStamp, fields⟩] })).setObj F.cqEV_NEXT ch (nextSeq sq)
    else if c.held.length = 255 then
      ((m.updCq ch (fun c => { c with lost := 1, held := c.held ++ [⟨sq, 0x0081, 0, 0xFF, m.gzStamp, [⟨1, toBe 4 1⟩]⟩] })).setObj
        F.cqEV_NEXT ch (nextSeq sq)).bump F.cqEV_LOST ch
    else
      (m.updCq ch (fun c => { c with
        lost := c.lost + 1
        held := c.held.dropLast ++ (c.held.getLast?.map (fun e => { e with fields := [⟨1, toBe 4 (c.lost + 1)⟩] })).toList })).bump
        F.cqEV_LOST ch
  (m'.setObj F.cqEV_HELD ch (m'.cq ch).held.length).pumpEv ch

/-- A notice on a channel: status DONE. DESIGN CHOICE, log 12. -/
def Mach.notice (m : Mach) (ch code part : Nat) (fields : List Item := []) : Mach := m.event ch code part 0 fields

/-- A completion event of a command that replied STARTED (R211), of the partition it concerns, else of the queue's (R198). DESIGN CHOICE, log 12. -/
def Mach.complete (m : Mach) (q opcode seq status : Nat) (fields : List Item := []) (part : Nat := 0xFF) : Mach :=
  m.event q opcode (if part < 8 then part else m.queueOwner q) status (⟨0xF0, toBe 4 seq⟩ :: fields)

/-! ### Records (R508 to R519) -/

/-- A Chronicle record as the rule that requires it names it. DEDUCED, log 11. -/
structure Chron where
  /-- Subsystem (R512 [15:8]). -/
  sub : Nat
  /-- Low byte of TYPE (R512). -/
  low : Nat
  /-- PARTITION. -/
  part : Nat := 0xFF
  /-- INSTANCE. -/
  inst : Nat := 0xFFFF
  /-- CAUSE. -/
  cause : Nat := 0
  /-- COUNT. -/
  count : Nat := 1
  /-- CYCLE_NUMBER. -/
  cycle : Nat := 0
  /-- DETAIL bytes, in the order the rule names the values. -/
  detail : List Nat := []
  /-- Channels of the RECORD_NOTICE the rule asks for without naming an event code (R211). -/
  notice : List Nat := []

/-- Pad a byte list with 0 to n bytes. -/
def padTo (n : Nat) (bs : List Nat) : List Nat := (bs ++ List.replicate n 0).take n

/-- Bytes 0 to 35 of a Chronicle record, SEQ, CHECK and VALID open (R511). DEDUCED, log 11. -/
def chronHead (m : Mach) (c : Chron) (part last : Nat) : List Nat :=
  [1, 0xFF] ++ toLe 2 (c.sub * 256 + c.low) ++ toLe 4 0 ++ toLe 8 0 ++ toLe 8 m.gzStamp ++ toLe 4 m.time.opSeconds ++
  toLe 4 m.time.powerCycles ++ [c.part, part * 16 + last] ++ toLe 2 c.inst

/-- The parts of a record: one, or a chain where DETAIL exceeds 16 bytes (R513); a record of a command or of a configuration written ends with
the CLIENT_NAME of its session (R194). DEDUCED, log 11. -/
def chronParts (m : Mach) (c : Chron) : List (List Nat) :=
  let detail := c.detail ++ (if c.low = 4 ∨ c.low = 6 then m.sys.client else [])
  let rest := chunks 28 15 (detail.drop 16)
  let last := rest.length
  (chronHead m c 0 last ++ toLe 2 c.cause ++ toLe 2 (min c.count 0xFFFF) ++ toLe 8 c.cycle ++ padTo 16 detail) ::
    (rest.zip (List.range last)).map (fun e => chronHead m c (e.2 + 1) last ++ padTo 28 e.1)

/-- Quota owner of a PARTITION code (R518, R525). -/
def ownerOf (part : Nat) : Nat := if part < 8 then part else if part = 0xFE then 9 else 8

/-- Entries of Rushes an owner may hold (R518). -/
def Mach.quotaOf (m : Mach) (o : Nat) : Nat :=
  if o < 8 then m.obj F.partREC_QUOTA o
  else if o = 9 then 1024
  else 16384 - 1024 - ((List.range 8).map (fun p => m.obj F.partREC_QUOTA p)).sum

/-- Entries of Rushes an owner holds. -/
def Mach.rushFill (m : Mach) (o : Nat) : Nat := (m.recd.rushes.filter (fun r => r.owner == o)).length

/-- Count lost records of an owner under a cause (R519). -/
def Mach.loseRec (m : Mach) (o cause cls n : Nat) : Mach :=
  let f : Fld := if cls = 1 then F.quotaLOST_CHRON else F.quotaLOST_CYCLE
  let g : Fld := if cls = 1 then F.recLOST_CHRON else F.recLOST_CYCLE
  let old := (m.recd.losses.find? (fun l => l.owner == o && l.cause == cause)).getD ⟨o, cause, 0, 0, m.gzStamp⟩
  let new := if cls = 1 then { old with chron := old.chron + n } else { old with cyc := old.cyc + n }
  ((m.bump f o n).bump g 0 n).updRec (fun r => { r with
    losses := new :: r.losses.filter (fun l => !(l.owner == o && l.cause == cause)) })

/-- Occupancy counters of Rushes (R528, R529). -/
def Mach.rushCount (m : Mach) : Mach :=
  let m := (m.setObj F.recRUSHES_FILL 0 m.recd.rushes.length).peak F.recRUSHES_PEAK 0 m.recd.rushes.length
  m.each (List.range 10) (fun m o =>
    let n := m.rushFill o
    (m.setObj F.quotaFILL o n).peak F.quotaPEAK o n)

/-- Records enter Rushes: a chain whole or not at all (R513, R518); held while ingest is not open (R521); refused after the wrap
closed ingest (R522). -/
def Mach.ingest (m : Mach) (rs : List Rush) : Mach :=
  match rs with
  | [] => m
  | r :: _ =>
    if !m.recd.isOpen then
      if m.obj F.recSTATE = 2 then m.loseRec r.owner 3 r.cls rs.length
      else if (m.recd.waiting.foldl (fun n l => n + l.length) 0) + rs.length ≤ 256 then
        m.updRec (fun d => { d with waiting := d.waiting ++ [rs] })
      else (m.loseRec r.owner 2 r.cls rs.length).updRec (fun d => { d with overWait := d.overWait + rs.length })
    else if m.rushFill r.owner + rs.length ≤ m.quotaOf r.owner then
      (m.updRec (fun d => { d with rushes := d.rushes ++ rs, ingested := d.ingested + rs.length })).rushCount
    else m.loseRec r.owner 1 r.cls rs.length

/-- Write a Chronicle record. DEDUCED, log 11. -/
def Mach.chron (m : Mach) (c : Chron) : Mach :=
  let ps := chronParts m c
  m.ingest ((ps.zip (List.range ps.length)).map (fun e =>
    { owner := ownerOf c.part, cls := 1, bytes := e.1, notice := c.notice, last := decide (e.2 + 1 = ps.length) }))

/-- Write a Cycle record (R514): TYPE, PARTITION and its 48-byte body. -/
def Mach.cycRec (m : Mach) (type part : Nat) (body : List Nat) : Mach :=
  m.ingest [{ owner := ownerOf part, cls := 2, bytes := [2, 0xFF, type, part] ++ toLe 4 0 ++ toLe 8 0 ++ padTo 48 body,
              notice := [], last := true }]

/-! ### Partition facts used by several chapters -/

/-- P of a partition in ns (R36). -/
def Mach.period (m : Mach) (p : Nat) : Nat := m.obj F.cycPERIOD_M p * 125000

/-- The partition has engines (R169). -/
def Mach.used (m : Mach) (p : Nat) : Bool := m.obj F.partCE_SET p != 0

/-- A system queue (R181). -/
def isSys (owner : Nat) : Bool := owner == 0xFF

end Sys2Proof.Machine
end

