-- ==== Sys2Proof/Machine/Own.lean ====
section
/-! DEFINITION. The point ownership table: which partition owns, reads and writes an image slot (spec/06). -/
namespace Sys2Proof.Machine

/-- Entry of a slot that the system or the Safety Island owns, or of a stop request point, in every configuration (R172, R622);
none for every other slot. Bytes 0, 1, 2 of R171 stand in bits [7:0], [15:8], [23:16]. -/
def fixedEntry (pt : Nat) : Option Nat :=
  let sys := 0x80 + 4 * 2
  let isl := 0x80 + 5 * 2
  if 0x001C0 ≤ pt ∧ pt ≤ 0x001FF then some sys
  else if 0x003C0 ≤ pt ∧ pt ≤ 0x003FF then some sys
  else if 0x00E00 ≤ pt ∧ pt ≤ 0x00E1F then some sys
  else if 0x00F00 ≤ pt ∧ pt ≤ 0x00FFF then some sys
  else if 0x00040 ≤ pt ∧ pt ≤ 0x0005F then some isl
  else if 0x00E20 ≤ pt ∧ pt ≤ 0x00EEF then some isl
  else if 0x00EF0 ≤ pt ∧ pt ≤ 0x00EF7 then some (0x80 + (pt - 0x00EF0) * 16 + 6 * 2)
  else none

/-- KIND of a slot of a local object by the maps of R615, R288, R316, R323, R348, R350 and R375: 0 input, 1 output; none where the
slot is unconfigured (R622). -/
def localKind (pt : Nat) : Option Nat :=
  if pt ≤ 0x0001F then some 0
  else if 0x00100 ≤ pt ∧ pt ≤ 0x001BF then some (if (pt - 0x00100) % 6 = 0 then 1 else 0)
  else if 0x00200 ≤ pt ∧ pt ≤ 0x0023F then
    (if pt % 8 ≤ 1 then some 1 else if pt % 8 ≤ 4 then some 0 else none)
  else if 0x00300 ≤ pt ∧ pt ≤ 0x003BF then some 0
  else if 0x00400 ≤ pt ∧ pt ≤ 0x005FF then
    let o := pt % 32
    let even := pt / 32 % 2 = 0
    if o = 1 ∨ (o = 21 ∧ even) then none
    else if o ≤ 7 then some 1
    else if o ≤ 19 then some 0
    else if even then some 1
    else if o ≤ 23 then some 1 else some 0
  else if 0x00600 ≤ pt ∧ pt ≤ 0x00DFF then some (if pt % 8 = 0 then 1 else 0)
  else none

/-- Entry of a slot under the Standing Program: P0 owns every local object (R544); no trunk, segment or plant point exists. -/
def standingEntry (pt : Nat) : Nat :=
  match localKind pt with
  | some k => 0x80 + k * 2
  | none => 0

/-- The ownership entry in force of a slot (R171). -/
def Mach.ownEnt (m : Mach) (r : Ram) (pt : Nat) : Nat :=
  match fixedEntry pt with
  | some e => e
  | none => if m.cfg.isNone then standingEntry pt else rd r .own pt

/-- VALID of an entry. -/
def entValid (e : Nat) : Bool := bit e 7

/-- OWNER of an entry: it counts for KIND 0 to 3 and 6. -/
def entOwner (e : Nat) : Nat := field e 6 4

/-- KIND of an entry. -/
def entKind (e : Nat) : Nat := field e 3 1

/-- FALLBACK of an entry: 0 OFF, 1 PRESET, 2 HOLD. -/
def entFallback (e : Nat) : Nat := field e 20 19

/-- The entry names an owning partition. -/
def entOwned (e : Nat) : Bool := entKind e ≤ 3 || entKind e == 6

/-- Partition p owns the slot. -/
def owns (e p : Nat) : Bool := entValid e && entOwned e && entOwner e == p

/-- Partition p may read the slot (R174). -/
def mayRead (e p : Nat) : Bool :=
  entValid e && (entKind e == 4 || entKind e == 5 || (entOwned e && (entOwner e == p || bit e (8 + p))))

/-- Partition p may store to the slot (R176): its own, of KIND 1, 2 or 6. -/
def mayWrite (e p : Nat) : Bool := owns e p && (entKind e == 1 || entKind e == 2 || entKind e == 6)

/-- The slot reads from the working output image for partition p (R71): its own outputs and internal points. -/
def fromWork (e p : Nat) : Bool := owns e p && (entKind e == 1 || entKind e == 2 || entKind e == 6)

/-- Cell address of a slot in a partition's front input image. -/
def frontAt (p pt : Nat) : Nat := p * 2 ^ 20 + pt

/-- The partition that owns a slot, if one does. -/
def Mach.ownerOfPt (m : Mach) (r : Ram) (pt : Nat) : Option Nat :=
  let e := m.ownEnt r pt
  if entValid e && entOwned e then some (entOwner e) else none

/-- The partition that owns local load channel n (R288): the owner of its first slot. -/
def Mach.lcOwner (m : Mach) (r : Ram) (n : Nat) : Option Nat := m.ownerOfPt r (0x00100 + 6 * n)

/-- The partition that owns loop output n (R316). -/
def Mach.loOwner (m : Mach) (r : Ram) (n : Nat) : Option Nat := m.ownerOfPt r (0x00200 + 8 * n)

/-- The partition that owns feedback port n (R323). -/
def Mach.epOwner (m : Mach) (r : Ram) (n : Nat) : Option Nat := m.ownerOfPt r (0x00300 + 16 * n)

/-- The partition that owns axis n (R348). -/
def Mach.axOwner (m : Mach) (r : Ram) (n : Nat) : Option Nat := m.ownerOfPt r (0x00400 + 32 * n)

/-- The partition that owns gear group g (R350): the owner of its GREQ slot. -/
def Mach.ggOwner (m : Mach) (r : Ram) (g : Nat) : Option Nat := m.ownerOfPt r (0x00400 + 64 * g + 20)

/-- The partition that owns door n (R375). -/
def Mach.doorOwner (m : Mach) (r : Ram) (n : Nat) : Option Nat := m.ownerOfPt r (0x00600 + 8 * n)

end Sys2Proof.Machine
end

