-- ==== Sys2Proof/Machine/Fault.lean ====
section
/-! DEFINITION. The store buffer's drain, a fault during Solve (R91), fencing an engine (R94), the causes of DEGRADED (R531): one
operation each, used by every command that meets them. -/
namespace Sys2Proof.Machine

/-! ### Granules and the store buffer (R8, R75, R76) -/

/-- The space of a buffered memory. -/
def Buffered.space : Buffered → Space
  | .work => .work
  | .inst => .inst

/-- Bits of one cell of a granule: image slots have 16, instance data 8. -/
def cellBits : Buffered → Nat
  | .work => 16
  | .inst => 8

/-- Cells in an 8-byte granule. -/
def cellsOf : Buffered → Nat
  | .work => 4
  | .inst => 8

/-- The 64 bits of a granule, its lowest cell in its least significant bits (R7, R8). -/
def granule (r : Ram) (sp : Buffered) (g : Nat) : BitVec 64 :=
  (List.range (cellsOf sp)).foldl
    (fun v i => v ||| (BitVec.ofNat 64 (rd r sp.space (g * cellsOf sp + i) % 2 ^ cellBits sp) <<< (cellBits sp * i))) 0#64

/-- Address in the dirty-line bitmaps of the line a granule lies in: 64 bytes of instance data, 32 image slots (R474). -/
def dirtyAt (p : Nat) (sp : Buffered) (g : Nat) : Nat := p * 2 ^ 36 + (if sp = .inst then 0 else 2 ^ 32) + g / 8

/-- The writes of an entry's marked bits, and its line marked dirty in its partition's bitmap. -/
def entWs (p : Nat) (r : Ram) (e : SbEnt) : List W :=
  let new := (granule r e.sp e.gran &&& ~~~ e.mask) ||| (e.data &&& e.mask)
  W.put .dirty (dirtyAt p e.sp e.gran) 1 :: (List.range (cellsOf e.sp)).filterMap (fun i =>
    if (e.mask >>> (cellBits e.sp * i)).toNat % 2 ^ cellBits e.sp = 0 then none
    else some (.put e.sp.space (e.gran * cellsOf e.sp + i) ((new >>> (cellBits e.sp * i)).toNat % 2 ^ cellBits e.sp)))

/-- The writes of entries drained in order. DEDUCED, log 21. -/
def sbWs (p : Nat) (r : Ram) (es : List SbEnt) : List W := es.foldl (fun ws e => ws ++ entWs p (wr r ws) e) []

/-- Clock at which an entry's drain begins, with the write port free from a clock on (R76). -/
def SbEnt.start (e : SbEnt) (free : Nat) : Nat := max (e.entered + 1) free

/-- Entries drained by a clock, entries left, the clock the port is free (R76: in order, 4 clocks each). -/
def sbDue (now : Nat) : List SbEnt → Nat → List SbEnt × List SbEnt × Nat
  | [], free => ([], [], free)
  | e :: r, free =>
    if e.start free + 4 ≤ now then
      let x := sbDue now r (e.start free + 4)
      (e :: x.1, x.2.1, x.2.2)
    else ([], e :: r, free)

/-- Clock at which each entry has drained. -/
def sbEnds : List SbEnt → Nat → List Nat
  | [], _ => []
  | e :: r, free => (e.start free + 4) :: sbEnds r (e.start free + 4)

/-- Clock at which a buffer is empty. -/
def sbEmptyAt (e : Engine) : Nat := (sbEnds e.sb e.portFree).getLast?.getD e.clk

/-! ### Operating mode (R531) -/

/-- MODE_CHANGED and its record: old and new mode, cause. DEDUCED, log 53. -/
def Mach.changeMode (m : Mach) (new cause : Nat) : Mach :=
  let old := m.mode
  if old = new then m
  else
    let m := m.setObj F.modeMODE 0 new
    (m.chron { sub := 1, low := 0x80, cause := cause, detail := [old, new, cause] }).notice 0 0x0180 0xFF
      [itemB 1 old, itemB 2 new, itemB 3 cause]
where
  /-- A one-byte item. -/
  itemB (ty v : Nat) : Item := ⟨ty, [v % 256]⟩

/-- Causes of DEGRADED present: a fenced engine, a shed task, a fenced feedback port. -/
def Mach.degradedCauses (m : Mach) : Nat :=
  ((List.range 8).any (fun c => m.obj F.ceSTATE c == 2 || m.obj F.ceSTATE c == 3)).toNat +
  2 * ((List.range 256).any (fun t => m.obj F.taskSTATE t == 2)).toNat +
  4 * ((List.range 8).any (fun p => m.obj F.epSTATE p == 2)).toNat

/-- Move between RUN and DEGRADED as the causes ask (R531); in other modes only the causes change. -/
def Mach.degrade (m : Mach) : Mach :=
  let c := m.degradedCauses
  let m := m.setObj F.modeDEGRADED_CAUSES 0 c
  if m.mode = 1 ∧ c ≠ 0 then m.changeMode 2 c
  else if m.mode = 2 ∧ c = 0 then m.changeMode 1 c
  else m

/-! ### A fault of a partition (R91) -/

/-- Engines of a partition. -/
def Mach.enginesOf (m : Mach) (p : Nat) : List Nat := (List.range 8).filter (fun c => m.obj F.cePARTITION c == p)

/-- Mask of a partition's fenced engines. -/
def Mach.fencedOf (m : Mach) (p : Nat) : Nat :=
  ((m.enginesOf p).filter (fun c => m.obj F.ceSTATE c == 2 || m.obj F.ceSTATE c == 3)).foldl (fun n c => n + 2 ^ c) 0

/-- Every engine of the partition stops; stores already in its buffer drain (R121). DEDUCED, log 21. -/
def Mach.stopEngines (m : Mach) (r : Ram) (p : Nat) : Mach × List W :=
  (m.enginesOf p).foldl (fun x c =>
    let e := x.1.eng c
    (x.1.updEng c (fun e => { e with
       run := 0
       sb := []
       portFree := sbEmptyAt e
       idx := none
       frames := 0
       oldest := 0
       todo := []
       waitAt := none }),
     x.2 ++ sbWs p (wr r x.2) e.sb)) (m, [])

/-- Mark an engine fenced (R94): stopped, cut off, excluded from barriers; its plan is latched for the next start of Solve. -/
def Mach.markFenced (m : Mach) (p ce cause : Nat) : Mach :=
  let m := (m.setObj F.ceSTATE ce 2).setObj F.ceFENCE_CAUSE ce cause
  if 8 ≤ p then m
  else
    let l := bitsOf 8 (m.fencedOf p)
    let m := (m.setObj F.sheetFENCED_1 p ((l[0]?).getD 0xFF)).setObj F.sheetFENCED_2 p ((l[1]?).getD 0xFF)
    m.updPart p (fun x => { x with latched := some (m.fencedOf p) })

/-- A RUNNING partition enters FAULT (R91, R183): engines stop, outputs of the cycle are not published, fallback follows; a cycle already
published has its fallback set published in the window that is left (R184). DEDUCED, log 21. -/
def Mach.partFault (m : Mach) (r : Ram) (p cause ce task pc : Nat) : Mach × List W :=
  if m.obj F.partSTATE p ≠ 1 then (m, [])
  else
    let x := m.stopEngines r p
    let cyc := (m.part p).cycle
    let m := x.1
    let m := m.setObj F.partSTATE p 3
    let m := (m.setObj F.partFAULT_CAUSE p cause).setObj F.partFAULT_CE p ce
    let m := (m.setObj F.partFAULT_TASK p task).setObj F.partFAULT_PC p pc
    let m := m.setObj F.partFAULT_CYCLE p cyc
    let m := m.updPart p (fun y => { y with
      cmd := none
      withheld := none
      solves := false
      phase := if y.phase = 3 ∧ m.now ≤ y.clapAt + m.period p - m.obj F.cycU_NS p then 2 else y.phase })
    (m.chron { sub := 3, low := 0x01, part := p, inst := ce, cause := cause, cycle := cyc, detail := task :: toLe 4 pc,
               notice := [m.partChan p] }, x.2)

/-- The fence plan of a partition for a set of fenced engines (R93). -/
def Mach.planOf (m : Mach) (p fenced : Nat) : Option FencePlan :=
  (m.plans.find? (fun x => x.1 == p && x.2.fenced == fenced)).map (·.2)

/-- A set of fenced engines faults the partition: more than FENCE_DEPTH, no plan, or a plan that faults (R93, R94). -/
def Mach.fenceFaults (m : Mach) (p fenced : Nat) : Bool :=
  decide (m.obj F.sheetFENCE_DEPTH p < (bitsOf 8 fenced).length) ||
  match m.planOf p fenced with
  | some x => x.faults
  | none => true

/-- The record and events of a fence: the partition's event channel and the system's (R94). -/
def Mach.fenceSaid (m : Mach) (p ce cause : Nat) : Mach :=
  m.chron { sub := 3, low := 0x01, part := if p < 8 then p else 0xFF, inst := ce, cause := cause, cycle := (m.part p).cycle, detail := [ce, cause],
            notice := if p < 8 then [m.partChan p, 0] else [0] }

/-- Fence an engine (R94): plan latched, record, events, DEGRADED; FAULT where the fence goes beyond the plans. DEDUCED, log 21. -/
def Mach.fence (m : Mach) (r : Ram) (ce cause : Nat) : Mach × List W :=
  let p := m.obj F.cePARTITION ce
  let m := (m.markFenced p ce cause).fenceSaid p ce cause
  let m := m.degrade
  if p < 8 ∧ m.fenceFaults p (m.fencedOf p) then m.partFault r p 11 ce 0xFF 0xFFFFFFFF
  else (m, [])

/-- A fault of an instruction or a frame, by its FAULT_CAUSE: frame faults, program-bank errors and FETCH fence the engine (R91, R121). DEDUCED, log 21. -/
def Mach.solveFault (m : Mach) (r : Ram) (p cause ce task pc : Nat) : Mach × List W :=
  let x := m.partFault r p cause ce task pc
  if cause = 1 ∨ cause = 2 ∨ cause = 9 then
    let fc := if cause = 1 then 3 else 2
    (((x.1.markFenced p ce fc).fenceSaid p ce fc).degrade, x.2)
  else x

/-! ### The partner (R482, R499) -/

/-- The partner is heard. -/
def Mach.heard (m : Mach) : Bool := m.pm.peer.role.isSome && !(m.pm.peer.downPair && m.pm.peer.downNet)

/-- The stand-in that the active module hears is ready. -/
def Mach.partnerReady (m : Mach) : Bool := m.heard && m.pm.peer.fits && m.pm.peer.role == some 2 && bit m.pm.peer.flags 0

end Sys2Proof.Machine
end

