-- ==== Sys2Proof/Machine/Zcp.lean ====
section
/-! DEFINITION. The Zone Command Protocol: sessions, queues, the acceptance order of R201, replies and their cache. Every ZCP command
is its card and its body, put through this one order. -/
namespace Sys2Proof.Machine

/-! ### Status codes (R213) -/

def stDONE : Nat := 0
def stSTARTED : Nat := 1
def stUNKNOWN_OPCODE : Nat := 0x0100
def stBAD_LENGTH : Nat := 0x0101
def stBAD_PARAMETER : Nat := 0x0102
def stNOT_OWNER : Nat := 0x0103
def stWRONG_MODE : Nat := 0x0104
def stBUSY : Nat := 0x0105
def stNO_RESOURCE : Nat := 0x0106
def stSEQUENCE_GAP : Nat := 0x0107
def stSTALE_EPOCH : Nat := 0x0108
def stLOCKED : Nat := 0x0109
def stSAFETY_REFUSED : Nat := 0x010A
def stTIMEOUT : Nat := 0x010B
def stINTERNAL : Nat := 0x01FF
def stSESSION_UNKNOWN : Nat := 0x1002
def stQUEUE_NOT_ATTACHED : Nat := 0x1003
def stROLE_REFUSED : Nat := 0x1004
def stWRONG_QUEUE_CLASS : Nat := 0x1005

/-! ### Cards -/

/-- One parameter of a card: its type, its shortest and longest value, required, repeatable. -/
structure Spec where
  ty : Nat
  lo : Nat
  hi : Nat
  req : Bool := true
  rep : Bool := false

/-- A command card: opcode, queue class, modes, parameters, and the checks of values. -/
structure Card where
  op : Nat
  bulk : Bool
  modes : List Nat := [0, 1, 2, 3, 4, 5]
  /-- Accepted in bring-up too (R530). -/
  boot : Bool := false
  /-- System queues only. -/
  sysOnly : Bool := false
  items : List Spec := []
  /-- A value of an item is allowed: type, bytes. -/
  valOk : Nat → List Nat → Bool := fun _ _ => true
  /-- A length of an item is right beside its limits: type, length. -/
  lenOk : Nat → Nat → Bool := fun _ _ => true
  /-- Items of the whole stream, and those of it read so far: a combination of those read is at fault, with its status and the type FAILED_TYPE
  names, 0 the item read last. -/
  combo : List Item → List Item → Option (Nat × Nat) := fun _ _ => none
  /-- An item that these items ask for is not there: the type FAILED_TYPE names. -/
  lack : List Item → Option Nat := fun _ => none
  /-- Type of the card's PARTITION parameter (R198). -/
  partTy : Option Nat := none
  /-- Modes, where they depend on the parameters. -/
  modesBy : Mach → List Item → List Nat := fun _ _ => modes
  /-- System queues only, where that depends on the parameters. -/
  sysBy : List Item → Bool := fun _ => sysOnly
  /-- Roles that reach the command, where that depends on the parameters; none: by the opcode (R559). -/
  roleBy : Option (Nat → List Item → Bool) := none

/-- A request in execution. -/
structure Cmd where
  conn : Nat
  q : Nat
  seq : Nat
  /-- Owner of the queue: partition, or 0xFF. -/
  owner : Nat
  part : Nat
  items : List Item
  /-- Reception instant. -/
  t : Nat

/-- What a body answers. -/
structure Res where
  m : Mach
  ws : List W := []
  st : Nat := 0
  out : List Item := []
  /-- No reply yet: the command's own end sends it. -/
  defer : Bool := false

/-- An item of a request, by type. -/
def Cmd.get? (c : Cmd) (ty : Nat) : Option (List Nat) := (c.items.find? (·.ty == ty)).map (·.val)

/-- The item is present. -/
def Cmd.has (c : Cmd) (ty : Nat) : Bool := (c.get? ty).isSome

/-- The value of an item as a big-endian number, or a default. -/
def Cmd.num (c : Cmd) (ty : Nat) (d : Nat := 0) : Nat := ((c.get? ty).map beNat).getD d

/-- The bytes of an item. -/
def Cmd.bytes (c : Cmd) (ty : Nat) : List Nat := (c.get? ty).getD []

/-- Every value of a repeatable item, in order. -/
def Cmd.all (c : Cmd) (ty : Nat) : List (List Nat) := (c.items.filter (·.ty == ty)).map (·.val)

/-- DONE, with reply fields. -/
def Res.done (m : Mach) (out : List Item := []) (ws : List W := []) : Res := { m := m, ws := ws, out := out }

/-- STARTED, with reply fields. -/
def Res.started (m : Mach) (out : List Item := []) (ws : List W := []) : Res := { m := m, ws := ws, st := stSTARTED, out := out }

/-- A failing status; nothing changes beyond what m holds. -/
def Res.fail (m : Mach) (st : Nat) (out : List Item := []) : Res := { m := m, st := st, out := out }

/-- BAD_PARAMETER naming an item (FAILED_TYPE, R200). -/
def Res.bad (m : Mach) (ty : Nat) : Res := { m := m, st := stBAD_PARAMETER, out := [⟨0xF5, [ty]⟩] }

/-- BUSY with cause 3 (R201): final and cached. -/
def Res.busy3 (m : Mach) (retry : Nat) : Res := { m := m, st := stBUSY, out := [⟨0xF1, toBe 4 retry⟩, ⟨0xF6, [3]⟩] }

/-- An unsigned item of n bytes. -/
def itm (ty n v : Nat) : Item := ⟨ty, toBe n v⟩

/-! ### The parameter stream (R199) -/

/-- The protocol items, valid with every opcode (R200). -/
def protoItems : List Spec :=
  [⟨0xF0, 4, 4, false, false⟩, ⟨0xF1, 4, 4, false, false⟩, ⟨0xF2, 2, 2, false, false⟩, ⟨0xF3, 4, 4, false, false⟩,
   ⟨0xF4, 1, 1, false, false⟩, ⟨0xF5, 1, 1, false, false⟩, ⟨0xF6, 1, 1, false, false⟩]

/-- An item of a request as a number; an item is present. -/
def itemNum (is : List Item) (ty d : Nat) : Nat := ((is.find? (·.ty == ty)).map (fun i => beNat i.val)).getD d
def hasItem (is : List Item) (ty : Nat) : Bool := is.any (·.ty == ty)

/-- A combination at fault; FAILED_TYPE names the item of it that comes last in the stream, or the one the card states. -/
def clash (b : Bool) (ty : Nat := 0) : Option (Nat × Nat) := if b then some (stBAD_PARAMETER, ty) else none

/-- Read the stream item by item from its first byte; the first fault decides status and FAILED_TYPE. -/
def parseItems (sp : List Spec) (lenOk : Nat → Nat → Bool) : Nat → List Nat → List Item → Except (Nat × Nat) (List Item)
  | 0, _, acc => .ok acc.reverse
  | _, [], acc => .ok acc.reverse
  | n + 1, ty :: rest, acc =>
    match rest with
    | h :: l :: body =>
      match (sp ++ protoItems).find? (·.ty == ty) with
      | none => .error (stBAD_PARAMETER, ty)
      | some d =>
        if acc.any (·.ty == ty) && !d.rep then .error (stBAD_PARAMETER, ty)
        else
          let len := h % 256 * 256 + l % 256
          if len < d.lo || d.hi < len || !lenOk ty len then .error (stBAD_LENGTH, ty)
          else if body.length < len then .error (stBAD_LENGTH, ty)
          else parseItems sp lenOk n (body.drop len) (⟨ty, body.take len⟩ :: acc)
    | _ => .error (stBAD_LENGTH, ty)

/-- The lowest missing required type. -/
def missing (sp : List Spec) (is : List Item) : Option Nat :=
  (sp.filter (fun d => d.req && !(is.any (·.ty == d.ty)))).foldl
    (fun o d => match o with
      | none => some d.ty
      | some x => some (min x d.ty)) none

/-- Values and combinations, item by item in stream order: items read, items to come. -/
def valueFault (card : Card) (is : List Item) : List Item → List Item → Option (Nat × Nat)
  | _, [] => none
  | pre, i :: r =>
    if decide (i.ty < 0xF0) && !card.valOk i.ty i.val then some (stBAD_PARAMETER, i.ty)
    else
      match card.combo is (pre ++ [i]) with
      | some e => some (e.1, if e.2 = 0 then i.ty else e.2)
      | none => valueFault card is (pre ++ [i]) r

/-- The parameters of a request against its card: stream, missing items, then values and combinations. -/
def readParams (card : Card) (bs : List Nat) : Except (Nat × Nat) (List Item) :=
  match parseItems card.items card.lenOk (bs.length + 1) bs [] with
  | .error e => .error e
  | .ok is =>
    match missing card.items is with
    | some ty => .error (stBAD_PARAMETER, ty)
    | none =>
      match valueFault card is [] is, card.lack is with
      | some e, _ => .error e
      | none, some ty => .error (stBAD_PARAMETER, ty)
      | none, none => .ok is

/-! ### Roles (R559) -/

/-- Opcodes every role reaches. -/
def viewerOps : List Nat :=
  [0x0001, 0x0002, 0x0003, 0x0004, 0x0005, 0x0006, 0x0008, 0x000A, 0x0010, 0x0410, 0x0514, 0x0E10, 0x0E11, 0x0E12, 0x0F10]

/-- Opcodes OPERATOR reaches beside VIEWER's. -/
def operatorOps : List Nat := [0x0B10, 0x0B11, 0x0B12, 0x0710, 0x0711, 0x0811, 0x0911, 0x0210, 0x0211, 0x0212]

/-- Opcodes SAFETY reaches beside VIEWER's. -/
def safetyOps : List Nat := [0x0C10, 0x0C11, 0x0C12, 0x0712]

/-- A role reaches an opcode (R559); SET_OBJECT is reached by the class of its target, and checked there. -/
def roleReaches (role op : Nat) : Bool :=
  viewerOps.contains op || op == 0x0009 ||
  (if role = 1 then operatorOps.contains op
   else if role = 2 then op / 256 != 0x0F && !safetyOps.contains op
   else if role = 3 then safetyOps.contains op
   else if role = 4 then op / 256 == 0x0F
   else false)

/-! ### Replies -/

/-- Send a reply to a message (R198, R208): PARTITION echoed, DEADLINE the GZ time at which execution ended. -/
def Mach.reply (m : Mach) (msg : Msg) (st : Nat) (fs : List Item) : Mach :=
  m.send { conn := msg.conn, event := false, more := false, replayed := false, queue := msg.queue, opcode := msg.opcode,
           tag := if (m.conn msg.conn).tag = 0 then msg.tag else (m.conn msg.conn).tag, seq := msg.seq, status := st, part := msg.part,
           deadline := m.gzStamp, fields := fs }

/-- Put a reply in a queue's cache, keeping the last 32 (R203). -/
def Mach.cacheReply (m : Mach) (q : Nat) (c : Cached) : Mach :=
  m.updCq q (fun d => { d with cache := (d.cache ++ [c]).drop ((d.cache.length + 1) - 32) })

/-- The final answer of an accepted request: cached, and sent unless NO_REPLY is set (R203). -/
def Mach.answer (m : Mach) (msg : Msg) (st : Nat) (fs : List Item) : Mach :=
  let m := m.when (st == stBUSY) (fun m => m.bump F.cqBUSY_REPLIES msg.queue)
  let m := m.cacheReply msg.queue ⟨msg.seq, true, false, msg.opcode, st, msg.part, m.gzStamp, fs⟩
  if bit msg.flags 0 then m else m.reply msg st fs

/-! ### Requests in execution (R193, R196, R204) -/

/-- OUTSTANDING of a queue: an open assembly, requests of this attachment whose reply is still to come. DEDUCED, log 13. -/
def Mach.outSync (m : Mach) (q : Nat) : Mach :=
  let c := m.cq q
  let e := m.obj F.cqQUEUE_EPOCH q
  m.setObj F.cqOUTSTANDING q (c.asm.isSome.toNat + (c.running.filter (fun x => x.2 == e)).toList.length +
    (c.waiting.filter (fun x => x.epoch == e)).length)

/-- The answer of a request that did not end at once: dropped after a fresh attach, kept in the cache alone where its session no longer
holds the queue. -/
def Mach.lateAnswer (m : Mach) (msg : Msg) (epoch st : Nat) (fs : List Item) : Mach :=
  if epoch ≠ m.obj F.cqQUEUE_EPOCH msg.queue then m
  else if (m.cq msg.queue).conn = msg.conn ∧ (m.conn msg.conn).tag = msg.tag then m.answer msg st fs
  else m.cacheReply msg.queue ⟨msg.seq, true, false, msg.opcode, st, msg.part, m.gzStamp, fs⟩

/-- The queue's request that has not ended ends. -/
def Mach.endRunning (m : Mach) (q st : Nat) (fs : List Item) : Mach :=
  match (m.cq q).running with
  | none => m
  | some (msg, epoch) => ((m.updCq q (fun c => { c with running := none })).lateAnswer msg epoch st fs).outSync q

/-- The CLIENT_NAME that records of the request in execution carry (R194). -/
def Mach.client (m : Mach) (l : List Nat) : Mach := m.updSys (fun x => { x with client := l })

/-! ### Credits (R205) -/

/-- Refill rate of a pool, credits per second: pool p of partition p, pool 8 of the system. -/
def Mach.poolRate (m : Mach) (k : Nat) : Nat :=
  if k < 8 then (if m.obj F.partCMD_CREDITS k = 0 then 2000 else m.obj F.partCMD_CREDITS k)
  else if m.obj F.zcpSYS_CREDITS = 0 then 4000 else m.obj F.zcpSYS_CREDITS

/-- Credits of a pool now, in 10^-9 credits. -/
def Mach.poolLevel (m : Mach) (k : Nat) : Nat :=
  let rate := m.poolRate k
  let cap := max 16 (rate / 4) * 10 ^ 9
  let p : Pool := ug {} m.pools k
  match p.level with
  | none => cap
  | some l => min cap (l + (m.now - p.since) * rate)

/-- Take one credit, if there is one. -/
def Mach.spend (m : Mach) (k : Nat) : Option Mach :=
  let l := m.poolLevel k
  if l < 10 ^ 9 then none
  else some { m with pools := uset {} m.pools k (fun _ => ⟨some (l - 10 ^ 9), m.now⟩) }

/-- Every pool brought up to the present instant, before a rate is written. -/
def Mach.settlePools (m : Mach) : Mach :=
  m.each (List.range 9) (fun m k => { m with pools := uset {} m.pools k (fun _ => ⟨some (m.poolLevel k), m.now⟩) })

/-- Opcodes that cost nothing and are never shed (R205). -/
def freeOps : List Nat := [0x0002, 0x0003, 0x0005, 0x0006]

/-! ### Sessions and queues (R193, R196) -/

/-- Close a queue's windows of the recorder (R524). -/
def Mach.closeWins (m : Mach) (q : Nat) : Mach :=
  m.updRec (fun r => { r with wins := r.wins.filter (fun w => w.2.queue != q) })

/-- Detach a queue; its state is held (R196). -/
def Mach.detach (m : Mach) (q : Nat) : Mach :=
  ((m.updCq q (fun c => { c with conn := 255, sentEv := 0 })).setObj F.cqATTACHED q 0).setObj F.cqSESSION_TAG q 0

/-- Queues attached to a connection's session. -/
def Mach.queuesOf (m : Mach) (conn : Nat) : List Nat := (List.range 64).filter (fun q => (m.cq q).conn == conn)

/-- Open sessions (R221 SESSIONS). -/
def Mach.sessions (m : Mach) : Nat := ((List.range 32).filter (fun c => (m.conn c).tag != 0)).length

/-- The debug level returns to CLOSED (R565); every change writes a record and raises DEBUG_LEVEL. -/
def Mach.setDebug (m : Mach) (l : Nat) : Mach :=
  if m.obj F.secDEBUG_LEVEL = l then m
  else
    let m := (m.setObj F.secDEBUG_LEVEL 0 l).updSec (fun x => if l = 0 then { x with leaseEnd := none, debugConn := 255 } else x)
    let m := m.when (decide (l < 2)) (fun m => { m with isl := { m.isl with debugHold := false } })
    (m.chron { sub := 0x0F, low := 0x80, cause := l }).notice 0 0x0F80 0xFF [itm 1 1 l]

/-- End a connection's session (R193): every queue attached to it is detached; debug it authenticated closes (R565). -/
def Mach.endSession (m : Mach) (conn : Nat) : Mach :=
  if (m.conn conn).tag = 0 then m
  else
    let m := m.each (m.queuesOf conn) Mach.detach
    let m := m.updConn conn (fun c => { c with tag := 0, role := 0, name := [] })
    let m := m.setObj F.zcpSESSIONS 0 m.sessions
    m.when (m.sec.debugConn == conn) (fun m => m.setDebug 0)

/-! ### The acceptance order (R201) -/

/-- The first item of a parameter stream is FRAGMENT: its index and the rest (R206). -/
def fragOf : List Nat → Option (Nat × List Nat)
  | 0xF2 :: 0 :: 2 :: h :: l :: r => some (h % 256 * 256 + l % 256, r)
  | _ => none

/-- The module takes no command: supply off, supervisor restarting or not yet booted, or a commanded reset running (R536, R543, R549). -/
def Mach.deaf (m : Mach) : Bool :=
  m.sys.off || m.sys.restarting.isSome || m.sys.resetDue.isSome ||
  (decide (1 ≤ m.sys.bringup) && decide (m.sys.bringup ≤ 4))

/-- The checks of step 9 from the opcode to ownership, then the body. DEDUCED, log 13. -/
def execStep9 (card : Card) (body : Cmd → Ram → Mach → Res) (msg : Msg) (role : Nat) (bytes : List Nat) (r : Ram) (m : Mach) : Res :=
  let owner := m.queueOwner msg.queue
  if msg.opcode ≠ card.op then Res.fail m stUNKNOWN_OPCODE
  else if card.bulk && m.obj F.cqCLASS msg.queue == 0 then Res.fail m stWRONG_QUEUE_CLASS
  else if msg.status ≠ 0 || msg.resv ≠ 0 || field msg.flags 4 1 ≠ 0 then Res.bad m 0
  else if !(isSys owner) && msg.part ≠ 0xFF && msg.part ≠ owner then Res.fail m stNOT_OWNER
  else if msg.deadline ≠ 0 && (!m.gzValid || m.gz > msg.deadline) then Res.fail m stTIMEOUT
  else
    match readParams card bytes with
    | .error e => Res.fail m e.1 [⟨0xF5, [e.2]⟩]
    | .ok is =>
      let c : Cmd := { conn := msg.conn, q := msg.queue, seq := msg.seq, owner := owner, part := msg.part, items := is, t := msg.t }
      if card.partTy.any (fun ty => msg.part ≠ 0xFF && c.has ty && c.num ty ≠ msg.part) then Res.bad m 0
      else if !(if m.mode = 0xFF then card.boot else (card.modesBy m is).contains m.mode) then Res.fail m stWRONG_MODE
      else if !(match card.roleBy with
          | some f => f role is
          | none => roleReaches role card.op) then Res.fail m stROLE_REFUSED
      else if card.sysBy is && !isSys owner then Res.fail m stNOT_OWNER
      else body c r m

/-- What a request's execution leaves, answered; or its reply still to come. A request that has waited brings its epoch. -/
def finished (msg : Msg) (late : Option Waiting) (x : Res) : Mach :=
  let m := x.m.client []
  if x.defer then
    (m.updCq msg.queue (fun c => { c with running := some (msg, (late.map (·.epoch)).getD (m.obj F.cqQUEUE_EPOCH msg.queue)) })).outSync msg.queue
  else match late with
    | none => m.answer msg x.st x.out
    | some w => m.lateAnswer msg w.epoch x.st x.out

/-- The machine as a request's checks find it: no assembly, the name of its session. -/
def Mach.entered (m : Mach) (msg : Msg) : Mach :=
  ((m.updCq msg.queue (fun c => { c with asm := none })).outSync msg.queue).client (m.conn msg.conn).name

/-- The execution of an accepted request, with fragments (R206): a non-final fragment gets no reply; the last one runs the checks on the
assembled stream. A request that is refused for another header field than FRAGMENT names type 0 (R200). -/
def run9 (card : Card) (body : Cmd → Ram → Mach → Res) (msg : Msg) (late : Option Waiting) (r : Ram) (m : Mach) : Mach × List W :=
  let more := bit msg.flags 5
  let refuse := fun (m : Mach) (st ty : Nat) => (finished msg late (Res.fail (m.entered msg) st [⟨0xF5, [ty]⟩]), ([] : List W))
  let finish := fun (m : Mach) (bs : List Nat) =>
    let x := execStep9 card body msg ((late.map (·.role)).getD (m.conn msg.conn).role) bs r (m.entered msg)
    (finished msg late x, x.ws)
  let at_ := if late.isSome then msg.t else m.now
  let keep := fun (m : Mach) (a : Asm) =>
    (((m.updCq msg.queue (fun c => { c with asm := some a })).outSync msg.queue).cacheReply msg.queue
      ⟨msg.seq, false, true, msg.opcode, 0, msg.part, 0, []⟩, ([] : List W))
  match (m.cq msg.queue).asm, fragOf msg.params with
  | some a, some (i, bs) =>
    if msg.opcode ≠ a.opcode ∨ msg.part ≠ a.part ∨ msg.deadline ≠ a.deadline then refuse m stBAD_PARAMETER 0
    else if i ≠ a.index + 1 then refuse m stBAD_PARAMETER 0xF2
    else if 46 < i ∨ 65536 < a.bytes.length + bs.length then refuse m stBAD_LENGTH 0xF2
    else if more then keep m { a with index := i, lastSeq := msg.seq, lastAt := at_, bytes := a.bytes ++ bs }
    else finish m (a.bytes ++ bs)
  | some _, none => refuse m stBAD_PARAMETER 0
  | none, some (i, bs) =>
    if i ≠ 0 then refuse m stBAD_PARAMETER 0xF2
    else if more then keep m ⟨msg.opcode, msg.part, msg.deadline, 0, msg.seq, at_, bit msg.flags 0, bs⟩
    else finish m bs
  | none, none => if more then refuse m stBAD_PARAMETER 0xF2 else finish m msg.params

/-- Step 9: the request is accepted; it waits while an earlier one of its queue has not ended (R204). -/
def step9 (card : Card) (body : Cmd → Ram → Mach → Res) (msg : Msg) (x : Extra) (r : Ram) (m : Mach) : Mach × List W :=
  let m := ((m.setObj F.cqNEXT_SEQ msg.queue ((msg.seq + 1) % 2 ^ 32)).bump F.cqEXECUTED msg.queue).updCq msg.queue
    (fun c => { c with accepted := c.accepted + 1 })
  if (m.cq msg.queue).running.isSome then
    ((m.updCq msg.queue (fun c => { c with waiting := c.waiting ++ [⟨msg, x, (m.conn msg.conn).role, m.obj F.cqQUEUE_EPOCH msg.queue⟩] })).outSync msg.queue, [])
  else run9 card body msg none r m

/-- Steps 7 to 9: sequence, limits, execution. -/
def step7 (card : Card) (body : Cmd → Ram → Mach → Res) (msg : Msg) (x : Extra) (r : Ram) (m : Mach) : Mach × List W :=
  let q := msg.queue
  let e := m.obj F.cqNEXT_SEQ q
  let d := (msg.seq + 2 ^ 32 - e) % 2 ^ 32
  if d ≠ 0 then
    if 2 ^ 32 - 32 ≤ d ∧ 2 ^ 32 - d ≤ (m.cq q).accepted then
      match (m.cq q).cache.find? (fun c => c.seq == msg.seq) with
      | some c =>
        if c.final then
          ((m.bump F.cqREPLAYED q).send ⟨msg.conn, false, false, true, q, c.opcode, (m.conn msg.conn).tag, c.seq, c.status, c.part,
            c.deadline, c.fields, []⟩, [])
        else (m, [])
      | none => (m, [])
    else ((m.bump F.cqGAP_REPLIES q).reply msg stSEQUENCE_GAP [⟨0xF3, toBe 4 e⟩], [])
  else
    let busy := fun (m : Mach) (retry cause : Nat) =>
      ((m.bump F.cqBUSY_REPLIES q).reply msg stBUSY [⟨0xF1, toBe 4 retry⟩, ⟨0xF6, [cause]⟩], ([] : List W))
    let k := if m.queueOwner q < 8 then m.queueOwner q else 8
    if 16 ≤ m.obj F.cqOUTSTANDING q then busy (if freeOps.contains msg.opcode then m else (m.spend k).getD m) 1000 0
    else if freeOps.contains msg.opcode then step9 card body msg x r m
    else
      match m.spend k with
      | none => busy m (cdiv (10 ^ 6) (m.poolRate k)) 1
      | some m =>
        if (3 ≤ m.obj F.zcpSHED_STAGE ∧ m.obj F.cqCLASS q = 1) ∨
           (2 ≤ m.obj F.zcpSHED_STAGE ∧ (msg.opcode = 0x0E10 ∨ msg.opcode = 0x0E11)) then busy m 100000 2
        else step9 card body msg x r m

/-- Steps 1 to 4: what is discarded, VERSION, length. The rest follows under `next`. -/
def step1 (msg : Msg) (m : Mach) (next : Mach → Mach × List W) : Mach × List W :=
  if m.deaf || (m.conn msg.conn).state ≠ 2 then (m, [])
  else if msg.size < 32 || msg.magic ≠ 0x5A43 || bit msg.flags 7 || bit msg.flags 6 then (m.bump F.zcpDISCARDED, [])
  else if msg.version ≠ 1 then (m.reply msg stBAD_PARAMETER [⟨0xF4, [1]⟩, ⟨0xF5, [0]⟩], [])
  else if msg.size ≠ 32 + msg.plen || 1400 < msg.plen || msg.params.length ≠ msg.plen then (m.reply msg stBAD_LENGTH [⟨0xF5, [0]⟩], [])
  else next m

/-- Step 5: the session (R193). -/
def step5 (msg : Msg) (m : Mach) (next : Mach → Mach × List W) : Mach × List W :=
  if (m.conn msg.conn).tag = 0 ∨ msg.tag ≠ (m.conn msg.conn).tag then (m.reply msg stSESSION_UNKNOWN [], [])
  else next (m.updConn msg.conn (fun c => { c with lastAt := m.now }))

/-- A received ZCP message whose row is not SESSION_OPEN or QUEUE_ATTACH, by the whole order of R201. -/
def zcp (card : Card) (body : Cmd → Ram → Mach → Res) (msg : Msg) (s : State) (x : Extra := .plain) : Out :=
  evR msg.t (fun r m =>
    step1 msg m (fun m => step5 msg m (fun m =>
      if 63 < msg.queue ∨ (m.cq msg.queue).conn ≠ msg.conn then (m.reply msg stQUEUE_NOT_ATTACHED [], [])
      else step7 card body msg x r m))) s

/-- As zcp, for a command that leaves the memories alone and does not read them. -/
def zcpM (card : Card) (body : Cmd → Mach → Res) (msg : Msg) (s : State) : Out := zcp card (fun c _ m => body c m) msg s

end Sys2Proof.Machine
end

