-- ==== Sys2Proof/Machine/Trunk.lean ====
section
/-! DEFINITION. Field trunks, places and GFP nodes as the module sees them (spec/08). -/
namespace Sys2Proof.Machine

/-- What the controller holds of a place. -/
def Mach.place (m : Mach) (n : Nat) : PlaceSt := ug {} m.places n

/-- Change it. -/
def Mach.updPlace (m : Mach) (n : Nat) (f : PlaceSt → PlaceSt) : Mach := { m with places := uset {} m.places n f }

/-- What the controller holds of a trunk. -/
def Mach.trunk (m : Mach) (t : Nat) : TrunkSt := ug {} m.trunks t

/-- Change it. -/
def Mach.updTrunk (m : Mach) (t : Nat) (f : TrunkSt → TrunkSt) : Mach := { m with trunks := uset {} m.trunks t f }

/-- EtherType of a frame (R222, R253, R480). An announcement of the module goes out as its publications do: DESIGN CHOICE, log 10. -/
def Mach.etherOf (m : Mach) (w : Frame) : Nat :=
  if w.port < 8 then m.obj F.trunkETHERTYPE (w.port % 4)
  else if w.port = 20 ∨ w.kind = 3 then m.sys.pairType else m.sys.pubType

/-- Send a frame; PAIR carries none while its controller is out (R539). -/
def Mach.emit (m : Mach) (w : Frame) : Mach :=
  m.when (w.port != 20 || !m.blockOut 0x22) (fun m => { m with wire := ⟨w, m.etherOf w, []⟩ :: m.wire })

/-- Send a frame on the plant network (R190): kind 3 heartbeat, 4 announcement of the module by its serial number (R23). -/
def Mach.emitNet (m : Mach) (kind : Nat) (body : List Nat) : Mach :=
  m.each m.plantPorts (fun m k => m.emit ⟨16 + k, kind, 0, body⟩)

/-- The module's trunk ports send: not off, in reset or before field discovery, and not in STAND-IN (R232, R473). -/
def Mach.sends (m : Mach) : Bool :=
  !m.sys.off && !(decide (1 ≤ m.sys.bringup) && decide (m.sys.bringup < 7)) && m.mode != 3

/-- Send on a trunk where its ports send and its controller is not out (R539): out of port A, in a ring out of port B as well (R227). DESIGN CHOICE, log 10. -/
def Mach.emitT (m : Mach) (w : Frame) : Mach :=
  m.when (m.sends && !m.blockOut w.port) (fun m => (m.emit w).when (m.obj F.trunkTOPOLOGY w.port != 0) (fun m => m.emit { w with port := 4 + w.port }))

/-- The 24-byte header of a GFP frame of the module (R234). -/
def Mach.gfpHead (m : Mach) (type trunk id assign cycle place count len : Nat) : List Nat :=
  [16 + type, 0] ++ toBe 2 (trunk * 2 ^ 9 + id) ++ toBe 4 (m.obj F.pairEPOCH) ++ toBe 4 assign ++ toBe 8 cycle ++ [place, count] ++ toBe 2 len

/-- The module ID under which a partition publishes. -/
def Mach.idFor (m : Mach) (p : Nat) : Nat :=
  match m.sys.idNext with
  | some (id, ps) => if ps.contains p then m.obj F.modMODULE_ID else id
  | none => m.obj F.modMODULE_ID

/-- A MANAGE frame to the node of a place, its data after the header (R234, R235). DESIGN CHOICE, log 10. -/
def Mach.manage (m : Mach) (trunk place assign mac : Nat) (data : List Nat) : Mach :=
  m.emitT ⟨trunk, 0xA, mac, m.gfpHead 0xA trunk (m.obj F.modMODULE_ID) assign 0 place 1 data.length ++ data⟩

/-- Writes of one slot of a partition's back input image, with its quality. -/
def backPut (p pt v q : Nat) : List W := [.put .back (frontAt p pt) (v % 2 ^ 16), .put .backQ (frontAt p pt) q]

/-- Quality alone. -/
def backQ (p pt q : Nat) : W := .put .backQ (frontAt p pt) q

/-- The channel of a place's or object's owner: the partition's, or EC0 where none owns it. -/
def Mach.chanOf (m : Mach) (p : Nat) : Nat := if p < 8 then m.partChan p else 0

/-- A module superseded by a higher controller epoch demotes at its next Clapper (R243, R494). -/
def Mach.demote (m : Mach) : Mach := m.when m.running (fun m => m.updSys (fun x => { x with demoting := true }))

/-! ### Slot values on the wire (R9, R237) -/

/-- Image slots of frame bytes for the slots from pt on: a 16-bit point is 2 bytes, a 32- or 64-bit point one big-endian value. -/
def slotsOf (ent : Nat → Nat) (pt : Nat) : Nat → List Nat → List Nat
  | 0, _ => []
  | fuel + 1, bs =>
    if bs.length < 2 then []
    else
      let n := if field (ent pt) 23 22 = 1 then 2 else if field (ent pt) 23 22 = 2 then 4 else 1
      let v := beNat (bs.take (2 * n))
      (List.range n).map (fun i => v / 2 ^ (16 * i) % 2 ^ 16) ++ slotsOf ent (pt + n) fuel (bs.drop (2 * n))

/-! ### Input frames (R243, R245, R248) -/

/-- The stale-node rule: an older assignment epoch for a place of this module (R248). DEDUCED, log 55. -/
def Mach.staleNode (m : Mach) (f : GfpIn) (n : Nat) : Mach :=
  let p := m.obj F.placePARTITION n
  let m := m.bump F.trunkSTALE_ASSIGN f.trunk.val
  let m := m.updTrunk f.trunk.val (fun x => { x with disown := if x.disown.contains f.mac then x.disown else f.mac :: x.disown })
  let m := m.manage f.trunk.val (f.place % 256) f.assignEpoch f.mac [2]
  let old := (m.place n).staleAt
  let m := (if old.any (fun a => decide (m.now < a + 60 * 10 ^ 9)) then m
    else (m.chron { sub := 5, low := 0x84, part := if p < 8 then p else 0xFF, inst := n, detail := toLe 4 f.assignEpoch }).updPlace n
      (fun x => { x with staleAt := some m.now }))
  (m.updPlace n (fun x => { x with stale := true })).notice (m.chanOf p) 0x0584 (if p < 8 then p else 0xFF)

/-- A frame with a place's current epoch on another trunk than the one it names (R248). -/
def Mach.wrongTrunk (m : Mach) (f : GfpIn) (n : Nat) : Mach :=
  let m := m.bump F.trunkUNKNOWN_FRAMES f.trunk.val
  if (m.place n).wrongAt.any (fun a => decide (m.now < a + 60 * 10 ^ 9)) then m
  else (m.chron { sub := 5, low := 0x01, inst := n, detail := [f.trunk.val] }).updPlace n (fun x => { x with wrongAt := some m.now })

/-- An input frame that passes R245 is latched. -/
def Mach.latchFrame (m : Mach) (r : Ram) (f : GfpIn) (n p : Nat) : Mach × List W :=
  let base := m.obj F.placeIN_BASE n
  let back := m.obj F.placeSTATE n == 3
  let m := m.updPlace n (fun x => { x with
    got := true
    viaB := f.viaB
    flags := f.flags })
  let m := m.setObj F.placeSTATE n 4
  let m := m.when back (fun m => m.notice (m.chanOf p) 0x0581 p)
  let vs := slotsOf (m.ownEnt r) base 738 f.data
  let q := if bit f.flags 5 || bit f.flags 4 then 2 else 0
  (m, (vs.zip (List.range vs.length)).flatMap (fun e => backPut p (base + e.2) e.1 q))

/-- A frame's CTRL_EPOCH above the module's own supersedes it (R243). -/
def Mach.hearEpoch (m : Mach) (trunk epoch : Nat) : Mach :=
  if m.obj F.pairEPOCH < epoch then
    ((m.bump F.trunkSTALE_EPOCH_HEARD trunk).chron { sub := 5, low := 0x01, inst := trunk, detail := toLe 4 epoch }).demote
  else m

/-- GFP_INPUT_FRAME (R245): latched into the back image, or counted. DEDUCED, log 55. -/
def execGfpInputFrame (t : Nat) (f : GfpIn) (s : State) : Out :=
  evR t (fun r m =>
    let n := f.trunkField % 4 * 256 + f.place % 256
    let p := m.obj F.placePARTITION n
    let unknown := fun (m : Mach) => (m.bump F.trunkUNKNOWN_FRAMES f.trunk.val, ([] : List W))
    if f.etherType = 0x88F7 ∨ m.sys.off ∨ m.blockOut f.trunk.val then (m, [])
    else if f.etherType ≠ m.obj F.trunkETHERTYPE f.trunk.val ∨ f.kind ≠ 2 ∨ 1476 < f.data.length then unknown m
    else if !f.fcs ∨ f.version ≠ 1 then unknown m
    else if f.moduleId ≠ m.obj F.modMODULE_ID ∨ m.obj F.placeSTATE n < 1 then unknown m
    else if f.assignEpoch < m.obj F.placeASSIGN_EPOCH n then (m.staleNode f n, [])
    else if f.trunkField ≠ f.trunk.val then
      if f.assignEpoch = m.obj F.placeASSIGN_EPOCH n then (m.wrongTrunk f n, []) else unknown m
    else if m.obj F.placeSTATE n < 2 ∨ 8 ≤ p then unknown m
    else if f.assignEpoch ≠ m.obj F.placeASSIGN_EPOCH n then unknown m
    else if (m.part p).clapAt + m.obj F.cycG_NS p < m.now + 2000 then ((m.bump F.placeLATE n).bump F.cycLATE_FRAMES p, [])
    else if f.time ≠ m.gzAt (m.part p).clapAt then (m.bump F.placeLATE n, [])
    else if f.mac ≠ (m.place n).mac ∨ f.length ≠ 2 * m.obj F.placeIN_SLOTS n then
      unknown (m.bump F.placeBAD_FRAMES n)
    else
      let m := m.hearEpoch f.trunk.val f.ctrlEpoch
      if (m.place n).got ∨ (m.part p).phase ≠ 1 then (m, []) else m.latchFrame r f n p) s

/-- DISOWN_REPEAT (R248): the disown requests of a trunk go out again in each best-effort period. -/
def execDisownRepeat (t : Nat) (trunk : Fin 4) (s : State) : Out :=
  ev t (fun m => m.each (m.trunk trunk.val).disown (fun m mac => m.manage trunk.val 0 0 mac [2])) s

/-- The places of the module. -/
def placeNums : List Nat := List.range 1024

/-- GFP_IDENTITY_FRAME (R235, R248): a node is heard; an unassigned one that matches some place is announced. DEDUCED, log 55. -/
def execGfpIdentityFrame (t : Nat) (trunk : Fin 4) (id : NodeId) (s : State) : Out :=
  ev t (fun m =>
    if m.sys.off || m.blockOut trunk.val then m else
    let m := m.updTrunk trunk.val (fun x => { x with heard := id :: x.heard.filter (fun y => y.serial != id.serial) })
    let m := m.setObj F.trunkNODES_SEEN trunk.val (m.trunk trunk.val).heard.length
    if id.moduleId = 0xFFFF ∧ placeNums.any (fun n => decide (1 ≤ m.obj F.placeSTATE n) && m.obj F.placeVENDOR n == id.vendor &&
        m.obj F.placePRODUCT n == id.product) then m.notice 0 0x0585 0xFF
    else m) s

/-! ### Ring state (R228, R229) -/

/-- New link states and reaches of a trunk. -/
def Mach.setLinks (m : Mach) (t la lb ra rb : Nat) : Mach :=
  (((m.setObj F.trunkLINK_A t la).setObj F.trunkLINK_B t lb).setObj F.trunkREACH_A t ra).setObj F.trunkREACH_B t rb

/-- TRUNK_LINK_LOSS (R228, R229): a ring is broken; nodes between two breaks are isolated. -/
def execTrunkLinkLoss (t : Nat) (trunk : Fin 4) (linkA linkB reachA reachB isolated : Nat) (s : State) : Out :=
  ev t (fun m =>
    let k := trunk.val
    let m := m.setLinks k linkA linkB reachA reachB
    if m.obj F.trunkTOPOLOGY k = 0 then m
    else
      let st := if isolated = 0 then 2 else 3
      if m.obj F.trunkRING_STATE k = st then m
      else
        let first := decide (m.obj F.trunkRING_STATE k < 2)
        let m := (m.when (decide (m.obj F.trunkRING_STATE k < st)) (fun m => m.bump F.trunkBREAKS k)).setObj F.trunkRING_STATE k st
        m.when first (fun m => (m.chron { sub := 5, low := 0x82, inst := k, detail := toLe 2 reachA ++ toLe 2 reachB }).notice 0 0x0582 0xFF)) s

/-- TRUNK_LINK_UP (R228): both links up and every node reached from both sides closes the ring. -/
def execTrunkLinkUp (t : Nat) (trunk : Fin 4) (linkA linkB reachA reachB : Nat) (s : State) : Out :=
  ev t (fun m =>
    let k := trunk.val
    let m := m.setLinks k linkA linkB reachA reachB
    let nodes := (placeNums.filter (fun n => n / 256 == k && decide (2 ≤ m.obj F.placeSTATE n))).length
    if m.obj F.trunkTOPOLOGY k = 0 then m
    else if linkA = 1 ∧ (linkB = 1) ∧ nodes ≤ reachA ∧ nodes ≤ reachB then
      let was := m.obj F.trunkRING_STATE k
      let m := m.setObj F.trunkRING_STATE k 1
      m.when (decide (2 ≤ was)) (fun m => (m.chron { sub := 5, low := 0x83, inst := k }).notice 0 0x0583 0xFF)
    else m) s

/-! ### Quality at the image swap, the status word (R178, R245, R246) -/

/-- A place's points and status word at the image swap of its partition. -/
def Mach.swapPlace (m : Mach) (p n : Nat) : Mach × List W :=
  let x := m.place n
  let base := m.obj F.placeIN_BASE n
  let slots := m.obj F.placeIN_SLOTS n
  let missed := if x.got then 0 else min 255 (x.missed + 1)
  let m := m.when (!x.got && decide (2 ≤ m.obj F.placeSTATE n)) (fun m => m.bump F.placeMISSING n)
  let lost := decide (3 ≤ missed) && m.obj F.placeSTATE n == 4
  let m := m.when lost (fun m =>
    let m := (m.setObj F.placeSTATE n 3).bump F.placeLOST n
    (m.chron { sub := 5, low := 0x80, part := p, inst := n, cycle := (m.part p).cycle }).notice (m.chanOf p) 0x0580 p)
  let word := x.got.toNat + field x.flags 7 7 * 2 + field x.flags 6 6 * 4 + field x.flags 5 5 * 8 + field x.flags 3 3 * 16 +
    (x.viaB && x.got).toNat * 32 + x.stale.toNat * 64 + missed * 256
  let sp := m.obj F.placeSTATUS_POINT n
  let ws := (if sp < 2 ^ 20 then backPut p sp word 0 else []) ++
    (if missed = 0 then [] else (List.range slots).map (fun i => backQ p (base + i) (if missed ≤ 2 then 1 else 3)))
  (m.updPlace n (fun y => { y with
    got := false
    stale := false
    missed := missed }), ws)

/-- Every configured place of a partition at its image swap. -/
def Mach.swapPlaces (m : Mach) (p : Nat) : Mach × List W :=
  (placeNums.filter (fun n => m.obj F.placePARTITION n == p && decide (1 ≤ m.obj F.placeSTATE n))).foldl
    (fun x n => let y := x.1.swapPlace p n
      (y.1, x.2 ++ y.2)) (m, [])

/-! ### Commands (R251, R252) -/

/-- The NODE item of a discovery. -/
def nodeBytes (d : NodeId) : List Nat :=
  toBe 2 d.hopsA ++ toBe 2 d.hopsB ++ toBe 4 d.vendor ++ toBe 4 d.product ++ toBe 8 d.serial ++ toBe 4 d.firmware ++ toBe 2 d.inSlots ++
  toBe 2 d.outSlots ++ toBe 2 d.moduleId ++ [d.place % 256, d.flags % 256]

/-- The card of TRUNK_DISCOVER. -/
def trunkDiscoverCard : Card :=
  { op := 0x0510, bulk := true, modes := [0, 1, 2, 5], sysOnly := true, items := [⟨1, 1, 1, true, false⟩],
    valOk := fun _ v => decide (beNat v ≤ 3) }

/-- The effect of TRUNK_DISCOVER (R251). -/
def trunkDiscover (c : Cmd) (m : Mach) : Res :=
  let k := c.num 1
  if (m.trunk k).disc.isSome then Res.busy3 m 200000
  else Res.started ((m.updTrunk k (fun x => { x with
    disc := some (c.q, c.seq, m.now)
    heard := [] })).emitT ⟨k, 0x8, 0, m.gfpHead 0x8 0 (m.obj F.modMODULE_ID) 0 0 0 1 0⟩)

/-- TRUNK_DISCOVER (R251). -/
def execTrunkDiscover (msg : Msg) (s : State) : Out :=
  zcpM trunkDiscoverCard trunkDiscover msg s

/-- Insert a node by HOPS_A. -/
def insHops (d : NodeId) : List NodeId → List NodeId
  | [] => [d]
  | e :: r => if d.hopsA ≤ e.hopsA then d :: e :: r else e :: insHops d r

/-- DISCOVERY_COMPLETE (R251): the completion carries every node heard, in order of HOPS_A. -/
def execDiscoveryComplete (t : Nat) (trunk : Fin 4) (s : State) : Out :=
  ev t (fun m =>
    match (m.trunk trunk.val).disc with
    | some (q, sq, _) =>
      let ns := (m.trunk trunk.val).heard.foldr insHops []
      (m.updTrunk trunk.val (fun x => { x with disc := none })).complete q 0x0510 sq stDONE (ns.map (fun d => ⟨1, nodeBytes d⟩))
    | none => m) s

/-- TRUNK, PLACE, SERIAL and FORCE of the node commands. -/
def nodeItems (serial : Bool) : List Spec :=
  [⟨1, 1, 1, true, false⟩, ⟨2, 1, 1, true, false⟩, ⟨3, 8, 8, serial, false⟩, ⟨4, 1, 1, false, false⟩]

/-- Values of the node commands. -/
def nodeVal (ty : Nat) (v : List Nat) : Bool := if ty = 1 then decide (beNat v ≤ 3) else if ty = 4 then decide (beNat v ≤ 1) else true

/-- A node heard, by serial number. -/
def Mach.heardNode (m : Mach) (serial : Nat) : Option NodeId :=
  ((List.range 4).flatMap (fun t => (m.trunk t).heard)).find? (·.serial == serial)

/-- Whom a command of a place may come from: its partition's queues and the system's (R252). -/
def Mach.placeGuard (m : Mach) (c : Cmd) (n : Nat) (k : Mach → Res) : Res :=
  if m.obj F.placeSTATE n = 0 then Res.bad m 2
  else if !isSys c.owner && m.obj F.placePARTITION n ≠ c.owner then Res.fail m stNOT_OWNER
  else k m

/-- FALLBACK and preset of each slot of a window, under given ownership entries and presets (R240). -/
def fallbackTable (ent preset : Nat → Nat) (base n : Nat) : List Nat :=
  (List.range n).flatMap (fun i => entFallback (ent (base + i)) :: toBe 2 (preset (base + i)))

/-- What the module sends a node of its assignment (R240, R252): trunk, place, module ID, controller epoch, assignment epoch, H, and for
each output slot its FALLBACK and its preset. DESIGN CHOICE, log 10. -/
def Mach.assignBytes (m : Mach) (r : Ram) (n : Nat) : List Nat :=
  [1, n / 256, n % 256] ++ toBe 2 (m.obj F.modMODULE_ID) ++ toBe 4 (m.obj F.pairEPOCH) ++ toBe 4 (m.obj F.placeASSIGN_EPOCH n) ++
  toBe 2 (m.obj F.placeHOLD_MS n) ++ fallbackTable (m.ownEnt r) (rd r .preset) (m.obj F.placeOUT_BASE n) (m.obj F.placeOUT_SLOTS n)

/-- Send a place's node its assignment. -/
def Mach.sendAssign (m : Mach) (r : Ram) (n mac : Nat) : Mach :=
  m.manage (n / 256) (n % 256) (m.obj F.placeASSIGN_EPOCH n) mac (m.assignBytes r n)

/-- Raise a place's epoch and bind a node to it (R247, R252). A controller epoch at its limit starts at 1 again with the re-assignment of the
nodes in COMMISSION (R244). DEDUCED, log 55. -/
def Mach.assign (m : Mach) (r : Ram) (c : Cmd) (op n serial : Nat) : Res :=
  let e := m.obj F.placeASSIGN_EPOCH n + 1
  let node := m.heardNode serial
  let m := m.when (op == 0x0511 && m.obj F.pairEPOCH == 2 ^ 32 - 1) (fun m => m.setObj F.pairEPOCH 0 1)
  let m := ((m.setObj F.placeASSIGN_EPOCH n e).setObj F.placeSERIAL n serial).setObj F.placeSTATE n 2
  let m := m.updPlace n (fun x => { x with
    confirm := some (c.q, c.seq, op, m.now)
    mac := 0
    missed := 255 })
  Res.started (m.sendAssign r n ((node.map (·.mac)).getD 0))

/-- The checks both assigning commands share. -/
def Mach.nodeChecks (m : Mach) (n serial : Nat) (k : Mach → Res) : Res :=
  match m.heardNode serial with
  | none => k m
  | some d =>
    if d.vendor ≠ m.obj F.placeVENDOR n ∨ d.product ≠ m.obj F.placePRODUCT n then Res.fail m 0x1502
    else if d.moduleId ≠ 0xFFFF ∧ !(d.moduleId == m.obj F.modMODULE_ID && d.place == n % 256 && m.obj F.placeSERIAL n == serial) then
      Res.fail m 0x1503
    else k m

/-- The card of NODE_ASSIGN. -/
def nodeAssignCard : Card :=
  { op := 0x0511, bulk := true, modes := [0], items := nodeItems true, valOk := nodeVal }

/-- The effect of NODE_ASSIGN (R252). -/
def nodeAssign (c : Cmd) (r : Ram) (m : Mach) : Res :=
  let n := c.num 1 * 256 + c.num 2
  m.placeGuard c n (fun m =>
    if m.obj F.placeASSIGN_EPOCH n = 2 ^ 32 - 1 then Res.fail m stNO_RESOURCE
    else m.nodeChecks n (c.num 3) (fun m =>
      if m.obj F.placeSERIAL n ≠ 0 ∧ m.obj F.placeSERIAL n ≠ c.num 3 then Res.fail m 0x1503
      else m.assign r c 0x0511 n (c.num 3)))

/-- NODE_ASSIGN (R252). -/
def execNodeAssign (msg : Msg) (s : State) : Out :=
  zcp nodeAssignCard nodeAssign msg s

/-- The card of NODE_REPLACE. -/
def nodeReplaceCard : Card :=
  { op := 0x0513, bulk := true, modes := [0, 1, 2], items := nodeItems true, valOk := nodeVal }

/-- The effect of NODE_REPLACE (R252). -/
def nodeReplace (c : Cmd) (r : Ram) (m : Mach) : Res :=
  let n := c.num 1 * 256 + c.num 2
  m.placeGuard c n (fun m =>
    if m.obj F.placeASSIGN_EPOCH n = 2 ^ 32 - 1 then Res.fail m stNO_RESOURCE
    else m.nodeChecks n (c.num 3) (fun m =>
      if c.num 4 = 0 ∧ m.obj F.placeSTATE n = 4 then Res.fail m 0x1503
      else m.assign r c 0x0513 n (c.num 3)))

/-- NODE_REPLACE (R252). -/
def execNodeReplace (msg : Msg) (s : State) : Out :=
  zcp nodeReplaceCard nodeReplace msg s

/-- The card of NODE_UNASSIGN. -/
def nodeUnassignCard : Card :=
  { op := 0x0512, bulk := true, modes := [0], items := nodeItems false, valOk := nodeVal }

/-- The effect of NODE_UNASSIGN (R252): the present node is disowned, the place holds no serial number; it completes with the new epoch. -/
def nodeUnassign (c : Cmd) (m : Mach) : Res :=
  let n := c.num 1 * 256 + c.num 2
  m.placeGuard c n (fun m =>
    if m.obj F.placeASSIGN_EPOCH n = 2 ^ 32 - 1 then Res.fail m stNO_RESOURCE
    else
      let e := m.obj F.placeASSIGN_EPOCH n + 1
      let mac := (m.place n).mac
      let m := ((m.setObj F.placeASSIGN_EPOCH n e).setObj F.placeSERIAL n 0).setObj F.placeSTATE n 1
      let m := m.when (mac != 0) (fun m => (m.updTrunk (n / 256) (fun x => { x with disown := mac :: x.disown })).manage
        (n / 256) (n % 256) e mac [2])
      let m := m.updPlace n (fun x => { x with
        mac := 0
        confirm := none
        missed := 255 })
      Res.started (m.complete c.q 0x0512 c.seq stDONE [itm 1 4 e] (m.obj F.placePARTITION n)))

/-- NODE_UNASSIGN (R252). -/
def execNodeUnassign (msg : Msg) (s : State) : Out :=
  zcpM nodeUnassignCard nodeUnassign msg s

/-- The card of NODE_DIAG_READ. -/
def nodeDiagReadCard : Card :=
  { op := 0x0514, bulk := true, modes := [0, 1, 2, 4, 5], items := [⟨1, 1, 1, true, false⟩, ⟨2, 1, 1, true, false⟩], valOk := nodeVal }

/-- The effect of NODE_DIAG_READ (R252): the node's diagnostic block. -/
def nodeDiagRead (c : Cmd) (m : Mach) : Res :=
  let n := c.num 1 * 256 + c.num 2
  m.placeGuard c n (fun m =>
    if (m.place n).diag = [] then Res.fail m 0x1501 else Res.done m [⟨1, (m.place n).diag.take 1024⟩])

/-- NODE_DIAG_READ (R252). -/
def execNodeDiagRead (msg : Msg) (s : State) : Out :=
  zcpM nodeDiagReadCard nodeDiagRead msg s

/-- NODE_CONFIRM_TIMEOUT (R252): the node has not confirmed within 1 s. -/
def execNodeConfirmTimeout (t : Nat) (place : Fin 1024) (s : State) : Out :=
  ev t (fun m =>
    match (m.place place.val).confirm with
    | some (q, sq, op, at_) =>
      if m.now < at_ + 10 ^ 9 then m
      else (m.updPlace place.val (fun x => { x with confirm := none })).complete q op sq 0x1501
        [itm 1 4 (m.obj F.placeASSIGN_EPOCH place.val)] (m.obj F.placePARTITION place.val)
    | none => m) s

/-- MANAGE_REPLY (R252): a confirmation completes an assignment; a diagnostic block, a reach, the end of a disown. -/
def execManageReply (t : Nat) (trunk : Fin 4) (mac place : Nat) (r : ManageRep) (s : State) : Out :=
  ev t (fun m =>
    let n := trunk.val * 256 + place % 256
    if m.sys.off || m.blockOut trunk.val then m else
    match r with
    | .confirm e =>
      match (m.place n).confirm with
      | some (q, sq, op, _) =>
        if e ≠ m.obj F.placeASSIGN_EPOCH n then m
        else (m.updPlace n (fun x => { x with
          confirm := none
          mac := mac })).complete q op sq stDONE [itm 1 4 e] (m.obj F.placePARTITION n)
      | none => m
    | .diag bs => m.updPlace n (fun x => { x with diag := bs })
    | .reach a b => m.setObj F.placeHOPS n (min a 255 * 256 + min b 255)
    | .disowned => m.updTrunk trunk.val (fun x => { x with disown := x.disown.filter (· != mac) })) s

end Sys2Proof.Machine
end

