-- ==== Sys2Proof/Machine/Segment.lean ====
section
/-! DEFINITION. CAN XL field segments: cyclic frames, joins, filters, host frames (spec/09). -/
namespace Sys2Proof.Machine

/-- What a segment controller holds. -/
def Mach.sg (m : Mach) (s : Nat) : SegSt := ug {} m.segs s

/-- Change it. -/
def Mach.updSg (m : Mach) (s : Nat) (f : SegSt → SegSt) : Mach := { m with segs := uset {} m.segs s f }

/-- What the controller holds of a node. -/
def Mach.node (m : Mach) (n : Nat) : NodeSt := ug {} m.nodes n

/-- Change it. -/
def Mach.updNode (m : Mach) (n : Nat) (f : NodeSt → NodeSt) : Mach := { m with nodes := uset {} m.nodes n f }

/-- The segment has nodes, reference frames and a gate (R256: XL, MIXED, FD). -/
def Mach.segTimed (m : Mach) (s : Nat) : Bool := decide (1 ≤ m.obj F.segMODE s) && decide (m.obj F.segMODE s ≤ 3)

/-- The controller sends: STATE running, the module's field ports on, not a stand-in (R270, R277), its controller not out (R539). -/
def Mach.segSends (m : Mach) (s : Nat) : Bool := m.obj F.segSTATE s == 2 && m.sends && !m.blockOut (0x10 + s)

/-- Put a frame on a segment's bus, with its format, AF, SDT and VCID. -/
def Mach.emitBus (m : Mach) (s ident dest : Nat) (bus : List Nat) (body : List Nat) : Mach :=
  { m with wire := ⟨⟨8 + s, ident, dest, body⟩, 0, bus⟩ :: m.wire }

/-- Format of the module's FD frames on a segment: with a switch, or without one (R257). -/
def Mach.segFd (m : Mach) (s : Nat) : Nat := if m.obj F.segFD_RATE s = 0xFF then 2 else 1

/-- Format, AF, SDT and VCID of the module's own frames (R259): AF[31:23] is MODULE_ID, and the segment's SDT; in XL frames only. -/
def Mach.busHead (m : Mach) (s : Nat) (xl : Bool) : List Nat :=
  if xl then [0] ++ toBe 4 (m.obj F.modMODULE_ID % 512 * 2 ^ 23) ++ [m.obj F.segSDT s, 0] else [m.segFd s]

/-- Send a segment frame of the module: its format, identifier and data. DESIGN CHOICE, log 10. -/
def Mach.emitS (m : Mach) (s : Nat) (xl : Bool) (ident dest : Nat) (body : List Nat) : Mach :=
  m.when (m.segSends s) (fun m => m.emitBus s ident dest (m.busHead s xl) body)

/-- STATE of a segment that has neither bus-off nor transceiver fault (R256, R280). -/
def Mach.segIdle (m : Mach) (s : Nat) : Nat :=
  if m.obj F.segMODE s = 0 then 0 else if m.obj F.segMODE s = 5 then 1 else 2

/-- The segment's controller takes up its mode (R256). -/
def Mach.segStart (m : Mach) (s : Nat) : Mach := m.setObj F.segSTATE s (m.segIdle s)

/-- The nodes of a segment. -/
def nodesOf (s : Nat) : List Nat := (List.range 63).map (fun i => s * 64 + i + 1)

/-- Configured nodes of a partition on a segment. -/
def Mach.nodesOfPart (m : Mach) (s p : Nat) : List Nat :=
  (nodesOf s).filter (fun n => m.obj F.nodePARTITION n == p && decide (1 ≤ m.obj F.nodeSTATE n))

/-- Channel and PARTITION of a node's owner. -/
def Mach.nodePart (m : Mach) (n : Nat) : Nat := if m.obj F.nodePARTITION n < 8 then m.obj F.nodePARTITION n else 0xFF

/-- A segment's own range of point numbers (R260). -/
def segRange (s pt : Nat) : Bool := decide (0x01000 + s * 0x1E00 ≤ pt) && decide (pt ≤ 0x01000 + s * 0x1E00 + 0x1DFF)

/-! ### Times of the segment schedule (R43, R257, R264) -/

/-- Arbitration rate, kbit/s. -/
def arbKbps (code : Nat) : Nat := if code = 0 then 125 else if code = 1 then 250 else if code = 2 then 500 else 1000

/-- XL data rate, kbit/s. -/
def xlKbps (code : Nat) : Nat :=
  1000 * (if code = 0 then 2 else if code = 1 then 4 else if code = 2 then 5 else if code = 3 then 8 else if code = 4 then 10
    else if code = 5 then 16 else 20)

/-- FD data rate, kbit/s. -/
def fdKbps (code : Nat) : Nat :=
  1000 * (if code = 0 then 1 else if code = 1 then 2 else if code = 2 then 4 else if code = 3 then 5 else 8)

/-- Data rate of a frame on a segment, kbit/s (R263): of its own format; without a switch the arbitration rate. -/
def Mach.dataKbps (m : Mach) (s : Nat) (xl : Bool) : Nat :=
  if xl then xlKbps (m.obj F.segXL_RATE s)
  else if m.obj F.segFD_RATE s = 0xFF then arbKbps (m.obj F.segARB_RATE s) else fdKbps (m.obj F.segFD_RATE s)

/-- t_f(p) in ps (R43): b_arb = 34 bits, b_dov = 96 bits. -/
def Mach.tf (m : Mach) (s : Nat) (xl : Bool) (p : Nat) : Nat :=
  cdiv (34 * 10 ^ 9) (arbKbps (m.obj F.segARB_RATE s)) + cdiv ((8 * p + 96) * 10 ^ 9) (m.dataKbps s xl)

/-- The same of a host frame of a format: one without a switch runs at the arbitration rate throughout (R263). -/
def Mach.tfHost (m : Mach) (s fmt p : Nat) : Nat :=
  if 2 ≤ fmt then cdiv ((8 * p + 130) * 10 ^ 9) (arbKbps (m.obj F.segARB_RATE s)) else m.tf s (fmt == 0) p

/-- The format of reference, management and aperiodic frames: XL in mode XL, FD in MIXED and FD (R256). -/
def Mach.segXl (m : Mach) (s : Nat) : Bool := m.obj F.segMODE s == 1

/-- Bus time of a node's input frame, ps. -/
def Mach.tfIn (m : Mach) (n : Nat) : Nat := m.tf (n / 64) (m.obj F.nodeFORMAT n == 0) (2 + 2 * m.obj F.nodeIN_SLOTS n)

/-- Nodes that send input frames. -/
def Mach.inNodes (m : Mach) (s p : Nat) : List Nat := (m.nodesOfPart s p).filter (fun n => m.obj F.nodeIN_SLOTS n != 0)

/-- G_seg(s) of a partition, ps (R43): t_f(8), its input frames, and the other partitions' input frames that can precede its last one,
those of lower identifier (R45, R263). DEDUCED, log 34. -/
def Mach.gSeg (m : Mach) (s p : Nat) : Nat :=
  let own := m.inNodes s p
  let last := own.foldl max 0
  let others := ((List.range 8).filter (· != p)).flatMap (fun q => (m.inNodes s q).filter (fun n => decide (n < last)))
  m.tf s (m.segXl s) 8 + ((own ++ others).map m.tfIn).sum

/-- CLOSE_LEAD, ps (R264). -/
def Mach.closeLead (m : Mach) (s : Nat) : Nat := m.tf s (m.segXl s) (m.obj F.segAPER_MAX s) + 5000000

/-- The gate's closings that bear on an instant: for each partition with nodes whose grid runs, and for additional reference frames where no
Clapper of theirs falls within 10 ms of the last one (R261), whether the instant lies inside one, and when the next begins (ns). -/
def Mach.gateAt (m : Mach) (s x : Nat) : Bool × Nat :=
  let lead := cdiv (m.closeLead s) 1000
  let ps := (List.range 8).filter (fun p => (m.part p).clapped && (m.nodesOfPart s p) != [])
  let one := fun (p : Nat) =>
    let c := (m.part p).clapAt
    let shut := m.period p - (m.obj F.cycU_NS p + lead)
    let g := cdiv (m.gSeg s p) 1000
    if x < c then (decide (c ≤ x + m.obj F.cycU_NS p + lead), c - (m.obj F.cycU_NS p + lead))
    else (decide (x < c + g) || decide (c + shut ≤ x), c + shut)
  let tref := cdiv (m.tf s (m.segXl s) 8) 1000
  let due := (m.sg s).refAt + 10000000
  let extra := ps.all (fun p => decide (due < (m.part p).clapAt + m.period p))
  let refs : List (Bool × Nat) := (decide ((m.sg s).refAt ≤ x) && decide (x < (m.sg s).refAt + tref), due - lead) ::
    (if extra then [(decide (due ≤ x + lead) && decide (x < due + tref), due - lead)] else [])
  let all := ps.map one ++ (if extra then refs else refs.map (fun e => (e.1, x + 10 ^ 9)))
  (all.any (·.1), (all.map (·.2)).foldl min (x + 10 ^ 9))

/-- The gate is open at an instant; a segment without a gate is always open (R256). -/
def Mach.gateOpen (m : Mach) (s x : Nat) : Bool := !m.segTimed s || !(m.gateAt s x).1

/-! ### Violations and load (R266) -/

/-- Violations not yet recorded are recorded once a minute, with SEG_GATE_VIOLATION. -/
def Mach.vioSay (m : Mach) (s : Nat) : Mach :=
  let x := m.sg s
  if x.vio = 0 ∨ x.vioAt.any (fun a => decide (m.now < a + 60 * 10 ^ 9)) then m
  else ((m.chron { sub := 6, low := 0x88, inst := s, count := x.vio }).notice 0 0x0688 0xFF).updSg s (fun x => { x with
    vio := 0
    vioAt := some m.now })

/-- Count one violation. -/
def Mach.violate (m : Mach) (s : Nat) : Mach := (m.updSg s (fun x => { x with vio := x.vio + 1 })).vioSay s

/-- A frame that is not a cyclic, reference or JOIN frame is held against the gate and its node's EVT_MIN_US. -/
def Mach.police (m : Mach) (f : SegIn) : Mach :=
  let s := f.seg.val
  if !m.segTimed s then m
  else
    let m := if m.gateOpen s f.sof then m else (m.bump F.segGATE_VIOLATIONS s).violate s
    match (nodesOf s).find? (fun n => m.obj F.nodeEVT_BYTES n != 0 && m.obj F.nodeEVT_ID n == f.ident) with
    | none => m
    | some n =>
      let near := (m.node n).eventAt.any (fun a => decide (f.sof < a + m.obj F.nodeEVT_MIN_US n * 1000))
      let m := m.updNode n (fun x => { x with eventAt := some f.sof })
      if near then (m.bump F.nodeOVER_RATE n).violate s else m

/-! ### Cyclic frames (R259, R261, R268) -/

/-- The header word of a cyclic frame. -/
def segHead (f : SegIn) : Nat := beNat (f.data.take 2)

/-- An XL segment frame's AF and SDT match (R259). -/
def Mach.segAddr (m : Mach) (f : SegIn) (a : Nat) : Bool :=
  f.fmt.val != 0 || (field f.af 31 23 == m.obj F.modMODULE_ID % 512 && field f.af 22 17 == a && field f.af 16 0 == 0 &&
    f.sdt == m.obj F.segSDT f.seg.val)

/-- An input frame of a node is latched (R268): slots and quality in the back image; a higher epoch demotes (R243). -/
def Mach.latchSeg (m : Mach) (r : Ram) (f : SegIn) (n p : Nat) : Mach × List W :=
  let h := segHead f
  let d := (field h 13 6 + 256 - m.obj F.pairEPOCH % 256) % 256
  let m := if 1 ≤ d ∧ d ≤ 127 then
      ((m.updSg f.seg.val (fun x => { x with epochHeard := x.epochHeard + 1 })).chron
        { sub := 6, low := 0x01, inst := n, detail := [field h 13 6] }).demote
    else m
  let back := m.obj F.nodeSTATE n == 3
  let m := (m.updNode n (fun x => { x with
    got := true
    toggle := some (field h 15 14)
    header := h })).setObj F.nodeSTATE n 4
  let m := m.when back (fun m => m.notice (m.chanOf p) 0x0683 p)
  let base := m.obj F.nodeIN_BASE n % 2 ^ 20
  let vs := slotsOf (m.ownEnt r) base 1023 (f.data.drop 2)
  let q := if bit h 3 || bit h 2 then 2 else 0
  (m, (vs.zip (List.range vs.length)).flatMap (fun e => backPut p (base + e.2) e.1 q))

/-- A segment protocol frame that is no cyclic one arrives: a bad one is counted in ERR_FRAMES (R259, R280); its XL address fits node a. -/
def Mach.segTaken (m : Mach) (f : SegIn) (a : Option Nat) : Bool :=
  f.ok && !f.ext && (match a with
    | some a => m.segAddr f a
    | none => true)

/-- SEG_INPUT_FRAME (R268). -/
def execSegInputFrame (t : Nat) (f : SegIn) (s : State) : Out :=
  evR t (fun r m =>
    let k := f.seg.val
    let a := f.ident - 0x03F
    let n := k * 64 + a
    let p := m.obj F.nodePARTITION n
    let bad := fun (m : Mach) => (m.bump F.segERR_FRAMES k, ([] : List W))
    if m.blockOut (0x10 + k) ∨ !m.segTimed k ∨ (m.obj F.segSTATE k ≠ 1 ∧ m.obj F.segSTATE k ≠ 2) then (m, [])
    else if !f.ok ∨ f.ext ∨ f.ident < 0x040 ∨ 0x07E < f.ident then bad m
    else if m.obj F.nodeSTATE n < 2 ∨ 8 ≤ p then bad m
    else if (m.obj F.nodeFORMAT n == 0) != (f.fmt.val == 0) ∨ f.fmt.val = 3 ∨ !m.segAddr f a then bad m
    else if f.sof ≤ (m.part p).clapAt ∨ (m.part p).clapAt + m.obj F.cycG_NS p < m.now + 2000 ∨ (m.part p).phase ≠ 1 then
      ((m.bump F.nodeLATE n).bump F.cycLATE_FRAMES p, [])
    else if f.data.length ≠ 2 + 2 * m.obj F.nodeIN_SLOTS n then bad m
    else if (m.node n).toggle = some (field (segHead f) 15 14) ∨ (m.node n).got then bad m
    else m.latchSeg r f n p) s

/-- A reference frame (R261): 8 bytes, the GZ time of its own SOF. -/
def Mach.refFrame (m : Mach) (s : Nat) : Mach :=
  if m.segTimed s && m.segSends s then
    (m.emitS s (m.segXl s) (m.obj F.pairEPOCH % 2) 0 (toBe 8 m.gz)).updSg s (fun x => { x with refAt := m.now })
  else m

/-- Reference frames at a partition's Clapper, on the segments on which it owns a node. -/
def Mach.clapRefs (m : Mach) (p : Nat) : Mach :=
  m.each ((List.range 8).filter (fun s => m.segTimed s && (m.nodesOfPart s p) != [])) Mach.refFrame

/-- EXTRA_REFERENCE_FRAME (R261): at a grid instant after which the gap would exceed 10 ms. DEDUCED, log 56. -/
def execExtraReferenceFrame (t : Nat) (seg : Fin 8) (s : State) : Out :=
  ev t (fun m =>
    if m.gz % 125000 = 0 ∧ (m.sg seg.val).refAt + 10000000 < m.now + 125000 then m.refFrame seg.val else m) s

/-- SEG_FRAME_ERROR (R263): a frame destroyed by an error; a cyclic one is lost. -/
def execSegFrameError (t : Nat) (seg : Fin 8) (ident tec rec : Nat) (s : State) : Out :=
  ev t (fun m =>
    let k := seg.val
    let m := ((m.bump F.segERR_FRAMES k).setObj F.segTEC k (min tec 255)).setObj F.segREC k (min rec 255)
    if m.segTimed k ∧ 0x010 ≤ ident ∧ ident ≤ 0x07E then m.bump F.segLOST_CYCLIC k else m) s

/-- The bytes of the points in n slots from pt on, big-endian point by point (R9). -/
def pointBytes (ent val : Nat → Nat) : Nat → Nat → Nat → List Nat
  | 0, _, _ => []
  | fuel + 1, pt, n =>
    let w := if field (ent pt) 23 22 = 1 then 2 else if field (ent pt) 23 22 = 2 then 4 else 1
    if n < w then []
    else
      (List.range w).reverse.flatMap (fun i => toBe 2 (val (pt + i))) ++ pointBytes ent val fuel (pt + w) (n - w)

/-- The output group frames of a partition at its Publish (R258, R259, R263). -/
def Mach.segPublish (m : Mach) (ent val : Nat → Nat) (p : Nat) : Mach :=
  m.each ((List.range 8).filter m.segTimed) (fun m s =>
    m.each (List.range 24) (fun m g =>
      let ns := (m.nodesOfPart s p).filter (fun n => m.obj F.nodeGROUP n == g && m.obj F.nodeOUT_SLOTS n != 0)
      if ns = [] then m
      else
        let head := toBe 2 ((m.part p).cycle % 4 * 2 ^ 14 + m.obj F.pairEPOCH % 256 * 2 ^ 6)
        let body := ns.flatMap (fun n => pointBytes ent val 1024 (m.obj F.nodeOUT_BASE n % 2 ^ 20) (m.obj F.nodeOUT_SLOTS n))
        m.emitS s (m.obj F.nodeFORMAT (ns.headD 0) == 0) (0x010 + 2 * g + m.obj F.pairEPOCH % 2) g (head ++ body)))

/-- A node's points and status word at the image swap of its partition (R178, R246, R260, R268). -/
def Mach.swapNode (m : Mach) (p n : Nat) : Mach × List W :=
  let x := m.node n
  let base := m.obj F.nodeIN_BASE n % 2 ^ 20
  let missed := if x.got then 0 else min 255 (x.missed + 1)
  let m := m.when (!x.got) (fun m => m.bump F.nodeMISSING n)
  let m := m.when (decide (3 ≤ missed) && m.obj F.nodeSTATE n == 4) (fun m =>
    let m := m.setObj F.nodeSTATE n 3
    (m.chron { sub := 6, low := 0x82, part := p, inst := n, cycle := (m.part p).cycle }).notice (m.chanOf p) 0x0682 p)
  let h := x.header
  let word := x.got.toNat + field h 5 5 * 2 + field h 4 4 * 4 + field h 3 3 * 8 + field h 1 1 * 16 + x.refused.toNat * 64 + missed * 256
  let sp := m.obj F.nodeSTATUS_POINT n
  let ws := (if sp < 2 ^ 20 then backPut p sp word 0 else []) ++
    (if missed = 0 then [] else (List.range (m.obj F.nodeIN_SLOTS n)).map (fun i => backQ p (base + i) (if missed ≤ 2 then 1 else 3)))
  (m.updNode n (fun y => { y with
    got := false
    refused := false
    missed := missed }), ws)

/-- Every node of a partition at its image swap. -/
def Mach.swapNodes (m : Mach) (p : Nat) : Mach × List W :=
  ((List.range 512).filter (fun n => m.obj F.nodePARTITION n == p && decide (2 ≤ m.obj F.nodeSTATE n))).foldl
    (fun x n => let y := x.1.swapNode p n
      (y.1, x.2 ++ y.2)) (m, [])

/-! ### Joining (R269) -/

/-- The module disowns a node on a segment. -/
def Mach.segDisown (m : Mach) (s a : Nat) : Mach := m.emitS s (m.segXl s) (0x780 + m.obj F.pairEPOCH % 2) a [2]

/-- What a node's assignment carries (R240, R264, R269): full epochs, H, FALLBACK and preset of each output slot, and the closings of the
gate: partition, PERIOD_M, U with the lead before a Clapper, G_seg after it, in ns. DESIGN CHOICE, log 10. -/
def Mach.admitBytes (m : Mach) (r : Ram) (n : Nat) : List Nat :=
  let s := n / 64
  [1] ++ toBe 4 (m.obj F.pairEPOCH) ++ toBe 4 (m.obj F.nodeASSIGN_EPOCH n) ++ toBe 2 (m.obj F.nodeHOLD_MS n) ++
  fallbackTable (m.ownEnt r) (rd r .preset) (m.obj F.nodeOUT_BASE n) (m.obj F.nodeOUT_SLOTS n) ++
  ((List.range 8).filter (fun p => m.nodesOfPart s p != [])).flatMap (fun p =>
    p :: (toBe 2 (m.obj F.cycPERIOD_M p) ++ toBe 4 (m.obj F.cycU_NS p + cdiv (m.closeLead s) 1000) ++ toBe 4 (cdiv (m.gSeg s p) 1000)))

/-- The assignment of a node goes out. -/
def Mach.segAdmit (m : Mach) (r : Ram) (n : Nat) : Mach :=
  m.emitS (n / 64) (m.segXl (n / 64)) (0x780 + m.obj F.pairEPOCH % 2) (n % 64) (m.admitBytes r n)

/-- JOIN (R269): admitted where SERIAL and ASSIGN_EPOCH match the node object, else disowned. DEDUCED, log 56. -/
def Mach.joinIn (m : Mach) (r : Ram) (f : SegIn) : Mach :=
  let k := f.seg.val
  let a := f.ident - 0x700
  let n := k * 64 + a
  if !m.segTimed k ∨ !m.segSends k then m
  else if !m.segTaken f (some a) ∨ f.ident < 0x701 ∨ 0x73F < f.ident ∨ f.data.length ≠ 16 then m.bump F.segERR_FRAMES k
  else
    let serial := beNat (f.data.take 8)
    let ep := beNat ((f.data.drop 8).take 4)
    if 1 ≤ m.obj F.nodeSTATE n ∧ serial = m.obj F.nodeSERIAL n ∧ serial ≠ 0 ∧ ep = m.obj F.nodeASSIGN_EPOCH n then
      (m.setObj F.nodeSTATE n (max 2 (m.obj F.nodeSTATE n))).segAdmit r n
    else
      let m := (m.segDisown k a).updSg k (fun x => { x with staleHeard := x.staleHeard + 1 })
      let p := m.nodePart n
      let late := (m.node n).staleAt.any (fun x => decide (m.now < x + 60 * 10 ^ 9))
      let m := if late then m else (m.chron { sub := 6, low := 0x85, part := p, inst := n, detail := toLe 8 serial ++ toLe 4 ep }).updNode n
        (fun x => { x with staleAt := some m.now })
      (m.updNode n (fun x => { x with refused := true })).notice (m.chanOf p) 0x0685 p

/-- JOIN (R269). -/
def execJoin (t : Nat) (f : SegIn) (s : State) : Out := evR t (fun r m => (m.joinIn r f, [])) s

/-- SEG_IDENTITY (R269): each new identity is reported on EC0 with the segment and its 24 bytes. -/
def execSegIdentity (t : Nat) (f : SegIn) (s : State) : Out :=
  ev t (fun m =>
    let k := f.seg.val
    if m.blockOut (0x10 + k) ∨ !m.segTimed k ∨ (m.obj F.segSTATE k ≠ 1 ∧ m.obj F.segSTATE k ≠ 2) then m
    else if !m.segTaken f none ∨ f.ident ≠ 0x7E0 ∨ f.data.length ≠ 24 then m.bump F.segERR_FRAMES k
    else
      let m := m.police f
      let serial := beNat ((f.data.drop 8).take 8)
      if (m.sg k).found.contains serial then m
      else (m.updSg k (fun x => { x with found := serial :: x.found })).notice 0 0x0684 0xFF [itm 1 1 k, ⟨2, f.data⟩]) s

/-- A write of a node object's SERIAL (R269): ASSIGN_EPOCH rises by 1 and the assignment goes to the node of that serial. -/
def Mach.segAssign (m : Mach) (r : Ram) (n serial : Nat) : Mach :=
  let m := ((m.setObj F.nodeSERIAL n serial).setObj F.nodeASSIGN_EPOCH n (m.obj F.nodeASSIGN_EPOCH n + 1)).updNode n (fun x => { x with
    toggle := none
    missed := 255 })
  let m := m.when (decide (1 ≤ m.obj F.nodeSTATE n)) (fun m => m.setObj F.nodeSTATE n (if serial = 0 then 1 else 2))
  if serial = 0 then m.segDisown (n / 64) (n % 64) else m.segAdmit r n

/-! ### Filters (R271 to R274) -/

/-- The FRAME item of a received frame (R272). DEDUCED, log 56. -/
def frameItem (m : Mach) (f : SegIn) : Item :=
  ⟨1, toBe 8 (m.gzAt f.sof) ++ [f.seg.val, f.fmt.val] ++ toBe 4 (f.ident % 2 ^ 29 + f.ext.toNat * 2 ^ 31) ++ toBe 4 f.af ++
    [f.sdt % 256, f.vcid % 256] ++ toBe 2 f.data.length ++ f.data⟩

/-- Data bytes of a frame; where it has fewer, the rest are free values (log 5). -/
def padFree : Nat → List Nat → Mach → List Nat × Mach
  | 0, _, m => ([], m)
  | n + 1, b :: r, m => let x := padFree n r m
                        (b :: x.1, x.2)
  | n + 1, [], m => let x := padFree n [] m.takeFree.2
                    (m.takeFree.1 % 256 :: x.1, x.2)

/-- Data of a frame copied into the slots from pt on, for the next Clapper (R272, R274). DEDUCED, log 56. -/
def Mach.copyIn (m : Mach) (ent : Nat → Nat) (f : SegIn) (pt off n : Nat) : Mach :=
  let x := padFree n (f.data.drop off) m
  let vs := slotsOf ent pt n x.1
  x.2.updSg f.seg.val (fun y => { y with
    copies := (vs.zip (List.range vs.length)).foldl
      (fun l e => (pt + e.2, e.1, m.now) :: l.filter (fun c => c.1 != pt + e.2)) y.copies })

/-- Copied slots of a partition at its Clapper (R274). -/
def Mach.clapCopies (m : Mach) (r : Ram) (p : Nat) : List W :=
  (List.range 8).flatMap (fun s =>
    ((m.sg s).copies.filter (fun c => m.ownerOfPt r c.1 == some p)).flatMap (fun c =>
      backPut p c.1 c.2.1 (if m.now ≤ c.2.2 + m.obj F.segCOPY_AGE_MS s * 10 ^ 6 then 0 else 3)))

/-- The supervisor drains a match filter's buffer into an HP_FRAME event on its CHANNEL (R271). -/
def Mach.drainHp (m : Mach) (k : Nat) : Mach :=
  let its := alook [] m.hpBufs k
  if its = [] ∨ m.sys.restarting.isSome then m
  else
    let m := ({ m with hpBufs := adel m.hpBufs k }).setObj F.mfFILL k 0
    let ch := m.obj F.mfCHANNEL k
    if ch < 64 then m.notice ch 0x0681 0xFF its else m

/-- A match filter takes a frame (R271). -/
def Mach.hpTake (m : Mach) (ent : Nat → Nat) (f : SegIn) (k : Nat) : Mach :=
  let m := m.bump F.mfMATCHES k
  let its := alook [] m.hpBufs k
  let m := if its.length < 16 then
      (({ m with hpBufs := aset m.hpBufs k (its ++ [frameItem m f]) }).setObj F.mfFILL k (its.length + 1)).drainHp k
    else m.bump F.mfDROPPED k
  if m.obj F.mfPOINT k < 2 ^ 20 then m.copyIn ent f (m.obj F.mfPOINT k) 0 (m.obj F.mfCOPY_BYTES k) else m

/-- The lowest-numbered match filter that takes the frame (R271). -/
def Mach.hpMatch (m : Mach) (f : SegIn) : Option Nat :=
  ((List.range 4).map (f.seg.val * 4 + ·)).find? (fun k =>
    m.obj F.mfENABLE k != 0 && Nat.land f.ident (m.obj F.mfID_MASK k) == Nat.land (m.obj F.mfID_VALUE k) (m.obj F.mfID_MASK k) &&
    (f.fmt.val != 0 || Nat.land f.af (m.obj F.mfAF_MASK k) == Nat.land (m.obj F.mfAF_VALUE k) (m.obj F.mfAF_MASK k)))

/-- The field an instruction of the filter program tests (R272). -/
def segFld (f : SegIn) (k arg : Nat) : Nat :=
  if k = 0 then f.ident else if k = 1 then f.af else if k = 2 then f.sdt else if k = 3 then f.vcid else if k = 4 then f.data.length
  else if k = 5 then (f.fmt.val == 0).toNat + (f.fmt.val == 1 || f.fmt.val == 2).toNat * 2 + (f.fmt.val == 3).toNat * 4 + f.ext.toNat * 8 +
    (f.fmt.val == 1).toNat * 16 + f.remote.toNat * 32
  else beNat (padTo 4 (f.data.drop arg))

/-- A route of the segment: byte k of ROUTES, in offset order. DEDUCED, log 56. -/
def Mach.route (m : Mach) (s k : Nat) : Nat := m.obj F.segROUTES s / 2 ^ (8 * (7 - k)) % 256

/-- Deliver a frame on a route: into its batch, or discarded where the route has no channel (R272). -/
def Mach.deliver (m : Mach) (f : SegIn) (k : Nat) : Mach :=
  let s := f.seg.val
  let ch := m.route s k
  if 64 ≤ ch then m.bump F.segRX_DROPPED s
  else
    let it := frameItem m f
    let old := ((m.sg s).batches.find? (fun b => b.1 == k)).getD (k, ch, [])
    m.updSg s (fun x => { x with
      batches := (k, old.2.1, old.2.2 ++ [it]) :: x.batches.filter (fun b => b.1 != k) })

/-- Run the filter program on a frame (R272): n instructions at most. DEDUCED, log 56. -/
def runFilter (ent : Nat → Nat) (prog : List (Nat × Nat × Nat)) (f : SegIn) : Nat → Nat → Mach → Mach
  | 0, _, m => m
  | n + 1, i, m =>
    match prog[i]? with
    | none => m
    | some (w, value, mask) =>
      let arg := field w 22 12
      let hit := Nat.land (segFld f (field w 26 23) arg) mask == value
      let go := fun (b : Bool) => runFilter ent prog f n (if b then i + 1 else i + 1 + field w 11 0) m
      match field w 31 27 with
      | 1 => go hit
      | 2 => go (!hit)
      | 3 => m.deliver f (arg % 8)
      | 4 => runFilter ent prog f n (i + 1) (m.copyIn ent f (value % 2 ^ 20) (mask % 2 ^ 11) arg)
      | 6 => runFilter ent prog f n (i + 1) (m.updSg f.seg.val (fun x => { x with
          counters := aset x.counters (arg % 16) (alook 0 x.counters (arg % 16) + 1) }))
      | _ => m

/-- An identifier of the segment protocol frames (R258): reference, cyclic, JOIN, MANAGE_REPLY, MANAGE, IDENTITY, DISCOVER. -/
def protocolId (id : Nat) : Bool :=
  decide (id ≤ 1) || (decide (0x010 ≤ id) && decide (id ≤ 0x07E)) || (decide (0x701 ≤ id) && decide (id ≤ 0x77E)) ||
  id == 0x780 || id == 0x781 || id == 0x7E0 || id == 0x7F0

/-- A frame that is no segment protocol frame (R258, R271). -/
def Mach.foreign (m : Mach) (f : SegIn) : Bool := !m.segTimed f.seg.val || f.ext || !protocolId f.ident

/-- Such a frame is received: match filters first, then the filter program in force at its SOF (R271 to R273). -/
def Mach.receive (m : Mach) (r : Ram) (f : SegIn) : Mach :=
  let s := f.seg.val
  if m.blockOut (0x10 + s) ∨ m.obj F.segSTATE s = 0 ∨ 3 ≤ m.obj F.segSTATE s ∨ !m.foreign f then m
  else if !f.ok then m.bump F.segERR_FRAMES s
  else
    let m := m.police f
    match m.hpMatch f with
    | some k => m.hpTake (m.ownEnt r) f k
    | none => runFilter (m.ownEnt r) (if f.sof ≤ (m.sg s).progAt then (m.sg s).progOld else (m.sg s).prog) f 256 0 m

/-- MATCH_FILTER_FRAME (R271). -/
def execMatchFilterFrame (t : Nat) (f : SegIn) (s : State) : Out := evR t (fun r m => (m.receive r f, [])) s

/-- FILTER_PROGRAM_FRAME (R272). -/
def execFilterProgramFrame (t : Nat) (f : SegIn) (s : State) : Out := evR t (fun r m => (m.receive r f, [])) s

/-- SEG_FRAME (R272): the batch of a route leaves as one event. -/
def execSegFrame (t : Nat) (seg route : Fin 8) (s : State) : Out :=
  ev t (fun m =>
    match (m.sg seg.val).batches.find? (fun b => b.1 == route.val) with
    | some b => (m.updSg seg.val (fun x => { x with batches := x.batches.filter (fun b => b.1 != route.val) })).notice b.2.1 0x0680 0xFF b.2.2
    | none => m) s

/-- Words of a filter program. -/
def progOf : List Nat → List (Nat × Nat × Nat)
  | a :: b :: c :: d :: e :: f :: g :: h :: i :: j :: k :: l :: r =>
    (beNat [a, b, c, d], beNat [e, f, g, h], beNat [i, j, k, l]) :: progOf r
  | _ => []

/-- The targets of an instruction: the indices that may run next. -/
def nextsOf (i : Nat) (w : Nat) : List Nat :=
  let op := field w 31 27
  if op = 1 ∨ op = 2 then [i + 1, i + 1 + field w 11 0] else if op = 4 ∨ op = 6 then [i + 1] else []

/-- Longest path to each instruction in instructions and in COPY, itself included; none where no path reaches it. -/
def reachOf (prog : List (Nat × Nat × Nat)) : List (Option (Nat × Nat)) :=
  (prog.zip (List.range prog.length)).foldl (fun acc e =>
    let i := e.2
    let pre := ((prog.take i).zip (List.range i)).filterMap (fun q =>
      if (nextsOf q.2 q.1.1).contains i then (acc[q.2]?).getD none else none)
    let here := fun (x : Nat × Nat) => (x.1 + 1, x.2 + (field e.1.1 31 27 == 4).toNat)
    acc ++ [if i = 0 then some (here (0, 0))
            else if pre = [] then none
            else some (here (pre.foldl (fun n x => (max n.1 x.1, max n.2 x.2)) (0, 0)))]) []

/-- The first faulty instruction of a program (R273). -/
def Mach.filterFault (m : Mach) (r : Ram) (s : Nat) (prog : List (Nat × Nat × Nat)) : Option Nat :=
  let n := prog.length
  let reach := reachOf prog
  ((prog.zip (List.range n)).find? (fun e =>
    let w := e.1.1
    let op := field w 31 27
    let arg := field w 22 12
    let pts := (List.range (arg / 2)).map (e.1.2.1 % 2 ^ 20 + ·)
    op == 0 || decide (6 < op) || ((op == 1 || op == 2) && decide (6 < field w 26 23)) ||
    (nextsOf e.2 w).any (fun j => decide (n ≤ j)) ||
    (match (reach[e.2]?).getD none with
     | some x => decide (64 < x.1) || decide (8 < x.2)
     | none => false) ||
    (op == 4 && (decide (arg < 2) || decide (64 < arg) || arg % 2 == 1 ||
      pts.any (fun pt => !segRange s pt || !(entValid (m.ownEnt r pt)) || entKind (m.ownEnt r pt) != 0 ||
        m.ownerOfPt r pt != m.ownerOfPt r (e.1.2.1 % 2 ^ 20)))))).map (·.2)

/-- The card of FILTER_LOAD. -/
def filterLoadCard : Card :=
  { op := 0x0613, bulk := true, modes := [0, 1, 2], sysOnly := true, items := [⟨1, 1, 1, true, false⟩, ⟨2, 12, 3072, true, false⟩],
    valOk := fun ty v => if ty = 1 then decide (beNat v ≤ 7) else v.length % 12 == 0 }

/-- The effect of FILTER_LOAD (R285, R273). -/
def filterLoad (c : Cmd) (r : Ram) (m : Mach) : Res :=
  let k := c.num 1
  let prog := progOf (c.bytes 2)
  match m.filterFault r k prog with
  | some i => Res.fail m 0x1604 [itm 3 2 i]
  | none =>
    let h := Config.sha256 (c.bytes 2) / 2 ^ 224
    let m := (m.setObj F.segFILTER_HASH k h).updSg k (fun x => { x with
      prog := prog
      progOld := x.prog
      progAt := m.now })
    Res.done m [itm 1 4 h]

/-- FILTER_LOAD (R285, R273). -/
def execFilterLoad (msg : Msg) (s : State) : Out :=
  zcp filterLoadCard filterLoad msg s

/-! ### Host frames (R275, R276, R283, R284) -/

/-- Insert by identifier, after equals. -/
def txInsert (f : TxFrame) : List TxFrame → List TxFrame
  | [] => [f]
  | g :: r => if g.ident ≤ f.ident then g :: txInsert f r else f :: g :: r

/-- The frame that leaves next: lowest identifier, then order of acceptance; none of the classes held back at overload (R266). -/
def Mach.txHead (m : Mach) (s : Nat) : Option TxFrame :=
  let x := m.sg s
  (x.tx.filter (fun f => !(x.overload && (m.obj F.segMODE s == 4 || decide (0x500 ≤ f.ident))))).head?

/-- It may start at an instant: controller running, gate open long enough, rate not spent (R264, R275). DEDUCED, log 56. -/
def Mach.txReady (m : Mach) (s : Nat) (f : TxFrame) : Bool :=
  let end_ := m.now + cdiv (m.tfHost s f.fmt f.data.length) 1000
  m.segSends s && (!m.segTimed s || (!(m.gateAt s m.now).1 && decide (end_ ≤ (m.gateAt s m.now).2))) &&
  decide (((m.sg s).starts.filter (fun a => decide (m.now < a + 10 ^ 9))).length < m.obj F.segTX_RATE s)

/-- Start the next frame where nothing is in flight. -/
def Mach.txStart (m : Mach) (s : Nat) : Mach :=
  if (m.sg s).flying.isSome then m
  else
    match m.txHead s with
    | some f => if m.txReady s f then (m.updSg s (fun x => { x with
        flying := some f.handle
        starts := m.now :: x.starts.filter (fun a => decide (m.now < a + 10 ^ 9)) })).emitBus s f.ident 0
          (if f.fmt = 0 then [0] ++ toBe 4 f.af ++ [m.obj F.segSDT s, f.vcid] else [f.fmt]) f.data else m
    | none => m

/-- SEG_TX_END: an attempt ends: 0 sent, 1 arbitration lost, 2 destroyed by an error (R275). DEDUCED, log 56. -/
def execSegTxEnd (t : Nat) (seg : Fin 8) (handle sof : Nat) (outcome : Fin 3) (s : State) : Out :=
  ev t (fun m =>
    let k := seg.val
    match (m.sg k).tx.find? (fun f => f.handle == handle) with
    | none => m
    | some f =>
      let startable := (m.sg k).flying.isNone && (m.txHead k).any (fun g => g.handle == handle) && m.txReady k f
      if (m.sg k).flying ≠ some handle ∧ !startable then m
      else
        let m := m.updSg k (fun x => { x with flying := none })
        let drop := fun (m : Mach) => m.updSg k (fun x => { x with tx := x.tx.filter (fun g => g.handle != handle) })
        if outcome.val = 0 then ((drop m).complete f.queue 0x0611 f.seq stDONE [itm 2 8 (m.gzAt sof)]).txStart k
        else if outcome.val = 1 then m
        else
          let m := m.bump F.segERR_FRAMES k
          if f.retries < m.obj F.segTX_RETRIES k then
            m.updSg k (fun x => { x with tx := x.tx.map (fun g => if g.handle = handle then { g with retries := g.retries + 1 } else g) })
          else ((drop m).complete f.queue 0x0611 f.seq 0x1606).txStart k) s

/-- SEGMENT_GATE_OPEN (R264, R275): waiting host frames may start. -/
def execSegmentGateOpen (t : Nat) (seg : Fin 8) (s : State) : Out := ev t (fun m => m.txStart seg.val) s

/-- The format is one the mode transmits (R256). -/
def fmtSent (mode fmt : Nat) : Bool :=
  if mode = 1 then fmt == 0 else if mode = 2 then decide (fmt ≤ 2) else if mode = 3 then fmt == 1 || fmt == 2 else fmt == 3

/-- Longest data field of a format (R255). -/
def fmtMax (fmt : Nat) : Nat := if fmt = 0 then 2048 else if fmt = 3 then 8 else 64

/-- The card of SEG_TX. -/
def segTxCard : Card :=
  { op := 0x0611, bulk := false, modes := [0, 1, 2, 5],
    items := [⟨1, 1, 1, true, false⟩, ⟨2, 4, 4, true, false⟩, ⟨3, 1, 1, true, false⟩, ⟨4, 4, 4, false, false⟩, ⟨5, 1, 1, false, false⟩,
              ⟨6, 1, 2048, true, false⟩],
    valOk := fun ty v =>
      if ty = 1 then decide (beNat v ≤ 7)
      else if ty = 2 then field (beNat v) 30 29 == 0 && (bit (beNat v) 31 || decide (beNat v ≤ 0x7FF))
      else if ty = 3 then decide (beNat v ≤ 3) else true,
    combo := fun _ is => clash (itemNum is 3 0 != 0 && (hasItem is 4 || hasItem is 5)) }

/-- The effect of SEG_TX (R283). -/
def segTx (c : Cmd) (m : Mach) : Res :=
  let k := c.num 1
  let id := c.num 2 % 2 ^ 29
  let ext := bit (c.num 2) 31
  let fmt := c.num 3
  let mode := m.obj F.segMODE k
  let len := (c.bytes 6).length
  let x := m.sg k
  if mode = 0 ∨ mode = 5 then Res.fail m 0x1609
  else if !fmtSent mode fmt ∨ (ext ∧ mode ≠ 4) ∨ m.obj F.segAPER_MAX k < len ∨ fmtMax fmt < len ∨
      (mode ≠ 4 ∧ (id < 0x100 ∨ 0x6FF < id ∨
        (nodesOf k).any (fun n => m.obj F.nodeEVT_BYTES n != 0 && m.obj F.nodeEVT_ID n == id))) then Res.fail m 0x1608
  else if 32 ≤ x.tx.length ∨ (c.owner < 8 ∧ 8 ≤ (x.tx.filter (fun f => f.owner == c.owner)).length) then Res.fail m stNO_RESOURCE
  else
    let h := x.issued.length + 1
    let f : TxFrame := ⟨h, c.q, c.seq, c.owner, id, ext, fmt, c.num 4, c.num 5, c.bytes 6, 0⟩
    Res.started ((m.updSg k (fun x => { x with
      tx := txInsert f x.tx
      issued := (h, c.q) :: x.issued })).txStart k) [itm 1 4 h]

/-- SEG_TX (R283). -/
def execSegTx (msg : Msg) (s : State) : Out :=
  zcpM segTxCard segTx msg s

/-- The card of SEG_TX_CANCEL. -/
def segTxCancelCard : Card :=
  { op := 0x0612, bulk := false, modes := [0, 1, 2, 5], items := [⟨1, 1, 1, true, false⟩, ⟨2, 4, 4, true, false⟩],
    valOk := fun ty v => if ty = 1 then decide (beNat v ≤ 7) else true }

/-- The effect of SEG_TX_CANCEL (R276, R284). -/
def segTxCancel (c : Cmd) (m : Mach) : Res :=
  let k := c.num 1
  let h := c.num 2
  let x := m.sg k
  if !(x.issued.any (fun e => e.1 == h && e.2 == c.q)) then Res.fail m stNOT_OWNER
  else if x.flying = some h then Res.fail m 0x1605
  else if x.tx.any (fun f => f.handle == h) then
    Res.done (m.updSg k (fun x => { x with tx := x.tx.filter (fun f => f.handle != h) })) [itm 1 1 0]
  else Res.done m [itm 1 1 1]

/-- SEG_TX_CANCEL (R276, R284). -/
def execSegTxCancel (msg : Msg) (s : State) : Out :=
  zcpM segTxCancelCard segTxCancel msg s

/-! ### Bus-off, transceiver, load (R266, R277) -/

/-- SEG_BUS_OFF (R277). -/
def execSegBusOff (t : Nat) (seg : Fin 8) (s : State) : Out :=
  ev t (fun m =>
    let k := seg.val
    if m.obj F.segSTATE k ≠ 2 then m
    else
      let m := ((m.setObj F.segSTATE k 3).bump F.segBUS_OFFS k).updSg k (fun x => { x with flying := none })
      (m.chron { sub := 6, low := 0x86, inst := k }).notice 0 0x0686 0xFF) s

/-- BUS_OFF_RECOVERY (R255). -/
def execBusOffRecovery (t : Nat) (seg : Fin 8) (s : State) : Out :=
  ev t (fun m =>
    let k := seg.val
    if m.obj F.segSTATE k ≠ 3 then m
    else (((m.setObj F.segTEC k 0).setObj F.segREC k 0).segStart k).txStart k) s

/-- TRANSCEIVER_FAULT (R277): STATE 4 until the fault clears. -/
def execTransceiverFault (t : Nat) (seg : Fin 8) (present : Bool) (s : State) : Out :=
  ev t (fun m =>
    let k := seg.val
    if m.obj F.segMODE k = 0 then m
    else if present then (m.setObj F.segSTATE k 4).updSg k (fun x => { x with flying := none })
    else if m.obj F.segSTATE k = 4 then (m.segStart k).txStart k else m) s

/-- SEG_LOAD_MEASURE (R266). -/
def execSegLoadMeasure (t : Nat) (seg : Fin 8) (pct : Nat) (s : State) : Out :=
  ev t (fun m =>
    let k := seg.val
    if m.now < (m.sg k).loadAt + 10 ^ 9 then m else
    let was := (m.sg k).overload
    let m := (m.setObj F.segLOAD_PCT k (min pct 255)).updSg k (fun x => { x with
      overload := decide (70 < pct)
      loadAt := m.now })
    let m := m.when (decide (70 < pct) && !was) (fun m => m.notice 0 0x0687 0xFF)
    (m.vioSay k).txStart k) s

/-! ### Rate detection (R278) -/

/-- The card of SEG_LISTEN. -/
def segListenCard : Card :=
  { op := 0x0610, bulk := true, modes := [0, 1, 2, 5], sysOnly := true, items := [⟨1, 1, 1, true, false⟩, ⟨2, 1, 1, false, false⟩],
    valOk := fun ty v => if ty = 1 then decide (beNat v ≤ 7) else decide (1 ≤ beNat v) && decide (beNat v ≤ 60) }

/-- The effect of SEG_LISTEN (R278). -/
def segListen (c : Cmd) (m : Mach) : Res :=
  let k := c.num 1
  if m.obj F.segMODE k ≠ 0 ∧ m.obj F.segMODE k ≠ 5 then Res.fail m 0x1609
  else if (m.sg k).listen.isSome then Res.busy3 m (c.num 2 10 * 10 ^ 6)
  else Res.started ((m.updSg k (fun x => { x with listen := some (c.q, c.seq, m.obj F.segSTATE k) })).setObj F.segSTATE k 1)

/-- SEG_LISTEN (R278). -/
def execSegListen (msg : Msg) (s : State) : Out :=
  zcpM segListenCard segListen msg s

/-- SEG_LISTEN_COMPLETE (R278). -/
def execSegListenComplete (t : Nat) (seg : Fin 8) (found : Option ListenRes) (s : State) : Out :=
  ev t (fun m =>
    let k := seg.val
    match (m.sg k).listen with
    | none => m
    | some (q, sq, st) =>
      let m := m.updSg k (fun x => { x with listen := none })
      match found with
      | none => (m.setObj F.segSTATE k st).complete q 0x0610 sq 0x1607
      | some r =>
        let m := (m.setObj F.segMODE k 5).setObj F.segARB_RATE k r.arb.val
        let m := match r.xl with
          | some x => m.setObj F.segXL_RATE k x.val
          | none => m
        let m := match r.fd with
          | some x => m.setObj F.segFD_RATE k x.val
          | none => m
        let dk := match r.xl, r.fd with
          | some x, _ => xlKbps x.val
          | none, some x => fdKbps x.val
          | none, none => 0
        (m.segStart k).complete q 0x0610 sq stDONE [itm 1 4 (arbKbps r.arb.val), itm 2 4 dk, itm 3 1 r.formats, itm 4 1 r.load]) s

end Sys2Proof.Machine
end

