-- ==== Sys2Proof/Machine/Load.lean ====
section
/-! DEFINITION. Load channels, the start queue that admits them, limp-home (spec/10; R403 to R406). One evaluation, `lcEval`, decides
the output stage of a channel after everything that bears on it. -/
namespace Sys2Proof.Machine

/-- A load channel. -/
def Mach.lc (m : Mach) (n : Nat) : LcSt := ug {} m.lcs n

/-- Change it. -/
def Mach.updLc (m : Mach) (n : Nat) (f : LcSt → LcSt) : Mach := { m with lcs := uset {} m.lcs n f }

/-- A load-channel controller. -/
def Mach.ctl (m : Mach) (k : Nat) : CtlSt := ug {} m.ctls k

/-- Change it. -/
def Mach.updCtl (m : Mach) (k : Nat) (f : CtlSt → CtlSt) : Mach := { m with ctls := uset {} m.ctls k f }

/-- The rail of a channel: 0 FA, 1 FB (R286). -/
def railOf (n : Nat) : Nat := if n < 16 then 0 else 1

/-- Channels of a rail. -/
def chansOf (rail : Nat) : List Nat := (List.range 32).filter (fun n => railOf n == rail)

/-- Hardware peak of a channel, mA (R286). -/
def hwPeak (n : Nat) : Nat := if n < 24 then 12000 else 40000

/-! ### The clamp bucket (R286, R299) -/

/-- Capacity in nJ. -/
def bucketCap (n : Nat) : Nat := if n < 24 then 600 * 10 ^ 6 else 2000 * 10 ^ 6

/-- Energy missing from the bucket now: it refills at 0.8 or 2.5 W while its controller is powered. -/
def Mach.bucketUsed (m : Mach) (n : Nat) : Nat :=
  let x := m.lc n
  if (m.ctl (railOf n)).powered then
    x.used - (if n < 24 then (m.now - x.usedAt) * 4 / 5 else (m.now - x.usedAt) * 5 / 2)
  else x.used

/-- Bring the account and its object field up to the present. -/
def Mach.bucketSync (m : Mach) (n : Nat) : Mach :=
  let u := m.bucketUsed n
  (m.updLc n (fun x => { x with
    used := u
    usedAt := m.now })).setObj F.lcBUCKET_MJ n ((bucketCap n - u) / 10 ^ 6)

/-! ### Causes (R301, R304) -/

/-- A bit of CAUSES: 0 SHORT, 1 THERMAL, 2 LIMIT_TIMEOUT, 3 RAIL_UV, 4 LOCKED, 5 LATCHED. -/
def Mach.lcCause (m : Mach) (n i : Nat) : Bool := bit (m.obj F.lcCAUSES n) i

/-- Set or clear it. -/
def Mach.setCause (m : Mach) (n i : Nat) (b : Bool) : Mach := m.setObj F.lcCAUSES n (setBit (m.obj F.lcCAUSES n) i b)

/-- The junction is at or above 150 °C: not cooled since a THERMAL trip, or so measured. DEDUCED, log 57. -/
def Mach.lcHot (m : Mach) (n : Nat) : Bool := (m.lc n).hot || decide (1500 ≤ (m.lc n).temp)

/-- A protection holds the channel off (R301); LOCKED acts at a switch-on only (R299). -/
def Mach.lcHeld (m : Mach) (n : Nat) : Bool :=
  let x := m.lc n
  m.lcCause n 0 || m.lcCause n 1 || m.lcCause n 2 || m.lcCause n 3 || m.lcCause n 5 || (!x.on && m.lcCause n 4) ||
  (!x.on && (x.owed && m.lcHot n)) || x.uvAt.any (fun a => decide (m.now < a)) || !(m.ctl (railOf n)).powered

/-! ### Claims (R15 to R20, R287, R311) -/

/-- The entry of a channel in the limp map of its controller. -/
def Mach.limpEntry (m : Mach) (n : Nat) : Nat := ((m.ctl (railOf n)).map[n + 1]?).getD 0

/-- The channel is mapped. -/
def Mach.mapped (m : Mach) (n : Nat) : Bool := bit (m.limpEntry n) 7

/-- Its value under limp-home (R311). -/
def Mach.limpValue (m : Mach) (n : Nat) : Bool := bit m.lh (m.limpEntry n % 8) != bit (m.limpEntry n) 6

/-- The claimed value and the source in force, as STATUS [15:13] codes it (R289). -/
def Mach.lcClaim (m : Mach) (n : Nat) : Bool × Nat :=
  let x := m.lc n
  if x.isl then (false, 4)
  else if x.limp ≠ 0 then (m.limpValue n, 3)
  else if x.trac then (false, 2)
  else (x.prog, x.src)

/-! ### Profiles (R294 to R296) -/

/-- Segments of a profile: end time in µs and multiple in 1/16. -/
def Mach.profSegs (m : Mach) (code : Nat) : List (Nat × Nat) :=
  match code with
  | 1 => [(20000, 96), (60000, 48)]
  | 2 => [(200000, 64), (1000000, 32)]
  | 3 => [(500000, 24)]
  | 4 => [(20000, 32)]
  | 5 => [(100000, 16)]
  | _ =>
    if 8 ≤ code ∧ code ≤ 11 then
      (List.range (m.obj F.profSEGMENTS (code - 8))).map (fun i =>
        (m.obj ⟨0x0702, 1 + 2 * i, 32⟩ (code - 8), m.obj ⟨0x0702, 2 + 2 * i, 8⟩ (code - 8)))
    else []

/-- RUN_MA: 0 selects ILIM_MA (R415). -/
def Mach.runMa (m : Mach) (n : Nat) : Nat := if m.obj F.chanRUN_MA n = 0 then m.obj F.lcILIM_MA n else m.obj F.chanRUN_MA n

/-- Charge of a profile switched on at an instant, at a later one (R403). -/
def Mach.chargeOf (m : Mach) (n : Nat) (segs : List (Nat × Nat)) (onAt x : Nat) : Nat :=
  match segs.find? (fun g => decide (x < onAt + g.1 * 1000)) with
  | some g => min (g.2 * m.obj F.lcILIM_MA n / 16) (hwPeak n)
  | none => m.runMa n

/-- Charge of a channel at an instant (R403). -/
def Mach.charge (m : Mach) (n x : Nat) : Nat :=
  let c := m.lc n
  if !c.admitted then 0 else if c.on && !c.flat then m.chargeOf n c.segs c.onAt x else m.runMa n

/-! ### Records and object fields -/

/-- A record and an event of a channel, at most one a second for a cause, with the count since the previous (R303). DEDUCED, log 57. -/
def Mach.lcSay (m : Mach) (r : Ram) (n cause code : Nat) (record : Bool) : Mach :=
  let p := (m.lcOwner r n).getD 0xFF
  let old := (m.lc n).said.find? (fun e => e.1 == cause)
  let cnt := ((old.map (fun e => e.2.2)).getD 0) + 1
  let keep := fun (m : Mach) (e : Nat × Nat × Nat) => m.updLc n (fun x => { x with said := e :: x.said.filter (fun y => y.1 != cause) })
  if old.any (fun e => decide (m.now < e.2.1 + 10 ^ 9)) then keep m (cause, (old.map (fun e => e.2.1)).getD 0, cnt)
  else
    let m := m.when record (fun m => m.chron { sub := 7, low := code % 256, part := p, inst := n, cause := cause, count := cnt,
                                               cycle := if p < 8 then (m.part p).cycle else 0 })
    (keep m (cause, m.now, 0)).notice (m.chanOf p) code p [itm 1 1 n, itm 2 1 cause, itm 3 4 cnt]

/-- A load start record (R516): outcome 0 completed, 1 switched off, 2 protection trip. -/
def Mach.startRec (m : Mach) (r : Ram) (n outcome prim : Nat) : Mach :=
  let x := m.lc n
  match x.started with
  | none => m
  | some (prio, src, wait) =>
    (m.cycRec 3 ((m.lcOwner r n).getD 0xFF) ([n, railOf n, prio, src] ++ toLe 4 wait ++ toLe 4 ((m.now - x.onAt) / 10 ^ 6) ++ toLe 2 x.peak ++
      [x.profile, outcome, prim])).updLc n (fun x => { x with started := none })

/-- The rail's queue and charge fields (R414). -/
def Mach.railSync (m : Mach) (rail : Nat) : Mach :=
  let m := m.setObj F.railQUEUED rail ((chansOf rail).filter (fun n => (m.lc n).entry.isSome)).length
  m.setObj F.railCHARGE_MA rail (min 65535 ((chansOf rail).map (fun n => m.charge n m.now)).sum)

/-- STATE of the channel and channel power objects (R304, R415), AUTO_COUNT. -/
def Mach.lcSync (m : Mach) (n : Nat) : Mach :=
  let x := m.lc n
  let rush := decide (x.seg < x.segs.length)
  let st := if x.on then (if rush then 1 else if x.limiting then 3 else 2)
    else if m.lcCause n 4 then 5 else if (m.lcClaim n).1 && m.lcHeld n then 4 else 0
  let ps := if x.shed then 4 else if x.on then (if rush then 2 else 3) else if x.entry.isSome then 1 else 0
  let m := ((m.setObj F.lcSTATE n st).setObj F.chanSTATE n ps).setObj F.lcAUTO_COUNT n
    (min 255 (x.autos.filter (fun a => decide (m.now < a + 60 * 10 ^ 9))).length)
  (m.setObj F.chanWAIT_US n ((x.entry.map (fun e => (m.now - e.at_) / 1000)).getD 0)).railSync (railOf n)

/-! ### The output stage (R287, R296, R297) -/

/-- Switch on: the profile starts, PRIMARY and the off-state results clear, a return counts. A locked channel is not switched on. -/
def Mach.lcOn (m : Mach) (r : Ram) (n : Nat) : Mach :=
  let x := m.lc n
  if x.on ∨ m.lcCause n 4 then m
  else
    let code := m.obj F.lcPROFILE n
    let autos := x.autos.filter (fun a => decide (m.now < a + 60 * 10 ^ 9))
    let m := (m.setObj F.lcPRIMARY n 0).bump F.lcSWITCH_ONS n
    let m := m.updLc n (fun x => { x with
      on := true
      onAt := m.now
      profile := code
      segs := m.profSegs code
      seg := 0
      flat := false
      owed := false
      autos := if x.owed then m.now :: autos else autos
      uvAt := none
      diag := 0
      limiting := false
      peak := 0 })
    if code = 0 then m.startRec r n 0 0 else m

/-- Switch off, with the outcome of a start record that is open. -/
def Mach.lcOff (m : Mach) (r : Ram) (n outcome prim : Nat) : Mach :=
  if !(m.lc n).on then m
  else (m.startRec r n outcome prim).updLc n (fun x => { x with
    on := false
    segs := []
    seg := 0
    limiting := false })

/-- The claim falls: a start entry is withdrawn, the charge falls to 0 (R403, R405). -/
def Mach.lcDrop (m : Mach) (r : Ram) (n : Nat) : Mach :=
  (m.lcOff r n 1 0).updLc n (fun x => { x with
    claim := false
    entry := none
    admitted := false
    started := none })

/-- A start entry (R404). -/
def Mach.lcEnter (m : Mach) (r : Ram) (n : Nat) : Mach :=
  let cyc := ((m.lcOwner r n).map (fun p => (m.part p).cycle)).getD 0
  m.updLc n (fun x => { x with entry := some ⟨x.prio.getD (m.obj F.chanPRIO_DEFAULT n), cyc, m.now⟩ })

/-- A mapped channel without limp-home keeps its state while the alive signal is absent, an unmapped one is off (R310). -/
def Mach.lcFrozen (m : Mach) (n : Nat) : Bool := (m.ctl (railOf n)).alive != 0 && (m.lc n).limp == 0

/-- Decide the output stage: at the owner's Clapper (clap), or at any other event. A switch-off is at once; a switch-on waits for the
Clapper and admission, but under limp-home is at once (R287, R404, R406). DEDUCED, log 57. -/
def Mach.lcEval (m : Mach) (r : Ram) (n : Nat) (clap : Bool) : Mach :=
  let v := (m.lcClaim n).1
  let x := m.lc n
  let m :=
    if m.lcFrozen n then (if x.on && (m.lcHeld n || !m.mapped n || x.isl) then m.lcOff r n 1 0 else m)
    else if !v then (m.lcDrop r n).when clap (fun m => m.updLc n (fun x => { x with seenOff := true }))
    else if x.limp ≠ 0 then
      let m := m.updLc n (fun x => { x with claim := true })
      if m.lcHeld n then m.lcOff r n 2 (m.obj F.lcPRIMARY n) else m.lcOn r n
    else if m.lcHeld n ∨ (x.shed ∧ !x.seenOff) then m.lcOff r n (if x.shed then 1 else 2) (m.obj F.lcPRIMARY n)
    else if !clap ∨ x.on then m
    else if x.entry.isSome then m
    else if x.claim && x.admitted && m.obj F.lcPROFILE n == 0 then m.lcOn r n
    else (m.lcEnter r n).updLc n (fun x => { x with claim := true })
  m.lcSync n

/-! ### Admission (R405) -/

/-- Entries of a rail made at Clappers of the given partitions, in scan order. -/
def Mach.queueOf (m : Mach) (r : Ram) (rail : Nat) (ps : List Nat) : List Nat :=
  let ns := (chansOf rail).filter (fun n => (m.lc n).entry.isSome && (m.lcOwner r n).any ps.contains)
  let key := fun (n : Nat) => (((m.lc n).entry.map (fun e => e.prio * 2 ^ 70 + e.cycle)).getD 0) * 32 + n
  ns.foldr (fun n l => (l.takeWhile (fun k => decide (key k < key n))) ++ n :: l.dropWhile (fun k => decide (key k < key n))) []

/-- An entry fits: the charges at every future instant within PEAK_MA, the admitted RUN_MA within BUDGET_MA. -/
def Mach.lcFits (m : Mach) (rail n : Nat) : Bool :=
  let segs := m.profSegs (m.obj F.lcPROFILE n)
  let others := (chansOf rail).filter (· != n)
  let times := m.now :: (segs.map (fun g => m.now + g.1 * 1000) ++
    others.flatMap (fun k => (m.lc k).segs.map (fun g => (m.lc k).onAt + g.1 * 1000))).filter (fun x => decide (m.now ≤ x))
  times.all (fun x => decide ((others.map (fun k => m.charge k x)).sum + m.chargeOf n segs m.now x ≤ m.obj F.railPEAK_MA rail)) &&
  decide (((others.filter (fun k => (m.lc k).admitted)).map m.runMa).sum + m.runMa n ≤ m.obj F.railBUDGET_MA rail)

/-- The shed stage of its rail covers a channel (R408). -/
def Mach.shedCovers (m : Mach) (n : Nat) : Bool :=
  decide (1 ≤ m.obj F.chanSHED_RANK n) && decide (m.obj F.chanSHED_RANK n ≤ m.obj F.railSHED_STAGE (railOf n))

/-- Admit a start: it switches on at this Clapper. -/
def Mach.admitOp (m : Mach) (r : Ram) (rail n : Nat) : Mach :=
  let wait := (((m.lc n).entry.map (fun e => (m.now - e.at_) / 1000)).getD 0)
  let prio := (((m.lc n).entry.map (fun e => e.prio)).getD 0)
  let m := m.updLc n (fun x => { x with
    entry := none
    admitted := true
    shed := false
    seenOff := false
    starts := (x.starts + 1) % 2 ^ 32
    started := some (prio, (m.lcClaim n).2, wait) })
  (((m.bump F.railSTARTS rail).peak F.railMAX_WAIT_US rail wait).lcOn r n).lcSync n

/-- Scan a queue: stop at the first entry that does not fit; skip channels shed. -/
def Mach.scan (m : Mach) (r : Ram) (rail : Nat) : List Nat → Mach
  | [] => m
  | n :: ns =>
    if m.shedCovers n || ((m.lc n).shed && !(m.lc n).seenOff) then m.scan r rail ns
    else if m.lcFits rail n then (m.admitOp r rail n).scan r rail ns
    else m

/-- Partitions with a Clapper at this instant (R405). DEDUCED, log 57. -/
def Mach.togetherNow (m : Mach) : List Nat :=
  (List.range 8).filter (fun p => m.used p && (m.part p).clapped && (m.part p).clapAt == m.now)

/-- START_ADMISSION (R405): both rails. -/
def Mach.startAdmission (m : Mach) (r : Ram) : Mach :=
  m.each [0, 1] (fun m rail => (m.scan r rail (m.queueOf r rail m.togetherNow)).railSync rail)

/-! ### Trips (R293, R297, R301, R303) -/

/-- A trip: cause 0 SHORT, 1 THERMAL, 2 LIMIT_TIMEOUT. -/
def Mach.lcTrip (m : Mach) (r : Ram) (n i : Nat) : Mach :=
  let x := m.lc n
  let same := x.tripAt = some m.now
  if (!x.on && !same) || m.lcCause n i then m
  else
    let old := m.obj F.lcPRIMARY n
    let m := m.setObj F.lcPRIMARY n (if same && old != 0 then min old (i + 1) else i + 1)
    let m := ((m.setCause n i true).bump F.lcTRIPS n).lcOff r n 2 (i + 1)
    let autos := (x.autos.filter (fun a => decide (m.now < a + 60 * 10 ^ 9))).length
    let latch := m.obj F.lcRESTART n == 1 || decide (m.obj F.lcAUTO_MAX n < autos + 1)
    let m := m.updLc n (fun x => { x with
      tripAt := some m.now
      hot := x.hot || i == 1
      owed := !latch })
    let m := m.updCtl (railOf n) (fun k => { k with
      trips := k.trips + 1
      lastCh := n
      lastPrim := m.obj F.lcPRIMARY n })
    let m := m.lcSay r n (i + 1) 0x0780 true
    let m := if latch && !(m.lcCause n 5) then (m.setCause n 5 true).lcSay r n 6 0x0780 true else m
    m.lcSync n

/-- LC_SHORT (R293). -/
def execLcShort (t : Nat) (n : Fin 32) (s : State) : Out := evR t (fun r m => (m.lcTrip r n.val 0, [])) s

/-- LIMIT_TIMEOUT (R293): not counted during a profile (R294). -/
def execLimitTimeout (t : Nat) (n : Fin 32) (s : State) : Out :=
  evR t (fun r m =>
    if (m.lc n.val).on ∧ ((m.lc n.val).seg < (m.lc n.val).segs.length ∨ m.now < (m.lc n.val).onAt + m.obj F.lcLIM_TIME_MS n.val * 10 ^ 6)
    then (m, []) else (m.lcTrip r n.val 2, [])) s

/-- THERMAL (R297). -/
def execThermal (t : Nat) (n : Fin 32) (s : State) : Out := evR t (fun r m => (m.lcTrip r n.val 1, [])) s

/-- LC_COOLED (R297): below 150 °C the THERMAL cause clears. -/
def execLcCooled (t : Nat) (n : Fin 32) (s : State) : Out :=
  evR t (fun r m => (((m.setCause n.val 1 false).updLc n.val (fun x => { x with
    hot := false
    temp := min x.temp 1499 })).lcEval r n.val false, [])) s

/-- LC_RESTART_DELAY (R297): 100 ms after the trip SHORT and LIMIT_TIMEOUT clear. -/
def execLcRestartDelay (t : Nat) (n : Fin 32) (s : State) : Out :=
  evR t (fun r m =>
    if (m.lc n.val).tripAt.all (fun a => decide (a + 100 * 10 ^ 6 ≤ m.now)) then
      (((m.setCause n.val 0 false).setCause n.val 2 false).lcEval r n.val false, [])
    else (m, [])) s

/-- INRUSH_SEGMENT_END (R294, R516): the next limit applies; CAPACITIVE may end early. -/
def execInrushSegmentEnd (t : Nat) (n : Fin 32) (early : Bool) (s : State) : Out :=
  evR t (fun r m =>
    let x := m.lc n.val
    match x.segs[x.seg]? with
    | none => (m, [])
    | some g =>
      let done := decide (x.onAt + g.1 * 1000 ≤ m.now)
      if !x.on || !(done || (early && x.profile == 5)) then (m, [])
      else
        let last := decide (x.segs.length ≤ x.seg + 1)
        let m := m.updLc n.val (fun x => { x with
          seg := x.seg + 1
          segs := if done then x.segs else [] })
        ((m.when last (fun m => m.startRec r n.val 0 0)).lcSync n.val, [])) s

/-! ### Rail undervoltage, controller power (R298, R310) -/

/-- RAIL_UNDERVOLTAGE (R298): every channel of the rail is switched off and held. -/
def execRailUndervoltage (t : Nat) (rail : Fin 2) (s : State) : Out :=
  evR t (fun r m =>
    let k := rail.val
    if (m.ctl k).uv then (m, [])
    else
      let m := m.updCtl k (fun x => { x with uv := true })
      let m := m.each (chansOf k) (fun m n =>
        let m := m.when (m.lcClaim n).1 (fun m => m.bump F.lcUV_EVENTS n)
        let m := m.when ((m.lc n).on || m.obj F.lcPRIMARY n == 0) (fun m => m.setObj F.lcPRIMARY n 4)
        (((m.setCause n 3 true).lcOff r n 2 4).updLc n (fun x => { x with uvAt := none })).lcSync n)
      ((m.chron { sub := 7, low := 0x86, inst := k, cause := 1 }).notice 0 0x0786 0xFF [itm 1 1 k, itm 2 1 1], [])) s

/-- RAIL_RECOVERED (R298): the cause clears; channels claimed on return in turn, 1 ms apart. -/
def execRailRecovered (t : Nat) (rail : Fin 2) (s : State) : Out :=
  evR t (fun r m =>
    let k := rail.val
    if !(m.ctl k).uv then (m, [])
    else
      let m := m.updCtl k (fun x => { x with uv := false })
      let on := (chansOf k).filter (fun n => (m.lcClaim n).1)
      let m := m.each (on.zip (List.range on.length)) (fun m e => m.updLc e.1 (fun x => { x with uvAt := some (m.now + e.2 * 10 ^ 6) }))
      let m := m.each (chansOf k) (fun m n => (m.setCause n 3 false).lcEval r n false)
      ((m.chron { sub := 7, low := 0x86, inst := k, cause := 0 }).notice 0 0x0786 0xFF [itm 1 1 k, itm 2 1 0], [])) s

/-- RAIL_UV_STAGGERED_RETURN (R298): under limp-home the channel returns at its instant. -/
def execRailUvStaggeredReturn (t : Nat) (n : Fin 32) (s : State) : Out := evR t (fun r m => (m.lcEval r n.val false, [])) s

/-! ### The bucket's events (R299, R305) -/

/-- CLAMP_END (R299): the clamp's energy is taken from the bucket; an empty bucket locks. -/
def execClampEnd (t : Nat) (n : Fin 32) (uj : Nat) (s : State) : Out :=
  evR t (fun r m =>
    let k := n.val
    if !(m.ctl (railOf k)).powered then (m, [])
    else
      let u := min (bucketCap k) (m.bucketUsed k + uj * 1000)
      let m := (m.updLc k (fun x => { x with
        used := u
        usedAt := m.now })).bucketSync k
      let m := m.setObj F.lcCLAMP_MJ_LAST k (uj / 1000)
      if u = bucketCap k ∧ !m.lcCause k 4 then
        let m := (m.setCause k 4 true).bump F.lcLOCKS k
        let m := m.when (!(m.lc k).on && m.obj F.lcPRIMARY k == 0) (fun m => m.setObj F.lcPRIMARY k 5)
        ((m.lcSay r k 5 0x0781 true).lcSync k, [])
      else (m.lcSync k, [])) s

/-- BUCKET_FULL (R299): the bucket has refilled; LOCKED stays until LC_UNLOCK. -/
def execBucketFull (t : Nat) (n : Fin 32) (s : State) : Out := ev t (fun m => m.bucketSync n.val) s

/-- Channel n of a command, and whether its queue may act on it (R305). -/
def Mach.lcGuard (m : Mach) (r : Ram) (c : Cmd) (n : Nat) (k : Mach → Res) : Res :=
  if !isSys c.owner && m.lcOwner r n ≠ some c.owner then Res.fail m stNOT_OWNER else k m

/-- The card of LC_UNLOCK. -/
def lcUnlockCard : Card :=
  { op := 0x0710, bulk := false, modes := [0, 1, 2, 5], items := [⟨1, 1, 1, true, false⟩], valOk := fun _ v => decide (beNat v ≤ 31) }

/-- The effect of LC_UNLOCK (R305). -/
def lcUnlock (c : Cmd) (r : Ram) (m : Mach) : Res :=
  let n := c.num 1
  m.lcGuard r c n (fun m =>
    if !m.lcCause n 4 then Res.done m
    else if m.bucketUsed n ≠ 0 then Res.fail m 0x1701
    else Res.done ((m.setCause n 4 false).lcEval r n false))

/-- LC_UNLOCK (R305). -/
def execLcUnlock (msg : Msg) (s : State) : Out :=
  zcp lcUnlockCard lcUnlock msg s

/-- The card of LC_CLEAR_LATCH. -/
def lcClearLatchCard : Card :=
  { op := 0x0711, bulk := false, modes := [0, 1, 2, 5], items := [⟨1, 1, 1, true, false⟩], valOk := fun _ v => decide (beNat v ≤ 31) }

/-- The effect of LC_CLEAR_LATCH (R306). -/
def lcClearLatch (c : Cmd) (r : Ram) (m : Mach) : Res :=
  let n := c.num 1
  m.lcGuard r c n (fun m =>
    if !m.lcCause n 5 then Res.done m
    else if m.lcHot n then Res.fail m 0x1702
    else Res.done (((m.setCause n 5 false).updLc n (fun x => { x with
      autos := []
      owed := false })).lcEval r n false))

/-- LC_CLEAR_LATCH (R306). -/
def execLcClearLatch (msg : Msg) (s : State) : Out :=
  zcp lcClearLatchCard lcClearLatch msg s

/-- A calibration has a converter's readings latched UNCERTAIN (R590): kind 0 sense converter, 1 loop readback converter. -/
def Mach.calUncertain (m : Mach) (kind unit : Nat) : Bool :=
  m.svc.calUnc.any (fun c => c.1 == kind && c.2.1 == unit && decide (m.now < c.2.2)) ||
  m.svc.calib.any (fun c => c.1 == kind && c.2.1 == unit)

/-! ### The rails as load shedding follows them (R408, R409) -/

/-- A rail's state for load shedding. -/
def Mach.rail (m : Mach) (k : Nat) : RailSt := ug {} m.rails k

/-- Change it. -/
def Mach.updRail (m : Mach) (k : Nat) (f : RailSt → RailSt) : Mach := { m with rails := uset {} m.rails k f }

/-- A trigger of R408 holds for a rail at a measured current and voltage. DESIGN CHOICE, log 61. -/
def Mach.overdrawn (m : Mach) (rail ma mv : Nat) : Bool :=
  let unsure := (chansOf rail).any (fun n => (alook (0, 0) m.senses (n / 8)).2 != 0 || m.calUncertain 0 (n / 8))
  (m.obj F.railSHED_MA rail != 0 && !unsure && decide (m.obj F.railSHED_MA rail < ma)) ||
    (m.obj F.railSHED_MV rail != 0 && decide (mv < m.obj F.railSHED_MV rail))

/-- The rail is overdrawn: a trigger has held for SHED_MS without interruption (R408). -/
def Mach.railOver (m : Mach) (k : Nat) : Bool :=
  (m.rail k).trig && decide ((m.rail k).since + m.obj F.railSHED_MS k * 10 ^ 6 ≤ m.now)

/-- A rail is measured, in mA and mV: a trigger that comes or goes starts its time anew, and one that goes may end an overdraw.
DESIGN CHOICE, log 61. -/
def Mach.railSee (m : Mach) (k ma mv : Nat) : Mach :=
  let m := (m.setObj F.railMEAS_MA k (min 65535 ma)).setObj F.railRAIL_MV k (min 65535 mv)
  let b := m.overdrawn k ma mv
  let was := m.railOver k
  m.when (b != (m.rail k).trig) (fun m => m.updRail k (fun x => { x with
    trig := b
    since := m.now
    ended := if was then m.now else x.ended }))

/-- The rails' voltages at a Clapper (R413, R414): FA, FB, FM in mV. -/
def Mach.takeRails (m : Mach) (mvs : List Nat) : Mach :=
  let m := m.each [0, 1] (fun m k => match mvs[k]? with
    | some mv => m.railSee k (m.obj F.railMEAS_MA k) mv
    | none => m)
  m.when m.isM4 (fun m => match mvs[2]? with
    | some mv => m.setObj F.railRAIL_MV 2 (min 65535 mv)
    | none => m)

/-! ### Off-state diagnosis, sense path (R291, R292, R300) -/

/-- LC_OPEN_LOAD (R300): 0 load present, 1 OPEN_LOAD, 2 SHORT_TO_RAIL, held for 10 ms with the stage off. -/
def execLcOpenLoad (t : Nat) (n : Fin 32) (result : Fin 3) (s : State) : Out :=
  evR t (fun r m =>
    let k := n.val
    if (m.lc k).on ∨ m.obj F.lcOL_DETECT k = 0 ∨ !(m.ctl (railOf k)).powered ∨ (m.lc k).diag = result.val then (m, [])
    else
      let m := m.updLc k (fun x => { x with diag := result.val })
      if result.val = 0 then (m, []) else ((m.bump F.lcOPEN_LOADS k).lcSay r k (6 + result.val) 0x0782 false, [])) s

/-- SENSE_VISIT (R291): one channel visit of a converter: samples, the channel's limiting report, the read-back of the select lines. DEDUCED, log 57. -/
def execSenseVisit (t : Nat) (k : Fin 4) (cur : Nat) (vout temp : Int) (limiting clean : Bool) (s : State) : Out :=
  ev t (fun m =>
    let x := alook (0, 0) m.senses k.val
    let n := 8 * k.val + x.1
    let m := { m with senses := aset m.senses k.val ((x.1 + 1) % 8, if clean then x.2 - 1 else 80) }
    let m := m.updLc n (fun y => { y with
      sumI := y.sumI + cur
      sumV := y.sumV + vout
      sumT := y.sumT + temp
      num := y.num + 1
      temp := temp
      limiting := y.on && limiting
      peak := if y.on && decide (y.seg < y.segs.length) then max y.peak cur else y.peak })
    let m := m.setObj F.lcTEMP n (uint 16 temp)
    (m.railSee (railOf n) (((chansOf (railOf n)).map (fun j => (m.lc j).meanI)).sum) (m.obj F.railRAIL_MV (railOf n))).lcSync n) s

/-! ### Limp-home (R307 to R314) -/

/-- Limp-home engages on every mapped channel of a controller: cause 1 LIMP_FORCE alone, 2 alive signal absent. -/
def Mach.engage (m : Mach) (r : Ram) (k cause : Nat) : Mach :=
  let ns := (chansOf k).filter m.mapped
  if ns = [] ∨ !(m.ctl k).powered then m
  else
    let fresh := ns.all (fun n => (m.lc n).limp == 0)
    let m := m.when fresh (fun m => (m.bump F.limpENGAGE_COUNT).updCtl k (fun x => { x with
      since := some m.now
      engages := x.engages + 1 }))
    let m := m.each ns (fun m n => m.updLc n (fun x => { x with limp := max x.limp cause }))
    let m := m.each ns (fun m n => (m.setObj F.limpENGAGED 0 (setBit (m.obj F.limpENGAGED) n true)).lcEval r n false)
    m.when (fresh && (m.ctl k).alive == 0 && m.sys.restarting.isNone) (fun m => m.notice 0 0x0783 0xFF [itm 1 1 k])

/-- Release channels of limp-home (R312): one that is on and claimed on by its next source stays on and is taken as admitted, charged
RUN_MA. DEDUCED, log 57. -/
def Mach.limpRelease (m : Mach) (r : Ram) (ns : List Nat) (clap : Bool) : Mach :=
  let ns := ns.filter (fun n => (m.lc n).limp != 0)
  if ns = [] then m
  else
    let m := m.each ns (fun m n =>
      let m := (m.setObj F.limpENGAGED 0 (setBit (m.obj F.limpENGAGED) n false)).updLc n (fun x => { x with limp := 0 })
      let stay := (m.lc n).on && (m.lcClaim n).1
      let m := m.updLc n (fun x => { x with
        claim := stay
        admitted := stay
        flat := stay })
      (m.lcEval r n true).when (!clap && !stay) (fun m => m.lcSync n))
    let m := m.each [0, 1] (fun m k =>
      if (chansOf k).any (fun n => (m.lc n).limp != 0) then m
      else
        let d := ((m.ctl k).since.map (fun a => m.now - a)).getD 0
        (m.bump F.limpENGAGED_S 0 (d / 10 ^ 9)).updCtl k (fun x => { x with
          since := none
          engagedNs := x.engagedNs + d }))
    m.when m.sys.restarting.isNone (fun m => m.notice 0 0x0784 0xFF)

/-- The mode releases a channel engaged with the alive signal absent (R312). -/
def Mach.modeFrees (m : Mach) (r : Ram) (n : Nat) : Bool :=
  m.mode == 0 || m.mode == 5 || ((m.lcOwner r n).isNone && (m.mode == 1 || m.mode == 2))

/-- Releases due outside a Clapper, the alive signal present and LIMP_FORCE low (R312). -/
def Mach.limpEnter (m : Mach) (r : Ram) : Mach :=
  if m.limpForce then m
  else m.limpRelease r ((List.range 32).filter (fun n => (m.ctl (railOf n)).alive == 0 && ((m.lc n).limp == 1 || m.modeFrees r n))) false

/-- ALIVE_LOST_2MS (R310): unmapped channels switch off, mapped ones hold their state. -/
def execAliveLost2ms (t : Nat) (ctl : Fin 2) (s : State) : Out :=
  evR t (fun r m =>
    let m := m.updCtl ctl.val (fun x => { x with alive := max 1 x.alive })
    (m.each (chansOf ctl.val) (fun m n => m.lcEval r n false), [])) s

/-- ALIVE_LOST_50MS (R310): limp-home engages, or the mapped channels switch off too. -/
def execAliveLost50ms (t : Nat) (ctl : Fin 2) (s : State) : Out :=
  evR t (fun r m =>
    let k := ctl.val
    let m := m.updCtl k (fun x => { x with alive := 2 })
    if ((m.ctl k).map[0]?).getD 0 % 2 = 1 ∨ m.limpForce then (m.engage r k 2, [])
    else (m.each ((chansOf k).filter m.mapped) (fun m n => (m.lcOff r n 1 0).lcSync n), [])) s

/-- The record of a controller at the first contact after the alive signal returns (R313). -/
def Mach.limpRecord (m : Mach) (k : Nat) : Mach :=
  let x := m.ctl k
  let run := (x.since.map (fun a => m.now - a)).getD 0
  (m.chron { sub := 7, low := 0x07, inst := k, detail := toLe 4 x.engages ++ toLe 4 ((x.engagedNs + run) / 10 ^ 9) ++ toLe 2 (min x.trips 65535) ++
      [x.lastCh, x.lastPrim] ++ toLe 4 0 }).updCtl k (fun x => { x with
    engages := 0
    engagedNs := 0
    trips := 0 })

/-- ALIVE_RETURN (R312, R313). -/
def execAliveReturn (t : Nat) (ctl : Fin 2) (s : State) : Out :=
  evR t (fun r m =>
    let k := ctl.val
    if (m.ctl k).alive = 0 then (m, [])
    else
      let m := (m.updCtl k (fun x => { x with alive := 0 })).limpRecord k
      let m := m.each (chansOf k) (fun m n => m.when ((m.lc n).limp == 0 && !(m.lc n).on) (fun m => m.updLc n (fun x => { x with claim := false })))
      (m.limpEnter r, [])) s

/-- LIMP_FORCE_CHANGE (R310, R312). -/
def execLimpForceChange (t : Nat) (level : Bool) (s : State) : Out :=
  evR t (fun r m =>
    let m := { m with limpForce := level }
    if level then (m.each [0, 1] (fun m k => m.engage r k (if (m.ctl k).alive = 0 then 1 else 2)), [])
    else (m.limpEnter r, [])) s

/-- LH_INPUT_CHANGE (R311): mapped channels under limp-home follow at once. -/
def execLhInputChange (t : Nat) (k : Fin 8) (level : Bool) (s : State) : Out :=
  evR t (fun r m =>
    let m := { m with lh := setBit m.lh k.val level }
    let m := m.setObj F.limpLH_LEVELS 0 m.lh
    (m.each ((List.range 32).filter (fun n => (m.lc n).limp != 0 && m.limpEntry n % 8 == k.val)) (fun m n => m.lcEval r n false), [])) s

/-- A controller goes down: its channels are off, limp-home is unavailable, the buckets stand. -/
def Mach.ctlDown (m : Mach) (r : Ram) (k : Nat) : Mach :=
  let m := m.each (chansOf k) (fun m n => m.bucketSync n)
  let m := m.each (chansOf k) (fun m n =>
    ((m.lcOff r n 1 0).setObj F.limpENGAGED 0 (setBit (m.obj F.limpENGAGED) n false)).updLc n (fun x => { x with limp := 0 }))
  let d := ((m.ctl k).since.map (fun a => m.now - a)).getD 0
  let m := (m.bump F.limpENGAGED_S 0 (d / 10 ^ 9)).updCtl k (fun x => { x with
    powered := false
    since := none
    engagedNs := x.engagedNs + d })
  m.each (chansOf k) (fun m n => m.lcSync n)

/-- LC_CONTROLLER_POWER (R298, R299, R310): a rail falls below 10 V, or its controller powers up and decides afresh. -/
def execLcControllerPower (t : Nat) (ctl : Fin 2) (up : Bool) (s : State) : Out :=
  evR t (fun r m =>
    let k := ctl.val
    if up = (m.ctl k).powered then (m, [])
    else if up then
      let m := m.each (chansOf k) (fun m n => m.updLc n (fun x => { x with usedAt := m.now }))
      let m := m.updCtl k (fun x => { x with
        powered := true
        alive := 1 })
      if m.limpForce then (m.engage r k 2, []) else (m.each (chansOf k) (fun m n => m.lcSync n), [])
    else (m.ctlDown r k, [])) s

/-! ### The Clapper (R288 to R292, R312) -/

/-- What LSTART reports, latched (R156): INHIBITED while a source above the program and its fallback holds the channel, at either value
(R146). -/
def Mach.lcReport (m : Mach) (n : Nat) : LcRep :=
  let x := m.lc n
  let src := (m.lcClaim n).2
  { inhibited := decide (1 ≤ src) && decide (src ≤ 4)
    guarded := m.lcHeld n
    shed := x.shed
    on := x.on
    granted := x.admitted && x.entry.isNone
    queued := x.entry.isSome
    waitUs := (x.entry.map (fun e => (m.now - e.at_) / 1000)).getD 0
    starts := x.starts }

/-- The STATUS word (R289). -/
def Mach.lcStatus (m : Mach) (n : Nat) : Nat :=
  let x := m.lc n
  let c := m.lcClaim n
  x.on.toNat + c.1.toNat * 2 + (x.on && decide (x.seg < x.segs.length)).toNat * 4 + (x.on && x.limiting).toNat * 8 + (m.lcCause n 1).toNat * 16 +
  (m.lcCause n 0).toNat * 32 + (m.lcCause n 2).toNat * 64 + (m.lcCause n 3).toNat * 128 + (m.lcCause n 4).toNat * 256 +
  (m.lcCause n 5).toNat * 512 + (m.isSet F.lcOL_DETECT n && x.diag == 1).toNat * 1024 +
  (m.isSet F.lcOL_DETECT n && x.diag == 2).toNat * 2048 + c.2 * 2 ^ 13

/-- Apply what was published for the channels of a partition, release limp-home, and decide each (R16, R312, R621 step 2). -/
def Mach.clapLoads (m : Mach) (r : Ram) (p : Nat) : Mach :=
  let ns := (List.range 32).filter (fun n => m.lcOwner r n == some p)
  let m := m.each ns (fun m n =>
    let q := rd r .nextQ (0x00100 + 6 * n)
    m.updLc n (fun x => { x with
      prog := bit (rd r .next (0x00100 + 6 * n)) 0
      src := if q = 3 then 5 else if q = 1 then 1 else 0 }))
  let free := ns.filter (fun n => (m.lc n).limp == 2 && (m.ctl (railOf n)).alive == 0)
  let m := if m.obj F.partSTATE p = 1 ∧ !m.limpForce then m.limpRelease r free true else m
  m.each ns (fun m n => m.lcEval r n true)

/-- Latch the channels' slots (R288, R292, R621 step 3). -/
def Mach.latchLoads (m : Mach) (r : Ram) (p : Nat) : Mach × List W :=
  ((List.range 32).filter (fun n => m.lcOwner r n == some p)).foldl (fun y n =>
    let m := y.1
    let x := m.lc n
    let k := (x.num : Int)
    let m := m.updLc n (fun x => { x with
      meanI := if x.num = 0 then x.meanI else x.sumI / x.num
      meanV := if x.num = 0 then x.meanV else x.sumV / k
      meanT := if x.num = 0 then x.meanT else x.sumT / k
      sumI := 0
      sumV := 0
      sumT := 0
      num := 0
      rep := m.lcReport n })
    let x := m.lc n
    let q := if (alook (0, 0) m.senses (n / 8)).2 = 0 && !m.calUncertain 0 (n / 8) then 0 else 2
    let b := 0x00100 + 6 * n
    (m, y.2 ++ backPut p (b + 1) (m.lcStatus n) 0 ++ backPut p (b + 2) x.meanI q ++ backPut p (b + 3) (uint 16 x.meanV) q ++
      backPut p (b + 4) (uint 16 x.meanT) q ++ backPut p (b + 5) ((bucketCap n - m.bucketUsed n) * 1000 / bucketCap n) 0)) (m, [])

/-- Both controllers hold the same valid map (R290, R308). -/
def Mach.limpMapOk (m : Mach) : Bool := (m.ctl 0).powered && (m.ctl 1).powered && (m.ctl 0).map == (m.ctl 1).map

/-- Module-level load-channel slots (R290). -/
def Mach.loadPoints (m : Mach) (p : Nat) : List W :=
  backPut p 0x001C0 (m.lh + m.limpForce.toNat * 256 + (m.obj F.limpENGAGED != 0).toNat * 512 + m.limpMapOk.toNat * 1024) 0 ++
  backPut p 0x001C1 ((m.ctl 0).uv.toNat + (m.ctl 1).uv.toNat * 2 + (!(m.ctl 0).powered).toNat * 4 + (!(m.ctl 1).powered).toNat * 8) 0

/-! ### What other units do to a channel (R18) -/

/-- The Safety Island holds a channel off, or releases it. -/
def Mach.lcIsland (m : Mach) (r : Ram) (n : Nat) (b : Bool) : Mach := (m.updLc n (fun x => { x with isl := b })).lcEval r n false

/-- A traction binding inhibits a channel, or releases it. -/
def Mach.lcTraction (m : Mach) (r : Ram) (n : Nat) (b : Bool) : Mach := (m.updLc n (fun x => { x with trac := b })).lcEval r n false

end Sys2Proof.Machine
end

