-- ==== Sys2Proof/Machine/Loop.lean ====
section
/-! DEFINITION. Loop outputs (R315 to R321). -/
namespace Sys2Proof.Machine

/-- A loop output. -/
def Mach.lo (m : Mach) (n : Nat) : LoSt := ug {} m.los n

/-- Change it. -/
def Mach.updLo (m : Mach) (n : Nat) (f : LoSt → LoSt) : Mach := { m with los := uset {} m.los n f }

/-- The output drives: enabled, and FA not low in SOURCE mode (R315, R317). -/
def Mach.loDriving (m : Mach) (n : Nat) : Bool :=
  m.obj F.loMODE n != 0 && (m.lo n).target != 0 && !(m.obj F.loMODE n == 1 && m.faLow)

/-- STATE of the object (R321). -/
def Mach.loSync (m : Mach) (n : Nat) : Mach :=
  let x := m.lo n
  m.setObj F.loSTATE n
    (if m.obj F.loMODE n = 0 ∨ x.target = 0 then 0 else if m.obj F.loMODE n = 1 ∧ m.faLow then 3 else if x.brk then 2 else 1)

/-- Target of SET and FLAGS in 0.5 µA units, CLAMPED, FAULT_CURRENT (R317). -/
def loTarget (set flags : Nat) : Nat × Bool × Bool :=
  if bit flags 0 then (7200, false, true)
  else if bit flags 1 then (43000, false, true)
  else if set = 0 then (0, false, false)
  else if set < 7200 then (7200, true, false)
  else if set ≤ 43000 then (set, false, false)
  else (43000, true, false)

/-- Current driven, in 0.0005 nA (10^-6 of the 0.5 µA unit): the target under its trim (R319); a disabled output stays at 0. -/
def Mach.loDrive (m : Mach) (n : Nat) : Int :=
  let i := (m.lo n).target
  if i = 0 then 0
  else (i : Int) * (10 ^ 6 + sint 32 (m.obj F.loSPAN_TRIM n)) + sint 16 (m.obj F.loZERO_TRIM n) * 10 ^ 5

/-- Apply and latch at the owner's Clapper (R316 to R318): what the readback converters' means are, the outside supplies. -/
def Mach.clapLoops (m : Mach) (r : Ram) (p : Nat) (meas : List (Nat × Nat × Int × Bool)) : Mach × List W :=
  ((List.range 8).filter (fun n => m.loOwner r n == some p)).foldl (fun y n =>
    let m := y.1
    let b := 0x00200 + 8 * n
    let q := rd r .nextQ b
    let x := loTarget (rd r .next b) (rd r .next (b + 1))
    let z := ((meas.find? (fun e => e.1 == n)).map (·.2)).getD ((m.lo n).readback, (m.lo n).termV, (m.lo n).compliance)
    let m := m.updLo n (fun l => { l with
      target := x.1
      clamped := x.2.1
      faulted := x.2.2
      src := if q = 3 then 5 else if q = 1 then 1 else 0
      readback := z.1
      termV := z.2.1
      compliance := z.2.2
      brk := l.brk && x.1 != 0 })
    let m := (m.updLo n (fun l => { l with drive := m.loDrive n })).loSync n
    let l := m.lo n
    let st := (m.loDriving n).toNat + l.brk.toNat * 2 + l.compliance.toNat * 4 + l.clamped.toNat * 8 +
      (m.obj F.loMODE n == 1 && m.faLow).toNat * 16 + l.faulted.toNat * 32 + l.src * 2 ^ 13
    let u := if m.calUncertain 1 n then 2 else 0
    (m, y.2 ++ backPut p (b + 2) st 0 ++ backPut p (b + 3) l.readback u ++ backPut p (b + 4) (uint 16 l.termV) u)) (m, [])

/-- LO_LOOP_BREAK (R318): below target at compliance, or at a low terminal voltage, for BREAK_MS. -/
def execLoLoopBreak (t : Nat) (n : Fin 8) (s : State) : Out :=
  evR t (fun r m =>
    let k := n.val
    if !m.loDriving k ∨ (m.lo k).brk ∨ m.calUncertain 1 k then (m, [])
    else
      let p := (m.loOwner r k).getD 0xFF
      let m := ((m.updLo k (fun x => { x with brk := true })).bump F.loBREAKS k).loSync k
      ((m.chron { sub := 7, low := 0x85, part := p, inst := k, cycle := if p < 8 then (m.part p).cycle else 0 }).notice (m.chanOf p) 0x0785 p, [])) s

/-- LOOP_BREAK_CLEAR (R318): within tolerance for 100 ms. -/
def execLoopBreakClear (t : Nat) (n : Fin 8) (s : State) : Out :=
  ev t (fun m => (m.updLo n.val (fun x => { x with brk := false })).loSync n.val) s

/-- LO_RAIL_LOW (R315): FA below 12 V stops the source-mode outputs; back above it they drive again. -/
def execLoRailLow (t : Nat) (low : Bool) (s : State) : Out :=
  ev t (fun m => ({ m with faLow := low }).each (List.range 8) (fun m n => m.loSync n)) s

/-- The next Clapper instant of a partition on its grid, as GZ time; 0 where GZ time is not valid (R36, R218, R320). -/
def Mach.nextClapGz (m : Mach) (p : Nat) : Nat :=
  if !m.gzValid ∨ m.period p = 0 then 0 else (m.gz / m.period p + 1) * m.period p

/-- A slot's commissioning value as written: the cell holds it plus 1; 0 is a slot at its fallback value (R16, R218). -/
def commOf (r : Ram) (pt : Nat) : Option Nat := if rd r .comm pt = 0 then none else some (rd r .comm pt - 1)

/-- The writes of commissioning values of consecutive slots. -/
def commPut (pt : Nat) (vs : List Nat) : List W := putN .comm pt (vs.map (· + 1))

/-- GZ time of the Clapper at which a partition's next Publish applies (R218): one period later where this cycle's is done. DEDUCED, log 41. -/
def Mach.applyGz (m : Mach) (p : Nat) : Nat :=
  let t := m.nextClapGz p
  if t ≠ 0 ∧ (m.part p).phase = 3 then t + m.period p else t

/-- The card of LO_TRIM. -/
def loTrimCard : Card :=
  { op := 0x0713, bulk := false, modes := [0, 1, 2, 5],
    items := [⟨1, 1, 1, true, false⟩, ⟨2, 2, 2, false, false⟩, ⟨3, 4, 4, false, false⟩],
    valOk := fun ty v => ty != 1 || decide (beNat v ≤ 7),
    lack := fun is => if hasItem is 2 || hasItem is 3 then none else some 2 }

/-- The effect of LO_TRIM (R320): stored at once, in force at the owner's next Clapper. -/
def loTrim (c : Cmd) (r : Ram) (m : Mach) : Res :=
  let n := c.num 1
  let own := m.loOwner r n
  let z := if c.has 2 then sint 16 (c.num 2) else sint 16 (m.obj F.loZERO_TRIM n)
  let sp := if c.has 3 then sint 32 (c.num 3) else sint 32 (m.obj F.loSPAN_TRIM n)
  if !isSys c.owner && own ≠ some c.owner then Res.fail m stNOT_OWNER
  else if 4000 < z.natAbs ∨ 20000 < sp.natAbs then Res.fail m 0x1704
  else
    let p := own.getD 0xFF
    let det := toLe 2 (m.obj F.loZERO_TRIM n) ++ toLe 4 (m.obj F.loSPAN_TRIM n) ++ toLe 2 (uint 16 z) ++ toLe 4 (uint 32 sp)
    let m := ((m.setObj F.loZERO_TRIM n (uint 16 z)).setObj F.loSPAN_TRIM n (uint 32 sp)).bump F.loTRIM_COUNT n
    let m := m.setObj F.loTRIM_TIME n m.gzStamp
    let m := m.when own.isNone (fun m => m.updLo n (fun l => { l with drive := m.loDrive n }))
    let m := m.chron { sub := 7, low := 0x06, part := p, inst := n, detail := det }
    Res.done m [itm 1 8 (match own with
      | some p => m.nextClapGz p
      | none => m.gzStamp)]

/-- LO_TRIM (R320). -/
def execLoTrim (msg : Msg) (s : State) : Out :=
  zcp loTrimCard loTrim msg s

end Sys2Proof.Machine
end

