-- ==== Sys2Proof/Machine/Kinema.lean ====
section
/-! DEFINITION. Positions in time: profiles (R352 to R354), the virtual master, gear groups (R363, R367), the counters of feedback
ports and axes that other units read. Speeds are in 10^-6 steps/s, times in ps, lengths in 10^-18 steps (log 40). -/
namespace Sys2Proof.Machine

/-- A feedback port. -/
def Mach.ep (m : Mach) (n : Nat) : EpSt := ug {} m.eps n

/-- Change it. -/
def Mach.updEp (m : Mach) (n : Nat) (f : EpSt → EpSt) : Mach := { m with eps := uset {} m.eps n f }

/-- An axis. -/
def Mach.ax (m : Mach) (n : Nat) : AxSt := ug {} m.axs n

/-- Change it. -/
def Mach.updAx (m : Mach) (n : Nat) (f : AxSt → AxSt) : Mach := { m with axs := uset {} m.axs n f }

/-- A gear group. -/
def Mach.gg (m : Mach) (g : Nat) : GgSt := ug {} m.ggs g

/-- Change it. -/
def Mach.updGg (m : Mach) (g : Nat) (f : GgSt → GgSt) : Mach := { m with ggs := uset {} m.ggs g f }

/-! ### Profiles (R352) -/

/-- One step in length units. DESIGN CHOICE, log 40. -/
def unit : Nat := 10 ^ 18

/-- A segment from a speed at an acceleration for a time. -/
def pseg (v0 : Nat) (acc : Int) (dur : Nat) : PSeg := ⟨v0, acc, dur, ((v0 * dur : Nat) + acc * (dur * dur : Nat) / 2000000).toNat⟩

/-- Speed change from v to w at a rate. -/
def rampSeg (v w rate : Nat) : PSeg :=
  if v ≤ w then pseg v rate ((w - v) * 10 ^ 6 / max 1 rate) else pseg v (-(rate : Int)) ((v - w) * 10 ^ 6 / max 1 rate)

/-- Rise from v to w: A1 below V1, A2 at or above it. -/
def riseSegs (a1 a2 v1 v w : Nat) : List PSeg :=
  (if v < min w v1 then [rampSeg v (min w v1) a1] else []) ++ (if max v v1 < w then [rampSeg (max v v1) w a2] else [])

/-- Fall from v to w: D2 at or above V1, D1 below it. -/
def fallSegs (d1 d2 v1 v w : Nat) : List PSeg :=
  (if max w v1 < v then [rampSeg v (max w v1) d2] else []) ++ (if w < min v v1 then [rampSeg (min v v1) w d1] else [])

/-- Length of segments. -/
def segsLen (l : List PSeg) : Nat := (l.map (·.len)).sum

/-- Duration of segments, ps. -/
def segsDur (l : List PSeg) : Nat := (l.map (·.dur)).sum

/-- The highest peak between lo and hi whose length fits, by halving. DESIGN CHOICE, log 40. -/
def fitPeak (len : Nat → Nat) (d : Nat) : Nat → Nat → Nat → Nat
  | 0, lo, _ => lo
  | n + 1, lo, hi =>
    if hi ≤ lo + 1 then lo
    else if len ((lo + hi) / 2) ≤ d then fitPeak len d n ((lo + hi) / 2) hi else fitPeak len d n lo ((lo + hi) / 2)

/-- Profile parameters of an axis, speeds in 10^-6 steps/s. -/
structure Prof where
  vs : Nat
  ve : Nat
  v1 : Nat
  a1 : Nat
  a2 : Nat
  d1 : Nat
  d2 : Nat
  dq : Nat

/-- The parameters in the axis object (R369). DESIGN CHOICE, log 40. -/
def Mach.prof (m : Mach) (n : Nat) : Prof :=
  ⟨m.obj F.axVS n * 10 ^ 6, m.obj F.axVE n * 10 ^ 6, m.obj F.axV1 n * 10 ^ 6, m.obj F.axA1 n, m.obj F.axA2 n, m.obj F.axD1 n, m.obj F.axD2 n,
    m.obj F.axDQ n⟩

/-- Segments from speed v over exactly a length, to VE (R352): the peak asked for, or the highest that fits. DESIGN CHOICE, log 40. -/
def moveSegs (p : Prof) (v peak d : Nat) : List PSeg :=
  let down := fun (q : Nat) => fallSegs p.d1 p.d2 p.v1 q (min p.ve q)
  let whole := fun (q : Nat) => (if v ≤ q then riseSegs p.a1 p.a2 p.v1 v q else fallSegs p.d1 p.d2 p.v1 v q, down q)
  let fill := fun (x : List PSeg × List PSeg) (q : Nat) => x.1 ++ [pseg q 0 ((d - (segsLen x.1 + segsLen x.2)) / max 1 q)] ++ x.2
  let len := fun (q : Nat) => segsLen (whole q).1 + segsLen (whole q).2
  if len peak ≤ d then fill (whole peak) peak
  else if len v ≤ d ∧ v < peak then
    let q := fitPeak len d 64 v peak
    fill (whole q) q
  else [pseg v 0 (d / max 1 v)]

/-- Position and speed within segments after a time: length, speed, whether they have ended. -/
def segsAt : List PSeg → Nat → Nat × Nat × Bool
  | [], _ => (0, 0, true)
  | s :: r, t =>
    if t < s.dur then ((((s.v0 * t : Nat) : Int) + s.acc * (t * t : Nat) / 2000000).toNat, ((s.v0 : Int) + s.acc * (t : Int) / 1000000).toNat, false)
    else let x := segsAt r (t - s.dur)
         (s.len + x.1, x.2.1, x.2.2)

/-- Signed length of a direction. -/
def signed (up : Bool) (d : Nat) : Int := if up then d else -(d : Int)

/-- Steps issued at an exact position: an edge at each whole step reached (R351). -/
def issuedAt (up : Bool) (x : Int) : Int := if up then x / (unit : Nat) else -((-x) / (unit : Nat))

/-- Exact position, steps issued, signed speed, ended, direction of a plan after a time in ps. DESIGN CHOICE, log 40. -/
def planAtTime : List Leg → Nat → Option (Int × Int × Int × Bool × Bool)
  | [], _ => none
  | l :: r, t =>
    let d := segsDur l.segs
    if t < d ∨ r = [] then
      let x := segsAt l.segs t
      let e := l.x0 + signed l.up x.1
      some (e, issuedAt l.up e, signed l.up x.2.1, x.2.2, l.up)
    else planAtTime r (t - d)

/-- The leg of a plan that runs after a time in ps. -/
def legNow : List Leg → Nat → Option Leg
  | [], _ => none
  | l :: r, t => if t < segsDur l.segs ∨ r = [] then some l else legNow r (t - segsDur l.segs)

/-- Segments from a time on, for a time (ps). -/
def cutSegs : List PSeg → Nat → Nat → List PSeg
  | [], _, _ => []
  | s :: r, a, b =>
    if b = 0 then []
    else if s.dur ≤ a then cutSegs r (a - s.dur) b
    else
      let d := min (s.dur - a) b
      pseg ((s.v0 : Int) + s.acc * (a : Int) / 1000000).toNat s.acc d :: cutSegs r 0 (b - d)

/-- Legs from a time on, for a time (ps); at the end the axis stands. -/
def cutLegs : List Leg → Nat → Nat → List Leg
  | [], _, _ => []
  | l :: r, a, b =>
    let d := segsDur l.segs
    if b = 0 then []
    else if d ≤ a then (if r = [] then [⟨l.x0 + signed l.up (segsLen l.segs), l.up, [pseg 0 0 b]⟩] else cutLegs r (a - d) b)
    else
      ⟨l.x0 + signed l.up (segsAt l.segs a).1, l.up, cutSegs l.segs a b⟩ ::
      (if b ≤ d - a then [] else if r = [] then [⟨l.x0 + signed l.up (segsLen l.segs), l.up, [pseg 0 0 (b - (d - a))]⟩] else cutLegs r 0 (b - (d - a)))

/-- The first step in a new direction waits: DIR changes STEP_WIDTH_NS after the last step's edge, DIR_SETUP_NS before the next (R351). -/
def Mach.dirWaits (m : Mach) (n : Nat) (up : Bool) : Bool :=
  m.obj F.axDRIVE n == 1 && up != (m.ax n).dirUp &&
    decide (m.now < (m.ax n).stepAt + m.obj F.axSTEP_WIDTH_NS n + m.obj F.axDIR_SETUP_NS n)

/-- Where an axis with a plan stands now; at rest at pos without one. -/
def Mach.planNow (m : Mach) (n : Nat) : Int × Int × Int × Bool × Bool :=
  let x := m.ax n
  if m.now < x.planAt then
    match x.plan with
    | l :: _ => (l.x0, x.pos, if l.x0 = x.pos * (unit : Nat) then 0 else signed l.up ((l.segs.head?.map (·.v0)).getD 0), false, l.up)
    | [] => (x.pos * (unit : Nat), x.pos, 0, true, x.dirUp)
  else
    match planAtTime x.plan ((m.now - x.planAt) * 1000) with
    | none => (x.pos * (unit : Nat), x.pos, 0, true, x.dirUp)
    | some y =>
      if y.2.2.2.1 then
        let q := x.goal.getD y.2.1
        (q * (unit : Nat), q, 0, true, y.2.2.2.2)
      else if m.dirWaits n y.2.2.2.2 then
        (y.1, ((legNow x.plan ((m.now - x.planAt) * 1000)).map (fun l => issuedAt l.up l.x0)).getD y.2.1, y.2.2)
      else y

/-! ### Masters and members (R363, R367) -/

/-- Distance of a speed that falls or rises linearly to another at a rate, after a time in ps, with the speed then. -/
def approach (v to_ : Int) (rate t : Nat) : Int × Int :=
  let tr := (to_ - v).natAbs * 10 ^ 6 / max 1 rate
  let a : Int := if to_ < v then -(rate : Int) else rate
  if t ≤ tr then (v * (t : Int) + a * (t * t : Nat) / 2000000, v + a * (t : Int) / 1000000)
  else (v * (tr : Int) + a * (tr * tr : Nat) / 2000000 + to_ * ((t - tr : Nat) : Int), to_)

/-- Virtual master now: exact position, speed. -/
def Mach.vmNow (m : Mach) (g : Nat) : Int × Int :=
  let x := m.gg g
  let y := approach x.vmV x.vmTo (m.obj F.ggVM_ACCEL g) ((m.now - x.vmAt) * 1000)
  (x.vmX + y.1, y.2)

/-- Speed of a port's counter over the last 1 ms, 10^-6 counts/s. -/
def Mach.epVel (m : Mach) (n : Nat) : Int :=
  let x := m.ep n
  let past := (x.hist.find? (fun e => decide (e.1 + 1000000 ≤ m.now))).map (·.2)
  let old := past.getD ((x.hist.getLast?.map (·.2)).getD x.c)
  (x.c - old) * 10 ^ 9

/-- Master position and speed of a group: its port, its virtual master, or the run-down's (R363, R367). -/
def Mach.masterNow (m : Mach) (g : Nat) : Int × Int :=
  let x := m.gg g
  if x.state = 3 then
    let t := min (m.now - x.downAt) x.downT
    let d := if x.downT = 0 then 0 else x.downV * ((2 * x.downT - t : Nat) : Int) * (t : Int) / (2 * x.downT : Nat) / 10 ^ 15
    (x.downM + d, if x.downT = 0 then 0 else x.downV * ((x.downT - t : Nat) : Int) / (x.downT : Nat))
  else if m.obj F.ggMASTER g = 0x10 then ((m.vmNow g).1 / (unit : Nat), (m.vmNow g).2)
  else if m.obj F.ggMASTER g < 8 then ((m.ep (m.obj F.ggMASTER g)).c, m.epVel (m.obj F.ggMASTER g))
  else (0, 0)

/-- The group that has an axis as a member, if one does. -/
def Mach.groupOf (m : Mach) (n : Nat) : Option Nat :=
  (List.range 8).find? (fun g => m.obj F.ggMASTER g != 0xFF && bit (m.obj F.ggMEMBERS g) n)

/-- Members of a group. -/
def Mach.membersOf (m : Mach) (g : Nat) : List Nat := bitsOf 16 (m.obj F.ggMEMBERS g)

/-- The axis follows its group now: engaged or running down, and not left. -/
def Mach.following (m : Mach) (n : Nat) : Option Nat :=
  (m.groupOf n).filter (fun g => decide (2 ≤ (m.gg g).state) && !bit (m.gg g).left n)

/-- S of a member (R363). -/
def Mach.memberPos (m : Mach) (g n : Nat) : Int :=
  let x := m.gg g
  alook 0 x.s0 n + ((m.masterNow g).1 - x.m0) * x.num / (x.den : Nat)

/-- Commanded position now. -/
def Mach.cmdPos (m : Mach) (n : Nat) : Int :=
  match m.following n with
  | some g => m.memberPos g n
  | none => (m.planNow n).2.1

/-- Commanded speed now, 10^-6 steps/s, signed. -/
def Mach.cmdVel (m : Mach) (n : Nat) : Int :=
  match m.following n with
  | some g => (m.masterNow g).2 * (m.gg g).num / ((m.gg g).den : Nat)
  | none => (m.planNow n).2.2.1

/-- Counts per revolution of a port: 0 stands for 2^32 (R327). -/
def Mach.cpr (m : Mach) (n : Nat) : Nat := if m.obj F.epCPR n = 0 then 2 ^ 32 else m.obj F.epCPR n

/-- POS and TURNS of a count (R327). DEDUCED, log 58. -/
def posOf (c : Int) (cpr : Nat) : Nat := (c % (cpr : Nat)).toNat

/-- TURNS. DEDUCED, log 58. -/
def turnsOf (c : Int) (cpr : Nat) : Nat := uint 32 (c / (cpr : Nat))

/-- Writes of a 32-bit input point. -/
def back32 (p pt v q : Nat) : List W := backPut p pt (v % 2 ^ 16) q ++ backPut p (pt + 1) (v / 2 ^ 16 % 2 ^ 16) q

/-- Writes of a 64-bit input point. -/
def back64 (p pt v q : Nat) : List W := back32 p pt (v % 2 ^ 32) q ++ back32 p (pt + 2) (v / 2 ^ 32) q

end Sys2Proof.Machine
end

