-- ==== Sys2Proof/Machine/Ports.lean ====
section
/-! DEFINITION. Feedback ports, probes, encoder emulation (spec/11). -/
namespace Sys2Proof.Machine

/-- Channel and partition of a port's owner. -/
def Mach.epPart (m : Mach) (r : Ram) (n : Nat) : Nat := (m.epOwner r n).getD 0xFF

/-- The port counts or reads: it has a mode and is not fenced (R342). -/
def Mach.epLive (m : Mach) (n : Nat) : Bool := m.obj F.epMODE n != 0 && m.obj F.epSTATE n != 2

/-! ### Encoder emulation (R338, R339) -/

/-- An emulation output. -/
def Mach.em (m : Mach) (k : Nat) : EmSt := ug {} m.ems k

/-- Change it. -/
def Mach.updEm (m : Mach) (k : Nat) (f : EmSt → EmSt) : Mach := { m with ems := uset {} m.ems k f }

/-- The count a source code names (R344), where the source is in service. -/
def Mach.sourceCount (m : Mach) (src : Nat) : Option Int :=
  if src < 8 then (if m.epLive src then some (m.ep src).c else none)
  else if 16 ≤ src ∧ src ≤ 31 then (if m.obj F.axDRIVE (src - 16) = 0 then none else some (m.cmdPos (src - 16)))
  else none

/-- Counts per revolution of an emulation output's source (R345). -/
def Mach.emCpr (m : Mach) (k : Nat) : Nat := if m.obj F.emSOURCE k < 8 then m.cpr (m.obj F.emSOURCE k) else max 1 (m.obj F.emCPR_S k)

/-- E for a count. -/
def Mach.emTarget (m : Mach) (k : Nat) (c : Int) : Int := c * ((4 * m.obj F.emLINES k : Nat) : Int) / ((m.emCpr k : Nat) : Int)

/-- Z for a position E (R338). -/
def Mach.emZ (m : Mach) (k : Nat) (e : Int) : Bool :=
  m.obj F.emZ_MODE k == 1 && e % ((4 * m.obj F.emLINES k : Nat) : Int) == m.emTarget k (m.obj F.emZ_POS k) % ((4 * m.obj F.emLINES k : Nat) : Int)

/-- Re-base an output: E is recomputed, its levels stay (R338). -/
def Mach.emRebase (m : Mach) (k : Nat) : Mach :=
  match m.sourceCount (m.obj F.emSOURCE k) with
  | some c => (m.updEm k (fun x => { x with
      e := m.emTarget k c
      lost := false
      overspeed := false })).setObj F.emSTATE k 1
  | none => (m.updEm k (fun x => { x with lost := true })).setObj F.emSTATE k (if m.obj F.emSOURCE k = 0xFF then 0 else 2)

/-- Re-base every output of a source. -/
def Mach.emRebaseAll (m : Mach) (src : Nat) : Mach :=
  m.each ((List.range 4).filter (fun k => m.obj F.emSOURCE k == src)) Mach.emRebase

/-- EM_EDGE (R338, R339): one quadrature edge toward the target, never closer than 200 ns; a backlog beyond a revolution is reduced. -/
def execEmEdge (t : Nat) (k : Fin 4) (s : State) : Out :=
  ev t (fun m =>
    let j := k.val
    match m.sourceCount (m.obj F.emSOURCE j) with
    | none => m.emRebase j
    | some c =>
      let m := m.when (m.em j).lost (fun m => m.emRebase j)
      let rev : Int := (4 * m.obj F.emLINES j : Nat)
      let d := m.emTarget j c - (m.em j).e
      let m := m.peak F.emBACKLOG_MAX j d.natAbs
      let far := decide (rev < d.natAbs)
      let cut : Int := if far then (if 0 < d then (d - 1) / rev * rev else -((-d - 1) / rev * rev)) else 0
      let m := m.when far (fun m => ((m.bump F.emLOST_SYNC j).updEm j (fun x => { x with
        e := x.e + cut
        lostAt := some m.now })).notice 0 0x0882 0xFF)
      let d := d - cut
      if d = 0 ∨ (m.em j).edgeAt.any (fun a => decide (m.now < a + 200)) then m
      else
        let up := decide (0 < d)
        let over_ := decide (1 < d.natAbs)
        let m := m.when (over_ && !(m.em j).overspeed) (fun m => m.bump F.emOVERSPEEDS j)
        let e := (m.em j).e + (if up then 1 else -1)
        (m.updEm j (fun x => { x with
          e := e
          phase := (x.phase + (if up then 1 else 3)) % 4
          z := m.emZ j e
          edgeAt := some m.now
          overspeed := over_ })).setObj F.emSTATE j 1) s

/-! ### The counter (R325 to R329) -/

/-- Restart the counter (R327, R333): power-on, MODULE reset, change of MODE or CPR; a fenced port stays fenced (R342). -/
def Mach.epRestart (m : Mach) (n : Nat) : Mach :=
  let mode := m.obj F.epMODE n
  let m := { m with eps := uset {} m.eps n (fun _ => { refLost := decide (mode < 5), a := (m.ep n).a, b := (m.ep n).b, z := (m.ep n).z,
                                                       hall := (m.ep n).hall, hallValid := (m.ep n).hall }) }
  ((m.setObj F.epSTATE n (if mode = 0 then 0 else if m.obj F.epSTATE n = 2 then 2 else 1)).setObj F.epOFFSET n 0).emRebaseAll n

/-- C changes, with its history of the last 1 ms. -/
def Mach.epSetC (m : Mach) (n : Nat) (c : Int) : Mach :=
  m.updEp n (fun x => { x with
    c := c
    hist := (m.now, c) :: (match x.hist.find? (fun e => decide (e.1 + 1000000 ≤ m.now)) with
      | some old => x.hist.takeWhile (fun e => decide (m.now < e.1 + 1000000)) ++ [old]
      | none => x.hist) })

/-- A counted edge: ±1 as INVERT has it, the interval it ends, its direction (R325, R329). -/
def Mach.epCount (m : Mach) (n : Nat) (up : Bool) : Mach :=
  let up := if m.obj F.epINVERT n = 1 then !up else up
  let x := m.ep n
  let dir := if up then 0 else 1
  let turn := x.edgeAt.isSome && dir != x.dir
  let bad := turn || x.void || x.edgeAt.isNone
  let m := m.epSetC n (x.c + (if up then 1 else -1))
  m.updEp n (fun x => { x with
    dir := dir
    te := if bad then none else x.edgeAt.map (fun a => m.now - a)
    speedVoid := bad
    void := false
    edgeAt := some m.now
    standstill := false })

/-- A count error (R325). -/
def Mach.epError (m : Mach) (n : Nat) : Mach :=
  (m.bump F.epCOUNT_ERRORS n).updEp n (fun x => { x with
    countErr := true
    errors := (x.errors + 1) % 65536
    errAt := m.now :: x.errAt.filter (fun a => decide (m.now < a + 10 ^ 9))
    void := true
    speedVoid := true
    te := none })

/-- EP_EDGE (R325): the accepted levels of A and B after a sample. -/
def execEpEdge (t : Nat) (n : Fin 8) (a b : Bool) (s : State) : Out :=
  ev t (fun m =>
    let k := n.val
    let x := m.ep k
    let ca := a != x.a
    let cb := b != x.b
    let mode := m.obj F.epMODE k
    let set := fun (m : Mach) => m.updEp k (fun y => { y with
      a := a
      b := b
      bOld := if cb then y.b else y.bOld
      bAt := if cb then m.now else y.bAt })
    if !m.epLive k ∨ (mode ≠ 1 ∧ mode ≠ 3 ∧ mode ≠ 4) then set m
    else
      let m := set m
      match mode with
      | 1 =>
        if ca && cb then m.epError k
        else if ca then
          if m.obj F.epMULT k = 0 && !a then m else m.epCount k (a != b)
        else if cb then (if m.obj F.epMULT k = 2 then m.epCount k (a == b) else m)
        else m
      | 3 =>
        let level := if m.now < (m.ep k).bAt + 25 then (m.ep k).bOld else b
        if ca && a then m.epCount k (!level) else m
      | _ =>
        let ua := ca && a
        let ub := cb && b
        if ua && ub then m.epError k else if ua then m.epCount k true else if ub then m.epCount k false else m) s

/-- Place of a code in the forward Hall sequence 001, 011, 010, 110, 100, 101 (R326). -/
def hallPlace (code : Nat) : Option Nat :=
  match code with
  | 1 => some 0
  | 3 => some 1
  | 2 => some 2
  | 6 => some 3
  | 4 => some 4
  | 5 => some 5
  | _ => none

/-- A Hall error (R326). -/
def Mach.hallError (m : Mach) (n : Nat) : Mach :=
  (m.bump F.epHALL_ERRORS n).updEp n (fun x => { x with
    errors := (x.errors + 1) % 65536
    hallErrAt := m.now :: x.hallErrAt.filter (fun a => decide (m.now < a + 10 ^ 9))
    void := true
    speedVoid := true
    te := none })

/-- A Hall code arrives (R326). -/
def Mach.hallIn (m : Mach) (k : Nat) (code : Fin 8) : Mach :=
  let x := m.ep k
  let lev := fun (m : Mach) => m.updEp k (fun y => { y with
    hall := code.val
    a := bit code.val 0
    b := bit code.val 1
    z := bit code.val 2 })
  if !m.epLive k ∨ m.obj F.epMODE k ≠ 2 ∨ code.val = x.hall then lev m
  else
    let m := lev m
    match hallPlace code.val, hallPlace x.hallValid with
    | none, _ => (m.hallError k).updEp k (fun y => { y with hallBadAt := some (y.hallBadAt.getD m.now) })
    | some _, none => m.updEp k (fun y => { y with
        hallValid := code.val
        hallBadAt := none })
    | some j, some i =>
      let m := m.updEp k (fun y => { y with
        hallValid := code.val
        hallBadAt := none })
      if j = i then m
      else if j = (i + 1) % 6 then m.epCount k true
      else if i = (j + 1) % 6 then m.epCount k false
      else (m.hallError k).updEp k (fun y => { y with hallSkip := true })

/-- A preset takes effect (R346): C, REF_LOST; on an absolute port through OFFSET. -/
def Mach.epPreset (m : Mach) (n : Nat) (v : Int) : Mach :=
  let d := v - (m.ep n).c
  let m := if 5 ≤ m.obj F.epMODE n then m.setObj F.epOFFSET n (uint 32 (sint 32 (m.obj F.epOFFSET n) + d)) else m
  (((m.epSetC n v).updEp n (fun x => { x with
    refLost := false
    preset := none
    hist := x.hist.map (fun e => (e.1, e.2 + (if e.1 = m.now ∧ e.2 = v then 0 else d))) })).emRebaseAll n)

/-- Z_EDGE (R325, R346): a rising edge latches INDEX_POS and applies an armed preset, which completes. -/
def execZEdge (t : Nat) (n : Fin 8) (level : Bool) (s : State) : Out :=
  evR t (fun r m =>
    let k := n.val
    let rise := level && !(m.ep k).z
    let m := m.updEp k (fun y => { y with z := level })
    if !m.epLive k ∨ !rise ∨ 3 < m.obj F.epMODE k ∧ m.obj F.epMODE k ≠ 4 ∨ m.obj F.epMODE k = 2 then (m, [])
    else
      let m := m.updEp k (fun y => { y with
        indexPos := posOf y.c (m.cpr k)
        indexSeen := true })
      match (m.ep k).preset with
      | some (1, v, q, sq) => ((m.epPreset k v).complete q 0x0810 sq stDONE [itm 1 8 m.gzStamp] (m.epPart r k), [])
      | _ => (m, [])) s

/-- EP_STANDSTILL (R329): no counted edge for ZERO_TIMEOUT_MS. -/
def execEpStandstill (t : Nat) (n : Fin 8) (s : State) : Out :=
  ev t (fun m =>
    if (m.ep n.val).edgeAt.any (fun a => decide (m.now < a + m.obj F.epZERO_TIMEOUT_MS n.val * 10 ^ 6)) then m
    else m.updEp n.val (fun x => { x with standstill := true })) s

/-! ### Absolute sensors (R330 to R333) -/

/-- t_frame in ns (R331, R332). -/
def Mach.tFrame (m : Mach) (n : Nat) : Nat :=
  let clk := max 1 (m.obj F.epSENS_CLK_KHZ n)
  if m.obj F.epMODE n = 5 then m.obj F.epLINE_DELAY_NS n + cdiv ((m.obj F.epSENS_BITS n + 1) * 10 ^ 6) clk
  else m.obj F.epLINE_DELAY_NS n + cdiv ((m.obj F.epPOS_WIDTH n + 14) * 10 ^ 6) clk + 1000

/-- LEAD_NS: t_frame + 500 ns rounded up to 12.5 ns, as a whole number of ns rounded up (R330). -/
def Mach.leadNs (m : Mach) (n : Nat) : Nat := cdiv (cdiv ((m.tFrame n + 500) * 10) 125 * 125) 10

/-- The read interval (R330). -/
def Mach.readInterval (m : Mach) (n : Nat) : Nat := cdiv (m.tFrame n + m.obj F.epRECOVERY_US n * 1000 + 500) 125000 * 125000

/-- Gray to binary, from the top bit down. -/
def grayBin : Nat → Nat → Nat → Nat
  | 0, _, _ => 0
  | w + 1, g, top => let b := (g / 2 ^ w + top) % 2
                     b * 2 ^ w + grayBin w g b

/-- CRC with polynomial 0x43 over w bits, 6 bits (R332). DEDUCED, log 58. -/
def crc6 : Nat → Nat → Nat → Nat
  | 0, _, c => c
  | w + 1, v, c => let x := (c / 32 + v / 2 ^ w) % 2
                   crc6 w v (if x = 1 then (c * 2 % 64).xor 3 else c * 2 % 64)

/-- Position of a frame, and whether the sensor flags a warning; none where the reading fails. -/
def Mach.absPos (m : Mach) (n : Nat) (x : AbsRead) : Option (Nat × Bool) :=
  let w := m.obj F.epPOS_WIDTH n
  if !x.lineOk then none
  else if m.obj F.epMODE n = 5 then
    let bits := m.obj F.epSENS_BITS n
    let e := m.obj F.epERR_BIT n
    let raw := x.raw / 2 ^ m.obj F.epPOS_SHIFT n % 2 ^ w
    if e ≠ 0xFF ∧ e < bits ∧ bit x.raw (bits - 1 - e) then none
    else some (if m.obj F.epCODE n = 1 then grayBin w raw 0 else raw, false)
  else
    let body := x.raw / 64 % 2 ^ (w + 2)
    if crc6 (w + 2) body 0 ≠ 63 - x.raw % 64 then none
    else if !bit body 1 then none
    else some (body / 4, !bit body 0)

/-- A failed reading (R333). -/
def Mach.absFail (m : Mach) (n : Nat) : Mach :=
  (m.bump F.epSENSOR_FAILS n).updEp n (fun x => { x with
    fails := x.fails + 1
    errors := (x.errors + 1) % 65536 })

/-- ABSOLUTE_READ (R333): a reading completes 500 ns before a grid instant. -/
def execAbsoluteRead (t : Nat) (n : Fin 8) (x : AbsRead) (s : State) : Out :=
  ev t (fun m =>
    let k := n.val
    if !m.epLive k ∨ m.obj F.epMODE k < 5 then m
    else
      let y := m.ep k
      let m := if m.obj F.epMODE k = 6 ∧ y.reading.isNone ∧ x.lineOk then m.setObj F.epLINE_DELAY_NS k x.delay else m
      match m.absPos k x with
      | none => m.absFail k
      | some (r, warn) =>
        let w := m.obj F.epPOS_WIDTH k
        let d := match y.reading with
          | some p => sint w ((r + 2 ^ w - p % 2 ^ w) % 2 ^ w)
          | none => 0
        let jump := if m.obj F.epJUMP_MAX k = 0 then 2 ^ w / 4 else m.obj F.epJUMP_MAX k
        if jump < d.natAbs then m.absFail k
        else
          let c := if y.reading.isNone then (r : Int) + sint 32 (m.obj F.epOFFSET k) else y.c + (if m.obj F.epINVERT k = 1 then -d else d)
          let m := m.epSetC k c
          m.updEp k (fun z => { z with
            reading := some r
            cOld := if y.reading.isNone then c else y.c
            sampleAt := m.now + 500 - m.leadNs k
            fails := 0
            warning := warn
            dir := if d = 0 then z.dir else if d < 0 then 1 else 0
            edgeAt := if d = 0 then z.edgeAt else some m.now
            standstill := z.standstill && d == 0 })) s

/-! ### Fencing (R341, R342) -/

/-- The condition of a fence cause holds: line and supply faults the outside reports; the others are counted here (R341). -/
def Mach.fenceDue (m : Mach) (n cause : Nat) : Bool :=
  let x := m.ep n
  let recent := fun (l : List Nat) => (l.filter (fun a => decide (m.now < a + 10 ^ 9))).length
  match cause with
  | 1 => m.obj F.epELECTRICAL n == 0
  | 2 => m.obj F.epSUPPLY n != 0
  | 3 => decide (m.obj F.epERR_LIMIT n < recent x.errAt)
  | 4 => x.hallBadAt.any (fun a => decide (a + m.obj F.epHALL_FENCE_MS n * 10 ^ 6 ≤ m.now)) || decide (m.obj F.epERR_LIMIT n < recent x.hallErrAt)
  | _ => decide (5 ≤ m.obj F.epMODE n) && decide (m.obj F.epFAIL_LIMIT n ≤ x.fails)

/-- Fence a port: slots keep their values, an armed preset is cancelled, a record and EP_FENCED, DEGRADED. -/
def Mach.fencePort (m : Mach) (r : Ram) (n cause : Nat) : Mach :=
  let m := ((m.setObj F.epSTATE n 2).setObj F.epFENCE_CAUSE n cause).bump F.epFENCES n
  let m := match (m.ep n).preset with
    | some (1, _, q, sq) => m.complete q 0x0810 sq 0x1803 [] (m.epPart r n)
    | _ => m
  let m := m.updEp n (fun x => { x with preset := none })
  let p := m.epPart r n
  let m := if (m.ep n).said.any (fun e => e.1 == cause && decide (m.now < e.2 + 10 ^ 9)) then m
    else
      let m := (m.chron { sub := 8, low := 0x80, part := p, inst := n, cause := cause }).updEp n (fun x => { x with
        said := (cause, m.now) :: x.said.filter (fun e => e.1 != cause) })
      let m := m.notice 0 0x0880 p [itm 1 1 n, itm 2 1 cause]
      m.when (m.chanOf p != 0) (fun m => m.notice (m.chanOf p) 0x0880 p [itm 1 1 n, itm 2 1 cause])
  (m.emRebaseAll n).degrade

/-! ### Probes (R335 to R337) -/

/-- A probe. -/
def Mach.pr (m : Mach) (k : Nat) : PrSt := ug {} m.prs k

/-- Change it. -/
def Mach.updPr (m : Mach) (k : Nat) (f : PrSt → PrSt) : Mach := { m with prs := uset {} m.prs k f }

/-- The partition that owns a probe: the owner of its first slot. -/
def Mach.prOwner (m : Mach) (r : Ram) (k : Nat) : Option Nat := m.ownerOfPt r (0x00380 + 8 * k)

/-- PROBE_LATCH (R337): an edge of the probe's input. DEDUCED, log 58. -/
def execProbeLatch (t : Nat) (k : Fin 8) (level : Bool) (s : State) : Out :=
  ev t (fun m =>
    let j := k.val
    let x := m.pr j
    let edge := field x.ctrl 2 1
    let fit := level != x.level && (edge == 2 || (edge == 0 && level) || (edge == 1 && !level))
    let m := m.updPr j (fun y => { y with level := level })
    if !fit ∨ !x.armed then m
    else
      match m.sourceCount (m.obj F.prSOURCE j) with
      | none => m
      | some c => (m.bump F.prLATCHES j).updPr j (fun y => { y with
          latch := some (c, m.now)
          since := y.since + 1
          count := (y.count + 1) % 256
          armed := bit y.ctrl 3 })) s

/-! ### The Clapper (R323, R324, R328, R334, R336, R340) -/

/-- V_CO in force (R328): 0 selects 1 / √(5 ns × P), rounded to the nearest count per second. -/
def Mach.vCo (m : Mach) (n p : Nat) : Nat :=
  if m.obj F.epV_CO n ≠ 0 then m.obj F.epV_CO n
  else
    let d := 5 * max 1 (m.period p)
    let q := Nat.sqrt (10 ^ 18 / d)
    if (2 * q + 1) * (2 * q + 1) * d ≤ 4 * 10 ^ 18 then q + 1 else q

/-- A quotient rounded to the nearest integer, halves away from zero. -/
def divNear (a : Int) (b : Nat) : Int :=
  if 0 ≤ a then (2 * a + (b : Nat)) / (2 * b : Nat) else -((2 * (-a) + (b : Nat)) / (2 * b : Nat))

/-- SPEED, 1/16 count/s, at a Clapper, and the mode used (R328, R329, R330). DEDUCED, log 58. -/
def Mach.epSpeed (m : Mach) (n p : Nat) : Int × Bool :=
  let x := m.ep n
  let per := max 1 (m.period p)
  if 5 ≤ m.obj F.epMODE n then
    (if x.fails = 0 then divNear ((x.c - x.cOld) * (16 * 10 ^ 9)) (max 1 (m.readInterval n)) else 0, true)
  else
    let dn := x.c - x.cPrev
    let fast := decide (105 * m.vCo n p * per < dn.natAbs * 10 ^ 11)
    let slow := decide (dn.natAbs * 10 ^ 11 < 95 * m.vCo n p * per)
    let mode := if x.counting then !slow else fast
    if mode then (divNear (dn * (16 * 10 ^ 9)) per, true)
    else if x.standstill ∨ x.speedVoid then (0, false)
    else
      match x.te, x.edgeAt with
      | some te, some a =>
        let v := divNear (16 * 10 ^ 9) (max 1 (max te (m.now - a)))
        (if x.dir = 0 then v else -v, false)
      | _, _ => (0, false)

/-- Quality of a port's slots (R334). -/
def Mach.epQual (m : Mach) (n : Nat) : Nat :=
  let x := m.ep n
  if m.obj F.epSTATE n = 2 ∨ 3 ≤ x.fails then 3
  else if 1 ≤ x.fails ∨ x.countErr ∨ x.hallSkip ∨ x.hallBadAt.isSome ∨ x.lineFault then 2 else 0

/-- A port at its owner's Clapper: a preset due, then its slots (R346 WHEN 2, R323); a fenced one keeps them, with FENCED (R342).
DEDUCED, log 78. -/
def Mach.clapPort (m : Mach) (r : Ram) (p n : Nat) : Mach × List W :=
  let m := match (m.ep n).preset with
    | some (2, v, _, _) => if m.epLive n then m.epPreset n v else m.updEp n (fun x => { x with preset := none })
    | _ => m
  let x := m.ep n
  let b := 0x00300 + 16 * n
  let q := m.epQual n
  if m.obj F.epSTATE n = 2 then
    (m, (List.range 14).map (fun i => backQ p (b + i) 3) ++ backPut p (b + 14) 0 0 ++ backPut p (b + 15) 0 0 ++
      [.put .back (frontAt p (b + 6)) (setBit (rd r .back (frontAt p (b + 6))) 11 true)])
  else
    let v := m.epSpeed n p
    let abs := decide (5 ≤ m.obj F.epMODE n)
    let age := if abs then m.now - x.sampleAt else 0
    let ext := abs && m.obj F.epEXTRAPOLATE n == 1 && x.fails == 0 && x.reading.isSome
    let c := if ext then x.c + divNear ((x.c - x.cOld) * (age : Nat)) (max 1 (m.readInterval n)) else x.c
    let st := x.dir + x.standstill.toNat * 2 + v.2.toNat * 4 + x.indexSeen.toNat * 8 + x.countErr.toNat * 16 + x.hallBadAt.isSome.toNat * 32 +
      x.hallSkip.toNat * 64 + (decide (1 ≤ x.fails)).toNat * 128 + x.warning.toNat * 256 + x.lineFault.toNat * 512 + x.supplyFault.toNat * 1024 +
      x.refLost.toNat * 4096 + ext.toNat * 8192 + (x.speedVoid && !v.2).toNat * 16384
    let cpr := m.cpr n
    let ws := back32 p b (posOf c cpr) q ++ back32 p (b + 2) (turnsOf c cpr) q ++
      back32 p (b + 4) (uint 32 (clampI (-(2 ^ 31)) (2 ^ 31 - 1) v.1)) q ++ backPut p (b + 6) st q ++
      backPut p (b + 7) (x.a.toNat + x.b.toNat * 2 + x.z.toNat * 4) q ++ back32 p (b + 8) x.indexPos q ++
      back32 p (b + 10) (min (2 ^ 32 - 1) ((x.edgeAt.map (fun a => m.now - a)).getD (2 ^ 32 - 1))) q ++ backPut p (b + 12) x.errors q ++
      backPut p (b + 13) (min 65535 (age / 10)) q ++ backPut p (b + 14) 0 0 ++ backPut p (b + 15) 0 0
    (m.updEp n (fun y => { y with
      counting := v.2
      cPrev := y.c
      indexSeen := false
      countErr := false
      hallSkip := false }), ws)

/-- The ports a partition owns, at its Clapper. -/
def Mach.clapPorts (m : Mach) (r : Ram) (p : Nat) (lines : List (Nat × Bool × Bool)) : Mach × List W :=
  ((List.range 8).filter (fun n => m.epOwner r n == some p)).foldl (fun y n =>
    let m := match lines.find? (fun e => e.1 == n) with
      | some e => y.1.updEp n (fun x => { x with
          lineFault := e.2.1
          supplyFault := e.2.2 })
      | none => y.1
    let z := m.clapPort r p n
    (z.1, y.2 ++ z.2)) (m, [])

/-- CTRL applied at the owner's Clapper (R336, R337): a rising ARM arms; continuous while ARM is 1. -/
def Mach.applyProbe (m : Mach) (k ctrl : Nat) : Mach :=
  let x := m.pr k
  let rise := bit ctrl 0 && !bit x.ctrl 0
  m.updPr k (fun y => { y with
    ctrl := ctrl % 16
    armed := if bit ctrl 3 then bit ctrl 0 else if rise then true else y.armed && bit ctrl 0 && !bit y.ctrl 3 })

/-- The probes a partition owns, at its Clapper: apply CTRL, latch the slots. -/
def Mach.clapProbes (m : Mach) (r : Ram) (p : Nat) : Mach × List W :=
  ((List.range 8).filter (fun k => m.prOwner r k == some p)).foldl (fun y k =>
    let b := 0x00380 + 8 * k
    let m := y.1.applyProbe k (rd r .next b)
    let x := m.pr k
    let over_ := decide (2 ≤ x.since)
    let m := m.when over_ (fun m => m.bump F.prOVERRUNS k)
    let bad := m.obj F.prSOURCE k != 0xFF && (m.sourceCount (m.obj F.prSOURCE k)).isNone
    let src := m.obj F.prSOURCE k
    let cpr := if src < 8 then m.cpr src else 2 ^ 32
    let st := x.armed.toNat + (decide (1 ≤ x.since)).toNat * 2 + over_.toNat * 4 + x.level.toNat * 8 + bad.toNat * 16 + x.count * 256
    let lw := match x.latch with
      | some (c, a) => back32 p (b + 2) (posOf c cpr) 0 ++ back32 p (b + 4) (turnsOf c cpr) 0 ++
          (if x.since = 0 then [] else back32 p (b + 6) (uint 32 (-((m.now - a : Nat) : Int))) 0)
      | none => back32 p (b + 2) 0 0 ++ back32 p (b + 4) 0 0 ++ back32 p (b + 6) 0 0
    (m.updPr k (fun z => { z with since := 0 }), y.2 ++ backPut p (b + 1) st 0 ++ lw)) (m, [])

/-- Emulation status slots (R340). -/
def Mach.emPoints (m : Mach) (p last : Nat) : List W :=
  (List.range 4).flatMap (fun k =>
    let x := m.em k
    backPut p (0x003C0 + k) ((m.obj F.emSTATE k == 1).toNat + x.overspeed.toNat * 2 + (x.lostAt.any (fun a => decide (last < a))).toNat * 4 +
      (m.obj F.emSTATE k == 2).toNat * 8) 0)

/-! ### Commands (R346, R347) -/

/-- The card of EP_SET_POSITION. -/
def epSetPositionCard : Card :=
  { op := 0x0810, bulk := false, modes := [0, 1, 2, 5],
    items := [⟨1, 1, 1, true, false⟩, ⟨2, 4, 4, true, false⟩, ⟨3, 4, 4, true, false⟩, ⟨4, 1, 1, false, false⟩],
    valOk := fun ty v => if ty = 1 then decide (beNat v ≤ 7) else if ty = 4 then decide (beNat v ≤ 2) else true }

/-- The effect of EP_SET_POSITION (R346). DEDUCED, log 58. -/
def epSetPosition (c : Cmd) (r : Ram) (m : Mach) : Res :=
  let n := c.num 1
  let own := m.epOwner r n
  let mode := m.obj F.epMODE n
  let w := c.num 4
  let v : Int := sint 32 (c.num 3) * (m.cpr n : Nat) + (c.num 2 : Nat)
  if !isSys c.owner && own ≠ some c.owner then Res.fail m stNOT_OWNER
  else if m.obj F.epSTATE n = 2 then Res.fail m 0x1801
  else if mode = 0 ∨ (w = 1 ∧ mode ≠ 1) then Res.fail m 0x1804
  else if m.cpr n ≤ c.num 2 then Res.bad m 2
  else if w = 2 ∧ own.isNone then Res.bad m 4
  else
    let m := match (m.ep n).preset with
      | some (1, _, q, sq) => m.complete q 0x0810 sq 0x1803 [] (m.epPart r n)
      | _ => m
    let m := m.updEp n (fun x => { x with preset := none })
    if w = 0 then Res.done (m.epPreset n v) [itm 1 8 m.gzStamp]
    else if w = 1 then Res.started (m.updEp n (fun x => { x with preset := some (1, v, c.q, c.seq) }))
    else Res.done (m.updEp n (fun x => { x with preset := some (2, v, c.q, c.seq) })) [itm 1 8 (m.nextClapGz (own.getD 0))]

/-- EP_SET_POSITION (R346). -/
def execEpSetPosition (msg : Msg) (s : State) : Out :=
  zcp epSetPositionCard epSetPosition msg s

/-- The card of EP_UNFENCE. -/
def epUnfenceCard : Card :=
  { op := 0x0811, bulk := false, modes := [0, 1, 2, 5], items := [⟨1, 1, 1, true, false⟩], valOk := fun _ v => decide (beNat v ≤ 7) }

/-- The effect of EP_UNFENCE (R347): the recorded cause is tested; the outside says whether a line, supply or sensor cause is still present. -/
def epUnfence (present : Bool) (c : Cmd) (r : Ram) (m : Mach) : Res :=
  let n := c.num 1
  let cause := m.obj F.epFENCE_CAUSE n
  let own := m.epOwner r n
  if !isSys c.owner && own ≠ some c.owner then Res.fail m stNOT_OWNER
  else if m.obj F.epSTATE n ≠ 2 then Res.done m
  else
    let still := if cause = 3 then false else if cause = 4 then (hallPlace (m.ep n).hall).isNone else present
    let m := m.updEp n (fun x => { x with
      errAt := []
      hallErrAt := [] })
    if still then Res.fail m 0x1802
    else
      let abs := decide (5 ≤ m.obj F.epMODE n)
      let m := (m.setObj F.epSTATE n 1).setObj F.epFENCE_CAUSE n 0
      let m := m.updEp n (fun x => { x with
        refLost := !abs
        reading := none
        fails := 0
        hallBadAt := none
        hallValid := x.hall
        lineFault := false
        supplyFault := false
        edgeAt := none
        void := true
        speedVoid := true
        te := none })
      let p := own.getD 0xFF
      Res.done (((m.notice (m.chanOf p) 0x0881 p [itm 1 1 n]).emRebaseAll n).degrade)

/-- EP_UNFENCE (R347). -/
def execEpUnfence (msg : Msg) (present : Bool) (s : State) : Out :=
  zcp epUnfenceCard (epUnfence present) msg s (.present present)

end Sys2Proof.Machine
end

