-- ==== Sys2Proof/Machine/Motion.lean ====
section
/-! DEFINITION. Axes, motor stages, gear groups: requests, stops, refusals, the points of the Clapper (spec/12). -/
namespace Sys2Proof.Machine

/-- Channel partition of an axis, of a group. -/
def Mach.axPart (m : Mach) (r : Ram) (n : Nat) : Nat := (m.axOwner r n).getD 0xFF

/-- A higher source holds the axis (R355). -/
def Mach.axHeld (m : Mach) (n : Nat) : Bool := (m.ax n).isl || (m.ax n).trac || (m.ax n).ce

/-- The bound motor stage, where DRIVE is 2 (R359). -/
def Mach.stageOf (m : Mach) (n : Nat) : Option Nat := if m.obj F.axDRIVE n = 2 ∧ n < 4 then some n else none

/-- The stage runs in BLDC. -/
def Mach.bldc (m : Mach) (n : Nat) : Bool := (m.stageOf n).any (fun k => m.obj F.msSTAGE_MODE k == 2)

/-! ### Brakes of the Safety Island (R452) -/

/-- Change the island. -/
def Mach.updIsl (m : Mach) (f : IslSt → IslSt) : Mach := { m with isl := f m.isl }

/-- Bytes, 16-bit and 32-bit words of a parameter set (R7). -/
def setB (s : Table Nat) (o : Nat) : Nat := tget (fun _ => 0) s o
def setH (s : Table Nat) (o : Nat) : Nat := setB s o + setB s (o + 1) * 2 ^ 8
def setW (s : Table Nat) (o : Nat) : Nat := setH s o + setH s (o + 2) * 2 ^ 16

/-- Offset of a brake entry (R455). -/
def brakeAt (k : Nat) : Nat := 288 + 16 * k

/-- A brake output SQ4 + k. -/
def Mach.brake (m : Mach) (k : Nat) : BrSt := ug {} m.isl.brakes k
/-- Change it. -/
def Mach.updBrake (m : Mach) (k : Nat) (g : BrSt → BrSt) : Mach := m.updIsl (fun i => { i with brakes := uset {} i.brakes k g })

/-- The drive of an axis is enabled. -/
def Mach.driveOn (m : Mach) (a : Nat) : Bool :=
  let x := m.ax a
  !x.isl && !x.off && (match m.obj F.axDRIVE a with
    | 1 => true
    | 2 => (m.stageOf a).any (fun k => m.obj F.msSTATE k == 1 || m.obj F.msSTATE k == 2)
    | _ => false)

/-- The brakes of an axis whose drive is disabled go off at once. -/
def Mach.brakeDrop (m : Mach) (a : Nat) : Mach :=
  if m.driveOn a then m
  else m.each ((List.range 4).filter (fun k => setB m.isl.set (brakeAt k) == a)) (fun m k =>
    (m.updBrake k (fun x => { x with enAt := none })).updIsl (fun i => { i with sqOn := setBit i.sqOn (4 + k) false }))

/-- FOLLOW_ERR (R359, R362). -/
def Mach.followErr (m : Mach) (n : Nat) : Int :=
  let fb := m.obj F.axFB_PORT n
  if 8 ≤ fb then 0
  else if m.bldc n then m.cmdPos n - (m.ep fb).c
  else m.cmdPos n * (m.obj F.axFB_NUM n : Nat) / (max 1 (m.obj F.axFB_DEN n) : Nat) - (m.ep fb).c

/-- STATE of the axis object, CMD_POS, STATE of its stage (R369, R371); a brake whose drive is disabled by it. -/
def Mach.axSync (m : Mach) (n : Nat) : Mach :=
  let x := m.ax n
  let fault := (m.stageOf n).any (fun k => m.obj F.msFAULT k != 0)
  let st := if fault then 5 else if m.axHeld n then 4 else if (m.following n).isSome then 3
    else if x.plan ≠ [] then (if x.kind = 1 ∨ x.kind = 2 then 1 else 2) else 0
  let m := (m.setObj F.axSTATE n st).setObj F.axCMD_POS n (uint 64 (m.cmdPos n))
  match m.stageOf n with
  | none => m.brakeDrop n
  | some k =>
    let ms := if m.obj F.msFAULT k ≠ 0 then 3 else if m.obj F.msSTAGE_MODE k = 0 ∨ x.isl ∨ x.off then 0
      else if x.plan ≠ [] ∨ (m.following n).isSome then 1
      else if x.fell && m.obj F.msFALLBACK_STAGE k == 1 then 0 else if m.obj F.msSTATE k = 1 ∨ m.obj F.msSTATE k = 2 then m.obj F.msSTATE k else 2
    (m.setObj F.msSTATE k ms).brakeDrop n

/-- An axis move record (R515): outcome 0 done, 1 aborted, 2 replaced. -/
def Mach.moveRec (m : Mach) (r : Ram) (n outcome cause : Nat) : Mach :=
  match (m.ax n).run with
  | none => m
  | some x =>
    let ang := match x.angle with
      | some a => uint 16 a
      | none => 0x8000
    (m.cycRec 2 (m.axPart r n) ([n, x.mode, outcome, cause] ++ toLe 4 (min (2 ^ 32 - 1) ((m.now - x.startAt) / 1000)) ++
      toLe 8 (uint 64 x.startPos) ++ toLe 8 (uint 64 (m.cmdPos n)) ++ toLe 4 (max x.peakV ((m.cmdVel n).natAbs / 10 ^ 6)) ++ toLe 2 x.peakMa ++
      toLe 2 ang ++ [x.seq])).updAx n (fun y => { y with run := none })

/-- Bring an axis to the present: a plan that has ended leaves it at rest; a request that is complete is DONE (R148, R352). -/
def Mach.axSettle (m : Mach) (r : Ram) (n : Nat) : Mach :=
  let x := m.ax n
  let y := m.planNow n
  let ended := x.plan ≠ [] ∧ y.2.2.2.1
  let m := if ended then m.updAx n (fun z => { z with
      pos := y.2.1
      plan := []
      goal := none
      dirUp := y.2.2.2.2
      stepAt := min m.now (x.planAt + (x.plan.map (fun l => segsDur l.segs)).sum / 1000) }) else m
  let m := if x.busy && (decide ended || (x.kind == 2 && decide (x.speedAt ≤ m.now))) then
      (m.moveRec r n 0 0).updAx n (fun z => { z with
        busy := false
        done := true }) else m
  let m := if ended then m.updAx n (fun z => { z with kind := 0 }) else m
  m.axSync n

/-- Start of a motion from where an axis is: at the end of 2 µs for an accepted request, else at once. -/
def Mach.axGo (m : Mach) (n kind : Nat) (legs : List Leg) (goal : Option Int) (at_ : Nat) : Mach :=
  m.updAx n (fun x => { x with
    plan := legs
    planAt := at_
    goal := goal
    kind := kind
    pos := m.cmdPos n })

/-- The legs from exact position x and signed speed v to a target, at a peak (R352 to R354). -/
def Mach.legsTo (m : Mach) (n : Nat) (x v : Int) (target : Int) (peak : Nat) : List Leg :=
  let p := m.prof n
  let goal := target * (unit : Nat)
  let s := min p.vs peak
  if v = 0 then
    if goal = x then [] else [⟨x, decide (x < goal), moveSegs p s peak (goal - x).natAbs⟩]
  else
    let up := decide (0 < v)
    let sp := v.natAbs
    let fall := fallSegs p.d1 p.d2 p.v1 sp (min p.ve sp)
    let ahead := if up then goal - x else x - goal
    if (segsLen fall : Int) ≤ ahead then [⟨x, up, moveSegs p sp peak ahead.toNat⟩]
    else
      let stop := issuedAt up (x + signed up (segsLen fall)) * (unit : Nat)
      [⟨x, up, fall⟩, ⟨stop, decide (stop < goal), moveSegs p s peak (goal - stop).natAbs⟩]

/-- Rank of a kind of stop (R355): the higher wins. -/
def stopRank (kind : Nat) : Nat := kind - 2

/-- Stop an axis (R355): kind 3 normal, 4 fallback, 5 quick, 6 immediate; the running request ends with a cause, 0 for none. -/
def Mach.axStop (m : Mach) (r : Ram) (n kind cause : Nat) : Mach :=
  let m := m.axSettle r n
  let x := m.ax n
  if stopRank kind ≤ stopRank x.kind ∧ 3 ≤ x.kind then m.axSync n
  else
    let pr := m.prof n
    let pos := m.cmdPos n
    let v := m.cmdVel n
    let y := m.planNow n
    let exact := if (m.following n).isSome then pos * (unit : Nat) else y.1
    let moving := v ≠ 0 ∨ x.plan ≠ []
    let m := if x.busy then
        (m.moveRec r n 1 cause).updAx n (fun z => { z with
          busy := false
          done := false
          aborted := true
          ack := z.ack % 4096 + cause * 4096 }) else m
    let m := m.when (cause != 0) (fun m => m.setObj F.axLAST_CAUSE n cause)
    let m := m.when (decide (5 ≤ kind) && (decide moving || kind == 6)) (fun m => m.bump F.axQUICK_STOPS n)
    let m := if kind = 6 then m.updAx n (fun z => { z with
        pos := pos
        plan := []
        goal := none
        kind := 6 })
      else if v = 0 then m.updAx n (fun z => { z with
        pos := pos
        plan := []
        goal := none
        kind := if z.plan = [] then 0 else kind })
      else
        let sp := v.natAbs
        let segs := if kind = 5 ∨ kind = 4 then (if min pr.ve sp < sp then [rampSeg sp (min pr.ve sp) pr.dq] else [pseg sp 0 0])
          else fallSegs pr.d1 pr.d2 pr.v1 sp (min pr.ve sp)
        m.updAx n (fun z => { z with
          pos := pos
          plan := [⟨exact, decide (0 < v), segs⟩]
          planAt := m.now
          goal := none
          kind := kind })
    m.axSync n

/-! ### Run-down of a group (R367, R368) -/

/-- Owner of a group, for its channel. -/
def Mach.ggPart (m : Mach) (r : Ram) (g : Nat) : Nat := (m.ggOwner r g).getD 0xFF

/-- STATE and live fields of the group object (R370). -/
def Mach.ggSync (m : Mach) (g : Nat) : Mach :=
  let y := m.masterNow g
  ((m.setObj F.ggSTATE g (m.gg g).state).setObj F.ggMASTER_POS g (uint 64 y.1)).setObj F.ggMASTER_VEL g (uint 32 (y.2 / 10 ^ 6))

/-- A cause of run-down (R368): engaged or synchronising groups run down; during a run-down only the reason changes. -/
def Mach.runDown (m : Mach) (r : Ram) (g reason : Nat) : Mach :=
  let x := m.gg g
  let m := m.when (reason == 3) (fun m => m.updGg g (fun z => { z with masterLost := true }))
  if x.state = 0 then m.ggSync g
  else if x.state = 3 then m.updGg g (fun z => { z with reason := reason })
  else
    let mv := m.masterNow g
    let synced := x.state = 2
    let mem := (m.membersOf g).filter (fun n => !bit x.left n || !decide synced)
    let T := (mem.map (fun n => (m.cmdVel n).natAbs * 1000 / max 1 (m.obj F.axDQ n))).foldl max 0
    let s0 := mem.map (fun n => (n, m.cmdPos n))
    let m := m.each mem (fun m n =>
      let m := if (m.ax n).busy then (m.moveRec r n 1 9).updAx n (fun z => { z with
          busy := false
          aborted := true }) else m
      (m.setObj F.axLAST_CAUSE n 9).updAx n (fun z => { z with ack := z.ack % 4096 + 9 * 4096 }))
    let m := if synced then m else m.each mem (fun m n => m.axStop r n 5 9)
    let m := m.updGg g (fun z => { z with
      state := 3
      splice := none
      reason := reason
      downAt := m.now
      downM := mv.1
      downV := mv.2
      downT := T
      m0 := mv.1
      s0 := s0
      left := if synced then z.left else 65535
      engage := z.engage })
    let m := ((m.bump F.ggRUNDOWNS g).setObj F.ggRUNDOWN_NS g T)
    let p := m.ggPart r g
    ((m.chron { sub := 9, low := 0x82, part := p, inst := g, cause := reason, detail := toLe 4 T }).notice (m.chanOf p) 0x0982 p
      [itm 1 1 g, itm 2 1 reason]).ggSync g

/-- A member stops on its own: it leaves the group and the others run down (R368). -/
def Mach.memberStops (m : Mach) (r : Ram) (n reason : Nat) : Mach :=
  match m.groupOf n with
  | none => m
  | some g =>
    if (m.gg g).state = 0 then m
    else
      let leave := m.updGg g (fun z => { z with left := setBit z.left n true })
      leave.runDown r g reason

/-- Stop a possibly geared axis: it leaves its group, stops by its own stop, the others run down; while they do, only an immediate stop
stops a member on its own, and any other cause changes the reason (R368). -/
def Mach.axHalt (m : Mach) (r : Ram) (n kind cause reason : Nat) : Mach :=
  match (m.following n).filter (fun g => (m.gg g).state == 3 && kind != 6) with
  | some g => m.runDown r g reason
  | none =>
    let geared := (m.groupOf n).any (fun g => (m.gg g).state != 0)
    (m.axStop r n kind cause).when geared (fun m => m.memberStops r n reason)

/-! ### Requests (R348, R353, R357) -/

/-- Highest step rate (R351). -/
def Mach.rateMax (m : Mach) (n : Nat) : Nat :=
  if m.obj F.axDRIVE n = 1 then min 4000000 (10 ^ 9 / max 1 (2 * m.obj F.axSTEP_WIDTH_NS n)) else 4000000

/-- Peak speed a request asks for, steps/s. -/
def Mach.peakOf (m : Mach) (n vmax : Nat) : Nat := if vmax = 0 then m.obj F.axV_DEFAULT n else vmax

/-- REFUSE_REASON of a request, 0 where it is accepted. DEDUCED, log 59. -/
def Mach.refusal (m : Mach) (n mode vmax : Nat) (target : Int) : Nat :=
  let x := m.ax n
  let pos := m.cmdPos n
  let goal := if mode = 1 then pos + target else target
  let lo := sint 64 (m.obj F.axPOS_MIN n)
  let hi := sint 64 (m.obj F.axPOS_MAX n)
  let up := if mode = 2 then decide (0 < target) else decide (pos < goal)
  let stageOff := (m.stageOf n).any (fun k => m.obj F.msSTAGE_MODE k == 0)
  let fault := (m.stageOf n).any (fun k => m.obj F.msFAULT k != 0 && !(ug {} m.mss k : MsSt).clearable)
  if m.axHeld n ∨ fault ∨ x.test then 1
  else if (m.groupOf n).any (fun g => (m.gg g).state != 0) then 3
  else if m.obj F.axDRIVE n = 0 ∨ stageOff ∨ m.rateMax n < vmax ∨ (mode = 2 ∧ target = 0) then 5
  else if mode = 0 ∧ x.refLost then 2
  else if (mode ≤ 1 ∧ !x.refLost ∧ (goal < lo ∨ hi < goal)) ∨
      (mode ≤ 2 ∧ (goal ≠ pos ∨ mode = 2) ∧ ((x.limPos ∧ up) ∨ (x.limNeg ∧ !up))) then 4
  else 0

/-- A stage fault that may clear at an accepted request clears (R360). -/
def Mach.stageAccept (m : Mach) (n : Nat) : Mach :=
  match m.stageOf n with
  | some k => m.when (m.obj F.msFAULT k != 0) (fun m => m.setObj F.msFAULT k 0)
  | none => m

/-- Accept a request (R353, R354): the profile starts 2 µs after this edge, and a motion that runs goes on until then. A velocity request
runs to the limit ahead (R357); a running stop is replaced by no lower one (R355). -/
def Mach.axAccept (m : Mach) (r : Ram) (n seq mode vmax : Nat) (target : Int) : Mach :=
  let m := (m.axSettle r n).stageAccept n
  let m := (m.ax n).run.elim m (fun _ => m.moveRec r n 2 0)
  let at_ := m.now + 2000
  let x := m.ax n
  let runs := decide (x.plan ≠ []) && decide (x.planAt ≤ m.now)
  let y := if runs then ({ m with now := at_ } : Mach).planNow n else m.planNow n
  let exact := if x.plan = [] then x.pos * (unit : Nat) else y.1
  let v := if x.plan = [] then 0 else y.2.2.1
  let lead := if runs then cutLegs x.plan ((m.now - x.planAt) * 1000) 2000000 else []
  let from_ := if runs then m.now else at_
  let keep := decide (mode = 3) && decide (4 ≤ x.kind) && decide (x.plan ≠ [])
  let peak := m.peakOf n vmax * 10 ^ 6
  let pos := m.cmdPos n
  let p := m.prof n
  let goal := if mode = 1 then pos + target else if mode = 0 then target
    else if x.refLost then (if 0 < target then 2 ^ 62 else -(2 ^ 62))
    else if 0 < target then sint 64 (m.obj F.axPOS_MAX n) else sint 64 (m.obj F.axPOS_MIN n)
  let m := m.updAx n (fun z => { z with
    busy := true
    done := false
    aborted := false
    stall := false
    fell := false
    off := false
    kind := if keep then z.kind else 0
    run := some ⟨mode, seq, at_, pos, 0, 0, none⟩ })
  if keep then m.axSync n
  else if mode = 3 then
    if v = 0 then (m.updAx n (fun z => { z with
        kind := 3
        plan := []
        pos := pos })).axSettle r n |>.updAx n (fun z => { z with
          busy := false
          done := true
          kind := 0 }) |>.moveRec r n 0 0
    else m.axGo n 3 (lead ++ [⟨exact, decide (0 < v), fallSegs p.d1 p.d2 p.v1 v.natAbs (min p.ve v.natAbs)⟩]) none from_
  else
    let legs := m.legsTo n exact v goal peak
    let fits := mode ≠ 2 ∨ (v = 0 ∧ (if 0 < target then pos < goal else goal < pos)) ∨ v ≠ 0 ∧ decide (0 < v) != decide (0 < target) ∨ v ≠ 0 ∧
      (segsLen (fallSegs p.d1 p.d2 p.v1 v.natAbs (min p.ve v.natAbs)) : Int) ≤ signed (decide (0 < v)) 1 * (goal * (unit : Nat) - exact)
    if !fits then
      let p := m.axPart r n
      (m.axStop r n 5 6).notice (m.chanOf p) 0x0981 p [itm 1 1 n, itm 2 1 (decide (0 < target)).toNat]
    else
      let rise := match legs.getLast? with
        | some l => (legs.dropLast.map (fun l => segsDur l.segs)).sum + segsDur (l.segs.takeWhile (fun s => s.acc != 0))
        | none => 0
      ((m.axGo n (if mode = 2 then 2 else 1) (lead ++ legs) (some goal) from_).updAx n (fun z => { z with speedAt := at_ + rise / 1000 })).axSync n

/-- A request with a new SEQ: accepted, or refused with its reason (R348). -/
def Mach.axRequest (m : Mach) (r : Ram) (n seq mode vmax : Nat) (target : Int) : Mach :=
  let m := m.axSettle r n
  let why := m.refusal n mode vmax target
  let ack := seq % 256 + (if why = 0 then 0 else 256 + why * 512)
  let m := m.updAx n (fun z => { z with
    seq := seq
    ack := ack + (if why = 0 then 0 else z.ack / 4096 * 4096) })
  if why = 0 then m.axAccept r n seq mode vmax target else m.bump F.axREFUSALS n

/-! ### What other units do to an axis or a group (R355, R368) -/

/-- The Safety Island: an immediate stop and hold; it releases. -/
def Mach.axIsland (m : Mach) (r : Ram) (n : Nat) (b : Bool) : Mach :=
  if b then ((m.updAx n (fun x => { x with isl := true })).axHalt r n 6 2 7).axSync n
  else (m.updAx n (fun x => { x with isl := false })).axSync n

/-- A traction binding: a quick stop and hold; it releases. -/
def Mach.axTraction (m : Mach) (r : Ram) (n : Nat) (b : Bool) : Mach :=
  if b then
    if (m.ax n).trac then m else
    let geared := (m.groupOf n).filter (fun g => decide (1 ≤ (m.gg g).state))
    let m := m.updAx n (fun x => { x with trac := true })
    match geared with
    | some g => (m.runDown r g 4).axSync n
    | none => m.axStop r n 5 1
  else (m.updAx n (fun x => { x with trac := false })).axSync n

/-- The matrix: a quick stop and hold; it releases. -/
def Mach.axEffect (m : Mach) (r : Ram) (n : Nat) (b : Bool) : Mach :=
  if b then
    if (m.ax n).ce then m else
    let geared := (m.groupOf n).filter (fun g => decide (1 ≤ (m.gg g).state))
    let m := m.updAx n (fun x => { x with ce := true })
    match geared with
    | some g => (m.runDown r g 5).axSync n
    | none => m.axStop r n 5 4
  else (m.updAx n (fun x => { x with ce := false })).axSync n

/-- A traction binding on a group. -/
def Mach.ggTraction (m : Mach) (r : Ram) (g : Nat) (b : Bool) : Mach :=
  let m := m.when (b && !(m.gg g).trac) (fun m => m.runDown r g 4)
  m.updGg g (fun x => { x with trac := b })

/-- The matrix on a group. -/
def Mach.ggEffect (m : Mach) (r : Ram) (g : Nat) (b : Bool) : Mach :=
  let m := m.when (b && !(m.gg g).ce) (fun m => m.runDown r g 5)
  m.updGg g (fun x => { x with ce := b })

/-- The master of every group on a port is lost (R368 reason 3). -/
def Mach.masterLost (m : Mach) (r : Ram) (n : Nat) : Mach :=
  m.each ((List.range 8).filter (fun g => m.obj F.ggMASTER g == n)) (fun m g => m.runDown r g 3)

/-! ### Stage faults, stalls, limits (R357, R360 to R362) -/

/-- A stage fault (R360): 1 overcurrent … 6 Hall invalid. DEDUCED, log 59. -/
def Mach.stageFault (m : Mach) (r : Ram) (k f : Nat) : Mach :=
  if !m.isM4 ∨ m.obj F.msSTAGE_MODE k = 0 ∨ m.obj F.axDRIVE k ≠ 2 ∨ m.obj F.msFAULT k ≠ 0 then m
  else
    let m := (m.setObj F.msFAULT k f).bump F.msFAULTS k
    let m := { m with mss := uset {} m.mss k (fun _ => ⟨false, m.now⟩) }
    let m := (m.axHalt r k 6 8 7).updAx k (fun x => { x with refLost := true })
    let p := m.axPart r k
    ((m.chron { sub := 9, low := 0x83, part := p, inst := k, cause := f }).notice (m.chanOf p) 0x0983 p [itm 1 1 k, itm 2 1 f]).axSync k

/-- MS_FAULT (R360). -/
def execMsFault (t : Nat) (k : Fin 4) (fault : Fin 6) (s : State) : Out := evR t (fun r m => (m.stageFault r k.val (fault.val + 1), [])) s

/-- MS_FAULT_CLEAR (R360): faults 3, 4 and 6 clear, 1, 2 and 5 at the next accepted request. -/
def execMsFaultClear (t : Nat) (k : Fin 4) (s : State) : Out :=
  ev t (fun m =>
    let f := m.obj F.msFAULT k.val
    if f = 0 ∨ (f = 1 ∧ m.now < (ug {} m.mss k.val : MsSt).faultAt + 100000000) ∨ (f = 6 ∧ m.obj F.axFB_PORT k.val < 8 ∧
        m.obj F.epSTATE (m.obj F.axFB_PORT k.val) = 2) then m
    else if f = 3 ∨ f = 4 ∨ f = 6 then (m.setObj F.msFAULT k.val 0).axSync k.val
    else { m with mss := uset {} m.mss k.val (fun x => { x with clearable := true }) }) s

/-- HOLD_DELAY_EXPIRY (R359): the stepper's current drops to I_HOLD. -/
def execHoldDelayExpiry (t : Nat) (k : Fin 4) (s : State) : Out :=
  evR t (fun r m =>
    let n := k.val
    let m := m.axSettle r n
    if m.obj F.msSTAGE_MODE n ≠ 1 ∨ m.obj F.msSTATE n ≠ 1 ∨ (m.ax n).plan ≠ [] ∨ (m.following n).isSome ∨
        m.now < (m.ax n).stepAt + m.obj F.msHOLD_DELAY_MS n * 10 ^ 6 then (m, [])
    else (m.setObj F.msSTATE n 2, [])) s

/-- A stall (R361, R362): immediate stop, REF_LOST. -/
def Mach.axStall (m : Mach) (r : Ram) (k : Nat) : Mach :=
  if m.obj F.axDRIVE k ≠ 2 ∨ (m.ax k).stall then m
  else
    let m := (m.axHalt r k 6 3 7).updAx k (fun x => { x with
      stall := true
      refLost := true })
    let m := m.bump F.axSTALLS k
    let p := m.axPart r k
    ((m.chron { sub := 9, low := 0x80, part := p, inst := k, cause := 3 }).notice (m.chanOf p) 0x0980 p [itm 1 1 k]).axSync k

/-- AX_STALL (R361, R362). -/
def execAxStall (t : Nat) (n : Fin 16) (s : State) : Out := evR t (fun r m => (m.axStall r n.val, [])) s

/-- HALL_TRANSITION (R326, R360): an invalid code is a fault of a BLDC stage on the port. -/
def execHallTransition (t : Nat) (n : Fin 8) (code : Fin 8) (s : State) : Out :=
  evR t (fun r m =>
    let k := n.val
    let m := m.hallIn k code
    let bad := m.epLive k && m.obj F.epMODE k == 2 && (hallPlace code.val).isNone
    (m.each ((List.range 4).filter (fun j => bad && m.bldc j && m.obj F.axFB_PORT j == k)) (fun m j => m.stageFault r j 6), [])) s

/-- FOLLOWING_ERROR (R362): on DRIVE 1 or in BLDC a quick stop; on a stepper the same error is a stall. DEDUCED, log 59. -/
def execFollowingError (t : Nat) (n : Fin 16) (s : State) : Out :=
  evR t (fun r m =>
    let k := n.val
    if m.obj F.axFE_MAX k = 0 ∨ 8 ≤ m.obj F.axFB_PORT k ∨ m.obj F.axDRIVE k = 0 ∨ (m.followErr k).natAbs ≤ m.obj F.axFE_MAX k then (m, [])
    else if (m.stageOf k).any (fun j => m.obj F.msSTAGE_MODE j == 1) then (m.axStall r k, [])
    else ((m.axHalt r k 5 7 8).updAx k (fun x => { x with following := true }), [])) s

/-- AX_LIMIT (R357, R374): a limit input becomes active or inactive; an active one makes a quick stop, and the stop an event. DEDUCED, log 59. -/
def Mach.axLimit (m : Mach) (r : Ram) (n : Nat) (positive active : Bool) : Mach :=
  let same := (if positive then (m.ax n).limPos else (m.ax n).limNeg) == active
  let m := m.updAx n (fun x => if positive then { x with limPos := active } else { x with limNeg := active })
  if !active || same then m
  else
    let moving := m.cmdVel n ≠ 0 ∨ (m.axSettle r n |>.ax n).plan ≠ []
    let m := m.axHalt r n 5 6 8
    let p := m.axPart r n
    m.when (decide moving) (fun m => m.notice (m.chanOf p) 0x0981 p [itm 1 1 n, itm 2 1 positive.toNat])

/-- AX_LIMIT (R357). -/
def execAxLimit (t : Nat) (n : Fin 16) (positive active : Bool) (s : State) : Out :=
  evR t (fun r m => (m.axLimit r n.val positive active, [])) s

/-- MOVE_DONE (R352). -/
def execMoveDone (t : Nat) (n : Fin 16) (s : State) : Out := evR t (fun r m => (m.axSettle r n.val, [])) s

/-- AXIS_STEP_EDGE (R351): CMD_POS and DIR stand as the profile has them at this edge. -/
def execAxisStepEdge (t : Nat) (n : Fin 16) (s : State) : Out :=
  evR t (fun r m =>
    let k := n.val
    let m := m.axSettle r k
    let moving := m.cmdVel k ≠ 0 ∧ !m.dirWaits k (decide (0 < m.cmdVel k))
    ((m.when (decide moving) (fun m => m.updAx k (fun x => { x with
      stepAt := m.now
      dirUp := decide (0 < m.cmdVel k) }))).axSync k, [])) s

/-- EP_FENCED (R341, R342, R360, R368): the port is fenced; groups it is master of run down, a BLDC stage on it faults. -/
def execEpFenced (t : Nat) (n : Fin 8) (cause : Fin 5) (s : State) : Out :=
  evR t (fun r m =>
    let k := n.val
    if !m.epLive k ∨ !m.fenceDue k (cause.val + 1) then (m, [])
    else
      let m := (m.fencePort r k (cause.val + 1)).masterLost r k
      (m.each ((List.range 4).filter (fun j => m.bldc j && m.obj F.axFB_PORT j == k)) (fun m j => m.stageFault r j 6), [])) s

/-! ### Gear groups (R364 to R367) -/

/-- Each member approaches its matched speed (R364). -/
def Mach.syncMembers (m : Mach) (r : Ram) (g : Nat) : Mach :=
  let x := m.gg g
  let v := (m.masterNow g).2 * x.num / (x.den : Nat)
  m.each (m.membersOf g) (fun m n =>
    let m := m.axSettle r n
    let p := m.prof n
    let y := m.planNow n
    let cur := m.cmdVel n
    let w := v.natAbs
    let up := decide (0 ≤ v)
    let exact := if (m.ax n).plan = [] then (m.ax n).pos * (unit : Nat) else y.1
    let far := fun (segs : List PSeg) => segs ++ [pseg w 0 (10 ^ 18)]
    let legs :=
      if cur = 0 then [⟨exact, up, far (riseSegs p.a1 p.a2 p.v1 (min p.vs w) w)⟩]
      else if decide (0 < cur) = up then
        [⟨exact, up, far (if cur.natAbs ≤ w then riseSegs p.a1 p.a2 p.v1 cur.natAbs w else fallSegs p.d1 p.d2 p.v1 cur.natAbs w)⟩]
      else
        let fall := fallSegs p.d1 p.d2 p.v1 cur.natAbs (min p.ve cur.natAbs)
        let stop := issuedAt (!up) (exact + signed (!up) (segsLen fall)) * (unit : Nat)
        [⟨exact, !up, fall⟩, ⟨stop, up, far (riseSegs p.a1 p.a2 p.v1 (min p.vs w) w)⟩]
    (m.axGo n 2 legs none m.now).updAx n (fun z => { z with
      speedAt := m.now + ((legs.map (fun l => segsDur l.segs)).sum - 10 ^ 18) / 1000 }))

/-- GEAR_SYNC_MATCHED (R364): every member has matched; S0 := S, M0 := M. -/
def execGearSyncMatched (t : Nat) (g : Fin 8) (s : State) : Out :=
  evR t (fun r m =>
    let k := g.val
    if (m.gg k).state ≠ 1 ∨ !(m.membersOf k).all (fun n => decide ((m.ax n).speedAt ≤ m.now)) then (m, [])
    else
      let mem := m.membersOf k
      let s0 := mem.map (fun n => (n, m.cmdPos n))
      let m := m.each mem (fun m n => m.updAx n (fun x => { x with
        pos := m.cmdPos n
        plan := []
        goal := none
        kind := 0 }))
      let m := m.updGg k (fun x => { x with
        state := 2
        s0 := s0
        m0 := (m.masterNow k).1
        left := 0 })
      ((m.each mem (fun m n => m.axSync n)).ggSync k, let _ := r; [])) s

/-- Splice takes effect (R366). -/
def Mach.spliceNow (m : Mach) (g : Nat) : Mach :=
  match (m.gg g).splice with
  | none => m
  | some (num, den, pos, _) =>
    let x := m.gg g
    let s0 := (m.membersOf g).map (fun n => (n, alook 0 x.s0 n + (pos - x.m0) * x.num / (x.den : Nat)))
    (m.updGg g (fun x => { x with
      s0 := if x.state = 2 then s0 else x.s0
      m0 := if x.state = 2 then pos else x.m0
      num := num
      den := den
      splice := none
      spliceDone := true })).bump F.ggSPLICES g

/-- SPLICE (R366): M, coming from the side it stood on at arming, reaches SPLICE_POS. -/
def execSplice (t : Nat) (g : Fin 8) (s : State) : Out :=
  ev t (fun m =>
    match (m.gg g.val).splice with
    | some (_, _, pos, below) =>
      let M := (m.masterNow g.val).1
      if (below ∧ pos ≤ M) ∨ (!below ∧ M ≤ pos) then (m.spliceNow g.val).ggSync g.val else m
    | none => m) s

/-- RUNDOWN_END (R367): every member is at rest; the group is idle. -/
def execRundownEnd (t : Nat) (g : Fin 8) (s : State) : Out :=
  evR t (fun r m =>
    let k := g.val
    let x := m.gg k
    if x.state ≠ 3 ∨ m.now < x.downAt + x.downT then (m, [])
    else
      let m := m.each ((m.membersOf k).filter (fun n => !bit x.left n)) (fun m n => m.updAx n (fun y => { y with
        pos := m.memberPos k n
        plan := []
        goal := none
        kind := 0
        stepAt := x.downAt + x.downT }))
      let m := m.updGg k (fun y => { y with
        state := 0
        vmX := (m.masterNow k).1 * (unit : Nat)
        vmV := 0
        vmAt := m.now })
      ((m.each (m.membersOf k) (fun m n => m.axSettle r n)).ggSync k, [])) s

/-- The velocity of some member would step by more than its VS (R365, R366). -/
def Mach.stepTooBig (m : Mach) (g : Nat) (num : Int) (den : Nat) : Bool :=
  let x := m.gg g
  let v := (m.masterNow g).2
  (m.membersOf g).any (fun n => decide (m.obj F.axVS n * 10 ^ 6 < (v * num / (max 1 den : Nat) - v * x.num / (x.den : Nat)).natAbs))

/-- A refusal of a group request (R368 reasons 1 and 2). -/
def Mach.ggRefuse (m : Mach) (g reason : Nat) : Mach :=
  (m.updGg g (fun x => { x with
    refused := true
    reason := reason })).bump F.ggREFUSALS g

/-- A new SEQ: NUM and DEN, or a Splice (R365, R366). -/
def Mach.ggRequest (m : Mach) (g seq : Nat) (arm : Bool) (num : Int) (den : Nat) (sn : Int) (sd : Nat) (pos : Int) : Mach :=
  let x := m.gg g
  let m := m.updGg g (fun z => { z with
    seq := seq
    refused := false
    reason := 0 })
  let live := x.state = 2
  if x.state = 3 then m.ggRefuse g 1
  else if den = 0 ∨ (arm ∧ sd = 0) then m.ggRefuse g 2
  else if live ∧ m.stepTooBig g num den then m.ggRefuse g 2
  else
    let M := (m.masterNow g).1
    let s0 := (m.membersOf g).map (fun n => (n, m.cmdPos n))
    let change := num ≠ x.num ∨ den ≠ x.den
    let m := m.updGg g (fun z => { z with
      num := num
      den := den
      s0 := if live ∧ change then s0 else z.s0
      m0 := if live ∧ change then M else z.m0 })
    if !arm then m
    else if live ∧ m.stepTooBig g sn sd then m.ggRefuse g 2
    else
      let m := m.updGg g (fun z => { z with splice := some (sn, sd, pos, decide (M < pos)) })
      if M = pos then m.spliceNow g else m

/-- ENGAGE at a Clapper (R364). -/
def Mach.ggEngage (m : Mach) (r : Ram) (g : Nat) (on : Bool) : Mach :=
  let x := m.gg g
  let m := m.updGg g (fun z => { z with engage := on })
  if on ∧ !x.engage then
    if x.state = 3 ∨ x.trac ∨ x.ce ∨ (m.membersOf g).any (fun n => (m.ax n).busy || m.axHeld n) then m.ggRefuse g 1
    else (m.updGg g (fun z => { z with
        state := 1
        masterLost := false
        refused := false
        reason := 0 })).syncMembers r g
  else if !on ∧ x.engage ∧ (x.state = 1 ∨ x.state = 2) then
    let mem := m.membersOf g
    let m := m.each mem (fun m n => m.axStop r n 3 0)
    m.updGg g (fun z => { z with
      state := 0
      splice := none })
  else m

/-- A 32-bit and a 64-bit value of a space. -/
def rd32 (r : Ram) (sp : Space) (pt : Nat) : Nat := rd r sp pt + rd r sp (pt + 1) * 2 ^ 16

/-- A 64-bit value of a space. -/
def rd64 (r : Ram) (sp : Space) (pt : Nat) : Nat := rd32 r sp pt + rd32 r sp (pt + 2) * 2 ^ 32

/-- Groups of a partition at its Clapper: virtual master speed, requests, engagement, run-down on fallback (R350, R364 to R368). -/
def Mach.clapGroups (m : Mach) (r : Ram) (p : Nat) : Mach :=
  m.each ((List.range 8).filter (fun g => m.obj F.ggMASTER g != 0xFF && m.ggOwner r g == some p)) (fun m g =>
    let a := 0x00400 + 64 * g
    let b := a + 32
    let word := rd r .next (a + 20)
    let q := rd r .nextQ (a + 20)
    let m := m.ggEffect r g (bit m.ceGroups g)
    let m := if m.obj F.ggMASTER g < 8 ∧ m.epQual (m.obj F.ggMASTER g) = 3 ∧ (m.gg g).state ≠ 3 then m.runDown r g 3 else m
    let y := m.vmNow g
    let m := m.updGg g (fun x => { x with
      vmX := y.1
      vmV := y.2
      vmAt := m.now
      vmTo := sint 32 (rd32 r .next (a + 22)) * 10 ^ 6
      spliceDone := x.spliceDone })
    if q = 3 then
      let m := m.when (decide ((m.gg g).state = 1 ∨ (m.gg g).state = 2)) (fun m => m.runDown r g 6)
      (m.updGg g (fun x => { x with
        fell := true
        engage := false })).ggSync g
    else
      let m := m.updGg g (fun x => { x with fell := false })
      let seq := field word 15 8
      let m := if seq = (m.gg g).seq then m
        else m.ggRequest g seq (bit word 1) (sint 32 (rd32 r .next (a + 24))) (rd32 r .next (a + 26)) (sint 32 (rd32 r .next (b + 20)))
          (rd32 r .next (b + 22)) (sint 64 (rd64 r .next (a + 28)))
      let m := m.ggEngage r g (bit word 0)
      (if (m.gg g).state = 1 then m.syncMembers r g else m).ggSync g)

/-- Input slots of a partition's groups (R350). -/
def Mach.latchGroups (m : Mach) (r : Ram) (p : Nat) : Mach × List W :=
  ((List.range 8).filter (fun g => m.obj F.ggMASTER g != 0xFF && m.ggOwner r g == some p)).foldl (fun y g =>
    let m := y.1
    let x := m.gg g
    let b := 0x00400 + 64 * g + 32
    let src := if x.trac then 2 else if x.ce then 1 else if x.fell then 5 else 0
    let st := (x.state == 2).toNat + (x.state == 1).toNat * 2 + x.splice.isSome.toNat * 4 + x.spliceDone.toNat * 8 + x.masterLost.toNat * 16 +
      (x.state == 3).toNat * 32 + (x.trac || x.ce).toNat * 64 + x.refused.toNat * 128 + x.reason * 256 + src * 2 ^ 13
    let mv := m.masterNow g
    (m.updGg g (fun x => { x with spliceDone := false }),
     y.2 ++ backPut p (b + 24) st 0 ++ backPut p (b + 25) x.seq 0 ++ back32 p (b + 26) (uint 32 (mv.2 / 10 ^ 6)) 0 ++ back64 p (b + 28) (uint 64 mv.1) 0))
    (m, [])

/-! ### Axes at the Clapper (R348, R349, R353) -/

/-- The axis takes its requests from a door (R356). -/
def Mach.axDoor (m : Mach) (n : Nat) : Bool :=
  (List.range 256).any (fun d => m.obj F.doorSTORYBOARD d != 0xFF && m.obj F.doorDRIVE_KIND d == 1 && m.obj F.doorDRIVE d == n)

/-- Measured values of the motor stages (R348, R371, R515). -/
def Mach.takeStages (m : Mach) (l : List (Nat × Option Int × Nat × Int × Nat)) : Mach :=
  m.each (l.filter (fun e => decide (e.1 < 4))) (fun m e =>
    let m := (m.setObj F.msTEMP e.1 (uint 16 e.2.2.2.1)).setObj F.msFM_V e.1 e.2.2.2.2
    m.updAx e.1 (fun x => { x with
      angle := e.2.1
      ma := e.2.2.1
      run := x.run.map (fun y => { y with
        peakMa := max y.peakMa e.2.2.1
        angle := match y.angle, e.2.1 with
          | some a, some b => some (max a b)
          | none, b => b
          | a, none => a }) }))

/-- Axes of a partition at its Clapper: effects of the matrix, fallback, new requests (R146, R353, R355). -/
def Mach.clapAxes (m : Mach) (r : Ram) (p : Nat) : Mach :=
  m.each ((List.range 16).filter (fun n => m.axOwner r n == some p)) (fun m n =>
    let b := 0x00400 + 32 * n
    let m := m.axSettle r n
    let m := m.axEffect r n (bit m.ceAxes n)
    if m.axDoor n then m
    else if rd r .nextQ b = 3 then
      let m := if (m.ax n).fell ∨ (m.groupOf n).any (fun g => (m.gg g).state != 0) then m else m.axStop r n 4 5
      (m.updAx n (fun x => { x with fell := true })).axSync n
    else
      let word := rd r .next b
      if word % 256 = (m.ax n).seq then m.updAx n (fun x => { x with fell := false })
      else
        (m.updAx n (fun x => { x with fell := false })).axRequest r n (word % 256) (field word 9 8) (rd32 r .next (b + 2))
          (sint 64 (rd64 r .next (b + 4))))

/-- STATUS of an axis (R349). -/
def Mach.axStatus (m : Mach) (n : Nat) : Nat :=
  let x := m.ax n
  let v := (m.cmdVel n).natAbs
  let fault := (m.stageOf n).any (fun k => m.obj F.msFAULT k != 0)
  let geared := (m.groupOf n).any (fun g => (m.gg g).state != 0)
  let stepper := (m.stageOf n).any (fun k => m.obj F.msSTAGE_MODE k == 1)
  let full := 2 ^ (m.obj F.msMICROSTEP_LOG2 n)
  let slow := decide (v < 40 * full * 10 ^ 6)
  let src := if x.isl then 4 else if x.trac then 2 else if x.ce then 1 else if x.fell then 5 else 0
  x.busy.toNat + x.done.toNat * 2 + x.aborted.toNat * 4 + (decide (x.plan = []) && v == 0 && decide (x.stepAt + 10 ^ 6 ≤ m.now)).toNat * 8 +
  (m.axHeld n).toNat * 16 + x.stall.toNat * 32 + x.refLost.toNat * 64 + x.limPos.toNat * 128 + x.limNeg.toNat * 256 +
  (m.obj F.axFE_MAX n != 0 && decide (m.obj F.axFE_MAX n < (m.followErr n).natAbs)).toNat * 512 + fault.toNat * 1024 + geared.toNat * 2048 +
  (stepper && v != 0 && slow && m.obj F.axFB_PORT n == 0xFF).toNat * 4096 + src * 2 ^ 13

/-- Input slots of a partition's axes (R348). -/
def Mach.latchAxes (m : Mach) (r : Ram) (p : Nat) : Mach × List W :=
  ((List.range 16).filter (fun n => m.axOwner r n == some p)).foldl (fun y n =>
    let m := y.1.axSettle r n
    let x := m.ax n
    let b := 0x00400 + 32 * n
    let v := m.cmdVel n / 10 ^ 6
    let m := m.updAx n (fun x => { x with
      following := m.obj F.axFE_MAX n != 0 && decide (m.obj F.axFE_MAX n < (m.followErr n).natAbs)
      run := x.run.map (fun z => { z with peakV := max z.peakV v.natAbs }) })
    (m, y.2 ++ backPut p (b + 8) (m.axStatus n) 0 ++ backPut p (b + 9) x.ack 0 ++ back32 p (b + 10) (uint 32 v) 0 ++
      back64 p (b + 12) (uint 64 (m.cmdPos n)) 0 ++
      backPut p (b + 16) (match x.angle with
        | some a => uint 16 a
        | none => 0x8000) 0 ++ backPut p (b + 17) (if m.obj F.axDRIVE n = 2 then x.ma else 0) 0 ++
      back32 p (b + 18) (uint 32 (m.followErr n)) 0)) (m, [])

/-! ### Commands (R372 to R374) -/

/-- Who may act on an axis (R181). -/
def Mach.axGuard (m : Mach) (r : Ram) (c : Cmd) (n : Nat) (k : Mach → Res) : Res :=
  if !isSys c.owner && m.axOwner r n ≠ some c.owner then Res.fail m stNOT_OWNER else k m

/-- GZ time of the accepting Clapper of an axis's owner (R372). DEDUCED, log 41. -/
def Mach.axApplyAt (m : Mach) (r : Ram) (n : Nat) : Nat :=
  match m.axOwner r n with
  | some p => m.applyGz p
  | none => 0

/-- The card of AXIS_JOG. -/
def axisJogCard : Card :=
  { op := 0x0910, bulk := false, modes := [0],
    items := [⟨1, 1, 1, true, false⟩, ⟨2, 1, 1, true, false⟩, ⟨3, 8, 8, true, false⟩, ⟨4, 4, 4, false, false⟩],
    valOk := fun ty v => if ty = 1 then decide (beNat v ≤ 15) else if ty = 2 then decide (beNat v ≤ 3) else if ty = 4 then decide (beNat v ≤ 4000000) else true }

/-- The effect of AXIS_JOG (R372): the commissioning values of REQ, VMAX and TARGET, with the next SEQ. DEDUCED, log 41. -/
def axisJog (c : Cmd) (r : Ram) (m : Mach) : Res :=
  let n := c.num 1
  m.axGuard r c n (fun m =>
    let b := 0x00400 + 32 * n
    let v := c.num 4
    let tg := c.num 3
    let seq := (((commOf r b).map (· % 256)).getD (m.ax n).seq + 1) % 256
    match m.refusal n (c.num 2) v (sint 64 tg) with
    | 0 => Res.done m [itm 1 8 (m.axApplyAt r n)]
        (commPut b [seq + c.num 2 * 256] ++ commPut (b + 2) [v % 2 ^ 16, v / 2 ^ 16] ++
         commPut (b + 4) [tg % 2 ^ 16, tg / 2 ^ 16 % 2 ^ 16, tg / 2 ^ 32 % 2 ^ 16, tg / 2 ^ 48])
    | 1 => Res.fail m 0x1901
    | 2 => Res.fail m 0x1902
    | 3 => Res.fail m 0x1904
    | 4 => Res.fail m 0x1906
    | _ => Res.bad m (if c.num 2 = 2 ∧ tg = 0 then 3 else 4))

/-- AXIS_JOG (R372). -/
def execAxisJog (msg : Msg) (s : State) : Out :=
  zcp axisJogCard axisJog msg s

/-- The card of AXIS_STOP. -/
def axisStopCard : Card :=
  { op := 0x0911, bulk := false, modes := [0, 1, 2, 5], items := [⟨1, 1, 1, true, false⟩, ⟨2, 1, 1, true, false⟩],
    valOk := fun ty v => if ty = 1 then decide (beNat v ≤ 15) else decide (beNat v ≤ 1) }

/-- The effect of AXIS_STOP (R373): at once; a geared member's group runs down. -/
def axisStop (c : Cmd) (r : Ram) (m : Mach) : Res :=
  let n := c.num 1
  m.axGuard r c n (fun m =>
    let m := m.axSettle r n
    if m.cmdVel n = 0 ∧ (m.ax n).plan = [] then Res.done m [itm 1 8 m.gzStamp]
    else Res.done (m.axHalt r n (if c.num 2 = 1 then 5 else 3) 0 8) [itm 1 8 m.gzStamp])

/-- AXIS_STOP (R373). -/
def execAxisStop (msg : Msg) (s : State) : Out :=
  zcp axisStopCard axisStop msg s

/-- The card of AXIS_HOME. -/
def axisHomeCard : Card :=
  { op := 0x0912, bulk := false, modes := [0, 1, 2, 5], items := [⟨1, 1, 1, true, false⟩, ⟨2, 8, 8, true, false⟩],
    valOk := fun ty v => ty != 1 || decide (beNat v ≤ 15) }

/-- The effect of AXIS_HOME (R374). -/
def axisHome (c : Cmd) (r : Ram) (m : Mach) : Res :=
  let n := c.num 1
  m.axGuard r c n (fun m =>
    let m := m.axSettle r n
    if m.cmdVel n ≠ 0 ∨ (m.ax n).plan ≠ [] then Res.fail m 0x1903
    else
      let pos := sint 64 (c.num 2)
      let m := m.updAx n (fun x => { x with
        pos := pos
        refLost := false })
      let m := match m.following n with
        | some g => m.updGg g (fun x => { x with s0 := aset x.s0 n (alook 0 x.s0 n + pos - m.memberPos g n) })
        | none => m
      Res.done ((m.emRebaseAll (16 + n)).axSync n))

/-- AXIS_HOME (R374). -/
def execAxisHome (msg : Msg) (s : State) : Out :=
  zcp axisHomeCard axisHome msg s

end Sys2Proof.Machine
end

