-- ==== Sys2Proof/Machine/Island.lean ====
section
/-! DEFINITION. The Safety Island's parameter set, its pairs and their mirrors (R440 to R443, R455 to R461). -/
namespace Sys2Proof.Machine

/-- The 4,480 bytes of a set. -/
def setBytes (s : Table Nat) : List Nat := (List.range 4480).map (setB s)

/-- A set as the state holds it. -/
def setOf (bs : List Nat) : Table Nat := ((List.range bs.length).zip bs).filter (fun e => e.2 != 0)

/-- The Slate (R461). DEDUCED, log 63. -/
def slateOf (s : Table Nat) : Nat := crc32c (setBytes s)

/-- The factory safety set of the variant. -/
def Mach.factorySafety (m : Mach) : Table Nat := if m.isM4 then factorySet else factorySetM0

/-- Offset of a pair entry, a function row, a connection entry (R455). -/
def pairAt (n : Nat) : Nat := 32 + 16 * n
def fnAt (f : Nat) : Nat := 384 + 32 * f
def linkAt (c : Nat) : Nat := 2432 + 8 * c

/-- A pair. -/
def Mach.pair (m : Mach) (n : Nat) : PairSt := ug {} m.isl.pairs n

/-- Change it. -/
def Mach.updPair (m : Mach) (n : Nat) (f : PairSt → PairSt) : Mach := m.updIsl (fun i => { i with pairs := uset {} i.pairs n f })

/-- MODE of a pair in the set in force (R440). -/
def Mach.pairMode (m : Mach) (n : Nat) : Nat := setB m.isl.set (pairAt n)

/-- Contact A, B stands at its HEALTHY level. -/
def Mach.aOk (m : Mach) (n : Nat) : Bool := (m.pair n).a.closed
def Mach.bOk (m : Mach) (n : Nat) : Bool := (m.pair n).b.closed == (m.pairMode n == 1)

/-- The pair is HEALTHY (R442). -/
def Mach.pairHealthy (m : Mach) (n : Nat) : Bool := m.pairMode n != 0 && (m.pair n).phase == 0

/-- The mirror of a pair (R443). -/
def Mach.mirror (m : Mach) (n : Nat) : Nat :=
  let x := m.pair n
  x.a.closed.toNat + x.b.closed.toNat * 2 + (m.pairHealthy n).toNat * 4 + (m.pairMode n != 0 && !m.pairHealthy n).toNat * 8 + x.disc.toNat * 16 +
    x.test.toNat * 32 + ((x.disc || x.test) && x.phase != 0).toNat * 64

/-- A fault of a pair (R442): a record, SAFETY_FAULT, INPUT_FAULTS; 1 discrepancy, 2 test. -/
def Mach.pairFault (m : Mach) (n kind : Nat) : Mach :=
  let m := m.updPair n (fun x => { x with
    phase := 4
    disc := x.disc || kind == 1
    test := x.test || kind == 2 })
  ((m.bump F.islINPUT_FAULTS).chron { sub := 0x0C, low := 0x82, part := 0xFE, inst := n, detail := [kind] }).notice 0 0x0C82 0xFF
    [itm 1 1 0, itm 2 2 n, itm 3 1 kind]

/-- DISC_MS has run out with one contact alone (R442). DEDUCED, log 63. -/
def Mach.discEval (m : Mach) (n : Nat) : Mach :=
  let x := m.pair n
  if m.pairMode n ≠ 0 ∧ (x.phase = 1 ∨ x.phase = 3) ∧ x.at_ + setH m.isl.set (pairAt n + 4) * 10 ^ 6 ≤ m.now then m.pairFault n 1 else m

/-- Follow the contacts of a pair (R442). DEDUCED, log 63. -/
def Mach.pairEval (m : Mach) (n : Nat) : Mach :=
  let m := m.discEval n
  let x := m.pair n
  let a := m.aOk n
  let b := m.bOk n
  let goto_ := fun (ph : Nat) => m.updPair n (fun y => { y with
    phase := ph
    at_ := m.now })
  let back := if x.test ∧ (x.a.miss ≠ 0 ∨ x.b.miss ≠ 0) then goto_ 4 else m.updPair n (fun y => { y with
    phase := 0
    disc := false
    test := false })
  if m.pairMode n = 0 then m
  else
    match x.phase with
    | 0 => if a && b then m else if !a && !b then goto_ 2 else goto_ 1
    | 1 => if !a && !b then goto_ 2 else m
    | 2 => if a && b then back else if a || b then goto_ 3 else m
    | 3 => if a && b then back else if !a && !b then goto_ 2 else m
    | 4 => if !a && !b then goto_ 2 else m
    | _ => if a && b then goto_ 0 else if !a && !b then goto_ 2 else m

/-- One sample of a contact (R441): a level is accepted when it has held for FILTER_MS (with TEST 1 for 1 ms more, R441 t_filter), and
not while the accepted level is held for a test pulse. -/
def Mach.contactSample (m : Mach) (n : Nat) (isB level : Bool) : Mach :=
  let x := m.pair n
  let c := if isB then x.b else x.a
  let put := fun (m : Mach) (d : Contact) => m.updPair n (fun y => if isB then { y with b := d } else { y with a := d })
  let need := (setB m.isl.set (pairAt n + 2) + (if setB m.isl.set (pairAt n + 1) = 1 then 1 else 0)) * 10 ^ 6
  if m.pairMode n = 0 ∨ m.now < c.hold then m
  else if level = c.closed then put m { c with cand := none }
  else
    let from_ := c.cand.getD m.now
    if from_ + need ≤ m.now then ((put m { c with
        closed := level
        cand := none }).pairEval n)
    else put m { c with cand := some from_ }

/-- CONTACT_SAMPLE (R441). -/
def execContactSample (t : Nat) (n : Fin 16) (isB level : Bool) (s : State) : Out := ev t (fun m => m.contactSample n.val isB level) s

/-- Pairs whose contacts a test output feeds, with TEST 0 (R440). -/
def Mach.fedBy (m : Mach) (k : Nat) : List Nat :=
  (List.range 16).filter (fun n => n % 4 == k % 4 && m.pairMode n != 0 && setB m.isl.set (pairAt n + 1) == 0)

/-- TEST_PULSE (R440 to R442): bit n of followed says that the contact of SPn fed by Tk went low with it; a closed contact that does not
on 2 consecutive pulses faults its pair. -/
def execTestPulse (t : Nat) (k : Fin 8) (followed : Nat) (s : State) : Out :=
  ev t (fun m =>
    m.each (m.fedBy k.val) (fun m n =>
      let isB := decide (4 ≤ k.val)
      let c := if isB then (m.pair n).b else (m.pair n).a
      let d := { c with
        hold := m.now + (setH m.isl.set (pairAt n + 6) + 100) * 1000
        miss := if bit followed n then 0 else c.miss + 1 }
      let m := m.updPair n (fun y => if isB then { y with b := d } else { y with a := d })
      if d.miss = 2 then m.pairFault n 2 else m)) s

/-- DISCREPANCY (R442). -/
def execDiscrepancy (t : Nat) (n : Fin 16) (s : State) : Out := ev t (fun m => m.discEval n.val) s

end Sys2Proof.Machine
end

