-- ==== Sys2Proof/Machine/Doors.lean ====
section
/-! DEFINITION. Doors: inputs, rows, obstacles, faults, steps, traction permits and bindings (spec/13). -/
namespace Sys2Proof.Machine

/-- A door. -/
def Mach.door (m : Mach) (d : Nat) : DoorSt := ug {} m.doors d

/-- Change it. -/
def Mach.updDoor (m : Mach) (d : Nat) (f : DoorSt → DoorSt) : Mach := { m with doors := uset {} m.doors d f }

/-- Instances of a class that have a value listed for a field, beside the first few. -/
def Mach.listed (m : Mach) (f : Fld) (first : List Nat) : List Nat :=
  (first ++ (m.objs.filter (fun (e : Nat × Nat) => e.1 / 2 ^ 32 == f.cls && e.1 % 2 ^ 8 == f.num)).map (fun (e : Nat × Nat) => e.1 / 2 ^ 8 % 2 ^ 24)).eraseDups

/-- Doors in use (R397 STORYBOARD). -/
def Mach.doorsOn (m : Mach) : List Nat := (m.listed F.doorSTORYBOARD [0, 1, 2, 3]).filter (fun d => m.obj F.doorSTORYBOARD d != 0xFF)

/-- Bindings in use (R398 KIND). -/
def Mach.bindsOn (m : Mach) : List Nat := (m.listed F.bindKIND []).filter (fun b => m.obj F.bindKIND b != 0)

/-! ### Storyboards (R379, R380, R545) -/

/-- The 16 bytes of a row whose OUT_MASK is 0. -/
def rowBytes (state op gr : Nat) (target : Nat) (speed wait time ok to_ : Nat) : List Nat :=
  [state, op, 0, gr] ++ toLe 4 target ++ toLe 2 speed ++ [wait, 0] ++ toLe 2 time ++ [ok, to_]

/-- Storyboard 0 (R545). -/
def storyboard0 : List Nat :=
  [1, 3, 6, 5, 7, 0, 0xFF, 0xFF, 8, 0, 0, 0, 0, 0, 0, 0] ++ rowBytes 7 6 0 0 0 3 0 0xFF 0xFF ++ rowBytes 2 1 2 2400 60 0 15000 2 0xFF ++
  rowBytes 3 0 0 0 0 3 0 0xFF 0xFF ++ rowBytes 4 1 18 0 60 0 15000 4 0xFF ++ rowBytes 1 0 0 0 0 3 0 0xFF 0xFF ++
  rowBytes 6 1 0 2400 60 0 15000 2 0xFF ++ rowBytes 5 3 0 0 0 0 2000 0xFF 0xFF ++ rowBytes 8 5 0 0 0 3 0 0xFF 0xFF

/-- The bytes of a table. -/
def Mach.board (m : Mach) (k : Nat) : List Nat := alook (if k = 0 ∧ m.isM4 then storyboard0 else []) m.boards k

/-- Byte o of a table. -/
def tb (b : List Nat) (o : Nat) : Nat := b[o]?.getD 0xFF

/-- Byte o of row k, and a little-endian 16-bit field of it. -/
def rowB (b : List Nat) (k o : Nat) : Nat := tb b (16 + 16 * k + o)
def rowH (b : List Nat) (k o : Nat) : Nat := rowB b k o + rowB b k (o + 1) * 2 ^ 8

/-- TARGET of a row. -/
def rowTarget (b : List Nat) (k : Nat) : Int := sint 32 (rowH b k 4 + rowH b k 6 * 2 ^ 16)

/-! ### The drive (R378) -/

/-- The drive's axis, where DRIVE_KIND is 1. -/
def Mach.doorAx (m : Mach) (d : Nat) : Option Nat := if m.obj F.doorDRIVE_KIND d = 1 then some (m.obj F.doorDRIVE d) else none

/-- Drive position: C of FB_PORT where set, else the axis's CMD_POS. -/
def Mach.doorPos (m : Mach) (d : Nat) : Int :=
  if m.obj F.doorFB_PORT d < 8 then (m.ep (m.obj F.doorFB_PORT d)).c
  else match m.doorAx d with
    | some n => m.cmdPos n
    | none => 0

/-- Standstill. -/
def Mach.doorStill (m : Mach) (d : Nat) : Bool :=
  match m.obj F.doorDRIVE_KIND d with
  | 1 => m.cmdVel (m.obj F.doorDRIVE d) == 0
  | 2 => !(m.lc (m.obj F.doorDRIVE d)).on && !(decide (m.obj F.doorCLOSE_LC d < 32) && (m.lc (m.obj F.doorCLOSE_LC d)).on)
  | _ => true

/-- Direction of motion: 1 opening, -1 closing, 0. -/
def Mach.doorDir (m : Mach) (d : Nat) : Int :=
  match m.doorAx d with
  | some n => (m.cmdVel n).sign
  | none => if (m.door d).run = 1 then 1 else if (m.door d).run = 2 then -1 else 0

/-- A higher source holds the drive (R387 reason 1). -/
def Mach.doorHeld (m : Mach) (d : Nat) : Bool :=
  match m.obj F.doorDRIVE_KIND d with
  | 1 => m.axHeld (m.obj F.doorDRIVE d)
  | 2 => let c := (m.lcClaim (m.obj F.doorDRIVE d)).2
         let e := if m.obj F.doorCLOSE_LC d < 32 then (m.lcClaim (m.obj F.doorCLOSE_LC d)).2 else 0
         (decide (1 ≤ c) && decide (c ≤ 4)) || (decide (1 ≤ e) && decide (e ≤ 4))
  | _ => false

/-- Channel of a door's owner. -/
def Mach.doorPart (m : Mach) (r : Ram) (d : Nat) : Nat := (m.doorOwner r d).getD 0xFF

/-- DRIVE_OP of a row: 0 hold, 1 move, 2 run, 3 normal stop, 4 quick stop, 5 drive off, 6 set reference (R380). DEDUCED, log 60. -/
def Mach.driveOp (m : Mach) (r : Ram) (d op speed : Nat) (target : Int) : Mach :=
  let m := m.updDoor d (fun x => if op = 1 ∨ op = 2 then { x with
    reqAt := m.now
    target := target
    over_ := 0
    slowAt := none } else x)
  match m.doorAx d with
  | some n =>
    let seq := ((m.ax n).seq + 1) % 256
    if op = 1 then m.axRequest r n seq 0 (min 4000000 (speed * 16)) target
    else if op = 2 then m.axRequest r n seq 2 (min 4000000 (speed * 16)) target
    else if op = 3 then m.axRequest r n seq 3 0 0
    else if op = 4 then m.axHalt r n 5 0 8
    else if op = 5 then ((m.axHalt r n 6 0 8).updAx n (fun x => { x with off := true })).axSync n
    else if op = 6 then
      let m := m.axSettle r n
      if m.cmdVel n ≠ 0 then m
      else
        let m := if m.obj F.doorFB_PORT d < 8 then m.epPreset (m.obj F.doorFB_PORT d) target else m
        ((m.updAx n (fun x => { x with
          pos := target
          refLost := false })).setObj F.doorREF_LOST d 0).axSync n
    else m
  | none =>
    let pos := m.doorPos d
    let way := if op = 1 then (if pos < target then 1 else if target < pos then 2 else 0) else if op = 2 then (if 0 < target then 1 else 2) else 0
    let m := m.updDoor d (fun x => { x with run := way })
    if op = 6 then
      let m := if m.obj F.doorFB_PORT d < 8 then m.epPreset (m.obj F.doorFB_PORT d) target else m
      m.setObj F.doorREF_LOST d 0
    else m

/-- Drive done (R381): the axis reports DONE; the position has reached TARGET in the direction of travel; a stopped drive is done. DEDUCED, log 60. -/
def Mach.driveDone (m : Mach) (d : Nat) : Bool :=
  let b := (m.door d).board
  let k := m.obj F.doorROW d
  let op := rowB b k 1
  match m.doorAx d with
  | some n => ((m.ax n).done && !bit (m.ax n).ack 8) || (decide (op = 0 ∨ 4 ≤ op) && m.doorStill d)
  | none =>
    if op = 1 then
      let x := m.door d
      x.run == 0 || (x.run == 1 && decide (x.target ≤ m.doorPos d)) || (x.run == 2 && decide (m.doorPos d ≤ x.target))
    else m.doorStill d

/-! ### State, cycle, records (R383, R396) -/

/-- The door cycle record (R396): outcome 0 closed normally, 1 after reversal, 2 fault, 3 interrupted by the wrap. -/
def Mach.endCycle (m : Mach) (r : Ram) (d outcome : Nat) : Mach :=
  match (m.door d).cyc with
  | none => m
  | some c =>
    let old := m.obj F.doorCYCLES d
    let m := m.bump F.doorCYCLES d
    let ms := fun (x : Nat) => toLe 4 (min (2 ^ 32 - 1) (x / 10 ^ 6))
    let m := m.cycRec 1 (m.doorPart r d) ([d, outcome, c.maxStep, c.methods] ++ toLe 4 (m.obj F.doorCYCLES d) ++ ms c.opening ++ ms c.open_ ++ ms c.closing ++
      toLe 2 c.peakMa ++ toLe 2 (match c.margin with
        | some v => uint 16 (clampI (-32767) 32767 v)
        | none => 0x8000) ++ toLe 4 (match c.obstPos with
        | some v => uint 32 v
        | none => 2 ^ 31) ++ toLe 2 (min 65535 c.reversals) ++ [if outcome = 2 then m.obj F.doorLAST_FAULT d else 0])
    let m := m.when (old == 2 ^ 32 - 2) (fun m => m.chron { sub := 0x0A, low := 0x05, part := m.doorPart r d, inst := d })
    m.updDoor d (fun x => { x with cyc := none })

/-- A new DOOR_STATE: time is charged to the state left; a cycle begins on leaving CLOSED, ends at CLOSED and FAULT. -/
def Mach.doorState (m : Mach) (r : Ram) (d st : Nat) : Mach :=
  let old := m.obj F.doorDOOR_STATE d
  if st = old then m
  else
    let dt := m.now - (m.door d).stateAt
    let m := m.updDoor d (fun x => { x with
      stateAt := m.now
      cyc := match x.cyc with
        | some c => some { c with
            opening := c.opening + (if old = 2 then dt else 0)
            open_ := c.open_ + (if old = 3 then dt else 0)
            closing := c.closing + (if old = 4 then dt else 0) }
        | none => if old = 1 then some {} else none })
    let m := m.setObj F.doorDOOR_STATE d st
    if st = 1 then m.endCycle r d (if ((m.door d).cyc.map (fun c => c.reversals)).getD 0 = 0 then 0 else 1)
    else if st = 8 then m.endCycle r d 2
    else m

/-- The step outputs the engine forbids (R384): OUT0 with OUT1, and OUT0 while the door is not OPEN at standstill. -/
def Mach.outGuard (m : Mach) (d : Nat) : Mach :=
  m.updDoor d (fun x =>
    let o := if bit x.outs 1 || !(m.obj F.doorDOOR_STATE d == 3 && m.doorStill d) then setBit x.outs 0 false else x.outs
    { x with outs := o })

/-- Enter a row (R381): STATE, DRIVE_OP, outputs, GUARD, timer. -/
def Mach.enterRow (m : Mach) (r : Ram) (d k : Nat) : Mach :=
  let b := (m.door d).board
  let st := rowB b k 0
  let m := m.setObj F.doorROW d k
  let m := if st = 0xFF ∨ (m.door d).learn.isSome then m else m.doorState r d st
  let m := m.driveOp r d (rowB b k 1) (rowH b k 8) (rowTarget b k)
  let o := rowB b k 2
  let m := m.updDoor d (fun x =>
    let outs := (List.range 4).foldl (fun v i => if bit o (4 + i) then setBit v i (bit o i) else v) x.outs
    { x with
      outs := outs
      rowAt := m.now })
  m.outGuard d

/-- Enter a sequence: entry 0 open, 1 close, 2 stop, 3 reverse, 4 fault, 5 reference, 6 deploy, 7 stow; then the one to follow it. -/
def Mach.enterSeq (m : Mach) (r : Ram) (d e : Nat) (after : Option Nat) : Mach :=
  let b := m.board (m.obj F.doorSTORYBOARD d)
  let m := m.updDoor d (fun x => { x with
    board := b
    next_ := after
    pend := none })
  if tb b e = 0xFF then m.setObj F.doorROW d 0xFF else m.enterRow r d (tb b e)

/-- Open or close: the reference sequence comes first while REF_LOST is set and the table has one (R382). -/
def Mach.enterMove (m : Mach) (r : Ram) (d e : Nat) : Mach :=
  let b := m.board (m.obj F.doorSTORYBOARD d)
  if m.isSet F.doorREF_LOST d && tb b 5 != 0xFF then m.enterSeq r d 5 (some e) else m.enterSeq r d e none

/-! ### Learning (R400) -/

/-- The learn ends: the outcome waits for its event. DEDUCED, log 60. -/
def Mach.learnEnd (m : Mach) (d res : Nat) : Mach :=
  m.updDoor d (fun x => { x with learn := x.learn.map (fun l => if l.result.isSome then l else { l with result := some res }) })

/-- A learn is running. -/
def Mach.learning (m : Mach) (d : Nat) : Bool := (m.door d).learn.isSome

/-! ### Faults (R388, R389) -/

/-- The cause of a FAULT is still present (R387 reason 5). -/
def Mach.faultPresent (m : Mach) (d : Nat) : Bool :=
  match m.obj F.doorLAST_FAULT d with
  | 2 => (m.doorAx d).any (fun n => (m.stageOf n).any (fun k => m.obj F.msFAULT k != 0 && !(ug {} m.mss k : MsSt).clearable))
  | 3 => decide (m.obj F.doorFB_PORT d < 8) && m.obj F.epSTATE (m.obj F.doorFB_PORT d) == 2
  | 4 => bit (m.door d).din 0 && bit (m.door d).din 1
  | 6 => (m.board (m.obj F.doorSTORYBOARD d)).isEmpty
  | _ => false

/-- Enter FAULT through ENTRY_FAULT (R388). -/
def Mach.doorFault (m : Mach) (r : Ram) (d cause : Nat) : Mach :=
  let m := (m.learnEnd d 2).setObj F.doorLAST_FAULT d cause
  let m := m.when (cause == 2 || cause == 3) (fun m => m.setObj F.doorREF_LOST d 1)
  let m := m.updDoor d (fun x => { x with
    faultAt := some m.now
    learn := x.learn })
  let m := (m.doorState r d 8).bump F.doorFAULTS d
  let m := m.enterSeq r d 4 none
  let p := m.doorPart r d
  (m.chron { sub := 0x0A, low := 0x81, part := p, inst := d, cause := cause }).notice (m.chanOf p) 0x0A81 p [itm 1 1 d, itm 2 1 cause]

/-- The fault of R388 that has newly come up at a tick. -/
def Mach.newFault (m : Mach) (d : Nat) : Option Nat :=
  let x := m.door d
  let stage := (m.doorAx d).any (fun n => (m.ax n).stall || (m.stageOf n).any (fun k => m.obj F.msFAULT k != 0))
  let ab := (m.doorAx d).any (fun n => (m.ax n).aborted && ((m.ax n).ack / 4096 == 6 || (m.ax n).ack / 4096 == 7))
  if m.obj F.doorDOOR_STATE d = 8 then none
  else if stage && !x.stallSeen then some 2
  else if decide (m.obj F.doorFB_PORT d < 8) && m.obj F.epSTATE (m.obj F.doorFB_PORT d) == 2 then some 3
  else if x.both = 3 then some 4
  else if ab && !x.abortSeen then some 5
  else none

/-! ### Obstacles (R386, R387) -/

/-- The bin of a position, of 64 over a span from 0 (R386). -/
def binOf (open_ pos : Int) : Nat := if open_ ≤ 0 then 0 else min 63 (pos * 64 / open_).toNat

/-- The learned threshold at the present position and direction. -/
def Mach.threshold (m : Mach) (d : Nat) : Int :=
  let open_ := sint 32 (m.obj F.doorOPEN_POS d)
  let pos := m.doorPos d
  let v := (((m.door d).profile)[(if m.doorDir d = 1 then 0 else 64) + binOf open_ pos]?).getD 0
  (v * (100 + m.obj F.doorMARGIN_PCT d) / 100 + m.obj F.doorMARGIN_MA d : Nat)

/-- Methods armed: OBST_METHODS and the row's GUARD (R386). -/
def Mach.armed (m : Mach) (d i : Nat) : Bool :=
  m.obj F.doorROW d != 0xFF && bit (m.obj F.doorOBST_METHODS d) i && bit (rowB (m.door d).board (m.obj F.doorROW d) 3) i

/-- The profile method is armed (R386, R400): not before a profile is learned, in the first PROF_BLANK_MS of a request, or while learning. -/
def Mach.profileArmed (m : Mach) (d : Nat) : Bool :=
  m.armed d 0 && !m.learning d && m.isSet F.doorPROFILE_VALID d && decide ((m.door d).reqAt + m.obj F.doorPROF_BLANK_MS d * 10 ^ 6 ≤ m.now)

/-- The learned profile: for each direction and bin the highest current of all runs (R400). -/
def learnedBins (open_ : Int) (l : List (Bool × Int × Nat)) : List Nat :=
  l.foldl (fun b e =>
    let k := (if e.1 then 0 else 64) + binOf open_ e.2.1
    b.set k (max ((b[k]?).getD 0) e.2.2)) (List.replicate 128 0)

/-- Drive current of this tick: peaks of the cycle, the learn's samples, the profile method's count. -/
def Mach.takeCurrent (m : Mach) (d ma : Nat) : Mach :=
  let thr := m.threshold d
  let moving := m.doorDir d != 0
  let valid := m.isSet F.doorPROFILE_VALID d
  let up := decide (m.doorDir d = 1)
  let pos := m.doorPos d
  let armed := m.profileArmed d
  m.updDoor d (fun x => { x with
    over_ := if armed && moving && decide (thr < (ma : Int)) then x.over_ + 1 else 0
    cyc := x.cyc.map (fun c => { c with
      peakMa := max c.peakMa (min 65535 ma)
      margin := if !valid then c.margin else some (match c.margin with
        | some v => max v ((ma : Int) - thr)
        | none => (ma : Int) - thr) })
    learn := x.learn.map (fun l => if moving then { l with
        samples := (up, pos, max ma (((l.samples.find? (fun e => e.1 == up && e.2.1 == pos)).map (·.2.2)).getD 0)) ::
          l.samples.filter (fun e => !(e.1 == up && e.2.1 == pos)) } else l) })

/-- Position a millisecond ago, and the kept positions. -/
def Mach.takePos (m : Mach) (d : Nat) : Mach :=
  m.updDoor d (fun x =>
    let h := (m.now, m.doorPos d) :: x.hist
    { x with hist := h.takeWhile (fun e => decide (m.now < e.1 + 10 ^ 6)) ++ (h.dropWhile (fun e => decide (m.now < e.1 + 10 ^ 6))).take 1 })

/-- The speed-drop condition at this tick (R386). -/
def Mach.slowNow (m : Mach) (d : Nat) : Bool :=
  let x := m.door d
  let sp := match m.doorAx d with
    | some n => (m.cmdVel n).natAbs / 10 ^ 6
    | none => if x.run = 0 then 0 else rowH x.board (m.obj F.doorROW d) 8 * 16
  let peak := match m.doorAx d with
    | some n => (m.planNow n).2.2.1.natAbs == (m.peakOf n (rowH x.board (m.obj F.doorROW d) 8 * 16)) * 10 ^ 6
    | none => x.run != 0
  match x.hist.getLast? with
  | some (a, p) => peak && sp != 0 && decide (a + 10 ^ 6 ≤ m.now) &&
      decide ((m.doorPos d - p).natAbs * 1000 * 100 < sp * m.obj F.doorSPEED_DROP_PCT d)
  | none => false

/-- The method that finds an obstacle at this tick: 1 profile, 2 speed drop, 3 edge, 4 curtain. -/
def Mach.obstacleNow (m : Mach) (d : Nat) : Option Nat :=
  let x := m.door d
  if x.pend.isSome then none
  else if m.profileArmed d && decide (m.obj F.doorOBST_SAMPLES d ≤ x.over_) then some 1
  else if m.armed d 1 && x.slowAt.any (fun a => decide (a + m.obj F.doorSPEED_DROP_MS d * 10 ^ 6 ≤ m.now)) then some 2
  else if m.armed d 2 && bit x.din 2 then some 3
  else if m.armed d 3 && bit x.din 3 then some 4
  else none

/-- DOOR_OBSTACLE (R386, R387): counted, recorded; the drive stops, and the obstacle's sequence waits for standstill. -/
def Mach.obstacle (m : Mach) (r : Ram) (d how : Nat) : Mach :=
  let pos := m.doorPos d
  let k := m.obj F.doorROW d
  let b := (m.door d).board
  let rev := bit (rowB b k 3) 4 && tb (m.board (m.obj F.doorSTORYBOARD d)) 3 != 0xFF
  let p := m.doorPart r d
  let m := ((m.bump F.doorOBSTACLES d).setObj F.doorLAST_OBST_POS d (uint 32 pos)).setObj F.doorLAST_OBST_METHOD d how
  let m := m.updDoor d (fun x => { x with
    obst := true
    obstAt := some m.now
    pend := some (if rev then 3 else 2)
    over_ := 0
    slowAt := none
    said := x.said + 1
    run := 0
    cyc := x.cyc.map (fun c => { c with
      methods := setBit c.methods (how - 1) true
      obstPos := some (c.obstPos.getD pos) }) })
  let m := m.chron { sub := 0x0A, low := 0x80, part := p, inst := d, cause := how, detail := toLe 4 (uint 32 pos) }
  let m := if (m.door d).saidAt.any (fun a => decide (m.now < a + 10 ^ 9)) then m
    else (m.notice (m.chanOf p) 0x0A80 p [itm 1 1 d, itm 2 1 how, itm 3 4 (m.door d).said]).updDoor d (fun x => { x with
      saidAt := some m.now
      said := 0 })
  let m := m.learnEnd d 1
  match m.doorAx d with
  | some n => m.axHalt r n 5 0 8
  | none => m

/-! ### The step (R384) -/

/-- STEP_STATE by the conditions of R384 in their order. -/
def Mach.stepNow (m : Mach) (d : Nat) : Nat :=
  let x := m.door d
  let lim := m.obj F.doorSTEP_TIME_MS d * 10 ^ 6
  let late := fun (a : Option Nat) => a.any (fun i => decide (i + lim ≤ m.now))
  let lost := m.obj F.doorSTEP_STATE d == 4 && !bit x.din 6 && !bit x.outs 1
  if !m.isSet F.doorSTEP_PRESENT d then 0
  else if x.stepFault || (bit x.din 4 && bit x.din 5) || late x.depAt || late x.stowAt || lost then 6
  else if bit x.outs 0 && !bit x.din 5 then 2
  else if bit x.outs 1 && !bit x.din 4 then 5
  else if bit x.din 4 && !bit x.din 5 then 1
  else if bit x.din 5 && !bit x.din 6 then 3
  else if bit x.din 5 && bit x.din 6 then 4
  else 7

/-- Follow the step at a tick; entry to FAULT switches OUT0 and OUT1 off and raises STEP_FAULT. DEDUCED, log 60. -/
def Mach.stepTick (m : Mach) (r : Ram) (d : Nat) : Mach :=
  let m := m.updDoor d (fun x => { x with
    depAt := if bit x.outs 0 && !bit x.din 5 then some (x.depAt.getD m.now) else none
    stowAt := if bit x.outs 1 && !bit x.din 4 then some (x.stowAt.getD m.now) else none })
  let st := m.stepNow d
  let fresh := st = 6 ∧ !(m.door d).stepFault
  let m := (m.setObj F.doorSTEP_STATE d st).updDoor d (fun x => { x with cyc := x.cyc.map (fun c => { c with maxStep := max c.maxStep st }) })
  if fresh then
    let p := m.doorPart r d
    (m.updDoor d (fun x => { x with
      stepFault := true
      outs := x.outs / 4 * 4
      depAt := none
      stowAt := none })).notice (m.chanOf p) 0x0A83 p [itm 1 1 d]
  else m

/-! ### Permits and bindings (R390 to R392) -/

/-- The traction permit of a door (R390). -/
def Mach.permitNow (m : Mach) (d : Nat) : Bool :=
  bit (m.obj F.doorPERMIT_DOOR d) (m.obj F.doorDOOR_STATE d) && bit (m.obj F.doorPERMIT_STEP d) (m.obj F.doorSTEP_STATE d) && m.doorStill d &&
    (m.obj F.doorDIN1 d == 0xFFFFFFFF || bit (m.door d).din 1) && !m.learning d && m.obj F.doorSTORYBOARD d != 0xFF

/-- A target is inhibited while any binding to it inhibits. -/
def Mach.inhibits (m : Mach) (kind idx : Nat) : Bool :=
  m.bindsOn.any (fun b => m.obj F.bindKIND b == kind && m.obj F.bindINDEX b == idx && m.obj F.bindSTATE b == 1)

/-- A slot is a permit point that a binding forces to 0 (R391 KIND 4). -/
def Mach.permitForced (m : Mach) (pt : Nat) : Bool :=
  m.bindsOn.any (fun b => m.obj F.bindKIND b == 4 && m.obj F.bindPOINT b == pt && m.obj F.bindSTATE b == 1)

/-- Bring every axis, gear group and load channel to what its bindings ask: one that no binding inhibits any more returns to its next
source, also where the binding was removed or given another target (R15, R391, R392). -/
def Mach.applyBinds (m : Mach) (r : Ram) : Mach :=
  let m := m.each (List.range 16) (fun m i => let v := m.inhibits 1 i; if (m.ax i).trac = v then m else m.axTraction r i v)
  let m := m.each (List.range 8) (fun m i => let v := m.inhibits 2 i; if (m.gg i).trac = v then m else m.ggTraction r i v)
  m.each (List.range 32) (fun m i => let v := m.inhibits 3 i; if (m.lc i).trac = v then m else m.lcTraction r i v)

/-- Every binding follows its door's permit. -/
def Mach.bindTick (m : Mach) (r : Ram) : Mach :=
  let bs := m.bindsOn
  let m := m.each bs (fun m b =>
    let st := if m.isSet F.doorPERMIT (m.obj F.bindDOOR b) then 0 else 1
    let m := m.when (st == 1 && m.obj F.bindSTATE b == 0) (fun m => m.bump F.bindINHIBITS b)
    m.setObj F.bindSTATE b st)
  m.applyBinds r

/-! ### Commands (R382, R387) -/

/-- The reason a command is refused, 0 where it is accepted. DEDUCED, log 60. -/
def Mach.doorRefusal (m : Mach) (d cmd : Nat) : Nat :=
  let x := m.door d
  let b := m.board (m.obj F.doorSTORYBOARD d)
  let e := if cmd = 1 ∨ cmd = 4 then 0 else if cmd = 2 then 1 else if cmd = 3 then 2 else if cmd = 6 then 6 else 7
  let st := m.obj F.doorSTEP_STATE d
  if m.doorHeld d then 1
  else if cmd = 2 ∧ st ≠ 0 ∧ st ≠ 1 then 2
  else if cmd = 6 ∧ !(m.obj F.doorDOOR_STATE d = 3 ∧ m.doorStill d) then 3
  else if cmd = 2 ∧ bit (m.obj F.doorOBST_METHODS d) 3 ∧ bit x.din 3 then 4
  else if m.obj F.doorDOOR_STATE d = 8 ∧ cmd ≠ 5 ∧ (m.faultPresent d ∨ 6 ≤ cmd) then 5
  else if x.faultAt = some m.now then 5
  else if m.learning d then 6
  else if cmd = 0 ∨ 8 ≤ cmd ∨ (cmd ≠ 5 ∧ tb b e = 0xFF) then 7
  else if x.obstAt = some m.now then 8
  else 0

/-- Carry out an accepted command. -/
def Mach.doorDo (m : Mach) (r : Ram) (d cmd : Nat) : Mach :=
  match cmd with
  | 1 => m.enterMove r d 0
  | 2 => m.enterMove r d 1
  | 3 => m.enterSeq r d 2 none
  | 4 => (m.setObj F.doorHOLD d 1).enterMove r d 0
  | 5 => (m.setObj F.doorHOLD d 0).updDoor d (fun x => { x with rowAt := if rowB x.board (m.obj F.doorROW d) 0 = 3 then m.now else x.rowAt })
  | 6 => (m.updDoor d (fun x => { x with stepFault := false })).enterSeq r d 6 none
  | 7 => (m.updDoor d (fun x => { x with stepFault := false })).enterSeq r d 7 none
  | _ => m

/-- A command with its SEQ (R375, R387): accepted or refused; any command ends a learn (R400). -/
def Mach.doorCmd (m : Mach) (r : Ram) (d cmd seq : Nat) : Mach :=
  let why := m.doorRefusal d cmd
  let stop := m.learning d
  let m := m.updDoor d (fun x => { x with
    seq := seq
    ack := seq + (if why = 0 then 0 else 256 + why * 512)
    cmdAt := some m.now })
  let m := if stop then (m.learnEnd d 4).enterSeq r d 2 none else m
  if why = 0 then m.doorDo r d cmd else m

/-! ### The tick (R377, R381) -/

/-- A point below 0x00100 at this instant, after its input filter, with its quality (R377, R443, R615, R622). -/
def Mach.lowPoint (m : Mach) (pt : Nat) : Nat × Nat :=
  if pt < 32 then ((bit m.di pt).toNat, 0)
  else if 0x40 ≤ pt ∧ pt < 0x50 then (m.mirror (pt - 0x40), 0)
  else if 0x50 ≤ pt ∧ pt < 0x60 then (0, 0)
  else (0, 3)

/-- An input from a point's value and quality: bad reads active for DIN2 and DIN3, inactive otherwise. -/
def dinOf (cfg i v q : Nat) : Bool :=
  if q = 3 then i == 2 || i == 3 else bit v (field cfg 23 20) != bit cfg 24

/-- The inputs of a door at this instant. -/
def Mach.dinNow (m : Mach) (d : Nat) : Nat :=
  (List.range 8).foldl (fun v i =>
    let c := m.obj ⟨0x0A01, 8 + i, 32⟩ d
    let b := if c = 0xFFFFFFFF then false
      else if c % 2 ^ 20 < 0x100 then dinOf c i (m.lowPoint (c % 2 ^ 20)).1 (m.lowPoint (c % 2 ^ 20)).2
      else bit (m.door d).far i
    setBit v i b) 0

/-- Inputs on points from 0x00100 on, at the owning partition's image swap (R377). -/
def Mach.swapDoors (m : Mach) (r : Ram) (p : Nat) : Mach :=
  m.each (m.doorsOn.filter (fun d => m.doorOwner r d == some p)) (fun m d =>
    m.updDoor d (fun x => { x with far := (List.range 8).foldl (fun v i =>
      let c := m.obj ⟨0x0A01, 8 + i, 32⟩ d
      setBit v i (dinOf c i (rd r .front (frontAt p (c % 2 ^ 20))) (rd r .frontQ (frontAt p (c % 2 ^ 20))))) 0 }))

/-- The row's wait is met (R381). -/
def Mach.waitMet (m : Mach) (d : Nat) : Bool :=
  let x := m.door d
  let k := m.obj F.doorROW d
  let arg := rowB x.board k 11
  match rowB x.board k 10 with
  | 0 => m.driveDone d
  | 1 => bit x.din (arg % 8)
  | 2 => !bit x.din (arg % 8)
  | 3 => decide (x.rowAt + rowH x.board k 12 * 10 ^ 6 ≤ m.now) && !(m.isSet F.doorHOLD d && rowB x.board k 0 == 3)
  | 4 => m.obj F.doorSTEP_STATE d == arg
  | _ => false

/-- TIME_MS has run out. -/
def Mach.rowLate (m : Mach) (d : Nat) : Bool :=
  let x := m.door d
  let k := m.obj F.doorROW d
  rowH x.board k 12 != 0 && decide (x.rowAt + rowH x.board k 12 * 10 ^ 6 ≤ m.now) && !(m.isSet F.doorHOLD d && rowB x.board k 0 == 3)

/-- Row wait and timeout at a tick after the row's entry. DEDUCED, log 60. -/
def Mach.rowTick (m : Mach) (r : Ram) (d : Nat) : Mach :=
  let x := m.door d
  let k := m.obj F.doorROW d
  if k = 0xFF ∨ m.now ≤ x.rowAt then m
  else if m.waitMet d then
    let ok := rowB x.board k 14
    if ok ≠ 0xFF then m.enterRow r d ok
    else
      let m := m.updDoor d (fun y => { y with run := 0 })
      match x.next_ with
      | some e => m.enterSeq r d e none
      | none => m.setObj F.doorROW d 0xFF
  else if m.rowLate d then
    let to_ := rowB x.board k 15
    if to_ = 0xFF then m.doorFault r d 1 else m.enterRow r d to_
  else m

/-- A learn at a tick: the end of an opening or closing, the next one, the end of the runs. DEDUCED, log 60. -/
def Mach.learnTick (m : Mach) (r : Ram) (d : Nat) : Mach :=
  match (m.door d).learn with
  | none => m
  | some l =>
    let k := m.obj F.doorROW d
    let st := rowB (m.door d).board k 0
    let ended := k = 0xFF ∨ (l.up ∧ st = 3) ∨ (!l.up ∧ st = 1)
    if l.result.isSome ∨ !ended ∨ !m.doorStill d then m
    else
      let pos := m.doorPos d
      if l.up then (m.updDoor d (fun x => { x with learn := some { l with
          up := false
          opens := pos :: l.opens } })).enterSeq r d 1 none
      else
        let closes := pos :: l.closes
        let m := m.updDoor d (fun x => { x with learn := some { l with
          closes := closes
          up := true
          left := l.left - 1 } })
        if 0 < l.left then m.enterSeq r d 0 none
        else
          let span := fun (v : List Int) => (v.foldl max (v.headD 0) - v.foldl min (v.headD 0)).natAbs
          let open_ := (l.opens.headD 0).natAbs
          if open_ * 2 < span l.opens * 100 ∨ open_ * 2 < span closes * 100 then (m.learnEnd d 3).enterSeq r d 2 none
          else (m.learnEnd d 0).setObj F.doorROW d 0xFF

/-- The action of FALLBACK_ACTION (R395). -/
def Mach.doorFallback (m : Mach) (r : Ram) (d : Nat) : Mach :=
  let act := m.obj F.doorFALLBACK_ACTION d
  let cmd := if act = 1 then 1 else if act = 2 then 2 else 3
  let m := m.updDoor d (fun x => { x with fallAt := none })
  if m.doorRefusal d cmd = 0 then m.doorDo r d cmd else if m.doorHeld d then m else m.enterSeq r d 2 none

/-- A new command stands at the owner's Clapper of this instant, so the row's wait gives way to it (R382). -/
def Mach.cmdDue (m : Mach) (r : Ram) (d : Nat) : Bool :=
  match m.doorOwner r d with
  | some p => decide (m.period p ≠ 0) && m.gz % (max 1 (m.period p)) == 0 && rd r .next (0x00600 + 8 * d) / 256 != (m.door d).seq
  | none => false

/-- A reversal is counted (R396, R397). -/
def Mach.countReversal (m : Mach) (d : Nat) : Mach :=
  (m.bump F.doorREVERSALS d).updDoor d (fun x => { x with cyc := x.cyc.map (fun (c : CycSt) => { c with reversals := c.reversals + 1 }) })

/-- One door at a tick: inputs, fault, obstacle, fallback, row; the step; the permit. -/
def Mach.tickDoor (m : Mach) (r : Ram) (mas : List (Nat × Nat)) (d : Nat) : Mach :=
  let m := (m.doorAx d).elim m (fun n => m.axSettle r n)
  let lost := match m.doorAx d with
    | some n => (m.ax n).refLost
    | none => decide (m.obj F.doorFB_PORT d < 8) && (m.ep (m.obj F.doorFB_PORT d)).refLost
  let m := m.when lost (fun m => m.setObj F.doorREF_LOST d 1)
  let din := m.dinNow d
  let m := m.updDoor d (fun x => { x with
    din := din
    both := if bit din 0 && bit din 1 then min 3 (x.both + 1) else 0 })
  let m := m.takePos d
  let m := (mas.find? (fun e => e.1 == d)).elim m (fun e => m.takeCurrent d e.2)
  let m := m.updDoor d (fun x => { x with slowAt := if m.slowNow d then some (x.slowAt.getD m.now) else none })
  let m := m.stepTick r d
  let fault := m.newFault d
  let stall := (m.doorAx d).any (fun n => (m.ax n).stall || (m.stageOf n).any (fun k => m.obj F.msFAULT k != 0))
  let ab := (m.doorAx d).any (fun n => (m.ax n).aborted)
  let m := m.updDoor d (fun x => { x with
    stallSeen := stall
    abortSeen := ab })
  let held := (m.doorAx d).any m.axHeld
  let late := (m.door d).cmdAt == some m.now
  let m :=
    match fault with
    | some c => (m.doorFault r d c).when late (fun m => m.updDoor d (fun x => { x with ack := x.seq + 256 + 5 * 512 }))
    | none =>
      if held then
        if (m.door d).inhibited then m
        else
          let m := (m.learnEnd d 2).updDoor d (fun x => { x with
            inhibited := true
            pend := none
            next_ := none })
          (if m.obj F.doorDOOR_STATE d = 8 then m else m.doorState r d 5).setObj F.doorROW d 0xFF
      else
        let m := m.updDoor d (fun x => { x with inhibited := false })
        match m.obstacleNow d with
        | some how => (m.obstacle r d how).when late (fun m => m.updDoor d (fun x => { x with ack := x.seq + 256 + 8 * 512 }))
        | none =>
          match (m.door d).pend with
          | some e =>
            if m.doorStill d then
              (if e = 3 then m.countReversal d else m).enterSeq r d e none
            else m
          | none =>
            if (m.door d).fallAt.any (fun a => decide (a < m.now)) then m.doorFallback r d
            else if late || m.cmdDue r d then m
            else (m.rowTick r d).learnTick r d
  let m := m.outGuard d
  m.setObj F.doorPERMIT d (m.permitNow d).toNat

/-- DOOR_TICK (R381): every door, then the bindings. In STAND-IN and before mode entry the engine is idle (R395). The tick brings the
drive currents sampled since the last, door and mA. DEDUCED, log 60. -/
def execDoorTick (t : Nat) (mas : List (Nat × Nat)) (s : State) : Out :=
  evR t (fun r m => if m.mode = 3 ∨ m.mode = 0xFF then (m, []) else ((m.each m.doorsOn (fun m d => m.tickDoor r mas d)).bindTick r, [])) s

/-- ROW_TIMEOUT (R381). -/
def execRowTimeout (t : Nat) (n : Fin 256) (s : State) : Out :=
  evR t (fun r m => if m.mode = 3 ∨ m.mode = 0xFF ∨ m.waitMet n.val ∨ !m.rowLate n.val then (m, []) else (m.rowTick r n.val, [])) s

/-- STEP_TIME_EXPIRY (R384). -/
def execStepTimeExpiry (t : Nat) (n : Fin 256) (s : State) : Out :=
  evR t (fun r m => if m.mode = 3 ∨ m.mode = 0xFF then (m, []) else (m.stepTick r n.val, [])) s

/-! ### At the Clapper (R375, R376, R378, R395) -/

/-- Doors of a partition at its Clapper: commands and fallback. -/
def Mach.clapDoors (m : Mach) (r : Ram) (p : Nat) : Mach :=
  if m.mode = 3 then m
  else m.each (m.doorsOn.filter (fun d => m.doorOwner r d == some p)) (fun m d =>
    let w := rd r .next (0x00600 + 8 * d)
    if rd r .nextQ (0x00600 + 8 * d) = 3 then
      m.updDoor d (fun x => { x with
        fell := true
        fallAt := if x.fell || !m.running then x.fallAt else some m.now })
    else
      let m := m.updDoor d (fun x => { x with fell := false })
      if field w 15 8 = (m.door d).seq then m
      else if w % 256 = 0 then m.updDoor d (fun x => { x with seq := field w 15 8 })
      else m.doorCmd r d (w % 256) (field w 15 8))

/-- What a door claims of a load channel (R378): its outputs, its drive channels. -/
def Mach.doorClaims (m : Mach) (d : Nat) : List (Nat × Bool) :=
  let x := m.door d
  let outs := (List.range 4).map (fun i => (m.obj ⟨0x0A01, 16 + i, 8⟩ d, bit x.outs i))
  let drv := if m.obj F.doorDRIVE_KIND d = 2 then [(m.obj F.doorDRIVE d, x.run == 1), (m.obj F.doorCLOSE_LC d, x.run == 2)] else []
  (outs ++ drv).filter (fun e => decide (e.1 < 32))

/-- The door engine is the program source of its channels (R378): what it claims stands in their CMD slots at the Clapper. -/
def Mach.doorOuts (m : Mach) (r : Ram) (p : Nat) : List W :=
  if m.mode = 3 then []
  else (m.doorsOn.filter (fun d => m.doorOwner r d == some p)).flatMap (fun d =>
    (m.doorClaims d).flatMap (fun e => if rd r .nextQ (0x00100 + 6 * e.1) = 1 then []
      else [.put .next (0x00100 + 6 * e.1) e.2.toNat, .put .nextQ (0x00100 + 6 * e.1) 0]))

/-- STATUS of a door (R376). -/
def Mach.doorStatus (m : Mach) (d : Nat) : Nat :=
  let x := m.door d
  m.obj F.doorPERMIT d + x.obst.toNat * 2 + (m.obj F.doorDOOR_STATE d == 8).toNat * 4 + m.obj F.doorHOLD d * 8 + m.obj F.doorREF_LOST d * 16 +
    (m.doorHeld d).toNat * 32 + (m.learning d).toNat * 64 + m.obj F.doorPROFILE_VALID d * 128 + (bit x.din 3).toNat * 256 + (bit x.din 2).toNat * 512

/-- Latch the doors' slots (R375, R376). -/
def Mach.latchDoors (m : Mach) (r : Ram) (p : Nat) : Mach × List W :=
  (m.doorsOn.filter (fun d => m.doorOwner r d == some p)).foldl (fun y d =>
    let m := y.1
    let b := 0x00600 + 8 * d
    (m.updDoor d (fun x => { x with obst := false }),
     y.2 ++ backPut p (b + 1) (m.doorStatus d) 0 ++ backPut p (b + 2) (m.obj F.doorDOOR_STATE d + m.obj F.doorSTEP_STATE d * 256) 0 ++
       backPut p (b + 3) (m.door d).ack 0 ++ back32 p (b + 4) (m.obj F.doorCYCLES d) 0 ++ back32 p (b + 6) (m.obj F.doorOBSTACLES d) 0)) (m, [])

/-! ### Bring-up, modes, the wrap (R383, R395) -/

/-- Doors start in the state their limits show, with every target inhibited. -/
def Mach.doorsInit (m : Mach) (r : Ram) : Mach :=
  let m := m.each m.doorsOn (fun m d =>
    let din := m.dinNow d
    let st := if bit din 0 && !bit din 1 then 1 else if bit din 1 && !bit din 0 then 3 else 0
    (((m.setObj F.doorDOOR_STATE d st).setObj F.doorROW d 0xFF).setObj F.doorPERMIT d 0).updDoor d (fun x => { x with
      din := din
      stateAt := m.now }))
  (m.each m.bindsOn (fun m b => m.setObj F.bindSTATE b 1)).applyBinds r

/-- SAFE-HALT: every door stops through ENTRY_STOP. -/
def Mach.doorsStop (m : Mach) (r : Ram) : Mach :=
  m.each m.doorsOn (fun m d => if m.doorHeld d then m else (m.learnEnd d 2).enterSeq r d 2 none)

/-- HOLDUP: moving doors make a quick stop and open cycle records end. -/
def Mach.doorsWrap (m : Mach) (r : Ram) : Mach :=
  m.each m.doorsOn (fun m d =>
    let m := if m.doorStill d then m else match m.doorAx d with
      | some n => m.axHalt r n 5 0 8
      | none => m.updDoor d (fun x => { x with run := 0 })
    m.endCycle r d 3)

/-! ### Commands of the host (R399 to R401) -/

/-- The card of DOOR_COMMAND. -/
def doorCommandCard : Card :=
  { op := 0x0A10, bulk := false, modes := [0], items := [⟨1, 1, 1, true, false⟩, ⟨2, 1, 1, true, false⟩],
    valOk := fun ty v => ty != 2 || (decide (1 ≤ beNat v) && decide (beNat v ≤ 7)) }

/-- The effect of DOOR_COMMAND (R399): the commissioning value of CMD, with the next SEQ. DEDUCED, log 73. -/
def doorCommand (c : Cmd) (r : Ram) (m : Mach) : Res :=
  let d := c.num 1
  let own := m.doorOwner r d
  if m.obj F.doorSTORYBOARD d = 0xFF then Res.bad m 1
  else if !isSys c.owner && own ≠ some c.owner then Res.fail m stNOT_OWNER
  else
    let why := m.doorRefusal d (c.num 2)
    if why ≠ 0 then Res.fail (if m.learning d then (m.learnEnd d 4).enterSeq r d 2 none else m) 0x1A03 [itm 2 1 why]
    else
      let b := 0x00600 + 8 * d
      let seq := (((commOf r b).map (· / 256)).getD (m.door d).seq + 1) % 256
      Res.done m [itm 1 8 ((own.map m.applyGz).getD 0)] (commPut b [c.num 2 + seq * 256])

/-- DOOR_COMMAND (R399). -/
def execDoorCommand (msg : Msg) (s : State) : Out :=
  zcp doorCommandCard doorCommand msg s

/-- The card of DOOR_LEARN. -/
def doorLearnCard : Card :=
  { op := 0x0A11, bulk := true, modes := [0, 5], items := [⟨1, 1, 1, true, false⟩, ⟨2, 1, 1, false, false⟩],
    valOk := fun ty v => ty != 2 || (decide (1 ≤ beNat v) && decide (beNat v ≤ 8)) }

/-- The effect of DOOR_LEARN (R400). DEDUCED, log 73. -/
def doorLearn (c : Cmd) (r : Ram) (m : Mach) : Res :=
  let d := c.num 1
  let b := m.board (m.obj F.doorSTORYBOARD d)
  if m.obj F.doorSTORYBOARD d = 0xFF then Res.bad m 1
  else if !isSys c.owner && m.doorOwner r d ≠ some c.owner then Res.fail m stNOT_OWNER
  else if m.learning d then Res.fail m 0x1A03 [itm 2 1 6]
  else if m.doorHeld d then Res.fail m 0x1A03 [itm 2 1 1]
  else if m.obj F.doorDOOR_STATE d ≠ 1 ∨ !m.doorStill d ∨ m.isSet F.doorREF_LOST d then Res.fail m 0x1A03 [itm 2 1 9]
  else if tb b 0 = 0xFF ∨ tb b 1 = 0xFF then Res.fail m 0x1A03 [itm 2 1 7]
  else
    let l : LearnSt := ⟨c.q, c.seq, c.num 2 3 - 1, true, [], [], [], none⟩
    let m := (m.doorState r d 9).updDoor d (fun x => { x with learn := some l })
    Res.started (m.enterSeq r d 0 none)

/-- DOOR_LEARN (R400). -/
def execDoorLearn (msg : Msg) (s : State) : Out :=
  zcp doorLearnCard doorLearn msg s

/-- DOOR_LEARNED (R400): the learn of a door that has ended completes. DEDUCED, log 73. -/
def execDoorLearned (t : Nat) (n : Fin 256) (s : State) : Out :=
  evR t (fun r m =>
    let d := n.val
    match (m.door d).learn with
    | none => (m, [])
    | some l =>
      match l.result with
      | none => (m, [])
      | some 0 =>
        let open_ := uint 32 (l.opens.headD 0)
        let m := m.updDoor d (fun x => { x with
          learn := none
          profile := learnedBins (l.opens.headD 0) l.samples })
        let m := (((m.doorState r d 1).setObj F.doorOPEN_POS d open_).setObj F.doorPROFILE_VALID d 1)
        let p := m.doorPart r d
        ((m.notice (m.chanOf p) 0x0A82 p [itm 1 1 d]).complete l.queue 0x0A11 l.seq 0 [itm 1 4 open_] p, [])
      | some c =>
        let m := m.updDoor d (fun x => { x with learn := none })
        let st := rowB (m.door d).board (m.obj F.doorROW d) 0
        let m := if m.obj F.doorDOOR_STATE d = 9 then m.doorState r d (if 1 ≤ st ∧ st ≤ 8 ∧ m.obj F.doorROW d ≠ 0xFF then st else 5) else m
        (m.complete l.queue 0x0A11 l.seq 0x1A02 [itm 2 1 c] (m.doorPart r d), [])) s

/-- The first faulty row of a table (R385), 0xFF the header; none where it is sound. -/
def boardFault (b : List Nat) : Option Nat :=
  let rows := tb b 8
  let far := fun (v : Nat) => v != 0xFF && decide (rows ≤ v)
  let head := rows = 0 ∨ 32 < rows ∨ (List.range 8).any (fun i => far (tb b i)) ∨ tb b 2 = 0xFF ∨ tb b 4 = 0xFF ∨
    ((b.drop 9).take 7).any (· != 0)
  if head then some 0xFF
  else (List.range rows).find? (fun k =>
    let st := rowB b k 0
    let op := rowB b k 1
    let o := rowB b k 2
    let w := rowB b k 10
    far (rowB b k 14) || far (rowB b k 15) || !(st == 0xFF || (decide (1 ≤ st) && decide (st ≤ 8))) || decide (6 < op) || decide (5 < w) ||
      (decide (w = 1 ∨ w = 2 ∨ w = 4) && decide (7 < rowB b k 11)) || decide (32 ≤ rowB b k 3) ||
      (decide (op = 1 ∨ op = 2) && (rowH b k 12 == 0 || st == 1 || st == 3)) || (field o 5 4 == 3 && o % 4 == 3))

/-- A door whose drive cannot run a table (R385). -/
def Mach.boardMisfits (m : Mach) (b : List Nat) (d : Nat) : Bool :=
  let ops := (List.range (tb b 8)).map (fun k => rowB b k 1)
  (m.obj F.doorDRIVE_KIND d == 0 && ops.any (fun o => o == 1 || o == 2 || o == 6)) ||
    (m.obj F.doorDRIVE_KIND d == 2 && m.obj F.doorFB_PORT d == 0xFF && ops.contains 1)

/-- The card of STORYBOARD_LOAD. -/
def storyboardLoadCard : Card :=
  { op := 0x0A12, bulk := true, modes := [0, 1, 2], sysOnly := true, items := [⟨1, 1, 1, true, false⟩, ⟨2, 32, 528, true, false⟩],
    valOk := fun ty v => ty != 1 || decide (beNat v ≤ 63) }

/-- The effect of STORYBOARD_LOAD (R401): the table is in force from the next sequence a door enters. -/
def storyboardLoad (c : Cmd) (m : Mach) : Res :=
  let k := c.num 1
  let b := c.bytes 2
  if 1 ≤ tb b 8 ∧ tb b 8 ≤ 32 ∧ b.length ≠ 16 + 16 * tb b 8 then Res.fail m stBAD_LENGTH [⟨0xF5, [2]⟩]
  else
    match boardFault b with
    | some row => Res.fail m 0x1A01 [itm 3 1 row]
    | none =>
      if (m.doorsOn.filter (fun d => m.obj F.doorSTORYBOARD d == k)).any (m.boardMisfits b) then Res.fail m 0x1905
      else Res.done { m with boards := aset m.boards k b } [itm 1 4 (Config.sha256 b / 2 ^ 224)]

/-- STORYBOARD_LOAD (R401). -/
def execStoryboardLoad (msg : Msg) (s : State) : Out :=
  zcpM storyboardLoadCard storyboardLoad msg s

end Sys2Proof.Machine
end

