-- ==== Sys2Proof/Machine/SafetyFn.lean ====
section
/-! DEFINITION. The Safety Island's functions, outputs, brakes, remote inputs and parameter sets (spec/15), and the limp map (R308, R309). -/
namespace Sys2Proof.Machine

/-- A safety function's inner state. -/
def Mach.sfn (m : Mach) (f : Nat) : SfSt := ug {} m.isl.fns f
/-- Change it. -/
def Mach.updSfn (m : Mach) (f : Nat) (g : SfSt → SfSt) : Mach := m.updIsl (fun i => { i with fns := uset {} i.fns f g })
/-- A GFP-S connection. -/
def Mach.link (m : Mach) (c : Nat) : GfpsSt := ug {} m.isl.conns c
/-- Change it. -/
def Mach.updLink (m : Mach) (c : Nat) (g : GfpsSt → GfpsSt) : Mach := m.updIsl (fun i => { i with conns := uset {} i.conns c g })

/-! ### Function rows (R459) -/

/-- A function is in use, is reset by a pulse, needs a first pulse. -/
def fnOn (s : Table Nat) (f : Nat) : Bool := bit (setB s (fnAt f + 19)) 0
def fnManual (s : Table Nat) (f : Nat) : Bool := bit (setB s (fnAt f + 19)) 1
def fnStart (s : Table Nat) (f : Nat) : Bool := bit (setB s (fnAt f + 19)) 2
/-- Its sources, SQ_NOW, SQ_DELAYED, LC_MASK, AX_MASK, DELAY_MS, RESET_SRC. -/
def fnSources (s : Table Nat) (f : Nat) : List Nat := (List.range 8).map (fun i => setH s (fnAt f + 2 * i))
def fnNow (s : Table Nat) (f : Nat) : Nat := setB s (fnAt f + 16)
def fnDelayed (s : Table Nat) (f : Nat) : Nat := setB s (fnAt f + 17)
def fnLcs (s : Table Nat) (f : Nat) : Nat := setW s (fnAt f + 20)
def fnAxes (s : Table Nat) (f : Nat) : Nat := setH s (fnAt f + 24)
def fnDelay (s : Table Nat) (f : Nat) : Nat := setH s (fnAt f + 26)
def fnReset (s : Table Nat) (f : Nat) : Nat := setH s (fnAt f + 28)
/-- Functions in use. -/
def fnsOn (s : Table Nat) : List Nat := (List.range 64).filter (fnOn s)
/-- Gated load channels (R437, R459). -/
def gatedOf (s : Table Nat) (n : Nat) : Bool := (fnsOn s).any (fun f => bit (fnLcs s f) n)

/-! ### Demands (R446, R452) -/

/-- The stop request point of a partition as the island sees it (R189): its fault mask where the partition is unused. -/
def Mach.stopRequest (m : Mach) (r : Ram) (p : Nat) : Nat := if m.used p then rd r .applied (0x00EF0 + p) else setH m.isl.set (352 + 2 * p)

/-- A source is in demand. -/
def Mach.demand (m : Mach) (r : Ram) (c : Nat) : Bool :=
  if c < 16 then !m.pairHealthy c
  else if 0x1000 ≤ c ∧ c ≤ 0x4FFF then !(m.link ((c - 0x1000) / 64)).healthy || !bit (m.link ((c - 0x1000) / 64)).data ((c - 0x1000) % 64)
  else if 0x5000 ≤ c ∧ c ≤ 0x507F then bit (m.stopRequest r ((c - 0x5000) / 16)) (c % 16)
  else false

/-- A brake is held for a failed or an overdue test. -/
def Mach.brakeHeld (m : Mach) (k : Nat) : Bool :=
  let x := m.brake k
  setB m.isl.set (brakeAt k) != 0xFF && (x.failed || (x.due && bit (setB m.isl.set (brakeAt k + 1)) 0))

/-- First source of a function in demand: its own in order, a held brake (0xFFFE), an output fault (no source: 0xFFFF). DEDUCED, log 63. -/
def Mach.firstDemand (m : Mach) (r : Ram) (f : Nat) : Option Nat :=
  let s := m.isl.set
  let sq := (fnNow s f).lor (fnDelayed s f)
  match (fnSources s f).find? (fun c => m.demand r c) with
  | some c => some c
  | none =>
    if (List.range 4).any (fun k => bit sq (4 + k) && m.brakeHeld k) then some 0xFFFE
    else if sq.land m.isl.sqFault ≠ 0 then some 0xFFFF
    else none

/-- The set in force names another module ID (R222). -/
def Mach.idHeld (m : Mach) : Bool := m.isl.set != m.factorySafety && setH m.isl.set 4 != m.obj F.modMODULE_ID

/-- The island cannot arm a function: not ACTIVE, or under another ID. -/
def Mach.islHeld (m : Mach) : Bool := m.obj F.islSTATE != 1 || m.idHeld

/-! ### Outputs (R436, R437, R447, R451, R452) -/

/-- A function is armed. -/
def Mach.armedFn (m : Mach) (f : Nat) : Bool := m.obj F.islSTATE == 1 && m.obj F.sfSTATE f == 1

/-- R452 allows a brake output. -/
def Mach.brakeFree (m : Mach) (k : Nat) : Bool :=
  let x := m.brake k
  setB m.isl.set (brakeAt k) == 0xFF ||
    (x.enAt.any (fun a => decide (a + setH m.isl.set (brakeAt k + 10) * 10 ^ 6 ≤ m.now)) && x.test.isNone && !m.brakeHeld k)

/-- SQn is on: named, every function naming it armed (a delayed one until its delay ends), no fault, its group switch closed. DEDUCED, log 63. -/
def Mach.sqWant (m : Mach) (n : Nat) : Bool :=
  let s := m.isl.set
  let fs := (fnsOn s).filter (fun f => bit (fnNow s f) n || bit (fnDelayed s f) n)
  m.obj F.islSTATE == 1 && !fs.isEmpty && !bit m.isl.sqFault n && bit m.isl.groups (n / 4) && (decide (n < 4) || m.brakeFree (n - 4)) &&
    fs.all (fun f => m.armedFn f || (bit (fnDelayed s f) n && m.obj F.sfSTATE f == 4 && (m.sfn f).delayEnd.any (fun e => decide (m.now < e))))

/-- Write the outputs, gate lines and stop lines (R438 step 3). -/
def Mach.islOut (m : Mach) (r : Ram) : Mach :=
  let s := m.isl.set
  let m := m.each (List.range 4) (fun m k =>
    let a := setB s (brakeAt k)
    m.updBrake k (fun x => { x with enAt := if a ≠ 0xFF ∧ m.driveOn a then some (x.enAt.getD m.now) else none }))
  let off := (fnsOn s).filter (fun f => !m.armedFn f)
  let m := m.each (List.range 16) (fun m a =>
    let b := off.any (fun f => bit (fnAxes s f) a)
    if (m.ax a).isl = b then m else m.axIsland r a b)
  let m := m.each (List.range 32) (fun m n =>
    let b := off.any (fun f => bit (fnLcs s f) n)
    if (m.lc n).isl = b then m else m.lcIsland r n b)
  m.updIsl (fun i => { i with sqOn := (List.range 8).foldl (fun v n => setBit v n (m.sqWant n)) 0 })

/-! ### Trips and resets (R447 to R450) -/

/-- SAFETY_TRIP (R447): 0xFFFD is a hold by mode or set switch, which writes no trip record. -/
def Mach.sfTrip (m : Mach) (f src : Nat) : Mach :=
  let s := m.isl.set
  let was := m.obj F.sfSTATE f = 2 ∨ m.obj F.sfSTATE f = 3 ∨ m.obj F.sfSTATE f = 4
  if was ∧ src ≠ 0xFFFD then m.updSfn f (fun x => { x with since := none })
  else
    let delay := fnDelayed s f ≠ 0 ∧ src ≠ 0xFFFD
    let m := m.setObj F.sfFIRST_SOURCE f src
    let m := m.updSfn f (fun x => { x with
      tripAt := m.now
      since := none
      pulse := false
      need := x.need || (src == 0xFFFD && fnStart s f)
      delayEnd := if delay then some (m.now + fnDelay s f * 10 ^ 6) else if src = 0xFFFD then none else x.delayEnd })
    let m := m.setObj F.sfSTATE f (if delay then 4 else 2)
    if was then m
    else
      let m := ((m.bump F.sfTRIPS f).bump F.islTRIPS).setObj F.sfLAST_TRIP f m.gzStamp
      if src = 0xFFFD then m
      else (m.chron { sub := 0x0C, low := 0x80, part := 0xFE, inst := f, cause := src }).notice 0 0x0C80 0xFF [itm 1 1 f, itm 2 2 src]

/-- The reset conditions of a tripped function hold (R449). -/
def Mach.sfReady (m : Mach) (r : Ram) (f : Nat) : Bool :=
  !m.islHeld && (m.firstDemand r f).isNone && (m.sfn f).delayEnd.all (fun e => decide (e ≤ m.now))

/-- A function is armed again. DEDUCED, log 63. -/
def Mach.sfArm (m : Mach) (f : Nat) : Mach :=
  let m := (m.setObj F.sfSTATE f 1).updSfn f (fun x => { x with
    need := false
    pulse := false
    since := none
    delayEnd := none })
  ((m.setObj F.sfLAST_RESET f m.gzStamp).chron { sub := 0x0C, low := 0x81, part := 0xFE, inst := f }).notice 0 0x0C81 0xFF [itm 1 1 f]

/-- Automatic re-arming after 100 ms of healthy sources. -/
def Mach.sfAuto (m : Mach) (r : Ram) (f : Nat) : Mach :=
  let x := m.sfn f
  if !fnOn m.isl.set f ∨ m.obj F.sfSTATE f ≤ 1 ∨ fnManual m.isl.set f ∨ x.need ∨ !m.sfReady r f then m
  else if x.since.any (fun a => decide (a + 100000000 ≤ m.now)) then m.sfArm f else m

/-- One function in a safety cycle (R438 step 2). -/
def Mach.sfEval (m : Mach) (r : Ram) (f : Nat) : Mach :=
  let pulse := (m.sfn f).pulse
  let m := m.updSfn f (fun x => { x with pulse := false })
  let tripped := 2 ≤ m.obj F.sfSTATE f
  if m.islHeld then (m.sfTrip f 0xFFFD).when pulse (fun m => m.bump F.islRESETS_REFUSED)
  else
    match m.firstDemand r f with
    | some c => (m.sfTrip f c).when pulse (fun m => m.bump F.islRESETS_REFUSED)
    | none =>
      if !tripped then (if m.obj F.sfSTATE f = 0 then m.sfTrip f 0xFFFD else m)
      else
        let m := m.updSfn f (fun x => { x with since := some (x.since.getD m.now) })
        if !m.sfReady r f then m
        else if pulse then m.sfArm f
        else (m.setObj F.sfSTATE f 3).sfAuto r f

/-- STATE of the functions: disabled, delaying, ready or not (R468). -/
def Mach.sfSync (m : Mach) (r : Ram) (f : Nat) : Mach :=
  if !fnOn m.isl.set f then (if m.obj F.sfSTATE f = 0 then m else m.setObj F.sfSTATE f 0)
  else if m.obj F.sfSTATE f ≤ 1 then m
  else m.setObj F.sfSTATE f (if (m.sfn f).delayEnd.any (fun e => decide (m.now < e)) then 4 else if m.sfReady r f then 3 else 2)

/-- An edge of a reset input (R449): what a falling edge ending a pulse does to the functions naming it. -/
def Mach.resetEdge (m : Mach) (r : Ram) (src : Nat) (level : Bool) : Mach :=
  let s := m.isl.set
  let x : RstSt := ug {} m.isl.rsts src
  let lo := setH s 12 * 10 ^ 6
  let hi := setH s 14 * 10 ^ 6
  let put := fun (m : Mach) (y : RstSt) => m.updIsl (fun i => { i with rsts := uset {} i.rsts src (fun _ => y) })
  if level then
    if x.level then m
    else put m ⟨true, x.lowAt, if x.lowAt.getD 0 + lo ≤ m.now then some m.now else none⟩
  else
    let m := put m ⟨false, some m.now, none⟩
    let fs := (fnsOn s).filter (fun f => fnReset s f == src && (fnManual s f || fnStart s f))
    if !x.level ∨ fs = [] then m
    else
      match x.riseAt with
      | none => m.bump F.islRESETS_REFUSED
      | some a =>
        if m.now < a + lo ∨ a + hi < m.now then m.bump F.islRESETS_REFUSED
        else m.each (fs.filter (fun f => decide (2 ≤ m.obj F.sfSTATE f) && (fnManual s f || (m.sfn f).need))) (fun m f =>
          if (m.sfn f).tripAt < a ∧ m.sfReady r f then m.updSfn f (fun y => { y with pulse := true }) else m.bump F.islRESETS_REFUSED)

/-! ### Remote inputs (R444, R445) -/

/-- Entry of a connection in use. -/
def linkOn (s : Table Nat) (c : Nat) : Bool := setH s (linkAt c) != 0

/-- The loss of a connection: its bits read 0 (R445). -/
def Mach.linkLost (m : Mach) (c : Nat) : Mach :=
  let x := m.link c
  if !linkOn m.isl.set c ∨ x.quiet < setH m.isl.set (linkAt c + 4) ∨ (x.last.isNone && !x.healthy) then m
  else
    let m := m.updLink c (fun y => { y with
      last := none
      healthy := false
      good := 0
      data := 0 })
    ((m.bump F.islCONN_LOSSES).chron { sub := 0x0C, low := 0x82, part := 0xFE, inst := c, cause := 0, detail := [3] }).notice 0 0x0C82 0xFF
      [itm 1 1 0, itm 2 2 c, itm 3 1 3]

/-- A connection at a safety cycle: the cycle's telegram counts once; the watchdog (R444, R445). -/
def Mach.linkCycle (m : Mach) (r : Ram) (c : Nat) : Mach :=
  let x := m.link c
  let m := m.updLink c (fun y =>
    if y.got then
      let g := if y.one then min 3 (y.good + 1) else 0
      { y with
        got := false
        quiet := 0
        good := g
        healthy := y.healthy || g == 3 }
    else { y with quiet := min 65535 (y.quiet + 1) })
  let m := m.linkLost c
  let y := m.link c
  let bits := fun (z : GfpsSt) (b : Nat) => z.healthy && bit z.data b
  let srcs := ((fnsOn m.isl.set).map (fnReset m.isl.set)).filter (fun s => decide (0x1000 + 64 * c ≤ s) && decide (s < 0x1000 + 64 * c + 64))
  m.each (srcs.eraseDups) (fun m s =>
    let lv := bits y (s % 64)
    let cur := (ug {} m.isl.rsts s : RstSt).level
    if lv = cur then m else let _ := x; m.resetEdge r s lv)

/-- Bytes the CRC of a telegram covers (R444). -/
def telegramBytes (moduleId place conn counter data : Nat) : List Nat :=
  toBe 2 moduleId ++ [place % 256] ++ toBe 2 conn ++ toBe 2 counter ++ toBe 8 data

/-- SAFETY_IN (R249, R444): place is trunk × 256 + place. DEDUCED, log 63. -/
def execSafetyIn (t : Nat) (place : Fin 1024) (conn counter data crc : Nat) (s : State) : Out :=
  ev t (fun m =>
    let set := m.isl.set
    let bad := m.bump F.islTELEGRAMS_REFUSED
    match (List.range 256).find? (fun c => conn != 0 && setH set (linkAt c) == conn && setB set (linkAt c + 2) == place.val / 256 &&
        setB set (linkAt c + 3) == place.val % 256) with
    | none => bad
    | some c =>
      if crc32c (telegramBytes (m.obj F.modMODULE_ID) place.val conn counter data) ≠ crc ∨ counter = 0 ∨ 65535 < counter then bad
      else
        let d := ((m.link c).last.map (fun l => (counter + 65535 - l) % 65535)).getD 2
        if d = 0 ∨ 32 < d then bad
        else m.updLink c (fun x => { x with
          one := (m.link c).last.isSome && d == 1
          last := some counter
          data := data % 2 ^ 64
          got := true })) s

/-- CONN_LOSS (R445). -/
def execConnLoss (t : Nat) (c : Fin 256) (s : State) : Out := ev t (fun m => m.linkLost c.val) s

/-- SAFETY_ACK of the connections of a partition, once in each of its cycles (R444); none while held by STAND-IN or LOW (R465). -/
def Mach.safetyAcks (m : Mach) (p : Nat) : Mach :=
  if m.obj F.islHOLD_CAUSE = 2 then m
  else m.each ((List.range 256).filter (linkOn m.isl.set)) (fun m c =>
    let o := linkAt c
    let place := setB m.isl.set (o + 2) * 256 + setB m.isl.set (o + 3)
    if m.obj F.placePARTITION place ≠ p then m
    else
      let k := (m.link c).last.getD 0
      let conn := setH m.isl.set o
      let crc := crc32c (telegramBytes (m.obj F.modMODULE_ID) place conn k 0)
      let data := toBe 2 conn ++ toBe 2 k ++ toBe 8 0 ++ toBe 4 crc
      let t := place / 256
      m.emitT ⟨t, 5, (m.place place).mac,
        m.gfpHead 5 t (m.idFor p) (m.obj F.placeASSIGN_EPOCH place) (m.gzAt (m.part p).clapAt) (place % 256) 1 data.length ++ data⟩)

/-! ### The set switch, SAFE_FAULT, the cycle (R438, R439, R461, R465) -/

/-- A staged set is discarded (R461). DEDUCED, log 64. -/
def Mach.dropStaged (m : Mach) : Mach :=
  ((m.updIsl (fun i => { i with
    staged := none
    switch := none })).setObj F.islSTAGED 0 0).setObj F.islSTAGED_SLATE 0 0

/-- A confirmation closes without a switch (R463): its window, or a confirmed switch that has not reached the cycle boundary. DEDUCED, log 64. -/
def Mach.cancelSlate (m : Mach) : Mach :=
  let m := match m.isl.switch with
    | some (q, sq) => (m.updIsl (fun i => { i with switch := none })).complete q 0x0C11 sq 0x1C04
    | none => m
  match m.sys.window with
  | some w => if w.what = .slate then (m.updSys (fun x => { x with window := none })).complete w.queue 0x0C11 w.seq 0x1C04 else m
  | none => m

/-- SET_SWITCH (R450, R461): the staged set is in force; every function trips. -/
def Mach.setSwitch (m : Mach) : Mach :=
  match m.isl.switch, m.isl.staged with
  | some (q, sq), some s =>
    let old := m.obj F.islSLATE
    let new := slateOf s
    let m := (m.updIsl (fun i => { i with
      set := s
      conns := []
      fns := []
      sqFault := 0
      groups := i.groups })).dropStaged
    let m := ((m.setObj F.islSLATE 0 new).setObj F.islSET_NO 0 (setW s 8)).setObj F.islCONFIRMED_AT 0 m.gzStamp
    let m := m.each (List.range 16) (fun m n => m.updPair n (fun x => { x with
      phase := if m.pairMode n ≠ 0 ∧ m.aOk n ∧ m.bOk n then 0 else 5
      disc := false
      test := false }))
    let m := m.each (List.range 64) (fun m f => if fnOn s f then m.sfTrip f 0xFFFD else m.setObj F.sfSTATE f 0)
    (m.chron { sub := 0x0C, low := 0x04, part := 0xFE, detail := toLe 4 old ++ toLe 4 new }).complete q 0x0C11 sq 0 [itm 1 8 m.gzStamp]
  | _, _ => m.updIsl (fun i => { i with switch := none })

/-- Enter SAFE_FAULT (R439): every target is in its safe state. -/
def Mach.safeFault (m : Mach) (r : Ram) (cause : Nat) : Mach :=
  if m.obj F.islSTATE = 3 then m
  else
    let m := ((m.setObj F.islSTATE 0 3).setObj F.islFAULT_CAUSE 0 cause).cancelSlate
    let m := m.islOut r
    (m.chron { sub := 0x0C, low := 0x82, part := 0xFE, cause := cause }).notice 0 0x0C82 0xFF [itm 1 1 cause]

/-- The island's STATE and HOLD_CAUSE as the module's mode asks (R465). -/
def Mach.islMode (m : Mach) : Mach :=
  if m.obj F.islSTATE = 0 ∨ m.obj F.islSTATE = 3 then m
  else
    let cause := if m.mode = 4 then 1 else if m.mode = 3 ∨ m.obj F.powPOWER_STATE = 2 then 2 else if m.isl.debugHold then 3
      else if m.isl.wrapHold then 4 else 0
    (m.setObj F.islHOLD_CAUSE 0 cause).setObj F.islSTATE 0 (if cause = 0 then 1 else 2)

/-- A brake test ends (R453): 0 passed, else FAIL_CAUSE. -/
def Mach.brakeTestEnd (m : Mach) (k cause : Nat) : Mach :=
  match (m.brake k).test with
  | none => m
  | some b =>
    let a := setB m.isl.set (brakeAt k)
    let m := (m.updAx a (fun x => { x with test := false })).updBrake k (fun x => { x with
      test := none
      failed := cause != 0
      due := if cause = 0 then false else x.due
      passedAt := if cause = 0 then m.time.opSeconds else x.passedAt })
    let m := m.chron { sub := 0x0C, low := 0x06, part := 0xFE, inst := 4 + k, cause := cause, detail := toLe 4 b.pos ++ toLe 4 b.neg }
    m.complete b.queue 0x0C12 b.seq (if cause = 0 then 0 else 0x1C07)
      ([itm 1 4 b.pos, itm 2 4 b.neg] ++ if cause = 0 then [] else [itm 3 1 cause])

/-- Brake tests that a demand or a stage fault aborts. -/
def Mach.brakeAborts (m : Mach) : Mach :=
  m.each (List.range 4) (fun m k =>
    let a := setB m.isl.set (brakeAt k)
    let trip := (fnsOn m.isl.set).any (fun f => bit ((fnNow m.isl.set f).lor (fnDelayed m.isl.set f)) (4 + k) && decide (2 ≤ m.obj F.sfSTATE f) &&
      m.obj F.sfFIRST_SOURCE f != 0xFFFE)
    if (m.brake k).test.isSome && (trip || (m.stageOf a).any (fun j => m.obj F.msFAULT j != 0)) then m.brakeTestEnd k 2 else m)

/-! ### Status slots (R443, R445, R464) -/

/-- The island's slots at the end of a safety cycle: mirrors, status, connection health. -/
def Mach.islStatus (m : Mach) : List (Nat × Nat) :=
  let fs := List.range 64
  let trip := fs.foldl (fun v f => setBit v f (2 ≤ m.obj F.sfSTATE f)) 0
  let ready := fs.foldl (fun v f => setBit v f (m.obj F.sfSTATE f == 3)) 0
  let dev := decide (5000 < (sint 32 (m.obj F.islCLOCK_DEV_PPM)).natAbs)
  let win := m.sys.window.any (fun w => w.what == .slate)
  let br := (List.range 4).foldl (fun v k =>
    let x := m.brake k
    let n := if setB m.isl.set (brakeAt k) = 0xFF then 0
      else (!bit m.isl.sqOn (4 + k)).toNat + x.due.toNat * 2 + x.failed.toNat * 4 + (m.brakeHeld k).toNat * 8
    v + n * 2 ^ (4 * k)) 0
  let words := fun (pt n v : Nat) => (List.range n).map (fun i => (pt + i, v / 2 ^ (16 * i) % 2 ^ 16))
  (List.range 16).map (fun n => (0x00040 + n, if m.pairMode n = 0 then 0 else m.mirror n)) ++
  [(0x00E20, m.obj F.islSTATE + m.obj F.islSTAGED * 4 + win.toNat * 8 + (trip != 0).toNat * 16 + dev.toNat * 32),
   (0x00E21, m.isl.sqOn + m.isl.sqFault * 256)] ++
  words 0x00E22 2 (m.obj F.islSLATE) ++ words 0x00E24 4 trip ++ words 0x00E28 4 ready ++ [(0x00E2C, br)] ++
  (List.range 16).map (fun w => (0x00E30 + w, (List.range 16).foldl (fun v i => setBit v i (m.link (16 * w + i)).healthy) 0))

/-- The island publishes its status (R438 step 5). -/
def Mach.islPublish (m : Mach) : Mach := m.updIsl (fun i => { i with shown := m.islStatus })

/-- The island's slots at a Clapper: what its latest completed safety cycle left (R27); 0 before the first. -/
def Mach.safetyPoints (m : Mach) (p : Nat) : List W :=
  ((List.range 16).map (0x00040 + ·) ++ (List.range 13).map (0x00E20 + ·) ++ (List.range 16).map (0x00E30 + ·)).flatMap (fun pt =>
    backPut p pt (alook 0 m.isl.shown pt) 0)

/-- SAFETY_CYCLE (R438): the island's clock against CLK_TB stands in ppm. -/
def execSafetyCycle (t : Nat) (ppm : Int) (s : State) : Out :=
  evR t (fun r m =>
    let m := (m.bump F.islSAFETY_CYCLES).setObj F.islCLOCK_DEV_PPM 0 (uint 32 ppm)
    let m := m.updIsl (fun i => { i with devCycles := if 10000 < ppm.natAbs then i.devCycles + 1 else 0 })
    if m.obj F.islSTATE = 3 then ((m.islOut r).islPublish, [])
    else if 2 ≤ m.isl.devCycles then ((m.safeFault r 5).islPublish, [])
    else
      let m := if m.isl.switch.isSome then m.setSwitch else m
      let m := m.each (List.range 16) Mach.discEval
      let m := m.each ((List.range 256).filter (linkOn m.isl.set)) (fun m c => m.linkCycle r c)
      let m := m.islMode
      let m := m.each (fnsOn m.isl.set) (fun m f => m.sfEval r f)
      let m := m.brakeAborts
      let m := m.each (List.range 64) (fun m f => m.sfSync r f)
      ((m.islOut r).islPublish, [])) s

/-- RESET_PULSE (R449): an edge of a reset input as the island's own comparators see it. -/
def execResetPulse (t : Nat) (src : Fin 32) (level : Bool) (s : State) : Out := evR t (fun r m => (m.resetEdge r src.val level, [])) s

/-- AUTO_REARM (R449). -/
def execAutoRearm (t : Nat) (f : Fin 64) (s : State) : Out := evR t (fun r m => ((m.sfAuto r f.val).islOut r, [])) s

/-- SQ_DELAY_EXPIRY (R448): the delayed outputs of a function switch off. -/
def execSqDelayExpiry (t : Nat) (f : Fin 64) (s : State) : Out := evR t (fun r m => ((m.sfSync r f.val).islOut r, [])) s

/-- Group switches open and SAFE_FAULT cause 8 (R451). -/
def Mach.sqStuck (m : Mach) (r : Ram) (groups : List Nat) : Mach :=
  (m.updIsl (fun i => { i with groups := groups.foldl (fun v g => setBit v g false) i.groups })).safeFault r 8

/-- DARK_TEST (R451): every DARK_S seconds each output that is on is pulsed off, at every 8th test the group switches are; with the outputs
and the switches that did not reach off. -/
def execDarkTest (t : Nat) (stuck groups : Nat) (s : State) : Out :=
  evR t (fun r m =>
    if m.now < m.isl.darkAt + setH m.isl.set 16 * 10 ^ 9 then (m, [])
    else
      let gs := (bitsOf 8 (stuck.land m.isl.sqOn)).map (· / 4) ++ (if m.isl.darks % 8 = 7 then bitsOf 2 groups else [])
      let m := m.updIsl (fun i => { i with
        darks := i.darks + 1
        darkAt := m.now })
      if gs = [] then (m, []) else (m.sqStuck r gs, [])) s

/-- SQ_READBACK_FAULT (R451): an on output that reads off or is overloaded; an off output that reads on. -/
def execSqReadbackFault (t : Nat) (n : Fin 8) (s : State) : Out :=
  evR t (fun r m =>
    if bit m.isl.sqOn n.val then
      let m := m.updIsl (fun i => { i with sqFault := setBit i.sqFault n.val true })
      let m := (m.chron { sub := 0x0C, low := 0x82, part := 0xFE, inst := n.val, detail := [4] }).notice 0 0x0C82 0xFF
        [itm 1 1 0, itm 2 2 n.val, itm 3 1 4]
      let m := m.each (fnsOn m.isl.set) (fun m f =>
        if bit ((fnNow m.isl.set f).lor (fnDelayed m.isl.set f)) n.val then m.sfTrip f 0xFFFF else m)
      (m.islOut r, [])
    else (m.sqStuck r [n.val / 4], [])) s

/-- SQ_FAULT_CLEAR (R451): 1 s off with no current. -/
def execSqFaultClear (t : Nat) (n : Fin 8) (s : State) : Out :=
  ev t (fun m => m.updIsl (fun i => { i with sqFault := setBit i.sqFault n.val false })) s

/-- SAFETY_FAULT (R439): a diagnostic of the island finds cause 1 to 9. -/
def execSafetyFault (t : Nat) (cause : Fin 9) (s : State) : Out := evR t (fun r m => (m.safeFault r (cause.val + 1), [])) s

/-! ### Brakes (R452, R453) -/

/-- BRAKE_RELEASE_DELAY (R452). -/
def execBrakeReleaseDelay (t : Nat) (k : Fin 4) (s : State) : Out := evR t (fun r m => (let _ := k; m.islOut r, [])) s

/-- BRAKE_TEST_OVERDUE (R452). -/
def execBrakeTestOverdue (t : Nat) (k : Fin 4) (s : State) : Out :=
  ev t (fun m =>
    let h := setH m.isl.set (brakeAt k.val + 8)
    if setB m.isl.set (brakeAt k.val) = 0xFF ∨ h = 0 ∨ m.time.opSeconds < (m.brake k.val).passedAt + h * 3600 then m
    else m.updBrake k.val (fun x => { x with due := true })) s

/-- The card of BRAKE_TEST. -/
def brakeTestCard : Card :=
  { op := 0x0C12, bulk := false, modes := [0, 1, 2, 5], items := [⟨1, 1, 1, true, false⟩],
    valOk := fun _ v => decide (4 ≤ beNat v) && decide (beNat v ≤ 7) }

/-- The effect of BRAKE_TEST (R453). -/
def brakeTest (c : Cmd) (r : Ram) (m : Mach) : Res :=
  let k := c.num 1 - 4
  let set := m.isl.set
  let a := setB set (brakeAt k)
  let trip := (fnsOn set).any (fun f => bit ((fnNow set f).lor (fnDelayed set f)) (4 + k) && decide (2 ≤ m.obj F.sfSTATE f) &&
    m.obj F.sfFIRST_SOURCE f != 0xFFFE)
  if !isSys c.owner && (a = 0xFF || m.axOwner r a ≠ some c.owner) then Res.fail m stNOT_OWNER
  else if 4 ≤ a ∨ m.obj F.axDRIVE a ≠ 2 ∨ 8 ≤ m.obj F.axFB_PORT a ∨ (m.brake k).test.isSome ∨ m.cmdVel a ≠ 0 ∨ (m.ax a).plan ≠ [] ∨
      (m.groupOf a).any (fun g => (m.gg g).state != 0) ∨ m.axHeld a ∨ trip then Res.fail m 0x1C06
  else
    let m := (m.updBrake k (fun x => { x with test := some { queue := c.q, seq := c.seq, start := m.now, step := 2 } })).updAx a
      (fun x => { x with test := true })
    Res.started (m.islOut r)

/-- BRAKE_TEST (R453). -/
def execBrakeTest (msg : Msg) (s : State) : Out :=
  zcp brakeTestCard brakeTest msg s

/-- BRAKE_TEST_STEP (R453): the next step falls due; the movement since the last one, in counts, and whether feedback was lost. -/
def execBrakeTestStep (t : Nat) (k : Fin 4) (moved : Nat) (lost : Bool) (s : State) : Out :=
  evR t (fun r m =>
    let j := k.val
    match (m.brake j).test with
    | none => (m, [])
    | some b =>
      let o := brakeAt j
      let T := setH m.isl.set (o + 4) * 10 ^ 6
      let due := b.start + 50000000 + (b.step - 2) * T + (if b.step = 5 then setH m.isl.set (o + 10) * 10 ^ 6 - T else 0)
      let put := fun (m : Mach) (x : BrTest) => m.updBrake j (fun y => { y with test := some x })
      if m.now < due then (m, [])
      else if lost ∨ m.obj F.epSTATE (m.obj F.axFB_PORT (setB m.isl.set o)) = 2 then ((m.brakeTestEnd j 3).islOut r, [])
      else if b.step = 2 then (put m { b with step := 3 }, [])
      else if b.step = 3 then (put m { b with
        step := 4
        pos := moved }, [])
      else if b.step = 4 then (put m { b with
        step := 5
        neg := moved }, [])
      else
        let lim := setH m.isl.set (o + 6)
        ((m.brakeTestEnd j (if b.pos ≤ lim ∧ b.neg ≤ lim then 0 else 1)).islOut r, [])) s

/-! ### Parameter sets (R460 to R463) -/

/-- A condition fails at an offset. -/
def badAt (c : Bool) (o : Nat) : List Nat := if c then [o] else []

/-- Reserved bytes that are not 0. -/
def resAt (s : Table Nat) (o n : Nat) : List Nat := ((List.range n).filter (fun i => setB s (o + i) != 0)).map (o + ·)

/-- A value outside its range. -/
def rngAt (v lo hi o : Nat) : List Nat := badAt (decide (v < lo) || decide (hi < v)) o

/-- A source code is defined (R446). -/
def srcOk (c : Nat) : Bool := decide (c < 16) || (decide (0x1000 ≤ c) && decide (c ≤ 0x507F)) || c == 0xFFFF

/-- Offsets at fault of a set (R460, SET_INVALID). -/
def Mach.setInvalid (m : Mach) (s : Table Nat) : List Nat :=
  badAt (setW s 0 != 1) 0 ++ badAt (decide (511 < setH s 4) || setH s 4 != m.obj F.modMODULE_ID) 4 ++ badAt (setB s 6 != m.obj F.modVARIANT) 6 ++ resAt s 7 1 ++
  rngAt (setH s 12) 50 1000 12 ++ rngAt (setH s 14) 200 5000 14 ++ badAt (decide (setH s 14 ≤ setH s 12)) 14 ++ rngAt (setH s 16) 1 60 16 ++ resAt s 18 14 ++
  (List.range 16).flatMap (fun n =>
    let o := pairAt n
    badAt (decide (2 < setB s o)) o ++ resAt s (o + 3) 1 ++ resAt s (o + 10) 6 ++
    if setB s o = 0 then [] else badAt (decide (1 < setB s (o + 1))) (o + 1) ++ rngAt (setB s (o + 2)) 1 50 (o + 2) ++
      rngAt (setH s (o + 4)) 10 3000 (o + 4) ++ rngAt (setH s (o + 6)) 200 1000 (o + 6) ++ rngAt (setH s (o + 8)) 10 1000 (o + 8)) ++
  (List.range 4).flatMap (fun k =>
    let o := brakeAt k
    let a := setB s o
    badAt (decide (15 < a) && a != 0xFF) o ++ badAt (decide (1 < setB s (o + 1))) (o + 1) ++ resAt s (o + 12) 4 ++
    if a = 0xFF then [] else rngAt (setH s (o + 2)) 100 6000 (o + 2) ++ rngAt (setH s (o + 4)) 100 5000 (o + 4) ++
      rngAt (setH s (o + 6)) 0 1000 (o + 6) ++ rngAt (setH s (o + 8)) 0 8760 (o + 8) ++ rngAt (setH s (o + 10)) 0 2000 (o + 10) ++
      badAt (setH s (o + 8) != 0 && !(decide (a < 4) && m.obj F.axDRIVE a == 2)) (o + 8) ++
      (fnsOn s).flatMap (fun f => badAt (bit (fnAxes s f) a != bit (fnNow s f) (4 + k) || bit (fnDelayed s f) (4 + k)) (fnAt f + 16))) ++
  resAt s 368 16 ++
  (List.range 64).flatMap (fun f =>
    let o := fnAt f
    let on := fnOn s f
    let rs := fnReset s f
    resAt s (o + 18) 1 ++ badAt (decide (7 < setB s (o + 19))) (o + 19) ++ resAt s (o + 30) 2 ++
    (List.range 8).flatMap (fun i =>
      let c := setH s (o + 2 * i)
      badAt (!srcOk c || (on && ((decide (c < 16) && setB s (pairAt c) == 0) ||
        (decide (0x1000 ≤ c) && decide (c ≤ 0x4FFF) && !linkOn s ((c - 0x1000) / 64))))) (o + 2 * i)) ++
    badAt (on && (fnSources s f).all (· == 0xFFFF)) o ++ badAt ((fnNow s f).land (fnDelayed s f) != 0) (o + 17) ++
    badAt (fnDelay s f != 0 && fnDelayed s f == 0) (o + 26) ++ rngAt (fnDelay s f) 0 30000 (o + 26) ++
    badAt (!(decide (rs < 32) || (decide (0x1000 ≤ rs) && decide (rs ≤ 0x4FFF)) || rs == 0xFFFF)) (o + 28) ++
    badAt ((fnManual s f || fnStart s f) && rs == 0xFFFF) (o + 28) ++ badAt (!m.isM4 && fnAxes s f % 16 != 0) (o + 24)) ++
  (List.range 256).flatMap (fun c =>
    let o := linkAt c
    if !linkOn s c then resAt s (o + 6) 2
    else badAt (decide (3 < setB s (o + 2))) (o + 2) ++ resAt s (o + 6) 2 ++ rngAt (setH s (o + 4)) 0 1000 (o + 4) ++
      badAt ((List.range c).any (fun d => setH s (linkAt d) == setH s o)) o ++
      badAt ((List.range c).any (fun d => linkOn s d && setB s (linkAt d + 2) == setB s (o + 2) && setB s (linkAt d + 3) == setB s (o + 3))) (o + 2))

/-- Offsets that conflict with the limp map, a period or the bindings of stop requests (R19, R460, SAFETY_REFUSED). -/
def Mach.setRefused (m : Mach) (s : Table Nat) : List Nat :=
  (fnsOn s).flatMap (fun f => badAt ((List.range 32).any (fun n => bit (fnLcs s f) n && m.mapped n)) (fnAt f + 20)) ++
  (List.range 256).flatMap (fun c =>
    let o := linkAt c
    let p := m.obj F.placePARTITION (setB s (o + 2) * 256 + setB s (o + 3))
    badAt (linkOn s c && decide (setH s (o + 4) * 10 ^ 6 < 3 * m.period p)) (o + 4)) ++
  (List.range 8).flatMap (fun p => badAt ((List.range 16).any (fun n => bit (setH s (352 + 2 * p)) n &&
    !(fnsOn s).any (fun f => (fnSources s f).contains (0x5000 + 16 * p + n)))) (352 + 2 * p))

/-- The lowest of some offsets. -/
def lowest (l : List Nat) : Nat := l.foldl min (l.headD 0)

/-- A presence window is open. -/
def Mach.windowOpen (m : Mach) : Bool := m.sys.window.isSome

/-- The card of SAFETY_PARAM_WRITE. -/
def safetyParamWriteCard : Card :=
  { op := 0x0C10, bulk := true, modes := [0], sysOnly := true, items := [⟨1, 4480, 4480, true, false⟩] }

/-- The effect of SAFETY_PARAM_WRITE (R460 to R462). -/
def safetyParamWrite (c : Cmd) (m : Mach) : Res :=
  let set := setOf (c.bytes 1)
  if m.sys.window.any (fun w => w.what == .slate) then Res.fail m stLOCKED
  else
    match m.setInvalid set with
    | _ :: _ => Res.fail m 0x1C03 [itm 2 4 (lowest (m.setInvalid set))]
    | [] =>
      match m.setRefused set with
      | _ :: _ => Res.fail m stSAFETY_REFUSED [itm 2 4 (lowest (m.setRefused set))]
      | [] =>
        let m := ((m.updIsl (fun i => { i with staged := some set })).setObj F.islSTAGED 0 1).setObj F.islSTAGED_SLATE 0 (slateOf set)
        Res.done m [itm 1 4 (slateOf set)]

/-- SAFETY_PARAM_WRITE (R460 to R462). -/
def execSafetyParamWrite (msg : Msg) (s : State) : Out :=
  zcpM safetyParamWriteCard safetyParamWrite msg s

/-- Open a presence window of 30 s (R561); identification ends (R608). -/
def Mach.openWindow (m : Mach) (c : Cmd) (what : Presence) : Mach :=
  m.updSys (fun x => { x with
    window := some ⟨what, c.q, c.seq, m.now + 30 * 10 ^ 9⟩
    identify := none })

/-- The card of SLATE_CONFIRM. -/
def slateConfirmCard : Card :=
  { op := 0x0C11, bulk := false, modes := [0], sysOnly := true, items := [⟨1, 4, 4, true, false⟩] }

/-- The effect of SLATE_CONFIRM (R463). -/
def slateConfirm (c : Cmd) (m : Mach) : Res :=
  if m.windowOpen then Res.fail m stLOCKED
  else if m.isl.staged.isNone then Res.fail m 0x1C05
  else if c.num 1 ≠ m.obj F.islSTAGED_SLATE then Res.fail m 0x1C02
  else Res.started (m.openWindow c .slate)

/-- SLATE_CONFIRM (R463). -/
def execSlateConfirm (msg : Msg) (s : State) : Out :=
  zcpM slateConfirmCard slateConfirm msg s

/-! ### The limp map (R19, R308, R309) -/

/-- The card of LIMP_MAP_WRITE. -/
def limpMapWriteCard : Card :=
  { op := 0x0712, bulk := true, modes := [0], sysOnly := true, items := [⟨1, 1, 1, true, false⟩, ⟨2, 32, 32, true, false⟩],
    valOk := fun ty v => if ty = 1 then decide (beNat v ≤ 1) else v.all (fun e => field e 5 3 == 0) }

/-- The effect of LIMP_MAP_WRITE (R309): the checks in the order the rule gives; the map takes effect at once, so that limp-home leaves a channel it no
longer maps, and under LIMP_FORCE engages on one it maps now (R17, R310). -/
def limpMapWrite (c : Cmd) (r : Ram) (m : Mach) : Res :=
  let map := c.bytes 1 ++ c.bytes 2
  let gated := fun (n : Nat) => gatedOf m.isl.set n || m.isl.staged.any (fun s => gatedOf s n)
  if (List.range 32).any (fun n => bit ((map[n + 1]?).getD 0) 7 && gated n) then Res.fail m stSAFETY_REFUSED
  else if !(m.ctl 0).powered || !(m.ctl 1).powered then Res.fail m 0x1703
  else
    let crc := crc32c map
    let m := m.each [0, 1] (fun m k => m.updCtl k (fun x => { x with
      copy := x.map
      map := map }))
    let m := (m.setObj F.limpMAP_CRC 0 crc).setObj F.limpLIMP_AUTO 0 (c.num 1 % 2)
    let m := m.limpRelease r ((List.range 32).filter (fun n => !m.mapped n)) false
    let m := m.when m.limpForce (fun m => m.each [0, 1] (fun m k => m.engage r k (if (m.ctl k).alive = 0 then 1 else 2)))
    let m := m.each (List.range 32) (fun m n => m.lcEval r n false)
    Res.done m [itm 1 4 crc]

/-- LIMP_MAP_WRITE (R309). -/
def execLimpMapWrite (msg : Msg) (s : State) : Out :=
  zcp limpMapWriteCard limpMapWrite msg s

end Sys2Proof.Machine
end

