-- ==== Sys2Proof/Machine/Power.lean ====
section
/-! DEFINITION. Load shedding, the hold-up gauge, the power points (R408 to R416). -/
namespace Sys2Proof.Machine

/-! ### Load shedding (R408, R409) -/

/-- POWER_SHED: record, event, with the channels affected. -/
def Mach.shedSay (m : Mach) (rail : Nat) (ns : List Nat) : Mach :=
  let mask := ns.foldl (fun v n => setBit v n true) 0
  let st := m.obj F.railSHED_STAGE rail
  (m.chron { sub := 0x0B, low := 0x82, inst := rail, cause := st, detail := toLe 4 mask }).notice 0 0x0B82 0xFF [itm 1 1 rail, itm 2 1 st, itm 3 4 mask]

/-- SHED_STAGE_RISE (R408): the rail, with its measured current and voltage, is overdrawn for SHED_MS or a further SHED_MS. -/
def execShedStageRise (t : Nat) (rail : Fin 2) (ma mv : Nat) (s : State) : Out :=
  evR t (fun r m =>
    let k := rail.val
    let m := m.railSee k ma mv
    if !m.railOver k ∨ m.now < (m.rail k).riseAt + m.obj F.railSHED_MS k * 10 ^ 6 ∨ 15 ≤ m.obj F.railSHED_STAGE k then (m, [])
    else
      let m := (m.setObj F.railSHED_STAGE k (m.obj F.railSHED_STAGE k + 1)).updRail k (fun x => { x with riseAt := m.now })
      let ns := (chansOf k).filter (fun n => m.shedCovers n && !(m.lc n).shed)
      let m := m.each ns (fun m n => ((m.updLc n (fun x => { x with
        shed := true
        seenOff := false })).bump F.railSHEDS k).lcEval r n false)
      (m.shedSay k ns, [])) s

/-- SHED_STAGE_FALL (R409): not overdrawn for RESTORE_S or a further RESTORE_S. -/
def execShedStageFall (t : Nat) (rail : Fin 2) (ma mv : Nat) (s : State) : Out :=
  ev t (fun m =>
    let k := rail.val
    let m := m.railSee k ma mv
    if m.railOver k ∨ m.now < max (m.rail k).ended (m.rail k).fallAt + m.obj F.railRESTORE_S k * 10 ^ 9 ∨ m.obj F.railSHED_STAGE k = 0 then m
    else
      let ns := (chansOf k).filter (fun n => m.obj F.chanSHED_RANK n == m.obj F.railSHED_STAGE k)
      ((m.setObj F.railSHED_STAGE k (m.obj F.railSHED_STAGE k - 1)).updRail k (fun x => { x with fallAt := m.now })).shedSay k ns) s

/-! ### Power states (R568) -/

/-- Change the power state (0 FULL, 1 HOLDUP, 2 LOW): POWER_STATE, and a record except to and from LOW. -/
def Mach.setPower (m : Mach) (st : Nat) : Mach :=
  let old := m.obj F.powPOWER_STATE
  if old = st then m
  else
    let m := m.setObj F.powPOWER_STATE 0 st
    let m := m.when (old != 2 && st != 2) (fun m => m.chron { sub := 0x0B, low := 0x85, cause := st })
    m.notice 0 0x0B85 0xFF [itm 1 1 st]

/-- Leave LOW (R569). -/
def Mach.leaveLow (m : Mach) : Mach := if m.obj F.powPOWER_STATE = 2 then m.setPower 0 else m

/-! ### The gauge (R410 to R412) -/

/-- PF_STATE by R412. -/
def Mach.pfNow (m : Mach) : Nat :=
  let e := m.obj F.gaugeE_USED_MJ
  let w := m.obj F.gaugeWRAP_MJ
  if !m.svc.cartIn || m.svc.cartFault || m.svc.cartWin.isSome || decide (e < w) then 2 else if m.obj F.gaugeGAUGE_STATE = 1 ∨ e * 4 < w * 5 then 1 else 0

/-- GAUGE: record and event. -/
def Mach.gaugeSay (m : Mach) (what : Nat) : Mach :=
  (m.chron { sub := 0x0B, low := 0x83, inst := 0, cause := what, detail := [m.obj F.gaugePF_STATE, m.obj F.gaugeGAUGE_STATE] }).notice 0 0x0B83 0xFF
    [itm 1 1 (m.obj F.gaugePF_STATE), itm 2 1 (m.obj F.gaugeGAUGE_STATE)]

/-- Follow PF_STATE: a change writes a record and raises GAUGE; a change from 0 ends LOW. -/
def Mach.pfSync (m : Mach) : Mach :=
  let pf := m.pfNow
  if pf = m.obj F.gaugePF_STATE then m
  else
    let was := m.obj F.gaugePF_STATE
    let m := (m.setObj F.gaugePF_STATE 0 pf).gaugeSay 3
    if was = 0 then m.leaveLow else m

/-- Energy estimates: E_USED is the lower (R410). -/
def Mach.energies (m : Mach) (cc v : Nat) : Mach :=
  (((m.setObj F.gaugeE_CC_MJ 0 cc).setObj F.gaugeE_V_MJ 0 v).setObj F.gaugeE_USED_MJ 0 (min cc v)).pfSync

/-- Start an impedance test, in FULL only (R410). -/
def Mach.gaugeTest (m : Mach) (by_ : Option (Nat × Nat)) : Mach :=
  if m.obj F.powPOWER_STATE ≠ 0 ∨ m.gauge.testing then m
  else m.updGauge (fun g => { g with
    testing := true
    testAt := some m.now
    by_ := by_ })

/-- GAUGE_DISAGREE (R410): the estimates have differed by more than 4 J for 10 s. -/
def execGaugeDisagree (t : Nat) (cc v : Nat) (s : State) : Out :=
  ev t (fun m =>
    if (cc : Int) - v ≤ 4000 ∧ (v : Int) - cc ≤ 4000 ∨ m.obj F.gaugeGAUGE_STATE = 1 then m.energies cc v
    else
      let m := ((m.setObj F.gaugeGAUGE_STATE 0 1).bump F.gaugeDISAGREEMENTS).updGauge (fun g => { g with hourAt := m.now })
      ((m.energies cc v).gaugeSay 1).gaugeTest none) s

/-- GAUGE_AGREE (R410): they have differed by at most 2 J for 10 s. -/
def execGaugeAgree (t : Nat) (cc v : Nat) (s : State) : Out :=
  ev t (fun m =>
    if (cc : Int) - v ≤ 2000 ∧ (v : Int) - cc ≤ 2000 then (m.setObj F.gaugeGAUGE_STATE 0 0).energies cc v else m.energies cc v) s

/-- IMPEDANCE_TEST_DONE (R411): the measured ESR, and whether the voltage recovered. -/
def execImpedanceTestDone (t : Nat) (esr : Nat) (recovered : Bool) (s : State) : Out :=
  ev t (fun m =>
    if !m.gauge.testing then m
    else
      let ok := recovered && decide (esr * 2 ≤ m.obj F.gaugeESR_MOHM * 3)
      let by_ := m.gauge.by_
      let m := m.updGauge (fun g => { g with
        testing := false
        by_ := none })
      let m := if ok then (m.setObj F.gaugeGAUGE_STATE 0 2).energies (m.obj F.gaugeE_V_MJ) (m.obj F.gaugeE_V_MJ) else m
      match by_ with
      | some (q, sq) => m.complete q 0x0B14 sq 0 [itm 1 1 (!ok).toNat]
      | none => m) s

/-- IMPEDANCE_TEST_PERIOD (R410): every hour while the disagreement lasts. -/
def execImpedanceTestPeriod (t : Nat) (s : State) : Out :=
  ev t (fun m =>
    if m.obj F.gaugeGAUGE_STATE = 1 ∧ m.gauge.hourAt + 3600 * 10 ^ 9 ≤ m.now then
      (m.updGauge (fun g => { g with hourAt := g.hourAt + 3600 * 10 ^ 9 })).gaugeTest none
    else m) s

/-- CAPACITY_LEARN (R411): at full charge. -/
def execCapacityLearn (t : Nat) (capacity esr : Nat) (s : State) : Out :=
  ev t (fun m =>
    let m := (m.setObj F.gaugeCAPACITY_MJ 0 capacity).setObj F.gaugeESR_MOHM 0 esr
    let m := m.energies (m.obj F.gaugeCAPACITY_MJ) (m.obj F.gaugeE_V_MJ)
    m.chron { sub := 0x0B, low := 0x03, cause := 4, detail := toLe 4 capacity }) s

/-- CARTRIDGE_END_OF_LIFE (R412): 12 years of service are reached. DESIGN CHOICE, log 61. -/
def execCartridgeEndOfLife (t : Nat) (s : State) : Out :=
  ev t (fun m =>
    if m.gauge.eol then m else (m.updGauge (fun g => { g with eol := true })).chron { sub := 0x0B, low := 0x05, cause := 5 }) s

/-- The card of GAUGE_TEST. -/
def gaugeTestCard : Card :=
  { op := 0x0B14, bulk := true, modes := [0, 1, 2, 5], sysOnly := true }

/-- The effect of GAUGE_TEST (R416). -/
def gaugeTest (c : Cmd) (m : Mach) : Res :=
  if m.obj F.powPOWER_STATE ≠ 0 ∨ m.gauge.testing ∨ m.gauge.testAt.any (fun a => decide (m.now < a + 60 * 10 ^ 9)) then Res.fail m 0x1B04
  else Res.started (m.gaugeTest (some (c.q, c.seq)))

/-- GAUGE_TEST (R416). -/
def execGaugeTest (msg : Msg) (s : State) : Out :=
  zcpM gaugeTestCard gaugeTest msg s

/-! ### Power points (R413) -/

/-- Slots 0x00E00 to 0x00E07, with the logic load in mW. -/
def Mach.powerPoints (m : Mach) (p : Nat) (load : Nat) : List W :=
  let e := m.obj F.gaugeE_USED_MJ
  let rail := fun (k : Nat) => m.obj F.railSHED_STAGE k + min 255 (m.obj F.railQUEUED k) * 16
  let mv := fun (k : Nat) => m.obj F.railRAIL_MV k
  backPut p 0x00E00 (m.obj F.powPOWER_STATE + m.sys.mains.toNat * 4 + m.obj F.gaugePF_STATE * 8 + (m.obj F.gaugeGAUGE_STATE == 1).toNat * 32 +
    m.svc.cartIn.toNat * 64 + m.gauge.eol.toNat * 128) 0 ++
  backPut p 0x00E01 (min 65535 (e / 10)) 0 ++ backPut p 0x00E02 (if load = 0 then 65535 else min 65535 (e * 1000 / load)) 0 ++
  backPut p 0x00E03 (rail 0) 0 ++ backPut p 0x00E04 (rail 1) 0 ++
  backPut p 0x00E05 (mv 0 / 10) 0 ++ backPut p 0x00E06 (mv 1 / 10) 0 ++ backPut p 0x00E07 (if m.isM4 then mv 2 / 10 else 0) 0

end Sys2Proof.Machine
end

