-- ==== Sys2Proof/Machine/Alarm.lean ====
section
/-! DEFINITION. Alarms: conditions, delays, the state model, shelving, floods (R417 to R424). -/
namespace Sys2Proof.Machine

/-- An alarm. -/
def Mach.alarm (m : Mach) (a : Nat) : AlSt := ug {} m.alarms a
/-- Change it. -/
def Mach.updAlarm (m : Mach) (a : Nat) (f : AlSt → AlSt) : Mach := { m with alarms := uset {} m.alarms a f }
/-- A flood group. -/
def Mach.floodG (m : Mach) (g : Nat) : FloodSt := ug {} m.floods g
/-- Change it. -/
def Mach.updFlood (m : Mach) (g : Nat) (f : FloodSt → FloodSt) : Mach := { m with floods := uset {} m.floods g f }

/-- Alarms of a partition, ascending. -/
def Mach.alarmsOf (m : Mach) (p : Nat) : List Nat :=
  let l := (m.listed F.alarmOWNER []).filter (fun a => m.obj F.alarmOWNER a == p)
  l.foldr (fun n l => (l.takeWhile (fun k => decide (k < n))) ++ n :: l.dropWhile (fun k => decide (k < n))) []

/-- Alarms that take their condition from an ALARM block, with their place in the window (R422). -/
def Mach.blockAlarms (m : Mach) (p : Nat) : List (Nat × Nat) :=
  let l := (m.alarmsOf p).filter (fun a => m.obj F.alarmSOURCE a == 0xFFFFFFFF)
  (l.zip (List.range l.length)).map (fun e => (e.1, m.obj F.alsumALARM_BASE p + 4 * e.2))

/-- The slot +0 of a block alarm's window, where the partition has one. DEDUCED, log 62. -/
def Mach.alarmSlot (m : Mach) (p a : Nat) : Option Nat :=
  if m.obj F.alsumALARM_BASE p = 0 then none else ((m.blockAlarms p).find? (fun e => e.1 == a)).map (fun e => e.2)

/-- A slot as a partition's Clapper sees it: an input as latched, an output as applied. -/
def Mach.clapPoint (m : Mach) (r : Ram) (p pt : Nat) : Nat :=
  let k := entKind (m.ownEnt r pt)
  if k = 1 ∨ k = 2 ∨ k = 6 then rd r .applied pt else rd r .back (frontAt p pt)

/-- A bit named as SOURCE names one: [19:0] point, [23:20] bit, [24] invert. -/
def Mach.sourceBit (m : Mach) (r : Ram) (p src : Nat) : Bool :=
  bit (m.clapPoint r p (src % 2 ^ 20)) (field src 23 20) != bit src 24

/-- The group of an alarm is in flood. -/
def Mach.inFlood (m : Mach) (g : Nat) : Bool := m.obj F.floodSTATE g != 0

/-- Entries of a group within its window. -/
def Mach.floodCount (m : Mach) (g : Nat) : Nat :=
  ((m.floodG g).entries.filter (fun a => decide (m.now < a + m.obj F.floodFLOOD_WINDOW_S g * 10 ^ 9))).length

/-- ALARM_FLOOD: event and record, with the counts. -/
def Mach.floodSay (m : Mach) (g : Nat) : Mach :=
  let n := m.floodCount g
  (m.chron { sub := 0x0B, low := 0x81, inst := g, cause := m.obj F.floodSTATE g, count := n }).notice 0 0x0B81 0xFF
    [itm 1 1 g, itm 2 1 (m.obj F.floodSTATE g), itm 3 4 n, itm 4 4 (m.obj F.floodFLOODS g)]

/-- An alarm has entered UNACK: the group's count, and entry to flood (R420). -/
def Mach.floodEnter (m : Mach) (g : Nat) : Mach :=
  let m := m.updFlood g (fun x => { x with
    entries := (m.now :: x.entries).filter (fun a => decide (m.now < a + m.obj F.floodFLOOD_WINDOW_S g * 10 ^ 9)) })
  if m.inFlood g ∨ m.floodCount g ≤ m.obj F.floodFLOOD_COUNT g then m
  else ((((m.setObj F.floodSTATE g 1).bump F.floodFLOODS g).updFlood g (fun x => { x with began := m.now })).floodSay g)

/-- The state an alarm's condition and an acknowledgement lead to (R418, R419): the override states first, then the condition, then the
acknowledgement; an UNACK alarm that clears at the same Clapper goes to NORMAL or LATCHED. DEDUCED, log 62. -/
def Mach.alarmNext (m : Mach) (a : Nat) : Nat :=
  let x := m.alarm a
  let old := m.obj F.alarmSTATE a
  let rtn := if m.isSet F.alarmLATCHING a then 4 else 3
  if !m.isSet F.alarmIN_SERVICE a then 7
  else if x.sup ∨ x.flood then 6
  else if x.shelf.isSome then 5
  else
    let st := if 5 ≤ old then (if x.active then 1 else 0)
      else match old, x.active with
        | 0, true => 1
        | 1, false => rtn
        | 2, false => if m.isSet F.alarmLATCHING a then 4 else 0
        | 3, true => 1
        | 4, true => 1
        | o, _ => o
    if !x.ack then st
    else if st = 1 then 2
    else if st = 3 then 0
    else if st = 4 ∧ old = 4 then 0
    else st

/-- Move an alarm to its next state: stamp, event, record; a flood takes entries to UNACK below its keep priority (R418, R420). -/
def Mach.alarmStep (m : Mach) (r : Ram) (a : Nat) : Mach :=
  let old := m.obj F.alarmSTATE a
  let g := m.obj F.alarmFLOOD_GROUP a
  let st := m.alarmNext a
  let m := m.updAlarm a (fun x => { x with ack := false })
  let caught := decide (st = 1 ∧ old ≠ 1) && m.inFlood g && decide (m.obj F.floodFLOOD_KEEP g < m.obj F.alarmPRIORITY a)
  let st := if caught then 6 else st
  let m := m.when caught (fun m => m.updAlarm a (fun x => { x with flood := true }))
  if st = old then m
  else
    let p := m.obj F.alarmOWNER a
    let m := (m.setObj F.alarmSTATE a st).setObj F.alarmLAST_CHANGE a m.gzStamp
    let m := if m.isSet F.alarmRECORD a then m.chron { sub := 0x0B, low := 0x80, part := p, inst := a, cause := st, cycle := (m.part p).cycle,
                                                       detail := toLe 4 (uint 32 (m.alarm a).value) } else m
    let m := m.notice (m.chanOf p) 0x0B80 p [itm 1 2 a, itm 2 1 st, itm 3 1 (m.obj F.alarmPRIORITY a), itm 4 4 (uint 32 (m.alarm a).value)]
    let _ := r
    m.when (st == 1) (fun m => m.floodEnter g)

/-- The condition after the trip (R417 step 1): an active alarm returns only when VALUE has passed LIMIT by DEADBAND. DEDUCED, log 62. -/
def Mach.alarmTrip (m : Mach) (a : Nat) : Bool :=
  let x := m.alarm a
  let lim := sint 32 (m.obj F.alarmLIMIT a)
  let db : Int := (m.obj F.alarmDEADBAND a : Nat)
  match m.obj F.alarmTRIP a with
  | 1 => if x.active then decide (lim - db ≤ x.value) else x.raw && decide (lim ≤ x.value)
  | 2 => if x.active then decide (x.value ≤ lim + db) else x.raw && decide (x.value ≤ lim)
  | _ => x.raw

/-- The delays (R417 step 2). -/
def Mach.alarmDelay (m : Mach) (a : Nat) : Mach :=
  m.updAlarm a (fun x =>
    let need := if x.cond then m.obj F.alarmON_DELAY_MS a else m.obj F.alarmOFF_DELAY_MS a
    if x.cond != x.active && decide (x.condAt + need * 10 ^ 6 ≤ m.now) then { x with active := x.cond } else x)

/-- One alarm at its owner's Clapper (R417): source, trip, delay, state. -/
def Mach.alarmClap (m : Mach) (r : Ram) (p a : Nat) : Mach :=
  let m := match m.alarmSlot p a with
    | some b => m.updAlarm a (fun x =>
        let w := rd r .applied b
        { x with
          raw := bit w 0
          ack := x.ack || bit w 1 != x.tog
          tog := bit w 1
          value := sint 32 (rd32 r .applied (b + 2)) })
    | none =>
      if m.obj F.alarmSOURCE a = 0xFFFFFFFF then m
      else m.updAlarm a (fun x => { x with raw := m.sourceBit r p (m.obj F.alarmSOURCE a) })
  let sup := m.obj F.alarmSUPPRESS a != 0xFFFFFFFF && m.sourceBit r p (m.obj F.alarmSUPPRESS a)
  let m := m.updAlarm a (fun x => { x with sup := sup })
  if !m.isSet F.alarmIN_SERVICE a then (m.updAlarm a (fun x => { x with
      cond := false
      condAt := m.now
      active := false })).alarmStep r a
  else
    let c := m.alarmTrip a
    let m := m.updAlarm a (fun x => if c = x.cond then x else { x with
      cond := c
      condAt := m.now })
    (m.alarmDelay a).alarmStep r a

/-- The status slot +1 of a block alarm (R422). -/
def Mach.alarmWord (m : Mach) (a : Nat) : Nat :=
  let x := m.alarm a
  let st := m.obj F.alarmSTATE a
  st + x.active.toNat * 8 + (st == 1 || st == 3).toNat * 16 + (st == 5).toNat * 32 + (st == 6).toNat * 64 + x.flood.toNat * 128 +
    (m.obj F.alarmPRIORITY a - 1) % 4 * 256

/-- Alarms of a partition at its Clapper, and their status slots. -/
def Mach.clapAlarms (m : Mach) (r : Ram) (p : Nat) : Mach × List W :=
  let as := m.alarmsOf p
  let m := m.each as (fun m a => m.alarmClap r p a)
  (m, as.flatMap (fun a => match m.alarmSlot p a with
    | some b => backPut p (b + 1) (m.alarmWord a) 0
    | none => []))

/-- ALARM_DELAY_EXPIRY (R417): the condition has stood for its delay. -/
def execAlarmDelayExpiry (t : Nat) (a : Fin 65536) (s : State) : Out :=
  evR t (fun r m => if m.obj F.alarmOWNER a.val = 0xFF ∨ !m.isSet F.alarmIN_SERVICE a.val then (m, []) else ((m.alarmDelay a.val).alarmStep r a.val, [])) s

/-- End of an alarm's shelve (R421): the earlier of its requested end and its start plus MAX_SHELVE_MIN. -/
def Mach.shelfEnd (m : Mach) (a : Nat) : Nat :=
  match (m.alarm a).shelf with
  | some (b, e) => min e (b + m.obj F.alarmMAX_SHELVE_MIN a * 60 * 10 ^ 9)
  | none => 0

/-- SHELVE_EXPIRY (R419). -/
def execShelveExpiry (t : Nat) (a : Fin 65536) (s : State) : Out :=
  evR t (fun r m =>
    match (m.alarm a.val).shelf with
    | some _ => if m.now < m.shelfEnd a.val then (m, []) else ((m.updAlarm a.val (fun x => { x with shelf := none })).alarmStep r a.val, [])
    | none => (m, [])) s

/-- FLOOD_END (R420). -/
def execFloodEnd (t : Nat) (g : Fin 256) (s : State) : Out :=
  evR t (fun r m =>
    let k := g.val
    if !m.inFlood k ∨ m.obj F.floodFLOOD_COUNT k ≤ 2 * m.floodCount k ∨ m.now < (m.floodG k).began + m.obj F.floodFLOOD_HOLD_S k * 10 ^ 9 then (m, [])
    else
      let m := (m.setObj F.floodSTATE k 0).floodSay k
      let as := (m.listed F.alarmOWNER []).filter (fun a => m.obj F.alarmFLOOD_GROUP a == k && (m.alarm a).flood)
      (m.each as (fun m a => (m.updAlarm a (fun x => { x with flood := false })).alarmStep r a), [])) s

/-! ### Commands (R424) -/

/-- Alarms of a command's range that its queue reaches. -/
def Mach.alarmRange (m : Mach) (c : Cmd) : List Nat :=
  ((List.range (c.num 2 1)).map (fun i => c.num 1 + i)).filter (fun a => m.obj F.alarmOWNER a != 0xFF && (isSys c.owner || m.obj F.alarmOWNER a == c.owner))

/-- The items of the alarm commands. -/
def alarmItems : List Spec := [⟨1, 2, 2, true, false⟩, ⟨2, 2, 2, false, false⟩]

/-- COUNT is 1 to 1,024. -/
def alarmVal (ty : Nat) (v : List Nat) : Bool := ty != 2 || (decide (1 ≤ beNat v) && decide (beNat v ≤ 1024))

/-- The range ends by alarm 65,535. -/
def alarmCombo (_ is : List Item) : Option (Nat × Nat) := clash (decide (65536 < itemNum is 1 0 + itemNum is 2 1))

/-- The card of ALARM_ACK. -/
def alarmAckCard : Card :=
  { op := 0x0B10, bulk := false, modes := [0, 1, 2], items := alarmItems, valOk := alarmVal, combo := alarmCombo }

/-- The effect of ALARM_ACK (R424): acts at the owner's Clapper (R419). -/
def alarmAck (c : Cmd) (m : Mach) : Res :=
  let as := (m.alarmRange c).filter (fun a => m.obj F.alarmSTATE a == 1 || m.obj F.alarmSTATE a == 3 || m.obj F.alarmSTATE a == 4)
  Res.done (m.each as (fun m a => m.updAlarm a (fun x => { x with ack := true }))) [itm 1 2 as.length]

/-- ALARM_ACK (R424). -/
def execAlarmAck (msg : Msg) (s : State) : Out :=
  zcpM alarmAckCard alarmAck msg s

/-- The card of ALARM_SHELVE. -/
def alarmShelveCard : Card :=
  { op := 0x0B11, bulk := false, modes := [0, 1, 2], items := alarmItems ++ [⟨3, 2, 2, true, false⟩],
    valOk := fun ty v => alarmVal ty v && (ty != 3 || decide (1 ≤ beNat v)), combo := alarmCombo }

/-- The effect of ALARM_SHELVE (R424). -/
def alarmShelve (c : Cmd) (r : Ram) (m : Mach) : Res :=
  let as := m.alarmRange c
  if as.any (fun a => decide (m.obj F.alarmMAX_SHELVE_MIN a < c.num 3)) then Res.fail m 0x1B05
  else Res.done (m.each as (fun m a => (m.updAlarm a (fun x => { x with shelf := some (m.now, m.now + c.num 3 * 60 * 10 ^ 9) })).alarmStep r a))
    [itm 1 2 as.length]

/-- ALARM_SHELVE (R424). -/
def execAlarmShelve (msg : Msg) (s : State) : Out :=
  zcp alarmShelveCard alarmShelve msg s

/-- The card of ALARM_UNSHELVE. -/
def alarmUnshelveCard : Card :=
  { op := 0x0B12, bulk := false, modes := [0, 1, 2], items := alarmItems, valOk := alarmVal, combo := alarmCombo }

/-- The effect of ALARM_UNSHELVE (R424). -/
def alarmUnshelve (c : Cmd) (r : Ram) (m : Mach) : Res :=
  let as := (m.alarmRange c).filter (fun a => (m.alarm a).shelf.isSome)
  Res.done (m.each as (fun m a => (m.updAlarm a (fun x => { x with shelf := none })).alarmStep r a)) [itm 1 2 as.length]

/-- ALARM_UNSHELVE (R424). -/
def execAlarmUnshelve (msg : Msg) (s : State) : Out :=
  zcp alarmUnshelveCard alarmUnshelve msg s

end Sys2Proof.Machine
end

