-- ==== Sys2Proof/Machine/Flags.lean ====
section
/-! DEFINITION. What the arithmetic, logic, compare and bit-of-WACC instructions leave in WACC and ACC (R105, R108 to R112). -/
namespace Sys2Proof.Machine

/-- The second operand of an arithmetic instruction and WACC give WACC and, where the instruction writes it, ACC. -/
abbrev Arith := Word64 → Word64 → Word64 × Option Bool

/-- An operation that leaves ACC alone. -/
def keepAcc (f : Word64 → Word64 → Word64) : Arith := fun a v => (f a v, none)

/-- Signed quotient, truncated toward zero; 0 and ACC 0 by zero (R109). -/
def divOp : Arith := fun a v => if v = 0#64 then (0#64, some false) else (a.sdiv v, some true)

/-- Signed remainder with the sign of WACC; 0 and ACC 0 by zero (R109). -/
def modOp : Arith := fun a v => if v = 0#64 then (0#64, some false) else (a.srem v, some true)

/-- Signed maximum and minimum. -/
def maxOp : Arith := keepAcc (fun a v => if a.slt v then v else a)
def minOp : Arith := keepAcc (fun a v => if v.slt a then v else a)

/-- Shifts by a count of 0 to 63. -/
def shlOp (n : Nat) (a : Word64) : Word64 := a <<< n
def shrOp (n : Nat) (a : Word64) : Word64 := a >>> n
def sarOp (n : Nat) (a : Word64) : Word64 := a.sshiftRight n

/-- Absolute value; the most negative value stays (R105). -/
def absOp (a : Word64) : Word64 := if a.slt 0#64 then 0#64 - a else a

/-- The compares of R110: WACC against v. -/
def cmpEq (a v : Word64) : Bool := a == v
def cmpNe (a v : Word64) : Bool := a != v
def cmpGt (a v : Word64) : Bool := v.slt a
def cmpGe (a v : Word64) : Bool := v.sle a
def cmpLt (a v : Word64) : Bool := a.slt v
def cmpLe (a v : Word64) : Bool := a.sle v
def cmpGtu (a v : Word64) : Bool := v.ult a
def cmpLtu (a v : Word64) : Bool := a.ult v

/-- WACC with bit n replaced (R112). -/
def setWBit (a : Word64) (n : Nat) (b : Bool) : Word64 :=
  (a &&& ~~~ (1#64 <<< n)) ||| (BitVec.ofNat 64 b.toNat <<< n)

end Sys2Proof.Machine
end

