-- ==== Sys2Proof/Machine/Float.lean ====
section
/-! DEFINITION. The BX's arithmetic on F32 (R127): IEEE 754 binary32, to nearest with ties to even, subnormals read and returned as zero,
a result beyond the range held at the largest value with OVERFLOW. Every operation of a formula rounds once, in the formula's order. -/
namespace Sys2Proof.Machine

/-- An F32 and whether a result on the way to it saturated. -/
structure Fv where
  /-- The 32 bits. -/
  v : Nat
  /-- A result saturated. -/
  o : Bool := false
deriving DecidableEq, Repr

/-- Sign, exponent and fraction fields. -/
def fSign (v : Nat) : Bool := bit v 31
def fExp (v : Nat) : Nat := field v 30 23
def fFrac (v : Nat) : Nat := field v 22 0

/-- NaN or infinite. -/
def fBad (v : Nat) : Bool := fExp v == 255

/-- Zero, subnormals counted as zero. -/
def fZero (v : Nat) : Bool := fExp v == 0

/-- A zero of a sign. -/
def fz (s : Bool) : Nat := s.toNat * 2 ^ 31

/-- Magnitude of a finite value, in units of 2^-149. -/
def fMag (v : Nat) : Nat := if fZero v then 0 else (2 ^ 23 + fFrac v) * 2 ^ (fExp v - 1)

/-- The value in units of 2^-149. -/
def fInt (v : Nat) : Int := if fSign v then -(fMag v : Int) else fMag v

/-- Nearest integer to a quotient, ties to even. -/
def divRne (a b : Nat) : Nat :=
  let q := a / b
  let r := a % b
  if b < 2 * r then q + 1 else if 2 * r = b then q + q % 2 else q

/-- Floor of the base-2 logarithm of a positive quotient a/b, plus 1024. -/
def log2Q (a b : Nat) : Nat :=
  let g := 1024 + Nat.log2 a - Nat.log2 b
  -- a/b lies in (2^(g-1025), 2^(g-1023))
  if a * 2 ^ 1024 < b * 2 ^ g then g - 1 else g

/-- The order of two values, infinities included, subnormals as zero. -/
def fKey (v : Nat) : Int := if fZero v then 0 else if fSign v then -((v % 2 ^ 31 : Nat) : Int) else ((v % 2 ^ 31 : Nat) : Int)

/-- NaN. -/
def fNan (v : Nat) : Bool := fBad v && fFrac v != 0

/-- The F32 of sign s nearest to a/b; a zero result has the sign given. A result is taken as subnormal where its rounded value is:
DESIGN CHOICE, log 23 (R127 does not say whether before or after rounding). -/
def fRound (s : Bool) (a b : Nat) : Fv :=
  if a = 0 then ⟨fz s, false⟩
  else
    let g := log2Q a b
    -- significand a/b * 2^(23 - (g - 1024)), rounded
    let sg := divRne (a * 2 ^ (23 + 1024)) (b * 2 ^ g)
    let g' := if sg = 2 ^ 24 then g + 1 else g
    let fr := if sg = 2 ^ 24 then 0 else sg - 2 ^ 23
    if 1024 + 127 < g' then ⟨fz s + 0x7F7FFFFF, true⟩
    else if g' + 126 < 1024 then ⟨fz s, false⟩
    else ⟨fz s + (g' + 127 - 1024) * 2 ^ 23 + fr, false⟩

/-- The F32 nearest to i/b. -/
def fOfQ (i : Int) (b : Nat) : Fv := fRound (decide (i < 0)) i.natAbs b

/-- Integers to F32. -/
def fOfInt (i : Int) : Fv := fOfQ i 1

/-- A stored field: subnormals read as zero. -/
def fIn (v : Nat) : Fv := ⟨if fZero v then fz (fSign v) else v % 2 ^ 32, false⟩

def fNeg (a : Fv) : Fv := ⟨if fSign a.v then a.v - 2 ^ 31 else a.v + 2 ^ 31, a.o⟩

def fAdd (a b : Fv) : Fv :=
  let i := fInt a.v + fInt b.v
  let r := if i = 0 then (⟨fz (fSign a.v && fSign b.v), false⟩ : Fv) else fOfQ i (2 ^ 149)
  ⟨r.v, r.o || a.o || b.o⟩

def fSub (a b : Fv) : Fv := fAdd a (fNeg b)

def fMul (a b : Fv) : Fv :=
  let r := fRound (fSign a.v != fSign b.v) (fMag a.v * fMag b.v) (2 ^ 298)
  ⟨r.v, r.o || a.o || b.o⟩

/-- Quotient; the formulas of the blocks never divide by zero. -/
def fDiv (a b : Fv) : Fv :=
  if fMag b.v = 0 then ⟨fz (fSign a.v != fSign b.v) + 0x7F7FFFFF, true⟩
  else
    let r := fRound (fSign a.v != fSign b.v) (fMag a.v) (fMag b.v)
    ⟨r.v, r.o || a.o || b.o⟩

/-- Comparisons. -/
def fLt (a b : Fv) : Bool := decide (fInt a.v < fInt b.v)
def fLe (a b : Fv) : Bool := decide (fInt a.v ≤ fInt b.v)
def fEq (a b : Fv) : Bool := decide (fInt a.v = fInt b.v)

/-- Clamp to a range. -/
def fClamp (v lo hi : Fv) : Fv := if fLt v lo then ⟨lo.v, v.o⟩ else if fLt hi v then ⟨hi.v, v.o⟩ else v

/-- Conversion to a w-bit signed integer, to nearest with ties to even, saturating (R127). -/
def fToInt (w : Nat) (v : Nat) : Int :=
  let m := divRne (fMag v) (2 ^ 149)
  clampI (-(2 ^ (w - 1) : Nat)) ((2 ^ (w - 1) : Nat) - 1) (if fSign v then -(m : Int) else m)

/-- A duration in ns as F32 seconds. -/
def fSec (ns : Nat) : Fv := fOfQ ns (10 ^ 9)

end Sys2Proof.Machine
end

