-- ==== Sys2Proof/Machine/Blocks.lean ====
section
/-! DEFINITION. The native blocks that act on their record alone (spec/05): record fields, the header, timers, counters, PID, RAMP,
LPF, MAVG, SCALE, SM. A record is its bytes, little-endian (R7). -/
namespace Sys2Proof.Machine

/-- What a block's call leaves: record, ACC, WACC (none: unchanged), STATUS (R131). -/
structure Blk where
  b : List Nat
  acc : Bool
  wacc : Option Word64 := none
  st : Nat := 0
deriving DecidableEq, Repr

/-- STATUS values (R131). -/
def sBAD_PARAM : Nat := 1
def sBAD_INPUT : Nat := 2
def sOVERFLOW : Nat := 3
def sOBJECT_REFUSED : Nat := 4
def sOBJECT_FAULT : Nat := 5
def sINHIBITED : Nat := 6

/-- A field of n bytes. -/
def fld (b : List Nat) (off n : Nat) : Nat := leNat ((b.drop off).take n)

/-- The record with a field of n bytes replaced. -/
def setFld (b : List Nat) (off n v : Nat) : List Nat := b.take off ++ toLe n v ++ b.drop (off + n)

/-- One bit of a byte field. -/
def fbit (b : List Nat) (off i : Nat) : Bool := bit (fld b off 1) i

/-- The record with one bit replaced. -/
def setFbit (b : List Nat) (off i : Nat) (v : Bool) : List Nat := setFld b off 1 (setBit (fld b off 1) i v)

/-- An F32 field as it stands, and as an operand. -/
def f32 (b : List Nat) (off : Nat) : Fv := fIn (fld b off 4)

/-- Some field is NaN or infinite (R127). -/
def anyBad (b : List Nat) (offs : List Nat) : Bool := offs.any (fun o => fBad (fld b o 4))

/-- A field is below 0 (NaN is not). -/
def negF (b : List Nat) (off : Nat) : Bool :=
  !(fBad (fld b off 4) && fFrac (fld b off 4) != 0) && decide (fInt (f32 b off).v < 0)

/-- An F32 as WACC (R132: converted to S64). -/
def conv (v : Nat) : Word64 := BitVec.ofInt 64 (fToInt 64 v)

/-- A call that met a bad input: outputs unchanged, ACC 0, WACC unchanged (R127). -/
def badInput (b : List Nat) : Blk := ⟨b, false, none, sBAD_INPUT⟩

/-! ### Timers (R133, R134) -/

/-- New ET and Q of a timer: 1 TON, 2 TOF, 3 TP, 4 TACC. -/
def timerRule (k : Nat) (inp prev q reset : Bool) (inc pt et : Nat) : Nat × Bool :=
  if k = 1 then
    let e := if !inp || !prev then 0 else min (et + inc) pt
    (e, inp && decide (pt ≤ e))
  else if k = 2 then
    if inp then (0, true)
    else
      let e := if prev then 0 else min (et + inc) pt
      (e, decide (e < pt))
  else if k = 3 then
    let x := if !q && inp && !prev then (0, true)
      else if q then (min (et + inc) pt, true)
      else if !inp then (0, false) else (et, false)
    (x.1, x.2 && decide (x.1 < pt))
  else
    let e := if reset then 0 else if inp && prev then min (et + inc) pt else et
    (e, !reset && decide (pt ≤ e))

/-- A call of a timer. -/
def blkTimer (k : Nat) (inp : Bool) (inc : Nat) (b : List Nat) : Blk :=
  let pt := fld b 24 8
  let et := fld b 32 8
  let q := fbit b 40 0
  let prev := fbit b 40 1
  let b' := setFbit b 40 1 inp
  if 2 ^ 63 - 1 < pt then ⟨b', q, some (BitVec.ofNat 64 et), sBAD_PARAM⟩
  else
    let x := timerRule k inp prev q (fbit b 40 2) inc pt et
    ⟨setFbit (setFld b' 32 8 x.1) 40 0 x.2, x.2, some (BitVec.ofNat 64 x.1), 0⟩

/-! ### Counters (R135, R136) -/

/-- A call of a counter: 0 CTU, 1 CTD, 2 CTUD. -/
def blkCounter (k : Nat) (inp : Bool) (b : List Nat) : Blk :=
  let cu := inp && k != 1
  let cd := if k = 1 then inp else if k = 2 then fbit b 32 6 else false
  let pv := sint 32 (fld b 24 4)
  let cv := sint 32 (fld b 28 4)
  let up := cu && !fbit b 32 2
  let dn := cd && !fbit b 32 3
  let new : Int :=
    if fbit b 32 4 then 0
    else if fbit b 32 5 then pv
    else if up && !dn then cv + 1
    else if dn && !up then cv - 1
    else cv
  let cv' := clampI (-(2 ^ 31)) (2 ^ 31 - 1) new
  let qu := decide (pv ≤ cv')
  let qd := decide (cv' ≤ 0)
  let b := setFld b 28 4 (uint 32 cv')
  let b := setFbit (setFbit b 32 2 cu) 32 3 cd
  let b := setFbit (setFbit b 32 0 qu) 32 1 qd
  ⟨b, if k = 1 then qd else qu, some (BitVec.ofInt 64 cv'), if cv' = new then 0 else sOVERFLOW⟩

/-! ### PID (R137, R138) -/

/-- The derivative source x, from error or process value. -/
def pidX (b : List Nat) (e : Fv) : Fv :=
  if fbit b 76 2 then e else if fbit b 76 1 then f32 b 28 else fNeg (f32 b 28)

/-- The control error. -/
def pidE (b : List Nat) : Fv :=
  let e := fSub (f32 b 24) (f32 b 28)
  if fbit b 76 1 then fNeg e else e

/-- A call of PID. DESIGN CHOICE, log 23: with ACC = 0 and a NaN or infinite input or parameter, X_PREV and STATUS hold. -/
def blkPid (en first : Bool) (inc : Nat) (b : List Nat) : Blk :=
  let bad := anyBad b [24, 28, 32, 36, 40, 44, 48, 52, 56]
  if !en then
    ⟨if bad then b else setFld b 72 4 (pidX b (pidE b)).v, false, none, 0⟩
  else if (!fNan (fld b 48 4) && !fNan (fld b 52 4) && decide (fKey (fld b 52 4) ≤ fKey (fld b 48 4))) || negF b 36 || negF b 40 || negF b 44 then
    ⟨b, false, some (conv (fld b 60 4)), sBAD_PARAM⟩
  else if bad then badInput b
  else
    let kp := f32 b 32
    let ti := f32 b 36
    let td := f32 b 40
    let tf := f32 b 44
    let dt := fSec inc
    let lo := f32 b 48
    let hi := f32 b 52
    let zero : Fv := ⟨0, false⟩
    let e := pidE b
    let x := pidX b e
    let xp := if first then x else f32 b 72
    let d0 := if first then zero else f32 b 68
    let der := fLt zero dt && fLt zero td
    let d := if der then fDiv (fAdd (fMul (fMul kp td) (fSub x xp)) (fMul tf d0)) (fAdd tf dt)
      else if fEq td zero then zero else d0
    let xp := if der then x else xp
    let p := fMul kp e
    let man := fbit b 76 0
    let i0 := if !man && fEq ti zero then zero else f32 b 64
    let out := if man then fClamp (f32 b 56) lo hi else fClamp (fAdd (fAdd p i0) d) lo hi
    let satHi := fEq out hi
    let satLo := fEq out lo
    let i := if man then fSub (fSub out p) d
      else if fLt zero ti && fLt zero dt && !(satHi && fLt zero e) && !(satLo && fLt e zero) then
        fAdd i0 (fDiv (fMul (fMul kp dt) e) ti)
      else i0
    let b := setFld (setFld b 60 4 out.v) 64 4 i.v
    let b := setFld (setFld b 68 4 d.v) 72 4 xp.v
    let b := setFbit (setFbit b 76 3 satHi) 76 4 satLo
    let st := if e.o || out.o || i.o || d.o then sOVERFLOW else 0
    ⟨b, st == 0 && !satHi && !satLo, some (conv out.v), st⟩

/-! ### RAMP, LPF, MAVG, SCALE (R139 to R142) -/

/-- A call of RAMP. -/
def blkRamp (en first : Bool) (inc : Nat) (b : List Nat) : Blk :=
  if !en then ⟨b, false, none, 0⟩
  else if negF b 28 || negF b 32 then ⟨b, fbit b 40 0, some (conv (fld b 36 4)), sBAD_PARAM⟩
  else if anyBad b [24, 28, 32] then badInput b
  else
    let zero : Fv := ⟨0, false⟩
    let dt := fSec inc
    let tg := f32 b 24
    let up := f32 b 28
    let dn := f32 b 32
    let out := f32 b 36
    let new :=
      if first && fbit b 40 1 then tg
      else if fLt out tg then
        (if fEq up zero then tg else let n := fAdd out (fMul up dt); if fLt n tg then n else ⟨tg.v, n.o⟩)
      else if fLt tg out then
        (if fEq dn zero then tg else let n := fSub out (fMul dn dt); if fLt tg n then n else ⟨tg.v, n.o⟩)
      else tg
    let at_ := fEq new tg
    ⟨setFbit (setFld b 36 4 new.v) 40 0 at_, at_, some (conv new.v), if new.o then sOVERFLOW else 0⟩

/-- A call of LPF. -/
def blkLpf (en first : Bool) (inc : Nat) (b : List Nat) : Blk :=
  if !en then ⟨b, false, none, 0⟩
  else if negF b 28 then ⟨b, false, some (conv (fld b 32 4)), sBAD_PARAM⟩
  else if anyBad b [24, 28] then badInput b
  else
    let zero : Fv := ⟨0, false⟩
    let dt := fSec inc
    let inp := f32 b 24
    let tau := f32 b 28
    let out := f32 b 32
    let new := if first || fEq tau zero then inp
      else if fEq dt zero then out
      else fAdd out (fDiv (fMul (fSub inp out) dt) (fAdd tau dt))
    ⟨setFld b 32 4 new.v, !new.o, some (conv new.v), if new.o then sOVERFLOW else 0⟩

/-- The mean of the samples held, added in ascending age from the newest. -/
def mavgOut (b : List Nat) (n head count : Nat) : Fv :=
  let sum := (List.range count).foldl (fun s i => fAdd s (f32 b (40 + 4 * ((head + n - i % n) % n)))) (⟨0, false⟩ : Fv)
  fDiv sum (fOfInt count)

/-- A call of MAVG; firstInCycle: the first call of the instance in this cycle (R130). DESIGN CHOICE, log 23: a later call of a cycle whose
first call stored no sample (ACC = 0, BAD_INPUT) replaces the newest sample held. -/
def blkMavg (en firstInCycle : Bool) (b : List Nat) : Blk :=
  let n := fld b 28 1
  let count := fld b 29 1
  let head := fld b 30 1
  if !en then ⟨b, false, none, 0⟩
  else if n = 0 ∨ 64 < n then ⟨b, false, some (conv (fld b 32 4)), sBAD_PARAM⟩
  else if anyBad b [24] then badInput b
  else
    let add := firstInCycle || count == 0
    let head' := if !add then head % n else if count = 0 then 0 else (head + 1) % n
    let count' := if add then min (count + 1) n else count
    let b := setFld b (40 + 4 * head') 4 (f32 b 24).v
    let b := setFld (setFld b 29 1 count') 30 1 head'
    let out := mavgOut b n head' count'
    ⟨setFld b 32 4 out.v, count' == n, some (conv out.v), if out.o then sOVERFLOW else 0⟩

/-- A call of SCALE, whose input is WACC converted to F32. DESIGN CHOICE, log 23: RAW_HI − RAW_LO is taken exactly and then converted; the
subtraction of RAW_LO, and the comparisons of IN_RANGE, are with the limits converted to F32. -/
def blkScale (en : Bool) (w : Word64) (b : List Nat) : Blk :=
  let rlo := sint 32 (fld b 24 4)
  let rhi := sint 32 (fld b 28 4)
  if !en then ⟨b, false, none, 0⟩
  else if rlo = rhi then ⟨b, fbit b 44 1, some (conv (fld b 40 4)), sBAD_PARAM⟩
  else if anyBad b [32, 36] then badInput b
  else
    let elo := f32 b 32
    let ehi := f32 b 36
    let raw := w.toInt
    let x := fAdd elo (fDiv (fMul (fSub (fOfInt raw) (fOfInt rlo)) (fSub ehi elo)) (fOfInt (rhi - rlo)))
    let y := if fbit b 44 0 then (if fLe elo ehi then fClamp x elo ehi else fClamp x ehi elo) else x
    let inr := fLe (fOfInt (min rlo rhi)) (fOfInt raw) && fLe (fOfInt raw) (fOfInt (max rlo rhi))
    ⟨setFbit (setFld b 40 4 y.v) 44 1 inr, inr, some (conv y.v), if y.o then sOVERFLOW else 0⟩

/-! ### SM (R143, R144) -/

/-- The transition the table gives: the first entry whose FROM is STATE and whose condition bit is 1. -/
def smNext (b : List Nat) (state : Nat) : Option Nat :=
  ((List.range (min (fld b 26 1) 64)).map (fun i => fld b (48 + 2 * i) 2)).findSome? (fun w =>
    if field w 15 11 = state ∧ bit (fld b 32 8) (field w 5 0) then some (field w 10 6) else none)

/-- A call of SM. DESIGN CHOICE, log 23: FORCE_STATE above 31 counts as a parameter out of range only where FORCE asks for it. -/
def blkSm (en : Bool) (inc : Nat) (b : List Nat) : Blk :=
  let state := fld b 24 1
  let wout := fun (b : List Nat) => some (BitVec.ofNat 64 (fld b 24 1))
  if !en then ⟨b, false, none, 0⟩
  else if fbit b 27 1 && decide (31 < fld b 28 1) then
    let b := setFbit b 27 1 false
    ⟨b, fbit b 27 0, wout b, sBAD_PARAM⟩
  else
    let tr := if fbit b 27 1 then some (fld b 28 1) else smNext b state
    let b := setFbit b 27 1 false
    match tr with
    | some s =>
      let b := setFld (setFld b 25 1 state) 24 1 s
      let b := setFbit (setFld b 40 8 0) 27 0 true
      ⟨b, true, wout b, 0⟩
    | none =>
      let b := setFbit (setFld b 40 8 ((fld b 40 8 + inc) % 2 ^ 64)) 27 0 false
      ⟨b, false, wout b, 0⟩

/-! ### The catalogue (R132) -/

/-- Record bytes and body clocks of a native block; none where no native block has the BLOCK_ID. -/
def nativeSize (id : Nat) : Option (Nat × Nat) :=
  alook none
    [(0x0001, some (48, 14)), (0x0002, some (48, 14)), (0x0003, some (48, 14)), (0x0004, some (48, 16)),
     (0x0010, some (40, 12)), (0x0011, some (40, 12)), (0x0012, some (40, 16)), (0x0020, some (80, 96)), (0x0021, some (48, 40)),
     (0x0022, some (40, 28)), (0x0023, some (296, 20)), (0x0024, some (48, 40)), (0x0030, some (176, 24)), (0x0040, some (56, 30)),
     (0x0041, some (64, 34)), (0x0050, some (40, 28)), (0x0060, some (32, 20)), (0x0070, some (40, 22)), (0x0071, some (40, 30))] id

/-- Body clocks with the part that depends on the record: N of MAVG, NTRANS of SM. -/
def bodyClk (id : Nat) (b : List Nat) : Nat :=
  ((nativeSize id).map (·.2)).getD 0 + (if id = 0x0023 then fld b 28 1 else if id = 0x0030 then 4 * fld b 26 1 else 0)

/-- Granules loaded (R129): the fixed fields, then BUF for the samples held, TRANS for the entries in use. -/
def granLoads (id : Nat) (b : List Nat) : Nat :=
  if id = 0x0023 then 5 + cdiv (fld b 29 1) 2
  else if id = 0x0030 then 6 + cdiv (fld b 26 1) 4
  else ((nativeSize id).map (·.1)).getD 0 / 8

/-- A call of a block that acts on its record alone; none for the others. DESIGN CHOICE, log 23. -/
def recBlock (id : Nat) (acc : Bool) (w : Word64) (first firstInCycle : Bool) (inc : Nat) (b : List Nat) : Option Blk :=
  if 1 ≤ id ∧ id ≤ 4 then some (blkTimer id acc inc b)
  else if 0x10 ≤ id ∧ id ≤ 0x12 then some (blkCounter (id - 0x10) acc b)
  else if id = 0x20 then some (blkPid acc first inc b)
  else if id = 0x21 then some (blkRamp acc first inc b)
  else if id = 0x22 then some (blkLpf acc first inc b)
  else if id = 0x23 then some (blkMavg acc firstInCycle b)
  else if id = 0x24 then some (blkScale acc w b)
  else if id = 0x30 then some (blkSm acc inc b)
  else none

/-- The blocks whose ACC input is EN: a call with ACC 0 leaves STATUS as it was (R128, R132). DESIGN CHOICE, log 23. -/
def enBlock (id : Nat) : Bool := [0x20, 0x21, 0x22, 0x23, 0x24, 0x30, 0x50, 0x71].contains id

/-- The header after a call (R124, R128, R130, R131). -/
def header (b : List Nat) (keepStatus : Bool) (st cycle : Nat) : List Nat :=
  let last := fld b 16 8
  let b := if last = cycle then b
    else setFbit b 9 5 (decide (last ≠ 2 ^ 64 - 1 ∧ last + 1 ≠ cycle))
  let b := setFbit b 9 7 false
  let b := if keepStatus then b
    else if st = 0 then setFld b 10 2 0
    else setFld (setFld b 10 2 st) 12 2 (min (fld b 12 2 + 1) 0xFFFF)
  setFld b 16 8 cycle

end Sys2Proof.Machine
end

