-- ==== Sys2Proof/Machine/Operands.lean ====
section
/-! DEFINITION. A rung instruction in execution: operand forms (R99, R100), the index prefix (R116), loads and stores through the
store buffer (R76, R77), image accesses under the ownership table (R71, R73, R176), instance and LOCALS accesses (R74). -/
namespace Sys2Proof.Machine

/-- An engine executing an instruction: memories at its start, writes made since, the machine, the engine, a fault raised. -/
structure Rx where
  r : Ram
  ws : List W := []
  m : Mach
  ce : Nat
  /-- Partition of the engine. -/
  p : Nat
  e : Engine
  /-- FAULT_CAUSE of a fault raised (R183). -/
  fault : Option Nat := none

/-- A cell as the instruction sees it. -/
def Rx.cell (x : Rx) (sp : Space) (a : Nat) : Nat := rd (wr x.r x.ws) sp a

/-- Raise a fault; the first one stands. -/
def Rx.raise (x : Rx) (cause : Nat) : Rx := { x with fault := some (x.fault.getD cause) }

/-- Let clocks pass. -/
def Rx.wait (x : Rx) (n : Nat) : Rx := { x with e := { x.e with clk := x.e.clk + n } }

/-- Write an entry's bits to memory. -/
def Rx.flush (x : Rx) (es : List SbEnt) : Rx := { x with ws := x.ws ++ sbWs x.p (wr x.r x.ws) es }

/-- Drain what has drained by a clock (R76). -/
def Rx.drainTo (x : Rx) (now : Nat) : Rx :=
  let d := sbDue now x.e.sb x.e.portFree
  let x := x.flush d.1
  { x with e := { x.e with
      sb := d.2.1
      portFree := d.2.2 } }

/-- Drain the whole buffer, waiting for it (R81, R83). -/
def Rx.drainAll (x : Rx) : Rx :=
  let t := max x.e.clk (sbEmptyAt x.e)
  let x := x.drainTo t
  { x with e := { x.e with clk := t } }

/-- The granule with some bits replaced. -/
def mergeBits (old new mask : BitVec 64) : BitVec 64 := (old &&& ~~~ mask) ||| (new &&& mask)

/-- Index of the youngest entry that satisfies a test. -/
def lastIdx (f : SbEnt → Bool) (es : List SbEnt) : Option Nat :=
  ((List.range es.length).reverse).find? (fun i => ((es[i]?).map f).getD false)

/-- A store enters the buffer (R76): it merges into an entry of its granule that has not begun to drain, takes a new entry at the
tail, or first waits for the head entry of a full buffer. -/
def Rx.store (x : Rx) (sp : Buffered) (g : Nat) (mask data : BitVec 64) : Rx :=
  let x := x.drainTo x.e.clk
  let fresh := fun (x : Rx) => { x with e := { x.e with sb := x.e.sb ++ [⟨sp, g, mask, data &&& mask, x.e.clk⟩] } }
  let enter := fun (x : Rx) =>
    if x.e.sb.length < 8 then fresh x
    else
      let t := ((sbEnds x.e.sb x.e.portFree).head?).getD x.e.clk
      let x := { x with m := x.m.bump F.ceFULL_STALLS x.ce }
      let x := { x with e := { x.e with clk := max t x.e.clk } }
      fresh (x.drainTo x.e.clk)
  match lastIdx (fun e => e.sp == sp && e.gran == g) x.e.sb with
  | none => enter x
  | some k =>
    match x.e.sb[k]? with
    | none => enter x
    | some e =>
      if k ≠ 0 ∨ x.e.clk ≤ e.start x.e.portFree then
        let e' : SbEnt := ⟨sp, g, e.mask ||| mask, mergeBits e.data data mask, e.entered⟩
        { x with e := { x.e with sb := x.e.sb.set k e' } }
      else enter x

/-- A load is resolved against the buffer (R77): from memory, forwarded from the youngest entry that touches it, or after a stall
until every entry that touches it has drained. The bits asked for, at their places in the granule. -/
def Rx.load (x : Rx) (sp : Buffered) (g : Nat) (mask : BitVec 64) : BitVec 64 × Rx :=
  let x := x.drainTo x.e.clk
  match lastIdx (fun e => e.sp == sp && e.gran == g && (e.mask &&& mask) != 0#64) x.e.sb with
  | none => (granule (wr x.r x.ws) sp g &&& mask, x)
  | some k =>
    match x.e.sb[k]? with
    | none => (granule (wr x.r x.ws) sp g &&& mask, x)
    | some e =>
      if e.mask &&& mask = mask then (e.data &&& mask, { x with m := x.m.bump F.ceFWD_HITS x.ce })
      else
        let t := ((sbEnds x.e.sb x.e.portFree)[k]?).getD x.e.clk
        let n := t - x.e.clk
        let x := { x with m := (x.m.bump F.cePARTIAL_STALLS x.ce).bump F.cePARTIAL_CLK x.ce n }
        let x := (x.wait n).drainTo t
        (granule (wr x.r x.ws) sp g &&& mask, x)

/-- A mask of n bits. -/
def ones (n : Nat) : BitVec 64 := BitVec.ofNat 64 (2 ^ n - 1)

/-! ### Image accesses (R71, R176) -/

/-- Violations since the last report are reported (R177): a record and an event with the counts and FIRST_VIOLATION, one a second. -/
def Mach.vioReport (m : Mach) (p : Nat) : Mach :=
  let x := m.part p
  if x.vioWrites + x.vioReads = 0 ∨ x.vioAt.any (fun a => decide (m.now < a + 10 ^ 9)) then m
  else
    let det := toLe 4 (m.obj F.partFIRST_VIOLATION p) ++ toLe 4 x.vioWrites ++ toLe 4 x.vioReads
    let m := m.chron { sub := 2, low := 0x07, part := p, count := x.vioWrites + x.vioReads, cycle := x.cycle, detail := det, notice := [m.partChan p] }
    m.updPart p (fun y => { y with
      vioAt := some m.now
      vioWrites := 0
      vioReads := 0 })

/-- Count a discarded store or a denied load; the first is recorded (R176). -/
def Rx.violate (x : Rx) (store : Bool) (pt : Nat) : Rx :=
  let v := store.toNat * 2 ^ 31 + x.e.task % 256 * 2 ^ 20 + pt % 2 ^ 20
  let m := x.m.bump (if store then F.partWRITES_DISCARDED else F.partREADS_DENIED) x.p
  let m := if m.obj F.partFIRST_VIOLATION x.p = 0xFFFFFFFF then m.setObj F.partFIRST_VIOLATION x.p v else m
  { x with m := (m.updPart x.p (fun y => { y with
      vioWrites := y.vioWrites + store.toNat
      vioReads := y.vioReads + (!store).toNat })).vioReport x.p }

/-- The ownership entry of a slot as the instruction sees it. -/
def Rx.ent (x : Rx) (pt : Nat) : Nat := x.m.ownEnt x.r pt

/-- Load a point of n slots; only the bits of `sub`, a mask within the point, are read. 0 where the partition may not read. DEDUCED, log 20. -/
def Rx.imgLoad (x : Rx) (pt n : Nat) (sub : BitVec 64) : BitVec 64 × Rx :=
  let pt := pt % 2 ^ 20
  if (List.range n).all (fun i => mayRead (x.ent (pt + i)) x.p) then
    if fromWork (x.ent pt) x.p then
      let sh := 16 * (pt % 4)
      let y := x.load .work (pt / 4) (sub <<< sh)
      (y.1 >>> sh, y.2)
    else
      ((List.range n).foldl (fun v i => v ||| (BitVec.ofNat 64 (x.cell .front (frontAt x.p (pt + i)) % 2 ^ 16) <<< (16 * i))) 0#64 &&& sub, x)
  else (0#64, x.violate false pt)

/-- Store the bits of `sub` into a point of n slots; discarded where the partition may not write. DEDUCED, log 20. -/
def Rx.imgStore (x : Rx) (pt n : Nat) (sub v : BitVec 64) : Rx :=
  let pt := pt % 2 ^ 20
  if (List.range n).all (fun i => mayWrite (x.ent (pt + i)) x.p) then
    let sh := 16 * (pt % 4)
    x.store .work (pt / 4) (sub <<< sh) (v <<< sh)
  else x.violate true pt

/-- The quality code LDQ reads (R103, R176): input quality, or the output quality for outputs and internal points. -/
def Rx.quality (x : Rx) (pt : Nat) : Nat × Rx :=
  if mayRead (x.ent pt) x.p then
    (if fromWork (x.ent pt) x.p then x.cell .pubQ pt else x.cell .frontQ (frontAt x.p pt), x)
  else (3, x.violate false pt)

/-! ### Frames, instance data, LOCALS (R74, R83, R99) -/

/-- Bytes of a frame window in the frame file. DEDUCED, log 22. -/
def winAt (ce depth : Nat) : Nat := ce * 8192 + depth % 15 * 512

/-- Nesting depth of the present frame. -/
def Rx.depth (x : Rx) : Nat := x.e.frames - 1

/-- A little-endian field of the frame at a depth. -/
def Rx.frameField (x : Rx) (depth off n : Nat) : Nat :=
  leNat ((List.range n).map (fun i => x.cell .frame (winAt x.ce depth + off + i)))

/-- INSTANCE_BASE of the present frame. -/
def Rx.instBase (x : Rx) : Nat := x.frameField x.depth 8 4

/-- Byte address in the instance data of a byte of the present record; none outside the partition's region (R74). -/
def Rx.instAddr (x : Rx) (base off size : Nat) : Option Nat :=
  if base + off + size ≤ x.m.obj F.partINST_SIZE x.p then some (x.m.obj F.partINST_BASE x.p + base + off) else none

/-- Load size bytes at an offset of a space: 0 the present record, 1 LOCALS; only the bits of `sub`. -/
def Rx.instLoad (x : Rx) (local_ : Bool) (off size : Nat) (sub : BitVec 64) : BitVec 64 × Rx :=
  if local_ then
    (BitVec.ofNat 64 (leNat ((List.range size).map (fun i => x.cell .frame (winAt x.ce x.depth + 64 + off + i)))) &&& sub, x)
  else
    match x.instAddr x.instBase off size with
    | none => (0#64, x.raise 4)
    | some a =>
      let sh := 8 * (a % 8)
      let y := x.load .inst (a / 8) (sub <<< sh)
      (y.1 >>> sh, y.2)

/-- Store the bits of `sub` of size bytes at an offset of a space. -/
def Rx.instStore (x : Rx) (local_ : Bool) (off size : Nat) (sub v : BitVec 64) : Rx :=
  if local_ then
    let old := BitVec.ofNat 64 (leNat ((List.range size).map (fun i => x.cell .frame (winAt x.ce x.depth + 64 + off + i))))
    { x with ws := x.ws ++ putN .frame (winAt x.ce x.depth + 64 + off) (toLe size (mergeBits old v sub).toNat) }
  else
    match x.instAddr x.instBase off size with
    | none => x.raise 4
    | some a =>
      let sh := 8 * (a % 8)
      x.store .inst (a / 8) (sub <<< sh) (v <<< sh)

/-- The 16-bit field word w of the present record (R99). -/
def Rx.fieldLoad (x : Rx) (w : Nat) : Nat × Rx :=
  let y := x.instLoad false (2 * w) 2 (ones 16)
  (y.1.toNat, y.2)

/-- Store a field word. -/
def Rx.fieldStore (x : Rx) (w v : Nat) : Rx := x.instStore false (2 * w) 2 (ones 16) (BitVec.ofNat 64 v)

/-! ### Execution of one instruction -/

/-- The index a prefix applies, 0 without one. -/
def Rx.index (x : Rx) : Nat := (x.e.idx.map (·.1)).getD 0

/-- The end of an instruction: the prefix is spent, the next index, its clocks. -/
def Rx.done (x : Rx) (clk : Nat) : Rx :=
  { x with e := { x.e with
      pc := x.e.pc + 1
      clk := x.e.clk + clk
      idx := none } }

/-- Set ACC. -/
def Rx.acc (x : Rx) (b : Bool) : Rx := { x with e := { x.e with acc := b } }

/-- Set WACC. -/
def Rx.wacc (x : Rx) (v : Word64) : Rx := { x with e := { x.e with wacc := v } }

/-- What an instruction leaves: its effect, or the fault it raised with no other effect (R121). -/
def Rx.result (x0 x : Rx) : Mach × List W :=
  match x.fault with
  | none => (x.m.updEng x.ce (fun _ => x.e), x.ws)
  | some c => x0.m.solveFault x0.r x0.p c x0.ce x0.e.task x0.e.pc

/-- An engine executes an instruction (R99 to R121). An engine that is not solving executes nothing; a fetch meets a fault where the
form's reserved operand bits are not 0 or the branch stack is deeper than 32; an index above its declared maximum faults. DESIGN CHOICE, log 1; DEDUCED, log 20. -/
def rung (ce : Fin 8) (ok : Bool) (f : Rx → Rx) (s : State) : Out :=
  evR 0 (fun r m =>
    let e := m.eng ce.val
    if e.run ≠ 1 then (m, [])
    else
      let x0 : Rx := { r := r, m := m, ce := ce.val, p := m.obj F.cePARTITION ce.val, e := e }
      let tooBig := match e.idx with
        | some (i, mx) => decide (mx < i)
        | none => false
      x0.result (if !ok ∨ 32 < e.stack.length then x0.raise 9 else if tooBig then x0.raise 7 else f x0)) s

/-! ### Operand forms (R99, R100, R116) -/

/-- P-bit: point, bit. -/
def opP (op : Operand) : Nat := (op >>> 4).toNat
def opPbit (op : Operand) : Nat := op.toNat % 16

/-- A word form of n slots names an aligned point and has its reserved bits 0. DEDUCED, log 20. -/
def okPword (op : Operand) (n : Nat) : Bool := op.toNat % 16 == 0 && opP op % n == 0

/-- I forms: space 1 is LOCALS. -/
def opLocal (op : Operand) : Bool := op.getLsbD 23
def opIoff (op : Operand) : Nat := op.toNat % 2 ^ 23 / 8
def opIbit (op : Operand) : Nat := op.toNat % 8
def opIword (op : Operand) : Nat := op.toNat % 2 ^ 23

/-- An I-word operand is aligned to its size and, in LOCALS, ends within byte 447. DEDUCED, log 20. -/
def okIword (op : Operand) (n : Nat) : Bool := opIword op % n == 0 && (!opLocal op || decide (opIword op + n ≤ 448))

/-- An I-bit operand in LOCALS lies within byte 447. -/
def okIbit (op : Operand) : Bool := !opLocal op || decide (opIoff op < 448)

/-- S: number; bits [23:6] are 0. -/
def okS (op : Operand) : Bool := decide (op.toNat < 64)
def opS (op : Operand) : Nat := op.toNat % 64

/-- N: no operand. -/
def okN (op : Operand) : Bool := op.toNat == 0

/-- K immediates. -/
def opKs (op : Operand) : Word64 := op.signExtend 64
def opKz (op : Operand) : Word64 := op.setWidth 64

/-- L and X: count, distance or field word in [23:12]; field word or maximum in [11:0]. -/
def opHi (op : Operand) : Nat := op.toNat / 2 ^ 12
def opLo (op : Operand) : Nat := op.toNat % 2 ^ 12

/-- Load the addressed bit of a point. -/
def Rx.pbit (x : Rx) (op : Operand) : Bool × Rx :=
  let y := x.imgLoad (opP op + x.index) 1 (ones 1 <<< opPbit op)
  (y.1.getLsbD (opPbit op), y.2)

/-- Store the addressed bit of a point. -/
def Rx.pbitSt (x : Rx) (op : Operand) (b : Bool) : Rx :=
  x.imgStore (opP op + x.index) 1 (ones 1 <<< opPbit op) (BitVec.ofNat 64 b.toNat <<< opPbit op)

/-- Load the addressed bit of instance data. -/
def Rx.ibit (x : Rx) (op : Operand) : Bool × Rx :=
  let y := x.instLoad (opLocal op) (opIoff op + x.index) 1 (ones 1 <<< opIbit op)
  (y.1.getLsbD (opIbit op), y.2)

/-- Store the addressed bit of instance data. -/
def Rx.ibitSt (x : Rx) (op : Operand) (b : Bool) : Rx :=
  x.instStore (opLocal op) (opIoff op + x.index) 1 (ones 1 <<< opIbit op) (BitVec.ofNat 64 b.toNat <<< opIbit op)

/-- Load a point of n slots. -/
def Rx.pword (x : Rx) (op : Operand) (n : Nat) : Word64 × Rx := x.imgLoad (opP op + n * x.index) n (ones (16 * n))

/-- Store a point of n slots. -/
def Rx.pwordSt (x : Rx) (op : Operand) (n : Nat) : Rx := x.imgStore (opP op + n * x.index) n (ones (16 * n)) x.e.wacc

/-- Load an instance field of n bytes. -/
def Rx.iword (x : Rx) (op : Operand) (n : Nat) : Word64 × Rx :=
  x.instLoad (opLocal op) (opIword op + n * x.index) n (ones (8 * n))

/-- Store an instance field of n bytes. -/
def Rx.iwordSt (x : Rx) (op : Operand) (n : Nat) : Rx :=
  x.instStore (opLocal op) (opIword op + n * x.index) n (ones (8 * n)) x.e.wacc

/-- Sign extension of the low w bits. -/
def sext (w : Nat) (v : Word64) : Word64 := (v.setWidth w).signExtend 64

end Sys2Proof.Machine
end

