-- ==== Sys2Proof/Machine/RungCtl.lean ====
section
/-! DEFINITION. Control instructions, frames, tasks, barriers, the end of Solve (R81 to R92, R113 to R119), all but CALL. -/
namespace Sys2Proof.Machine

/-! ### Frames (R83 to R86) -/

/-- Bytes 0 to 63 of a frame, FRAME_CHECK 0. -/
def frameBytes (ret depth kind inst : Nat) (e : Engine) (block : Nat) : List Nat :=
  let st := (e.stack.reverse.zip (List.range 32)).foldl (fun n b => n + b.1.toNat * 2 ^ b.2) 0
  toLe 4 ret ++ toLe 2 depth ++ [kind, 0] ++ toLe 4 inst ++ toLe 4 st ++ [e.acc.toNat * 128 + e.stack.length % 64, 0] ++ [0, 0] ++
  toLe 4 0 ++ toLe 8 e.wacc.toNat ++ toLe 4 block ++ List.replicate 28 0

/-- Byte address of a spilled frame in the engine's spill area (R84, R170). -/
def spillAt (ce depth : Nat) : Nat := 49807360 + ce * 65536 + depth * 512

/-- The check of a frame: over bytes 0 to 63, its own field taken as 0. -/
def checkOf (bs : List Nat) : Nat := Config.frameCheck (bs.take 18 ++ [0, 0] ++ (bs.drop 20).take 44) % 2 ^ 16

/-- Bytes of the window that holds a depth. -/
def Rx.window (x : Rx) (depth : Nat) : List Nat := (List.range 512).map (fun i => x.cell .frame (winAt x.ce depth + i))

/-- Free a window where 15 frames are live: the oldest goes to the spill area, in 44 clocks (R84); beyond it, a frame fault (R86). -/
def Rx.spill (x : Rx) : Rx :=
  if x.e.frames - x.e.oldest < 15 then x
  else if 128 ≤ x.e.oldest then x.raise 1
  else
    let bs := x.window x.e.oldest
    let bs := setAt bs (checkOf bs)
    let x := { x with
      ws := x.ws ++ putN .inst (spillAt x.ce x.e.oldest) bs
      m := x.m.bump F.ceSPILLS x.ce }
    { x with e := { x.e with
        oldest := x.e.oldest + 1
        clk := x.e.clk + 44 } }
where
  /-- FRAME_CHECK written into the image. -/
  setAt (bs : List Nat) (v : Nat) : List Nat := bs.take 18 ++ toLe 2 v ++ bs.drop 20

/-- Read the present frame back where it was spilled, in 48 clocks (R84); a wrong check is a frame fault (R86). -/
def Rx.fill (x : Rx) : Rx :=
  let d := x.depth
  if x.e.oldest ≤ d then x
  else
    let bs := (List.range 512).map (fun i => x.cell .inst (spillAt x.ce d + i))
    if checkOf bs ≠ leNat ((bs.drop 18).take 2) then x.raise 1
    else
      let x := { x with
        ws := x.ws ++ putN .frame (winAt x.ce d) bs
        m := x.m.bump F.ceFILLS x.ce }
      { x with e := { x.e with
          oldest := d
          clk := x.e.clk + 48 } }

/-- A new frame: window, saved state of the caller, return address (R119); ACC and WACC pass, the branch stack is empty. -/
def Rx.push (x : Rx) (kind inst block : Nat) : Rx :=
  let x := x.spill
  let d := x.e.frames
  let x := { x with
    ws := x.ws ++ putN .frame (winAt x.ce d) (frameBytes (x.e.pc + 1) d kind inst x.e block)
    m := x.m.peak F.ceMAX_DEPTH_SEEN x.ce d }
  { x with e := { x.e with
      frames := d + 1
      stack := [] } }

/-- Return from the present frame: the caller's branch stack and index; ACC and WACC stay (R119), in 4 clocks. -/
def Rx.ret (x : Rx) : Rx :=
  let d := x.depth
  let st := x.frameField d 12 4
  let sp := x.frameField d 16 1 % 64
  let pc := x.frameField d 0 4
  let x := { x with e := { x.e with
      frames := d
      stack := ((List.range (min sp 32)).map (bit st)).reverse
      pc := pc
      idx := none
      clk := x.e.clk + 4 } }
  x.fill

/-! ### Tasks and the end of Solve (R87, R90, R101) -/

/-- Instruction index of a task's code in an engine's bank (R68). -/
def Mach.taskEntry (m : Mach) (t ce : Nat) : Nat := ((m.sheet.entries.find? (fun e => e.1 == ce && e.2.1 == t)).map (·.2.2)).getD 0

/-- Byte offset of a task's root record. -/
def Mach.taskRoot (m : Mach) (t : Nat) : Nat := ((m.cfg.bind (fun c => c.tasks.find? (·.task == t))).map (·.root)).getD 0

/-- The end of Solve: drain and 8 clocks; the engine's self-test slice starts (R83, R90, R92). -/
def Rx.endSolve (x : Rx) : Rx :=
  let x := x.drainAll.wait 8
  let m := x.m.setObj F.ceSOLVES x.ce (x.m.obj F.ceSOLVES x.ce + 1)
  { x with
    m := m.peak F.ceMAX_SOLVE_CLK x.ce x.e.clk
    e := { x.e with
      run := 3
      frames := 0
      oldest := 0
      idx := none
      slice := 1 } }

/-- The next task of the list starts, in 12 clocks: ACC, WACC and the stack cleared, root frame allocated; the end of Solve after the
last (R101, R113). -/
def Rx.nextTask (x : Rx) : Rx :=
  match x.e.todo with
  | [] => x.endSolve
  | t :: r =>
    let e := { x.e with
      acc := false
      wacc := 0#64
      stack := []
      idx := none
      task := t
      todo := r
      pc := x.m.taskEntry t x.ce
      frames := 1
      oldest := 0
      clk := x.e.clk + 12 }
    { x with
      e := e
      ws := x.ws ++ putN .frame (winAt x.ce 0) (frameBytes 0 0 0 (x.m.taskRoot t) e 0) }

/-! ### Control instructions (R113, R114, R116) -/

/-- Continue at an index. -/
def Rx.jump (x : Rx) (pc clk : Nat) : Rx :=
  { x with e := { x.e with
      pc := pc
      clk := x.e.clk + clk
      idx := none } }

/-- NOP (R113): nothing, in 1 clock. -/
def execNop (ce : Fin 8) (op : Operand) (s : State) : Out := rung ce (okN op) (fun x => x.done 1) s

/-- END (R113): ends the task, in 1 clock, or returns from the composed block, in 4. DEDUCED, log 22. -/
def execEndTask (ce : Fin 8) (op : Operand) (s : State) : Out :=
  rung ce (okN op) (fun x => if x.e.frames ≤ 1 then (x.wait 1).nextTask else x.ret) s

/-- JMP (R113): own index + distance, in 2 clocks. -/
def execJmp (ce : Fin 8) (op : Operand) (s : State) : Out := rung ce true (fun x => x.jump (x.e.pc + op.toNat) 2) s

/-- JMPC (R113): jump if ACC = 1; 2 clocks taken, 1 not. -/
def execJmpc (ce : Fin 8) (op : Operand) (s : State) : Out :=
  rung ce true (fun x => if x.e.acc then x.jump (x.e.pc + op.toNat) 2 else x.done 1) s

/-- JMPN (R113): jump if ACC = 0; 2 clocks taken, 1 not. -/
def execJmpn (ce : Fin 8) (op : Operand) (s : State) : Out :=
  rung ce true (fun x => if x.e.acc then x.done 1 else x.jump (x.e.pc + op.toNat) 2) s

/-- LPI (R114): field := count. -/
def execLpi (ce : Fin 8) (op : Operand) (s : State) : Out :=
  rung ce true (fun x => (x.fieldStore (opLo op) (opHi op)).done 1) s

/-- LOOP (R114): a counter of 0 faults LOOP_COUNT; above 1 it falls by 1 and the loop goes back d instructions; else it becomes 0. -/
def execLoop (ce : Fin 8) (op : Operand) (s : State) : Out :=
  rung ce true (fun x =>
    let y := x.fieldLoad (opLo op)
    if y.1 = 0 then y.2.raise 8
    else if 1 < y.1 then (y.2.fieldStore (opLo op) (y.1 - 1)).jump (x.e.pc - opHi op) 3
    else (y.2.fieldStore (opLo op) 0).done 2) s

/-- IDX (R116): the unsigned index of a field word, and its declared maximum, apply to the next instruction. -/
def execIdx (ce : Fin 8) (op : Operand) (s : State) : Out :=
  rung ce true (fun x =>
    let y := x.fieldLoad (opHi op)
    let x := y.2.done 1
    { x with e := { x.e with idx := some (y.1, opLo op) } }) s

/-! ### Barriers (R81) -/

/-- The plan of a partition in force: the base placement before its first Solve. -/
def Mach.planNowOf (m : Mach) (p : Nat) : Option FencePlan := (m.part p).plan.orElse (fun _ => m.planOf p 0)

/-- Engines whose tasks, as the plan in force places them, execute SYNC b (R81); an engine fenced in a cycle takes part in it to its end (R94). -/
def Mach.participants (m : Mach) (p b : Nat) : List Nat := ((m.planNowOf p).map (fun x => bitsOf 8 (alook 0 x.parts b))).getD []

/-- SYNC (R81): the buffer drains; the first SYNC b of the cycle on the engine is its arrival, and it waits for the release; a later
one costs 6 clocks after the drain. -/
def execSync (ce : Fin 8) (op : Operand) (s : State) : Out :=
  rung ce (okS op) (fun x =>
    let b := opS op
    let x := x.drainAll
    let p := x.m.part x.p
    if p.released.contains b then x.done 6
    else
      let old := alook 0 p.barriers b
      let m := x.m.updPart x.p (fun p => { p with barriers := aset p.barriers b (setBit old x.ce true) })
      let x := { x with m := m }.done 0
      { x with e := { x.e with
          run := 2
          waitAt := some (b, x.e.clk) } }) s

/-- Clock of release of a barrier: the latest arrival and 6 clocks; none while a participant has not arrived (R81, R90). -/
def Mach.releaseClk (m : Mach) (p b : Nat) : Option Nat :=
  let ps := m.participants p b
  let mask := alook 0 (m.part p).barriers b
  if mask ≠ 0 ∧ ps.all (fun c => bit mask c) then
    some (((m.enginesOf p).filterMap (fun c => match (m.eng c).waitAt with
      | some (b', t) => if b' = b then some t else none
      | none => none)).foldl max 0 + 6)
  else none

/-- BARRIER_RELEASE (R81): every participant has arrived; the waiting engines go on 6 clocks after the last arrival. -/
def execBarrierRelease (t : Nat) (p : Fin 8) (b : Fin 64) (s : State) : Out :=
  ev t (fun m =>
    match m.releaseClk p.val b.val with
    | none => m
    | some clk =>
      let m := m.each (m.enginesOf p.val) (fun m c =>
        match (m.eng c).waitAt with
        | some (b', at_) =>
          if b' = b.val ∧ (m.eng c).run = 2 then
            (m.updEng c (fun e => { e with
              run := 1
              waitAt := none
              clk := clk })).peak F.ceSYNC_WAIT_MAX c (clk - at_)
          else m
        | none => m)
      m.updPart p.val (fun x => { x with released := b.val :: x.released })) s

/-- BARRIER_TIMEOUT (R91): a barrier not released by twice its loader release time faults the partition; every participant that has
not arrived is fenced. -/
def execBarrierTimeout (t : Nat) (p : Fin 8) (b : Fin 64) (s : State) : Out :=
  evR t (fun r m =>
    let x := m.part p.val
    let rel := ((m.planNowOf p.val).map (fun y => alook 0 y.rel b.val)).getD 0
    let due := x.solveAt * 4 + 2 * rel * 5 ≤ m.now * 4
    let late := (m.participants p.val b.val).filter (fun c => !bit (alook 0 x.barriers b.val) c)
    if m.obj F.partSTATE p.val ≠ 1 ∨ !x.solves ∨ x.phase ≠ 2 ∨ x.released.contains b.val ∨ late = [] ∨ ¬ due then (m, [])
    else
      let y := m.partFault r p.val 5 ((late.head?).getD 0xFF) 0xFF 0xFFFFFFFF
      ((late.foldl (fun m c => (m.markFenced p.val c 4).fenceSaid p.val c 4) y.1).degrade, y.2)) s

/-- STORE_BUFFER_DRAIN (R76): the head entry of an engine's buffer has drained: while the engine solves, once its clock has reached the
end of the drain; otherwise in its turn. -/
def execStoreBufferDrain (ce : Fin 8) (s : State) : Out :=
  evR 0 (fun r m =>
    let e := m.eng ce.val
    match e.sb with
    | [] => (m, [])
    | h :: rest =>
      if e.run = 1 ∧ e.clk < h.start e.portFree + 4 then (m, [])
      else
        (m.updEng ce.val (fun e => { e with
          sb := rest
          portFree := h.start e.portFree + 4 }), entWs (m.obj F.cePARTITION ce.val) r h)) s

end Sys2Proof.Machine
end

