-- ==== Sys2Proof/Machine/Bound.lean ====
section
/-! DEFINITION. The native blocks that bind an object of the module (spec/05 R145 to R158): AXMOVE, GEAR, DOOR, ALARM, LSTART, LOOPW. -/
namespace Sys2Proof.Machine

/-- What a call of a bound block leaves: record, ACC, WACC, STATUS; its stores to the object's command points (point, slots, value), made
at body end; the start priority LSTART gives its channel. -/
structure Bound where
  blk : Blk
  puts : List (Nat × Nat × Nat) := []
  prio : Option (Nat × Nat) := none

/-- Status slots from the front input image, n slots as one value (R146). -/
def Rx.status (x : Rx) (pt : Nat) (n : Nat := 1) : Nat :=
  (List.range n).foldl (fun v i => v + x.cell .front (frontAt x.p (pt + i)) * 2 ^ (16 * i)) 0

/-- Command slots as written so far, stores in the buffer included. DEDUCED, log 24. -/
def Rx.command (x : Rx) (pt : Nat) (n : Nat := 1) : Nat :=
  let r := wr x.r x.ws
  let r := wr r (sbWs x.p r x.e.sb)
  (List.range n).foldl (fun v i => v + rd r .work (pt + i) * 2 ^ (16 * i)) 0

/-- The first outcome that applies, in the order of R131 after BAD_PARAM and BAD_INPUT. A block that meets BAD_PARAM sends nothing, and its
record's status fields follow the object as at every call (R146). -/
def outcome (inhibited fault refused : Bool) : Nat :=
  if inhibited then sINHIBITED else if fault then sOBJECT_FAULT else if refused then sOBJECT_REFUSED else 0

/-- AXMOVE (R147, R148): a rising ACC sends a request with the next SEQ; the flags follow the axis once it has taken it up. DEDUCED, log 24. -/
def boundAxmove (x : Rx) (acc : Bool) (b : List Nat) : Bound :=
  let base := 0x00400 + 32 * fld b 24 1
  let s := x.status (base + 8)
  let a := x.status (base + 9)
  let q := x.command base % 256
  let pos := x.status (base + 12) 4
  let mode := fld b 25 1
  let vmax := fld b 28 4
  let bad := decide (3 < mode ∨ 4000000 < vmax)
  let rise := acc && !fbit b 26 0 && !bad
  let refused := !rise && q == a % 256 && bit a 8
  let fault := bit s 5 || bit s 10
  let flags := fun (b : List Nat) (busy done aborted error : Bool) => setFbit (setFbit (setFbit (setFbit b 26 1 busy) 26 2 done) 26 3 aborted) 26 4 error
  let b1 := setFbit b 26 0 acc
  let b2 := setFld (setFld (setFbit b1 26 5 (bit s 4)) 40 8 pos) 48 4 (x.status (base + 10) 2)
  let b3 := if rise then setFld (flags b2 true false false false) 27 1 0
    else if q ≠ a % 256 then b2
    else setFld (flags b2 (bit s 0 && !refused) (bit s 1 && !refused) (bit s 2 && !refused) (refused || fault)) 27 1 (field a 15 12)
  let puts := if rise then [(base, 1, (q + 1) % 256 + mode * 256), (base + 2, 2, vmax), (base + 4, 4, fld b 32 8)] else []
  ⟨⟨b3, fbit b3 26 2, some (BitVec.ofNat 64 pos), if bad then sBAD_PARAM else outcome (bit s 4) fault refused⟩, puts, none⟩

/-- GEAR (R149, R150): ACC is ENGAGE; a ratio changed while engaged, and a Splice, go out with the next SEQ. DEDUCED, log 24. MASTER_LOST gives
STATUS OBJECT_FAULT: DESIGN CHOICE, log 24. -/
def boundGear (x : Rx) (acc : Bool) (b : List Nat) : Bound :=
  let base := 0x00400 + 64 * fld b 24 1
  let up := base + 32
  let s := x.status (up + 24)
  let pos := x.status (up + 28) 4
  let w := x.command (base + 20)
  let num := fld b 32 4
  let den := fld b 36 4
  let arm := fbit b 25 4
  let bad := decide (den = 0 ∨ (arm ∧ fld b 44 4 = 0))
  let was := bit w 0
  let ratio := x.command (base + 24) 2 != num || x.command (base + 26) 2 != den
  let send := !bad && ((acc && !was) || (acc && ratio) || arm)
  let seq := if send then (w / 256 + 1) % 256 else w / 256
  let b1 := setFbit (setFbit (setFbit b 25 0 (bit s 0)) 25 1 (bit s 2)) 25 2 (bit s 3)
  let b2 := setFbit (setFbit (setFbit b1 25 3 (bit s 4)) 25 4 (bad && arm)) 25 5 (bit s 6)
  let b3 := setFld b2 56 8 pos
  let word := acc.toNat + arm.toNat * 2 + seq * 256
  let puts := if send then
      [(base + 20, 1, word), (base + 24, 2, num), (base + 26, 2, den)] ++
      (if arm then [(up + 20, 2, fld b 40 4), (up + 22, 2, fld b 44 4), (base + 28, 4, fld b 48 8)] else [])
    else if acc != was && !bad then [(base + 20, 1, word)] else []
  let refused := bit s 7 && x.status (up + 25) % 256 == w / 256 && !send
  ⟨⟨b3, bit s 0, some (BitVec.ofNat 64 pos), if bad then sBAD_PARAM else outcome (bit s 6) (bit s 4) refused⟩, puts, none⟩

/-- DOOR (R151, R152): with ACC 1, a CMD that differs from the one last sent goes out with the next SEQ; status at every call. DEDUCED, log 24. -/
def boundDoor (x : Rx) (acc : Bool) (b : List Nat) : Bound :=
  let base := 0x00600 + 8 * fld b 24 1
  let s := x.status (base + 1)
  let t := x.status (base + 2)
  let a := x.status (base + 3)
  let w := x.command base
  let cmd := fld b 25 1
  let bad := decide (acc ∧ 7 < cmd)
  let send := acc && cmd != 0 && cmd != w % 256 && !bad
  let seq := if send then (w / 256 + 1) % 256 else w / 256
  let b1 := setFld (setFld (setFld (setFld b 26 1 seq) 27 1 (a % 256)) 28 1 (t % 256)) 29 1 (t / 256)
  let b2 := setFbit (setFbit (setFbit (setFbit b1 30 0 (bit s 0)) 30 1 (bit s 1)) 30 2 (bit s 2)) 30 3 (bit a 8)
  let b3 := setFld (setFld b2 32 4 (x.status (base + 4) 2)) 36 4 (x.status (base + 6) 2)
  let st := if bad then sBAD_PARAM else outcome (bit s 5) (bit s 2) (bit a 8)
  ⟨⟨b3, acc && bit s 0, if acc then some (BitVec.ofNat 64 (t % 256)) else none, st⟩, if send then [(base, 1, cmd + seq * 256)] else [], none⟩

/-- ALARM (R153, R154): ACC is the raw condition; ACK_REQ turns the acknowledge toggle away from the one the alarm unit took last, so that a
second request before its Clapper leaves the first standing. DEDUCED, log 24. -/
def boundAlarm (x : Rx) (acc : Bool) (b : List Nat) : Bound :=
  match x.m.alarmSlot x.p (fld b 24 2) with
  | none => ⟨⟨setFbit b 27 0 acc, fbit b 27 1, some (BitVec.ofNat 64 (fld b 26 1)), 0⟩, [], none⟩
  | some base =>
    let s := x.status (base + 1)
    let w := x.command base
    let req := fbit b 27 5
    let b1 := setFld (setFbit (setFbit b 27 0 acc) 27 5 false) 26 1 (s % 8)
    let b2 := setFbit (setFbit (setFbit (setFbit b1 27 1 (bit s 3)) 27 2 (bit s 4)) 27 3 (bit s 5)) 27 4 (bit s 6)
    ⟨⟨b2, bit s 3, some (BitVec.ofNat 64 (s % 8)), 0⟩,
     [(base, 1, acc.toNat + (if req then !(x.m.alarm (fld b 24 2)).tog else bit w 1).toNat * 2), (base + 2, 2, fld b 28 4)], none⟩

/-- LSTART (R155, R156): ACC is the channel's claim, at PRIO; its report is the one latched at the Clapper. -/
def boundLstart (x : Rx) (acc : Bool) (b : List Nat) : Bound :=
  let n := fld b 24 1
  let rep := (ug ({} : LcSt) x.m.lcs n).rep
  let bad := decide (15 < fld b 25 1)
  let flags := acc.toNat + rep.queued.toNat * 2 + rep.granted.toNat * 4 + rep.on.toNat * 8 + rep.shed.toNat * 16 + rep.guarded.toNat * 32 +
    rep.inhibited.toNat * 64
  let b1 := setFld (setFld (setFld b 26 1 flags) 28 4 rep.waitUs) 32 4 rep.starts
  ⟨⟨b1, rep.on, some (BitVec.ofNat 64 rep.waitUs), if bad then sBAD_PARAM else outcome rep.inhibited rep.guarded false⟩,
   if bad then [] else [(0x00100 + 6 * n, 1, acc.toNat)], if bad then none else some (n, fld b 25 1)⟩

/-- LOOPW (R157, R158): SET_MA := 4 + 0.16 × VALUE mA within 3.8 to 20.5 mA, in F32. DEDUCED, log 24. -/
def boundLoopw (x : Rx) (acc : Bool) (b : List Nat) : Bound :=
  let base := 0x00200 + 8 * fld b 24 1
  let s := x.status (base + 2)
  let brk := bit s 1
  let b1 := setFld (setFbit b 25 0 brk) 32 4 (fDiv (fOfInt (x.status (base + 3))) (fOfInt 2000)).v
  let st := outcome (field s 15 13 == 1) brk false
  if !acc then ⟨⟨b1, false, none, st⟩, [], none⟩
  else if anyBad b [28] then ⟨badInput b, [], none⟩
  else
    let raw := fAdd (fOfInt 4) (fMul (fOfQ 16 100) (f32 b 28))
    let lo := fOfQ 38 10
    let hi := fOfQ 205 10
    let set := fClamp raw lo hi
    let b2 := setFld (setFbit b1 25 3 (fLt raw lo || fLt hi raw)) 36 4 set.v
    let word := (fToInt 32 (fMul set (fOfInt 2000)).v).toNat
    let st := if st = 0 ∧ raw.o then sOVERFLOW else st
    ⟨⟨b2, !brk, some (conv (fMul set (fOfInt 1000)).v), st⟩,
     [(base, 1, word), (base + 1, 1, (fbit b 25 1).toNat + (fbit b 25 2).toNat * 2)], none⟩

/-- A call of a bound block; none for the others. -/
def boundBlock (id : Nat) (x : Rx) (acc : Bool) (b : List Nat) : Option Bound :=
  match id with
  | 0x40 => some (boundAxmove x acc b)
  | 0x41 => some (boundGear x acc b)
  | 0x50 => some (boundDoor x acc b)
  | 0x60 => some (boundAlarm x acc b)
  | 0x70 => some (boundLstart x acc b)
  | 0x71 => some (boundLoopw x acc b)
  | _ => none

end Sys2Proof.Machine
end

