-- ==== Sys2Proof/Machine/Code.lean ====
section
/-! DEFINITION. The code and the records of a package as the loader reads them (spec/03 to spec/05): bodies of tasks and composed blocks, their
instructions' operands and accesses, the records their calls name, the values records start with. -/
namespace Sys2Proof.Machine

/-! ### Records (R123 to R126) -/

/-- A call descriptor: BLOCK_ID, ENTRY, INSTANCE_BASE (R118). -/
structure Desc where
  block : Nat
  entry : Nat
  base : Nat
deriving DecidableEq, Repr

/-- The record of a partition at an offset of its region. -/
def unitAt (k : Pkg) (p base : Nat) : Option InstRec := k.insts.find? (fun i => i.partition == p && i.offset == base)

/-- A little-endian field of it, as configured. -/
def recFld (k : Pkg) (p base o n : Nat) : Nat := fld (((unitAt k p base).map (·.bytes)).getD []) o n

/-- REC_SIZE of the record at an offset. -/
def recSize (k : Pkg) (p base : Nat) : Nat := recFld k p base 4 4

/-- A composed BLOCK_ID (R124). -/
def composed (id : Nat) : Bool := decide (0x80000000 ≤ id) && decide (id ≤ 0x8000FFFF)

/-- The composed block of a BLOCK_ID. -/
def blockOf (k : Pkg) (id : Nat) : Option BlockCode := k.blocks.find? (·.block == id)

/-- Bits of a byte of a native record whose value at initialisation the configuration gives (Reset column "Init", R133 to R157). -/
def initMask (id o : Nat) : Nat :=
  let all := fun (l h : Nat) => if l ≤ o ∧ o ≤ h then 255 else 0
  if id ≤ 4 then all 24 31
  else if id ≤ 0x12 then all 24 27
  else if id = 0x20 then (if o = 76 then 7 else all 24 27 ||| all 32 59)
  else if id = 0x21 then (if o = 40 then 2 else all 24 35)
  else if id = 0x22 then all 28 31
  else if id = 0x23 then all 28 28
  else if id = 0x24 then (if o = 44 then 1 else all 24 39)
  else if id = 0x30 then all 24 26 ||| all 48 175
  else if id = 0x40 then all 24 25 ||| all 28 39
  else if id = 0x41 then all 24 24 ||| all 32 39
  else if id = 0x50 then all 24 24
  else if id = 0x60 ∨ id = 0x70 then all 24 25
  else all 24 24 ||| all 28 31

/-- A byte of a record at initialisation (R124, R125): Init values from the configuration, every other field at its reset value: FIRST 1,
LAST_CALL all ones, ET of TOF at PT (R133), ENTRY of SM 1 (R143), else 0. -/
def initByte (i : InstRec) (o : Nat) : Nat :=
  let b := fun (o : Nat) => (i.bytes[o]?).getD 0
  let id := fld i.bytes 0 4
  if o < 9 then b o
  else if o = 9 then 0x80 + i.retain.toNat * 0x40
  else if o < 16 then 0
  else if o < 24 then 255
  else if id = 0 ∨ 0x10000 ≤ id then b o
  else if id = 2 ∧ 32 ≤ o ∧ o < 40 then b (o - 8)
  else if id = 0x30 ∧ o = 27 then 1
  else b o &&& initMask id o

/-- A record lies properly inside another. -/
def insideRec (i o : InstRec) : Bool :=
  i.partition == o.partition && decide (o.offset ≤ i.offset) && decide (i.offset + i.bytes.length ≤ o.offset + o.bytes.length) &&
  decide (i.bytes.length < o.bytes.length)

/-- Offsets of a record's own bytes: those of the records inside it are theirs. -/
def ownOffs (k : List InstRec) (i : InstRec) : List Nat :=
  let cs := k.filter (fun c => insideRec c i)
  (List.range i.bytes.length).filter (fun o => !cs.any (fun c => decide (c.offset ≤ i.offset + o ∧ i.offset + o < c.offset + c.bytes.length)))

/-- Bits of a byte of a native record that rung code may store (R126). DESIGN CHOICE, log 23: a bit that the layout calls reserved for a block
(RESET of TON, TOF, TP; CD of CTU, CTD) may not be stored there. -/
def rwMask (id o : Nat) : Nat :=
  let all := fun (l h : Nat) => if l ≤ o ∧ o ≤ h then 255 else 0
  if id ≤ 4 then (if o = 40 ∧ id = 4 then 4 else all 24 31)
  else if id ≤ 0x12 then (if o = 32 then (if id = 0x12 then 0x70 else 0x30) else all 24 27)
  else if id = 0x20 then (if o = 76 then 7 else all 24 59)
  else if id = 0x21 then (if o = 40 then 2 else all 24 35)
  else if id = 0x22 then all 24 31
  else if id = 0x23 then all 24 27
  else if id = 0x24 then (if o = 44 then 1 else all 24 39)
  else if id = 0x30 then (if o = 27 then 2 else if o = 28 then 255 else all 32 39)
  else if id = 0x40 then (if o = 25 then 255 else all 28 39)
  else if id = 0x41 then (if o = 25 then 0x10 else all 32 55)
  else if id = 0x50 ∨ id = 0x70 then all 25 25
  else if id = 0x60 then (if o = 27 then 0x20 else all 28 31)
  else (if o = 25 then 6 else all 28 31)

/-- Byte ranges of a native record that its calls can write (R128 to R158), the header's in all of them. -/
def blkWrites (id : Nat) : List (Nat × Nat) :=
  (9, 14) :: (16, 24) ::
  (if id ≤ 4 then [(32, 41)]
   else if id ≤ 0x12 then [(28, 33)]
   else if id = 0x20 then [(60, 77)]
   else if id = 0x21 then [(36, 41)]
   else if id = 0x22 then [(32, 36)]
   else if id = 0x23 then [(29, 31), (32, 36), (40, 296)]
   else if id = 0x24 then [(40, 45)]
   else if id = 0x30 then [(24, 26), (27, 28), (40, 48)]
   else if id = 0x40 then [(26, 28), (40, 52)]
   else if id = 0x41 then [(25, 26), (56, 64)]
   else if id = 0x50 then [(26, 31), (32, 40)]
   else if id = 0x60 then [(26, 28)]
   else if id = 0x70 then [(26, 27), (28, 36)]
   else [(25, 26), (32, 40)])

/-- Granules the loader charges as stored by a call (R129 step 3): each that the block type can write in any call, BUF of MAVG apart. -/
def chargedStores (id : Nat) : List Nat :=
  let ws := (blkWrites id).filter (fun w => !(id == 0x23 && w.1 == 40))
  (List.range 37).filter (fun g => ws.any (fun w => decide (w.1 < 8 * g + 8 ∧ 8 * g < w.2)))

/-! ### Bodies -/

/-- Body code up to its last END (R113: code after it is never executed); all of it where it has none. -/
def trimBody (ws : List Nat) : List Nat :=
  if ws.any (fun w => w / 2 ^ 24 == 1) then (ws.reverse.dropWhile (fun w => w / 2 ^ 24 != 1)).reverse else ws

/-- A task body or composed-block body: the task, its partition, the block (0 for task code), the offset and size of its record, the records of
its calls, the blocks on the way to it from the task's root; its code up to the last END, and all its words. -/
structure Body where
  task : Nat
  part : Nat
  block : Nat
  base : Nat
  size : Nat
  calls : List CallRec
  chain : List Nat
  code : List Nat
  raw : List Nat
deriving DecidableEq, Repr

/-- The word at an index. -/
def Body.word (b : Body) (i : Nat) : Nat := (b.code[i]?).getD 0

/-- The opcode at an index (R99). -/
def Body.op (b : Body) (i : Nat) : Nat := b.word i / 2 ^ 24 % 256

/-- The operand at an index (R99). -/
def Body.arg (b : Body) (i : Nat) : Nat := b.word i % 2 ^ 24

/-- Bits [23:12] of the operand: count or distance of the L form, field word of the X form. -/
def Body.hi (b : Body) (i : Nat) : Nat := b.arg i / 2 ^ 12

/-- Bits [11:0] of the operand: field word of the L form, maximum index of the X form. -/
def Body.lo (b : Body) (i : Nat) : Nat := b.arg i % 2 ^ 12

/-- Indexes of a body. -/
def Body.idxs (b : Body) : List Nat := List.range b.code.length

/-- The record of a CALL: block and offset in the region; none where the operand names none. -/
def Body.desc (b : Body) (i : Nat) : Option Desc := (b.calls[b.arg i]?).map (fun c => ⟨c.block, 0, b.base + c.offset⟩)

/-- The CALLs of a body, by index. -/
def Body.callIdx (b : Body) : List Nat := b.idxs.filter (fun i => b.op i == 8)

/-- The body a CALL of a composed block runs. -/
def Body.callee (k : Pkg) (b : Body) (d : Desc) : Option Body :=
  (blockOf k d.block).map (fun c => { b with
    block := d.block
    base := d.base
    size := c.size
    calls := c.calls
    chain := d.block :: b.chain
    code := trimBody c.code
    raw := c.code })

/-- The root body of a task. -/
def Mach.rootBody (m : Mach) (k : Pkg) (t : TaskCode) : Body :=
  let p := m.obj F.taskPARTITION t.task
  ⟨t.task, p, 0, t.root, recSize k p t.root, t.calls, [], trimBody t.code, t.code⟩

/-- Bodies a body calls, directly or through others, a chain that closes left out (R85). -/
def Body.below (k : Pkg) : Nat → Body → List Body
  | 0, _ => []
  | n + 1, b => b.callIdx.flatMap (fun i =>
      match b.desc i with
      | some d =>
        if composed d.block ∧ ¬ b.chain.contains d.block then
          (match b.callee k d with
           | some c => c :: Body.below k n c
           | none => [])
        else []
      | none => [])

/-- The code of a task. -/
def codeOf (k : Pkg) (t : Nat) : Option TaskCode := k.tasks.find? (·.task == t)

/-- A task's bodies with every instance of a composed block, its root first. -/
def Mach.instBodies (m : Mach) (k : Pkg) (t : TaskCode) : List Body := let b := m.rootBody k t; b :: b.below k 144

/-- Records a partition's tasks call; a CALL that closes a chain (R85) has none. -/
def Mach.partDescs (m : Mach) (k : Pkg) (p : Nat) : List Desc :=
  ((k.tasks.filter (fun t => m.obj F.taskPARTITION t.task == p)).flatMap (fun t =>
    (m.instBodies k t).flatMap (fun b => (b.callIdx.filterMap b.desc).filter (fun d => !b.chain.contains d.block)))).eraseDups

/-! ### Operands (R99, R103 to R112) -/

/-- Opcodes without an operand. -/
def opN (op : Nat) : Bool := op ≤ 1 || (decide (0x30 ≤ op) && decide (op ≤ 0x3A))

/-- Opcodes with a number of 6 bits. -/
def opSix (op : Nat) : Bool := op == 9 || (decide (0x68 ≤ op) && decide (op ≤ 0x6A)) || op == 0xA0 || op == 0xA1

/-- Reserved opcodes (R113). -/
def opReserved (op : Nat) : Bool :=
  (decide (0x0A ≤ op) && decide (op ≤ 0x0F)) || (decide (0x1C ≤ op) && decide (op ≤ 0x1F)) || (decide (0x2D ≤ op) && decide (op ≤ 0x2F)) ||
  (decide (0x3B ≤ op) && decide (op ≤ 0x3F)) || (decide (0x4B ≤ op) && decide (op ≤ 0x4F)) || (decide (0x6D ≤ op) && decide (op ≤ 0x6F)) ||
  (decide (0x7D ≤ op) && decide (op ≤ 0x7F)) || (decide (0x98 ≤ op) && decide (op ≤ 0x9F)) || decide (0xA2 ≤ op)

/-- What an instruction addresses: an image point or instance data; LOCALS; slot or byte offset; slots or bytes; the bit of a bit form;
whether it loads, stores, stores always. -/
structure Touch where
  point : Bool
  locals : Bool
  off : Nat
  len : Nat
  bit : Option Nat
  load : Bool
  store : Bool
  always : Bool
deriving DecidableEq, Repr

/-- Slots of a P-word opcode from 0x40. -/
def pSlots (op : Nat) : Nat := ([1, 2, 4, 1, 2, 1, 2, 4, 1, 2, 4][op - 0x40]?).getD 1

/-- Bytes of an I-word opcode from 0x50. -/
def iBytes (op : Nat) : Nat := ([1, 2, 4, 8, 1, 2, 4, 1, 2, 4, 8, 2, 4, 8][op - 0x50]?).getD 1

/-- The access of an instruction word; none where it addresses neither. -/
def accOf (w : Nat) : Option Touch :=
  let op := w / 2 ^ 24 % 256
  let a := w % 2 ^ 24
  let loc := decide (2 ^ 23 ≤ a)
  let o := a % 2 ^ 23
  if 0x10 ≤ op ∧ op ≤ 0x1B then
    let st := 0x17 ≤ op ∧ op ≤ 0x1A
    some ⟨true, false, a / 16, 1, some (a % 16), !decide st, decide st, op == 0x17 || op == 0x18⟩
  else if 0x20 ≤ op ∧ op ≤ 0x2C then
    some ⟨false, loc, o / 8, 1, some (o % 8), decide (op ≤ 0x26 ∨ 0x2B ≤ op), decide (0x27 ≤ op), op == 0x27 || op == 0x28 || op == 0x2B || op == 0x2C⟩
  else if 0x40 ≤ op ∧ op ≤ 0x4A then
    some ⟨true, false, a / 16, pSlots op, none, decide (op ≤ 0x44), decide (0x45 ≤ op), decide (0x45 ≤ op ∧ op ≤ 0x47)⟩
  else if 0x50 ≤ op ∧ op ≤ 0x5D then
    some ⟨false, loc, o, iBytes op, none, decide (op ≤ 0x56), decide (0x57 ≤ op), decide (0x57 ≤ op ∧ op ≤ 0x5A)⟩
  else if (0x70 ≤ op ∧ op ≤ 0x7C) ∨ (0x88 ≤ op ∧ op ≤ 0x8F) then some ⟨false, loc, o, 4, none, true, false, false⟩
  else if 0x90 ≤ op ∧ op ≤ 0x97 then some ⟨false, loc, o, 8, none, true, false, false⟩
  else none

/-- The instruction stands behind an IDX. -/
def Body.indexed (b : Body) (i : Nat) : Bool := decide (0 < i) && b.op (i - 1) == 7

/-- End of what an instruction can reach: its index range counted in (R116). -/
def Body.reachEnd (b : Body) (i : Nat) (a : Touch) : Nat := a.off + a.len + (if b.indexed i then b.lo (i - 1) * a.len else 0)

/-! ### Objects of bound blocks (R145) -/

/-- Blocks that bind an object. -/
def binds (id : Nat) : Bool := [0x40, 0x41, 0x50, 0x60, 0x70, 0x71].contains id

/-- The object a record of a bound block names: its kind, by BLOCK_ID, and its number. -/
def boundObj (k : Pkg) (p : Nat) (d : Desc) : Nat × Nat := (d.block, recFld k p d.base 24 (if d.block = 0x60 then 2 else 1))

/-- Command points of an object (R288, R316, R348, R350, R375). -/
def cmdPoints (o : Nat × Nat) : List Nat :=
  let n := o.2
  if o.1 = 0x40 then ([0, 2, 3, 4, 5, 6, 7]).map (· + (0x00400 + 32 * n))
  else if o.1 = 0x41 then ([20, 22, 23, 24, 25, 26, 27, 28, 29, 30, 31, 52, 53, 54, 55]).map (· + (0x00400 + 64 * n))
  else if o.1 = 0x50 then [0x00600 + 8 * n]
  else if o.1 = 0x70 then [0x00100 + 6 * n]
  else if o.1 = 0x71 then [0x00200 + 8 * n, 0x00200 + 8 * n + 1]
  else []

/-- Command points of an object, an alarm's by its window (R422). -/
def Mach.commandPts (m : Mach) (o : Nat × Nat) : List Nat :=
  if o.1 = 0x60 then ((m.alarmSlot (m.obj F.alarmOWNER o.2) o.2).map (fun b => [b, b + 2, b + 3])).getD [] else cmdPoints o

/-! ### What an instruction can touch (R79, R80, R104, R115) -/

/-- Loops of a body: index of the LPI, index of the LOOP. -/
def Body.loops (b : Body) : List (Nat × Nat) :=
  (b.idxs.filter (fun e => b.op e == 6 && decide (b.hi e + 1 ≤ e))).map (fun e => (e - b.hi e - 1, e))

/-- An index lies in a loop's body or at its LOOP. -/
def inLoop (l : Nat × Nat) (i : Nat) : Bool := decide (l.1 < i) && decide (i ≤ l.2)

/-- An access of an instruction: an image slot range, or a byte range of the region, or of LOCALS; with one bit of it; whether it writes. -/
structure CellAcc where
  task : Nat
  block : Nat
  idx : Nat
  point : Bool
  locals : Bool
  lo : Nat
  hi : Nat
  bit : Option Nat
  write : Bool
deriving DecidableEq, Repr

/-- Two accesses touch one slot, or one byte or bit of a region. -/
def CellAcc.meets (a b : CellAcc) : Bool :=
  a.point == b.point && a.locals == b.locals && decide (a.lo < b.hi) && decide (b.lo < a.hi) && (a.point || (match a.bit, b.bit with
    | some x, some y => x == y
    | _, _ => true))

/-- The accesses of an instruction of a body to slots and instance data, by the declared range after an IDX (R80, R116); of a CALL of a native
block those of its body, with its object's command points. -/
def Mach.accsAt (m : Mach) (k : Pkg) (b : Body) (i : Nat) : List CellAcc :=
  let op := b.op i
  let mk := fun (point locals : Bool) (lo hi : Nat) (bt : Option Nat) (write : Bool) => (⟨b.task, b.block, i, point, locals, lo, hi, bt, write⟩ : CellAcc)
  let word := fun (w : Nat) (write : Bool) => mk false false (b.base + 2 * w) (b.base + 2 * w + 2) none write
  if op = 5 then [word (b.lo i) true]
  else if op = 6 then [word (b.lo i) false, word (b.lo i) true]
  else if op = 7 then [word (b.hi i) false]
  else if op = 8 then
    match b.desc i with
    | some d =>
      if composed d.block then []
      else
        mk false false d.base (d.base + ((nativeSize d.block).map (·.1)).getD 0) none false ::
        (blkWrites d.block).map (fun w => mk false false (d.base + w.1) (d.base + w.2) none true) ++
        (if binds d.block then (m.commandPts (boundObj k b.part d)).map (fun pt => mk true false pt (pt + 1) none true) else [])
    | none => []
  else
    match accOf (b.word i) with
    | some a =>
      if op = 0x1B then [] else
      let base := if a.point ∨ a.locals then 0 else b.base
      let x := mk a.point a.locals (base + a.off) (base + b.reachEnd i a) (if a.point then none else a.bit)
      (if a.load then [x false] else []) ++ (if a.store then [x true] else [])
    | none => []

/-- The image slots a task can write, as ranges: its own bodies', those of the blocks it calls too. -/
def Mach.taskSlots (m : Mach) (k : Pkg) (t : TaskCode) : List (Nat × Nat) :=
  (m.instBodies k t).flatMap (fun b => b.idxs.flatMap (fun i =>
    ((m.accsAt k b i).filter (fun a => a.point && a.write)).map (fun a => (a.lo, a.hi))))

end Sys2Proof.Machine
end

