-- ==== Sys2Proof/Machine/Place.lean ====
section
/-! DEFINITION. Where the loader places code in the program banks (R68, R69, R118, R160): task bodies and their copies, composed blocks once a
bank or once an instance, call descriptor tables. -/
namespace Sys2Proof.Machine

/-- Instructions of a bank (R68). -/
def bankSize : Nat := 2 ^ 21

/-- Bank address of an instruction index of an engine. -/
def bankAt (ce i : Nat) : Nat := ce * 2 ^ 21 + i

/-- A body without a CALL: one copy serves every instance in a bank (R160). -/
def Body.leaf (b : Body) : Bool := !b.raw.any (fun w => w / 2 ^ 24 % 256 == 8)

/-- Two bodies are one copy in a bank. -/
def Body.copy (a b : Body) : Bool :=
  a.block == b.block && (if a.block = 0 then a.task == b.task else (a.leaf && b.leaf) || (a.part == b.part && a.base == b.base))

/-- The bodies in a bank of tasks, each once: task bodies with the composed blocks they call. -/
def Mach.bankBodies (m : Mach) (k : Pkg) (ts : List Nat) : List Body :=
  ((ts.filterMap (codeOf k)).flatMap (m.instBodies k)).foldl (fun l b => if l.any (Body.copy b) then l else l ++ [b]) []

/-- Instructions bodies take in a bank, their descriptors at 4 each (R118). -/
def bodiesSize (bs : List Body) : Nat := (bs.map (fun b => b.raw.length + 4 * b.calls.length)).sum

/-- Tasks whose code an engine's bank holds: those at home there and copies. -/
def Mach.bankTasks (m : Mach) (k : Pkg) (copies : List (Nat × Nat)) (c : Nat) : List Nat :=
  (((k.tasks.map (·.task)).filter (fun t => m.obj F.taskHOME_CE t == c)) ++ (copies.filter (fun x => x.1 == c)).map (·.2)).eraseDups

/-- Instructions in an engine's bank. -/
def Mach.bankUse (m : Mach) (k : Pkg) (copies : List (Nat × Nat)) (c : Nat) : Nat := bodiesSize (m.bankBodies k (m.bankTasks k copies c))

/-- The bodies of a bank with the index each is placed at, from an index on. -/
def placedFrom : Nat → List Body → List (Body × Nat)
  | _, [] => []
  | i, b :: r => (b, i) :: placedFrom (i + b.raw.length) r

/-- The descriptors of a body (R118): a native block has no entry; a composed one the index of the body placed for the record. -/
def descsOfBody (placed : List (Body × Nat)) (k : Pkg) (b : Body) : List Nat :=
  b.calls.flatMap (fun c =>
    let d : Desc := ⟨c.block, 0, b.base + c.offset⟩
    let entry := if composed c.block then (((b.callee k d).bind (fun x => placed.find? (fun y => x.copy y.1))).map (·.2)).getD 0 else 0xFFFFFFFF
    [c.block, entry, d.base, 0])

/-- The words of a placed body: a CALL names its descriptor in the bank's table, the body's own from a number on. -/
def bodyWords (first : Nat) (b : Body) : List Nat :=
  b.raw.map (fun w => if w / 2 ^ 24 % 256 = 8 then w / 2 ^ 24 * 2 ^ 24 + (first + w % 2 ^ 24) % 2 ^ 24 else w)

/-- Code of bodies, with the descriptors of each numbered after those before. -/
def codeWords : Nat → List Body → List Nat
  | _, [] => []
  | n, b :: r => bodyWords n b ++ codeWords (n + b.calls.length) r

/-- What stands in an engine's bank: first index, descriptors, its words, the entries of its tasks. -/
structure BankPlan where
  base : Nat
  descs : Nat
  words : List Nat
  entries : List (Nat × Nat)
deriving DecidableEq, Repr

/-- The bank of an engine: the descriptor table, then the bodies; at the bank's upper end or its lower one. DESIGN CHOICE, log 7. -/
def Mach.bankPlan (m : Mach) (k : Pkg) (top : Bool) (ts : List Nat) : BankPlan :=
  let bs := m.bankBodies k ts
  let base := if top then bankSize - bodiesSize bs else 0
  let n := (bs.map (fun b => b.calls.length)).sum
  let placed := placedFrom (base + 4 * n) bs
  ⟨base, n, bs.flatMap (descsOfBody placed k) ++ codeWords 0 bs, (placed.filter (fun x => x.1.block == 0)).map (fun x => (x.1.task, x.2))⟩

/-- Copies that fence plans ask for (R68): engine, task. -/
def Mach.copiesOf (m : Mach) (plans : List FencePlan) : List (Nat × Nat) :=
  (plans.flatMap (fun x => x.lists.flatMap (fun l => (l.2.filter (fun t => m.obj F.taskHOME_CE t != l.1)).map (fun t => (l.1, t))))).eraseDups

/-- Every bank of a package with the plans in the machine. -/
def Mach.banks (m : Mach) (k : Pkg) (top : Bool) : List (Nat × BankPlan) :=
  let copies := m.copiesOf (m.plans.map (·.2))
  (List.range 8).map (fun c => (c, m.bankPlan k top (m.bankTasks k copies c)))

/-- The sheet of banks. -/
def sheetOf (top : Bool) (bs : List (Nat × BankPlan)) : CallSheet :=
  ⟨top, bs.map (fun x => (x.1, x.2.base, x.2.descs)), bs.flatMap (fun x => x.2.entries.map (fun e => (x.1, e)))⟩

/-- The writes of banks. -/
def banksWs (bs : List (Nat × BankPlan)) : List W := bs.flatMap (fun x => putN .bank (bankAt x.1 x.2.base) x.2.words)

/-- The machine with the sheet of its configuration and plans. -/
def Mach.withSheet (m : Mach) (k : Pkg) (top : Bool) : Mach := { m with sheet := sheetOf top (m.banks k top) }

/-- Code of a configuration beside the one in force: each bank holds both (R69). -/
def banksBoth (old new : List (Nat × BankPlan)) : Bool := (old.zip new).all (fun x => decide (x.1.2.words.length + x.2.2.words.length ≤ bankSize))

end Sys2Proof.Machine
end

