-- ==== Sys2Proof/Machine/Image.lean ====
section
/-! DEFINITION. What the loader puts into the memories, instance records at a cold start, the retain image (spec/03, spec/05, spec/18 R542). -/
namespace Sys2Proof.Machine

/-! ### Memories loaded from the configuration (R68, R171, R173, R537) -/

/-- Ownership table and presets as the configuration has them. -/
def pkgWs (k : Pkg) : List W :=
  [.clear .own, .clear .preset] ++ k.own.map (fun e => .put .own e.1 e.2) ++ k.presets.map (fun e => .put .preset e.1 e.2)

/-- The memories the configuration in force fills, its banks as its sheet places them; the Standing Program has none. -/
def Mach.bankWs (m : Mach) : List W :=
  match m.cfg with
  | some k => pkgWs k ++ .clear .bank :: banksWs (m.banks k m.sheet.top)
  | none => [.clear .bank, .clear .own, .clear .preset]

/-- Output slots of the configuration hold their fallback before anything is published: presets, and the fault mask of every stop request
point (R173, R189). -/
def Mach.restWs (m : Mach) : List W :=
  let puts := fun (pt v : Nat) => [Space.applied, .next, .pub].map (fun sp => W.put sp pt v)
  (List.range 8).flatMap (fun p => puts (0x00EF0 + p) (setH m.isl.set (352 + 2 * p))) ++
  match m.cfg with
  | some k => (k.own.filter (fun e => (fixedEntry e.1).isNone && fromWork e.2 (entOwner e.2) && entFallback e.2 == 1)).flatMap (fun e =>
      puts e.1 (alook 0 k.presets e.1 % 2 ^ 16))
  | none => []

/-! ### Instance records (R124, R182, R542) -/

/-- Instance records of a partition. -/
def Mach.recordsOf (m : Mach) (p : Nat) : List InstRec :=
  match m.cfg with
  | some k => k.insts.filter (fun i => i.partition == p)
  | none => []

/-- Address of a record in the instance data. -/
def Mach.recordAt (m : Mach) (i : InstRec) : Nat := m.obj F.partINST_BASE i.partition + i.offset

/-- Bytes put at a record's own offsets. -/
def Mach.ownPut (m : Mach) (sp : Space) (i : InstRec) (f : Nat → Nat) : List W :=
  (ownOffs (m.recordsOf i.partition) i).map (fun o => .put sp (m.recordAt i + o) (f o))

/-- A record initialised (R125). -/
def Mach.initWs (m : Mach) (i : InstRec) : List W := m.ownPut .inst i (initByte i)

/-- Retained records are copied to the retain image. -/
def Mach.retainWs (m : Mach) (r : Ram) (is : List InstRec) : List W :=
  is.flatMap (fun i => if i.retain then m.ownPut .retain i (fun o => rd r .inst (m.recordAt i + o)) else [])

/-- The retain image is written whole, with the program identity and each CYCLE_NUMBER (R542). -/
def Mach.saveImage (m : Mach) (r : Ram) : Mach × List W :=
  (m.updSys (fun x => { x with
     imageOk := true
     imageProg := m.obj F.pairPROGRAM_ID
     imageCycles := (List.range 8).map (fun p => (m.part p).cycle)
     imageSaved := true }),
   match m.cfg with
   | some k => .clear .retain :: m.retainWs r k.insts
   | none => [.clear .retain])

/-- A partition's records in the image are brought up to date before its PARTITION reset (R542). -/
def Mach.savePart (m : Mach) (r : Ram) (p : Nat) : List W := m.retainWs r (m.recordsOf p)

/-- LAST_CALL of every record of a partition, retained or not, becomes 2^64 − 1 at a cold start (R130). -/
def Mach.lastCallWs (m : Mach) (p : Nat) : List W :=
  (m.recordsOf p).flatMap (fun i => putN .inst (m.recordAt i + 16) (List.replicate 8 255))

/-- Records at a cold start (R182, R542): the first after bring-up restores retained records from a valid image of the program in
force, or initialises them; a later one keeps them. -/
def Mach.coldRecords (m : Mach) (r : Ram) (p : Nat) : Mach × List W :=
  let is := m.recordsOf p
  let first := !bit m.sys.restored p
  let good := m.sys.imageOk && m.sys.imageProg == m.obj F.pairPROGRAM_ID
  let ws := is.flatMap (fun i =>
    if !i.retain then m.initWs i
    else if !first then []
    else if good then m.ownPut .inst i (fun o => rd r .retain (m.recordAt i + o))
    else m.initWs i)
  let m := m.updSys (fun x => { x with restored := setBit x.restored p true })
  (m.when (first && is.any (·.retain)) (fun m =>
     m.setObj F.modeRETAIN_STATE 0 (if good then (if m.sys.imageFresh then 1 else 2) else 3)), ws ++ m.lastCallWs p)

/-! ### State changes of a partition (R168, R182 to R185) -/

/-- A live engine of the partition exists (NO_ENGINES, R186). -/
def Mach.hasEngine (m : Mach) (p : Nat) : Bool := (m.enginesOf p).any (fun c => m.obj F.ceSTATE c != 2 && m.obj F.ceSTATE c != 3)

/-- A partition enters RUNNING at its Clapper: cold with CYCLE_NUMBER 0, a new start count and its records initialised, or warm. -/
def Mach.startPart (m : Mach) (r : Ram) (p : Nat) (cold : Bool) : Mach × List W :=
  let m := ((m.setObj F.partSTATE p 1).bump F.partSTARTS p).updPart p (fun x => { x with
    cmd := none
    solves := true })
  let m := (m.setObj F.cycOVR_COUNT p 0).setObj F.cycOVR_CONSEC p 0
  if cold then
    let m := (m.updPart p (fun x => { x with
      cycle := 0
      startCount := (x.startCount + 1) % 2 ^ 32 }))
    let m := { m with pm := { m.pm with takes := uset {} m.pm.takes p (fun x => { x with restart := true }) } }
    m.coldRecords r p
  else (m, [])

/-- A partition leaves RUNNING, HALTED or FAULT for STOPPED or HALTED (R183): no further Solve, fallback published. -/
def Mach.stopPart (m : Mach) (p st : Nat) : Mach :=
  (m.setObj F.partSTATE p st).updPart p (fun x => { x with
    cmd := none
    solves := false })

/-- A partition leaves RUNNING at once: its engines stop, stores in their buffers drain (R532, R538). -/
def Mach.dropPart (m : Mach) (r : Ram) (p st : Nat) : Mach × List W :=
  let x := m.stopEngines r p
  ((x.1.stopPart p st).updPart p (fun y => { y with withheld := none }), x.2)

/-- A state command is given to a partition; it takes effect at the next Clapper (R183). -/
def Mach.givePart (m : Mach) (p kind : Nat) : Mach := m.updPart p (fun x => { x with cmd := some ⟨kind⟩ })

/-- AUTOSTART at entry to RUN (R168, R183): stopped and halted partitions with an engine left start as their field says. DEDUCED, log 53. -/
def Mach.autostart (m : Mach) : Mach :=
  m.each ((List.range 8).filter m.used) (fun m p =>
    let a := m.obj F.partAUTOSTART p
    let st := m.obj F.partSTATE p
    if a = 0 ∨ st = 1 ∨ st = 3 ∨ !m.hasEngine p then m
    else m.givePart p (if a = 2 ∧ st = 2 then 1 else 0))

/-- The state command due at a partition's Clapper takes effect (R183): 0 cold start, 1 warm start, 2 halt, 3 stop. -/
def Mach.partDue (m : Mach) (r : Ram) (p : Nat) : Mach × List W :=
  match (m.part p).cmd with
  | none => (m, [])
  | some c =>
    if c.kind ≤ 1 then
      (if m.running ∧ m.obj F.partSTATE p ≠ 1 ∧ m.obj F.partSTATE p ≠ 3 then m.startPart r p (c.kind == 0)
       else (m.updPart p (fun x => { x with cmd := none }), []))
    else (m.stopPart p (if c.kind = 2 then 2 else 0), [])

end Sys2Proof.Machine
end

