-- ==== Sys2Proof/Machine/Call.lean ====
section
/-! DEFINITION. CALL (spec/04 R118, R119): descriptor, frame, composed block or native body with its record accesses (spec/05 R128, R129). -/
namespace Sys2Proof.Machine

/-- The descriptor a CALL names: four words of the bank, where the engine's table has it. DEDUCED, log 22. -/
def Rx.descriptor (x : Rx) (d : Nat) : Option (Nat × Nat × Nat) :=
  match x.m.sheet.tables.find? (fun t => t.1 == x.ce) with
  | none => none
  | some (_, at_, n) =>
    if n ≤ d then none
    else
      let word := fun (i : Nat) => x.cell .bank (bankAt x.ce (at_ + 4 * d + i))
      some (word 0, word 1, word 2)

/-- Load n granules of a record from granule i on, one clock each beside the stalls. -/
def Rx.loadGranules (x : Rx) (addr i : Nat) : Nat → List Nat × Rx
  | 0 => ([], x)
  | n + 1 =>
    let y := x.load .inst (addr / 8 + i) (ones 64)
    let z := (y.2.wait 1).loadGranules addr (i + 1) n
    (toLe 8 y.1.toNat ++ z.1, z.2)

/-- Store granules of a record, one clock each. -/
def Rx.storeGranules (x : Rx) (addr : Nat) (b : List Nat) (gs : List Nat) : Rx :=
  gs.foldl (fun x g => (x.store .inst (addr / 8 + g) (ones 64) (BitVec.ofNat 64 (leNat ((b.drop (8 * g)).take 8)))).wait 1) x

/-- Granules a call stores (R129): those at 8 and 16, each one it changed, and MAVG's sample at HEAD. -/
def storedGranules (id : Nat) (old new : List Nat) : List Nat :=
  (List.range (old.length / 8)).filter (fun g => g == 1 || g == 2 || (old.drop (8 * g)).take 8 != (new.drop (8 * g)).take 8 ||
    (id == 0x23 && g == 5 + fld new 30 1 / 2))

/-- A native body (R128 to R131): its granules in, its result, its granules out, its requests at body end. DEDUCED, log 22. -/
def Rx.native (x : Rx) (id base : Nat) : Rx :=
  let size := ((nativeSize id).map (·.1)).getD 24
  match x.instAddr base 0 size with
  | none => x.raise 4
  | some addr =>
    let fixed := if id = 0x23 then 5 else if id = 0x30 then 6 else size / 8
    let y := x.loadGranules addr 0 fixed
    let more := granLoads id y.1 - fixed
    let z := y.2.loadGranules addr fixed more
    let x := z.2
    let rest := (List.range (size - 8 * (fixed + more))).map (fun i => x.cell .inst (addr + 8 * (fixed + more) + i))
    let b := y.1 ++ z.1 ++ rest
    let cycle := (x.m.part x.p).cycle
    let again := fld b 16 8 == cycle
    let inc := if again then 0 else x.m.period x.p
    let acc := x.e.acc
    let res := match recBlock id acc x.e.wacc (fbit b 9 7) (!again) inc b with
      | some k => some (⟨k, [], none⟩ : Bound)
      | none => boundBlock id x acc b
    match res with
    | none => x.raise 9
    | some k =>
      let new := header k.blk.b (enBlock id && !acc) k.blk.st cycle
      let gs := storedGranules id b new
      let x := x.wait (bodyClk id b - fixed - more - gs.length)
      let x := x.storeGranules addr new gs
      let x := k.puts.foldl (fun (x : Rx) e => x.imgStore e.1 e.2.1 (ones (16 * e.2.1)) (BitVec.ofNat 64 e.2.2)) x
      let m := match k.prio with
        | some (n, pr) => { x.m with lcs := uset {} x.m.lcs n (fun c => { c with prio := some pr }) }
        | none => x.m
      let x := { x with m := m }.acc k.blk.acc
      match k.blk.wacc with
      | some v => x.wacc v
      | none => x

/-- CALL (R119): 8 clocks of handoff and a frame; a composed block goes on at its entry, a native block runs and returns, in 4. DEDUCED, log 22. -/
def execCall (ce : Fin 8) (op : Operand) (s : State) : Out :=
  rung ce true (fun x =>
    match x.descriptor op.toNat with
    | none => x.raise 9
    | some (id, entry, base) =>
      if entry = 0xFFFFFFFF then
        if (nativeSize id).isNone then x.raise 9
        else (((x.wait 8).push 2 base id).native id base).ret
      else
        let y := (x.wait 8).push 1 base id
        { y with e := { y.e with
            pc := entry
            idx := none } }) s

end Sys2Proof.Machine
end

