-- ==== Sys2Proof/Machine/Effects.lean ====
section
/-! DEFINITION. The cause-and-effect matrix in the Effects phase (R425 to R433). -/
namespace Sys2Proof.Machine

/-- An effect's inner state. -/
def Mach.eff (m : Mach) (e : Nat) : EffSt := ug {} m.effs e
/-- Change it. -/
def Mach.updEff (m : Mach) (e : Nat) (f : EffSt → EffSt) : Mach := { m with effs := uset {} m.effs e f }

/-- Bytes, 16-bit and 32-bit words of an entry (R7). -/
def enB (b : List Nat) (o : Nat) : Nat := b[o]?.getD 0
def enH (b : List Nat) (o : Nat) : Nat := enB b o + enB b (o + 1) * 2 ^ 8
def enW (b : List Nat) (o : Nat) : Nat := enH b o + enH b (o + 2) * 2 ^ 16

/-- The matrix a partition works with (R431). -/
def Mach.matrixOf (m : Mach) (p : Nat) : Matrix := if bit m.matrixWait p then m.matrixOld else m.matrix

/-- The partition owning an effect's target (R428). -/
def Mach.effOwner (m : Mach) (r : Ram) (b : List Nat) : Option Nat :=
  match enB b 0 with
  | 1 => m.ownerOfPt r (enW b 4 % 2 ^ 20)
  | 2 => m.axOwner r (enW b 4)
  | 3 => m.ggOwner r (enW b 4)
  | _ => none

/-- A slot as the Effects of partition p see it (R428), with its quality. -/
def Mach.effPoint (m : Mach) (r : Ram) (p pt : Nat) : Nat × Nat :=
  let e := m.ownEnt r pt
  let out := entKind e == 1 || entKind e == 2 || entKind e == 6
  let o := entOwner e
  if !entValid e then (0, 3)
  else if !entOwned e then (rd r .front (frontAt p pt), rd r .frontQ (frontAt p pt))
  else if out then (if o = p then rd r .work pt else rd r .applied pt, 0)
  else if o = p then (rd r .front (frontAt p pt), rd r .frontQ (frontAt p pt))
  else (rd r .back (frontAt o pt), rd r .backQ (frontAt o pt))

/-- A point of 16, 32 or 64 bits, sign-extended (R425 VALUE). -/
def Mach.effWord (m : Mach) (r : Ram) (p pt : Nat) : Int :=
  let w := field (m.ownEnt r pt) 23 22
  let s := fun (i : Nat) => (m.effPoint r p (pt + i)).1 * 2 ^ (16 * i)
  if w = 2 then sint 64 (s 0 + s 1 + s 2 + s 3) else if w = 1 then sint 32 (s 0 + s 1) else sint 16 (s 0)

/-- STATE of a cause at an evaluation (R432): 0 unused, 1 inactive, 2 active, 3 active through BAD. -/
def Mach.causeNow (m : Mach) (r : Ram) (p : Nat) (b : List Nat) : Nat :=
  let k := enB b 0
  let src := enW b 4
  let pt := src % 2 ^ 20
  let bad := decide (k ≤ 3) && (m.effPoint r p pt).2 == 3 && bit (enB b 1) 5
  let v := match k with
    | 1 => bit (m.effPoint r p pt).1 (enB b 1 % 16)
    | 2 => decide (sint 32 (enW b 8) ≤ m.effWord r p pt)
    | 3 => decide (m.effWord r p pt ≤ sint 32 (enW b 8))
    | 4 => (m.alarm src).active
    | _ => m.obj F.alarmSTATE src == 1 || m.obj F.alarmSTATE src == 3
  if k = 0 then 0 else if bad then 3 else if v != bit (enB b 1) 4 then 2 else 1

/-- Evaluate a cause: STATE, ACTIVATIONS, LAST_CHANGE (R432). -/
def Mach.causeEval (m : Mach) (r : Ram) (p c : Nat) (b : List Nat) : Mach :=
  let st := m.causeNow r p b
  let old := m.obj F.causeSTATE c
  if st = old then m
  else
    let m := m.setObj F.causeSTATE c st
    if (2 ≤ st) = (2 ≤ old) then m
    else (m.when (decide (2 ≤ st)) (fun m => m.bump F.causeACTIVATIONS c)).setObj F.causeLAST_CHANGE c (if m.gzValid then m.gzAt (m.part p).clapAt else 0)

/-- CE_EFFECT (R430): activation or release. -/
def Mach.effSay (m : Mach) (p e : Nat) (on : Bool) : Mach :=
  let m := m.when on (fun m => m.bump F.effACTIVATIONS e)
  let m := m.setObj F.effLAST_CHANGE e (if m.gzValid then m.gzAt (m.part p).clapAt else 0)
  (m.chron { sub := 0x0B, low := 0x84, part := p, inst := e, cause := on.toNat, cycle := (m.part p).cycle }).notice 0 0x0B84 0xFF
    [itm 1 2 e, itm 2 1 on.toNat]

/-- An effect that forces a 1 is suspended in SAFE-HALT (R430). DEDUCED, log 62. -/
def Mach.effSuspended (m : Mach) (b : List Nat) : Bool := m.mode == 4 && enB b 0 == 1 && (enH b 8).land (enH b 10) != 0

/-- The causes of an effect that are active by their latest evaluation. -/
def Mach.votesOf (m : Mach) (x : Matrix) (e : Nat) : Nat :=
  ((x.inters.filter (fun i => i.2 == e)).filter (fun i => decide (2 ≤ m.obj F.causeSTATE i.1))).length

/-- Evaluate an effect: vote, delay, latch, STATE (R426, R429, R430, R433). DEDUCED, log 62. -/
def Mach.effEval (m : Mach) (p : Nat) (x : Matrix) (e : Nat) (b : List Nat) (at_ : Nat) : Mach :=
  let n := m.votesOf x e
  let vote := decide (1 ≤ enB b 1) && decide (enB b 1 ≤ n)
  let was := (m.eff e).active
  let since := if vote then some ((m.eff e).since.getD at_) else none
  let held := since.any (fun a => decide (a + enH b 12 * 10 ^ 6 ≤ at_))
  let latch := bit (enB b 2) 0
  let on := held || (was && latch)
  let m := (m.updEff e (fun y => { y with
    since := since
    active := on })).setObj F.effVOTES e (min 255 n)
  let m := m.setObj F.effLATCHED e (on && !vote && latch).toNat
  let st := if on && m.effSuspended b then 5 else if on then (if vote then 3 else 4) else if vote then 2 else 1
  let m := m.setObj F.effSTATE e st
  if on = was then m else m.effSay p e on

/-- Effects of a partition's targets: every cause voting for one is evaluated, then the effects; axes and groups to hold. -/
def Mach.effectsOf (m : Mach) (r : Ram) (p : Nat) : Mach :=
  if m.mode = 3 then m
  else
    let x := m.matrixOf p
    let mine := x.effects.filter (fun e => m.effOwner r e.2 == some p)
    let cs := ((x.inters.filter (fun i => mine.any (fun e => e.1 == i.2))).map (fun i => i.1)).eraseDups
    let m := m.each cs (fun m c => m.causeEval r p c (alook [] x.causes c))
    let m := m.each mine (fun m e => m.effEval p x e.1 e.2 (m.part p).clapAt)
    let want := fun (k n : Nat) => mine.any (fun e => enB e.2 0 == k && enW e.2 4 == n && (m.eff e.1).active)
    let ax := (List.range 16).foldl (fun v n => if m.axOwner r n == some p then setBit v n (want 2 n) else v) m.ceAxes
    let gg := (List.range 8).foldl (fun v n => if m.ggOwner r n == some p then setBit v n (want 3 n) else v) m.ceGroups
    { m with
      ceAxes := ax
      ceGroups := gg }

/-- The active effects on a slot, lowest number first: MASK and VALUE. -/
def Mach.effsOn (m : Mach) (r : Ram) (p pt : Nat) : List (Nat × Nat) :=
  let x := m.matrixOf p
  let l := x.effects.filter (fun e => enB e.2 0 == 1 && enW e.2 4 % 2 ^ 20 == pt && (m.eff e.1).active && !m.effSuspended e.2 && m.effOwner r e.2 == some p)
  (l.foldr (fun n l => (l.takeWhile (fun k => decide (k.1 < n.1))) ++ n :: l.dropWhile (fun k => decide (k.1 < n.1))) []).map
    (fun e => (enH e.2 8, enH e.2 10))

/-- The value of a slot under its active effects (R429): a whole-word effect decides, the lowest first; else a bit forced to 0 by any is 0. -/
def forceWord (v : Nat) (l : List (Nat × Nat)) : Nat :=
  match l.find? (fun e => e.1 == 0xFFFF) with
  | some e => e.2
  | none => (List.range 16).foldl (fun w i =>
      let f := l.filter (fun e => bit e.1 i)
      if f.any (fun e => !bit e.2 i) then setBit w i false else if f.isEmpty then w else setBit w i true) v

/-- Slots some active effect forces, of a partition. -/
def Mach.forcedSlots (m : Mach) (r : Ram) (p : Nat) : List Nat :=
  (((m.matrixOf p).effects.filter (fun e => enB e.2 0 == 1 && (m.eff e.1).active && m.effOwner r e.2 == some p)).map (fun e => enW e.2 4 % 2 ^ 20)).eraseDups

/-- EFFECT_DELAY_EXPIRY (R426): the vote of an effect has held for DELAY_MS. -/
def execEffectDelayExpiry (t : Nat) (e : Fin 4096) (s : State) : Out :=
  evR t (fun r m =>
    let k := e.val
    match m.matrix.effects.find? (fun x => x.1 == k) with
    | none => (m, [])
    | some (_, b) =>
      match m.effOwner r b with
      | none => (m, [])
      | some p => if m.mode = 3 ∨ (m.eff k).since.isNone then (m, []) else (m.effEval p (m.matrixOf p) k b m.now, [])) s

/-- EFFECT_LATCH_RELEASE's effect (R429, R433): an effect active by its latch alone is released; a write while the vote holds is ignored. -/
def Mach.latchRelease (m : Mach) (r : Ram) (e : Nat) : Mach :=
  match m.matrix.effects.find? (fun x => x.1 == e) with
  | none => m
  | some (_, b) =>
    if !(m.eff e).active ∨ (m.eff e).since.isSome then m
    else
      let p := (m.effOwner r b).getD 0
      (((m.updEff e (fun y => { y with active := false })).setObj F.effLATCHED e 0).setObj F.effSTATE e 1).effSay p e false

/-- A partition changes to the new matrix at its Clapper (R431): latched effects whose entry and intersections are unchanged keep their
state, the others start released. -/
def Mach.clapMatrix (m : Mach) (r : Ram) (p : Nat) : Mach :=
  if !bit m.matrixWait p then m
  else
    let old := m.matrixOld
    let new := m.matrix
    let ins := fun (x : Matrix) (e : Nat) => (x.inters.filter (fun i => i.2 == e)).map (fun i => (i.1, alook [] x.causes i.1))
    let gone := old.effects.filter (fun e => m.effOwner r e.2 == some p && !(alook [] new.effects e.1 == e.2 && ins old e.1 == ins new e.1 && bit (enB e.2 2) 0))
    let m := m.each gone (fun m e =>
      let m := if (m.eff e.1).active then m.effSay p e.1 false else m
      ((m.updEff e.1 (fun _ => {})).setObj F.effLATCHED e.1 0).setObj F.effSTATE e.1 (if (alook [] new.effects e.1).isEmpty then 0 else 1))
    { m with matrixWait := setBit m.matrixWait p false }

end Sys2Proof.Machine
end

