-- ==== Sys2Proof/Machine/Recorder.lean ====
section
/-! DEFINITION. The event recorder (spec/17): commit to staging, lost-count records, flash, read windows. -/
namespace Sys2Proof.Machine

/-! ### Numbers of a class (R509, R520) -/

/-- NEXT of a class. -/
def nextFld (cls : Nat) : Fld := if cls = 1 then F.recCHRON_NEXT else F.recCYCLE_NEXT

/-- OLDEST of a class. -/
def oldestFld (cls : Nat) : Fld := if cls = 1 then F.recCHRON_OLDEST else F.recCYCLE_OLDEST

/-- Size of the Cellar of a class. -/
def cellarSize (cls : Nat) : Nat := if cls = 1 then 65536 else 1048576

/-- Size of the Attic of a class. -/
def atticSize (cls : Nat) : Nat := if cls = 1 then 1048576 else 67108864

/-- Erase unit of the Attic slot of a record (R520). -/
def atticUnit (cls seq : Nat) : Nat := (seq - cellarSize cls - 1) % atticSize cls / 65536

/-- CELLAR_LAST of a class (R525). -/
def Mach.cellarLast (m : Mach) (cls : Nat) : Nat := min (cellarSize cls) (m.obj (nextFld cls) - 1)

/-- Attic-bound records of a class that can be read, in flash and in staging. -/
def Mach.atticSeqs (m : Mach) (cls : Nat) : List Nat :=
  (m.recd.attic.filter (fun e => e.1 / 2 ^ 64 == cls)).map (fun e => e.1 % 2 ^ 64) ++
  (m.recd.staging.filter (fun e => e.1 == cls && decide (cellarSize cls < e.2.1))).map (fun e => e.2.1)

/-- The lowestOf of a list, or a default. DEDUCED, log 71. -/
def lowestOf (d : Nat) : List Nat → Nat
  | [] => d
  | x :: r => r.foldl min x

/-- The OLDEST field follows the Attic (R525, R528); with no Attic record, the first SEQ the Attic will hold or NEXT (log 71). -/
def Mach.oldestSync (m : Mach) (cls : Nat) : Mach :=
  m.setObj (oldestFld cls) 0 (lowestOf (min (cellarSize cls + 1) (m.obj (nextFld cls))) (m.atticSeqs cls))

/-- The record of a class with a SEQ, wherever it lies: staging, Cellar or Attic (R524). -/
def Mach.recAt (m : Mach) (cls seq : Nat) : Option (List Nat) :=
  match m.recd.staging.find? (fun e => e.1 == cls && e.2.1 == seq) with
  | some e => some e.2.2
  | none =>
    ((if seq ≤ cellarSize cls then m.recd.cellar else m.recd.attic).find? (fun e => e.1 == cls * 2 ^ 64 + seq)).map (·.2)

/-- STAGING_FILL and its peak. -/
def Mach.stagingCount (m : Mach) : Mach :=
  (m.setObj F.recSTAGING_FILL 0 m.recd.staging.length).peak F.recSTAGING_PEAK 0 m.recd.staging.length

/-! ### Lost-count records (R519) -/

/-- PARTITION code of a quota owner (R525). -/
def partOf (o : Nat) : Nat := if o < 8 then o else if o = 9 then 0xFE else 0xFF

/-- The lost-count record of an owner and a cause, with RECORDER_OVERFLOW. -/
def Mach.sayLost (m : Mach) (l : Loss) : Mach :=
  let m := m.updRec (fun r => { r with
    losses := r.losses.filter (fun x => !(x.owner == l.owner && x.cause == l.cause))
    lossAt := aset r.lossAt (l.owner * 4 + l.cause) m.now })
  (m.chron { sub := 0x0E, low := 0x81, part := partOf l.owner, inst := l.owner, cause := l.cause,
             detail := toLe 4 l.chron ++ toLe 4 l.cyc ++ toLe 8 l.first }).notice 0 0x0E81 0xFF

/-- The loss of an owner that may be reported now: ascending CAUSE, one record per owner and cause a second. -/
def Mach.lossDue (m : Mach) (o : Nat) : Option Loss :=
  [1, 2, 3].findSome? (fun c =>
    (m.recd.losses.find? (fun l => l.owner == o && l.cause == c)).filter (fun _ =>
      match m.recd.lossAt.find? (fun e => e.1 == o * 4 + c) with
      | some e => decide (e.2 + 10 ^ 9 ≤ m.now)
      | none => true))

/-! ### Commit (R517) -/

/-- The record as committed: SEQ, CHECK and VALID set (R509, R511). -/
def sealRec (bs : List Nat) (seq : Nat) : List Nat :=
  let body := [bs.headD 0, 0xA5] ++ (bs.drop 2).take 2 ++ toLe 4 0 ++ toLe 8 seq ++ bs.drop 16
  body.take 4 ++ toLe 4 (crc32c body) ++ body.drop 8

/-- Room in staging: in STAGING_ONLY the oldest Attic-bound record makes way, else the oldest (R523). DESIGN CHOICE, log 70. -/
def Mach.stagingRoom (m : Mach) : Mach :=
  if m.recd.staging.length < 65536 then m
  else
    let cut := m.recd.staging.filter (fun e => decide (cellarSize e.1 < e.2.1))
    match cut with
    | e :: _ => m.updRec (fun r => { r with staging := r.staging.erase e })
    | [] => m.updRec (fun r => { r with staging := r.staging.drop 1 })

/-- The notices of a record, raised when the last part of its chain is committed (R211). -/
def Mach.commitNotice (m : Mach) (x : Rush) (rec_ : List Nat) : Mach :=
  let parts := m.recd.chain ++ [rec_]
  if x.last then
    (m.updRec (fun r => { r with chain := [] })).each x.notice (fun m ch =>
      m.notice ch 0x0E80 (if x.owner < 8 then x.owner else 0xFF) (parts.map (fun b => ⟨1, b⟩)))
  else m.updRec (fun r => { r with chain := parts })

/-- The entry at the head of Rushes is committed to staging and freed. While flash is in use, a full staging area holds it back. -/
def Mach.commitOne (m : Mach) : Mach :=
  match m.recd.rushes with
  | [] => m
  | x :: rest =>
    if 65536 ≤ m.recd.staging.length ∧ m.obj F.recSTATE ≠ 1 then m
    else
      let seq := m.obj (nextFld x.cls)
      let rec_ := sealRec x.bytes seq
      let m := m.stagingRoom
      let m := m.updRec (fun r => { r with
        rushes := rest
        committed := r.committed + 1
        staging := r.staging ++ [(x.cls, seq, rec_)] })
      let m := ((m.setObj (nextFld x.cls) 0 (seq + 1)).stagingCount).oldestSync x.cls
      let m := m.commitNotice x rec_
      let m := match m.lossDue x.owner with
        | some l => m.sayLost l
        | none => m
      m.rushCount

/-- RECORD_COMMIT (R517, R519). -/
def execRecordCommit (t : Nat) (s : State) : Out := ev t Mach.commitOne s

/-- Rushes is drained (R521, R522); lost-count records that enter while it drains are drained with it. -/
def Mach.drainRushes (m : Mach) : Mach := (List.range (m.recd.rushes.length + 30)).foldl (fun m _ => m.commitOne) m

/-- Records in Rushes are lost at a reset or power loss (R521, R537); those the supervisor held for ingest go with it. -/
def Mach.loseRushes (m : Mach) : Mach :=
  let m := m.each m.recd.rushes (fun m x => m.loseRec x.owner 2 x.cls 1)
  (m.updRec (fun r => { r with rushes := [], chain := [], waiting := [], overWait := 0 })).rushCount

/-- The recorder closes ingest in the wrap (R522). -/
def Mach.closeIngest (m : Mach) : Mach := (m.setObj F.recSTATE 0 2).updRec (fun r => { r with isOpen := false })

/-- Ingest opens at the end of bring-up (R521, R543): lost-count records of the losses of a reset and of the wrap, then the held records. -/
def Mach.openIngest (m : Mach) : Mach :=
  if m.recd.isOpen then m
  else
    let held := m.recd.waiting
    let m := m.when (m.obj F.recSTATE == 2) (fun m => m.setObj F.recSTATE 0 0)
    let m := m.updRec (fun r => { r with
      isOpen := true
      committed := r.ingested
      waiting := [] })
    let m := m.each [2, 3] (fun m c => m.each (List.range 10) (fun m o =>
      match m.recd.losses.find? (fun l => l.owner == o && l.cause == c) with
      | some l => m.sayLost l
      | none => m))
    (m.each held Mach.ingest).updRec (fun r => { r with overWait := 0 })

/-! ### Flash (R520, R523) -/

/-- Share of the flash endurance consumed: 5,000 records a second over 25 years (R520, log 72). -/
def Mach.wear (m : Mach) : Nat :=
  ((m.obj F.recCHRON_NEXT - 1) + (m.obj F.recCYCLE_NEXT - 1)) * 100 / (5000 * 25 * 31557600)

/-- Record and event of a recorder state (R520, R523). -/
def Mach.sayRecorder (m : Mach) (cause : Nat) : Mach :=
  (m.chron { sub := 0x0E, low := 0x82, cause := cause }).notice 0 0x0E82 0xFF

/-- A programmed record reaches its Cellar or Attic slot; the first record of an erase unit has the unit erased before it. -/
def flashRec (r : Recorder) (e : Nat × Nat × List Nat) : Recorder :=
  let k := e.1 * 2 ^ 64 + e.2.1
  if e.2.1 ≤ cellarSize e.1 then { r with cellar := r.cellar ++ [(k, e.2.2)] }
  else if (e.2.1 - cellarSize e.1 - 1) % 65536 = 0 then
    { r with attic := r.attic.filter (fun x =>
        !(x.1 / 2 ^ 64 == e.1 && atticUnit e.1 (x.1 % 2 ^ 64) == atticUnit e.1 e.2.1)) ++ [(k, e.2.2)] }
  else { r with attic := r.attic ++ [(k, e.2.2)] }

/-- FLASH_PAGE_PROGRAM (R520): the 256 oldest staged records of a class are programmed, read back and released. -/
def execFlashPageProgram (t : Nat) (cls : Fin 2) (s : State) : Out :=
  ev t (fun m =>
    let c := cls.val + 1
    let page := (m.recd.staging.filter (fun e => e.1 == c)).take 256
    if page.length < 256 ∨ m.obj F.recSTATE = 1 then m
    else
      let hi := ((page.getLast?).map (fun e => e.2.1)).getD 0
      let m := m.updRec (fun r => page.foldl flashRec { r with
        staging := r.staging.filter (fun e => !(e.1 == c && decide (e.2.1 ≤ hi))) })
      let m := ((m.stagingCount).oldestSync c).setObj F.recWEAR_PCT 0 (min 255 m.wear)
      if 80 ≤ m.obj F.recWEAR_PCT ∧ !m.recd.wearSaid then
        (m.updRec (fun r => { r with wearSaid := true })).sayRecorder 1
      else m) s

/-- FLASH_BLOCK_FAIL (R523): a block of the spare pool replaces the failed one; the pool exhausted or the device failed,
STAGING_ONLY. DESIGN CHOICE, log 70. -/
def execFlashBlockFail (t : Nat) (device : Bool) (s : State) : Out :=
  ev t (fun m =>
    if m.obj F.recSTATE = 1 then m
    else if device ∨ m.obj F.recSPARE_BLOCKS = 0 then
      (m.when (m.obj F.recSTATE == 0) (fun m => m.setObj F.recSTATE 0 1)).sayRecorder 2
    else m.setObj F.recSPARE_BLOCKS 0 (m.obj F.recSPARE_BLOCKS - 1)) s

/-! ### Read windows (R524 to R527) -/

/-- WINDOW_IDLE_EXPIRY (R524): 300 s without a read. -/
def execWindowIdleExpiry (t : Nat) (w : Fin 8) (s : State) : Out :=
  ev t (fun m => m.updRec (fun r => { r with
    wins := r.wins.filter (fun x => !(x.1 == w.val && decide (x.2.lastAt + 300 * 10 ^ 9 ≤ m.now))) })) s

/-- Quota owners a queue may read, bit q. -/
def reachMask (owner : Nat) : Nat := if isSys owner then 0x3FF else 2 ^ owner

/-- The oldest readable SEQ of a class. -/
def Mach.oldestAll (m : Mach) (cls : Nat) : Nat :=
  lowestOf (m.obj (nextFld cls))
    ((m.recd.staging.filter (fun e => e.1 == cls)).map (fun e => e.2.1) ++
     ((m.recd.cellar ++ m.recd.attic).filter (fun e => e.1 / 2 ^ 64 == cls)).map (fun e => e.1 % 2 ^ 64))

/-- The first Chronicle record in SEQ order whose GZ_TIME is not 0 and is at or after a time; NEXT without one (R525). -/
def Mach.fromTime (m : Mach) (t : Nat) : Nat :=
  let hit := fun (bs : List Nat) => let g := leNat ((bs.drop 16).take 8); decide (g ≠ 0) && decide (t ≤ g)
  lowestOf (m.obj F.recCHRON_NEXT)
    ((m.recd.staging.filter (fun e => e.1 == 1 && hit e.2.2)).map (fun e => e.2.1) ++
     ((m.recd.cellar ++ m.recd.attic).filter (fun (e : Nat × List Nat) => e.1 / 2 ^ 64 == 1 && hit e.2)).map (fun e => e.1 % 2 ^ 64))

/-- The effect of OPEN_WINDOW (R525). -/
def openWindowBody (c : Cmd) (m : Mach) : Res :=
  let cls := c.num 1
  let next := m.obj (nextFld cls)
  let start := c.num 2
  let owners := if c.has 4 then c.num 4 else reachMask c.owner
  if owners &&& reachMask c.owner ≠ owners then Res.fail m stNOT_OWNER
  else if c.has 2 ∧ next < start ∧ start ≠ 2 ^ 64 - 1 then Res.fail m 0x1E03
  else
    match (List.range 8).find? (fun h => !(m.recd.wins.any (fun w => w.1 == h))) with
    | none => Res.fail m 0x1E01
    | some h =>
      let cur := if c.has 3 then m.fromTime (c.num 3)
        else if start = 0 then m.oldestAll cls
        else if start = 2 ^ 64 - 1 then next else start
      let m := m.updRec (fun r => { r with wins := r.wins ++ [(h, ⟨c.q, cls, cur, owners, m.now⟩)] })
      Res.done m [itm 1 1 h, itm 2 8 cur, itm 3 8 (m.obj (oldestFld cls)), itm 4 8 next, itm 5 8 (m.cellarLast cls)]

/-- The card of OPEN_WINDOW. -/
def openWindowCard : Card :=
  { op := 0x0E10, bulk := true, items := [⟨1, 1, 1, true, false⟩, ⟨2, 8, 8, false, false⟩, ⟨3, 8, 8, false, false⟩, ⟨4, 2, 2, false, false⟩]
    valOk := fun ty v => decide (ty ≠ 1) || beNat v == 1 || beNat v == 2
    combo := fun _ is => clash (hasItem is 3 && (hasItem is 2 || itemNum is 1 1 == 2)) }

/-- OPEN_WINDOW (R525). -/
def execOpenWindow (msg : Msg) (s : State) : Out :=
  zcpM openWindowCard
    openWindowBody msg s

/-- A read in progress: cursor, records copied (newest first), overrun, skipped, torn. -/
structure Reading where
  cur : Nat
  recs : List (List Nat) := []
  over_ : Bool := false
  skipped : Nat := 0
  torn : Nat := 0

/-- The record is whole: VALID and CHECK (R511, R527). -/
def recWhole (bs : List Nat) : Bool :=
  bs.length == 64 && (bs.drop 1).headD 0 == 0xA5 &&
  leNat ((bs.drop 4).take 4) == crc32c (bs.take 4 ++ toLe 4 0 ++ bs.drop 8)

/-- Quota owner of a record, from its PARTITION field (R511, R514). -/
def recOwner (cls : Nat) (bs : List Nat) : Nat := ownerOf ((bs.drop (if cls = 1 then 32 else 3)).headD 0)

/-- The scan of a read (R526): overrun check, copy of matching records, at most 4,096 records. -/
def Mach.scanRecs (m : Mach) (cls owners count : Nat) : Nat → Reading → Reading
  | 0, x => x
  | n + 1, x =>
    let next := m.obj (nextFld cls)
    let oldest := m.obj (oldestFld cls)
    let x := if m.cellarLast cls < x.cur ∧ x.cur < oldest then
      { x with
        cur := oldest
        over_ := true
        skipped := x.skipped + (oldest - x.cur) } else x
    if next ≤ x.cur ∨ count ≤ x.recs.length then x
    else
      match m.recAt cls x.cur with
      | none => m.scanRecs cls owners count n { x with cur := x.cur + 1 }
      | some bs =>
        if !recWhole bs then
          m.scanRecs cls owners count n { x with
            cur := x.cur + 1
            torn := x.torn + 1 }
        else if bit owners (recOwner cls bs) then
          m.scanRecs cls owners count n { x with
            cur := x.cur + 1
            recs := bs :: x.recs }
        else m.scanRecs cls owners count n { x with cur := x.cur + 1 }

/-- The effect of READ_WINDOW (R526). -/
def readWindowBody (c : Cmd) (m : Mach) : Res :=
  match m.recd.wins.find? (fun w => w.1 == c.num 1 && w.2.queue == c.q) with
  | none => Res.fail m 0x1E02
  | some w =>
    let x := m.scanRecs w.2.cls w.2.owners (if c.has 2 then c.num 2 else 64) 4096 { cur := w.2.cursor }
    let m := m.bump F.recTORN 0 x.torn
    let m := m.updRec (fun r => { r with wins := r.wins.map (fun y =>
      if y.1 = w.1 then (y.1, { y.2 with cursor := x.cur, lastAt := m.now }) else y) })
    let flags := x.over_.toNat + (if m.obj (nextFld w.2.cls) ≤ x.cur then 2 else 0) + (if x.torn ≠ 0 then 4 else 0)
    Res.done m [⟨1, x.recs.reverse.flatten⟩, itm 2 1 flags, itm 3 8 x.skipped, itm 4 8 x.cur]

/-- The card of READ_WINDOW. -/
def readWindowCard : Card :=
  { op := 0x0E11, bulk := true, items := [⟨1, 1, 1, true, false⟩, ⟨2, 1, 1, false, false⟩],
    valOk := fun ty v => if ty = 1 then decide (beNat v ≤ 7) else if ty = 2 then decide (1 ≤ beNat v) && decide (beNat v ≤ 64) else true }

/-- READ_WINDOW (R526). -/
def execReadWindow (msg : Msg) (s : State) : Out :=
  zcpM readWindowCard
    readWindowBody msg s

/-- The effect of CLOSE_WINDOW (R527): DONE also for a closed handle; a handle of another queue stays open. -/
def closeWindowBody (c : Cmd) (m : Mach) : Res :=
  Res.done (m.updRec (fun r => { r with wins := r.wins.filter (fun w => !(w.1 == c.num 1 && w.2.queue == c.q)) }))

/-- The card of CLOSE_WINDOW. -/
def closeWindowCard : Card :=
  { op := 0x0E12, bulk := true, items := [⟨1, 1, 1, true, false⟩], valOk := fun ty v => decide (ty ≠ 1) || decide (beNat v ≤ 7) }

/-- CLOSE_WINDOW (R527). -/
def execCloseWindow (msg : Msg) (s : State) : Out :=
  zcpM closeWindowCard
    closeWindowBody msg s

end Sys2Proof.Machine
end

