-- ==== Sys2Proof/Machine/Time.lean ====
section
/-! DEFINITION. Network time, time steps, the counters, module identities in the plant (spec/02, spec/01 R25). -/
namespace Sys2Proof.Machine

/-- TIME_STATE: FREE-RUN 0, LOCKED 1, HOLDOVER 2, GRANDMASTER 3, ACQUIRING 4 (R30). -/
def Mach.timeState (m : Mach) : Nat := m.obj F.timeTIME_STATE

/-- Change of time state; leaving LOCKED or GRANDMASTER starts HOLDOVER_LIMIT (R30). -/
def Mach.setTimeState (m : Mach) (st : Nat) : Mach :=
  let left := (m.timeState = 1 ∨ m.timeState = 3) ∧ m.timeState ≠ st
  let m := m.when (decide left) (fun m => m.updTime (fun x => { x with leftAt := some m.now }))
  (m.setObj F.timeTIME_STATE 0 st).updTime (fun x => { x with outOfWin := 0 })

/-- Partitions whose grid runs: those with engines that have seen a Clapper (R182). -/
def Mach.gridParts (m : Mach) : List Nat := (List.range 8).filter (fun p => m.used p && (m.part p).clapped)

/-- A step of the time base at this instant (R55): GZ time moves, every running grid re-phases; a slew that ran ends. -/
def Mach.stepTime (m : Mach) (size : Int) (cause : Nat) (by_ : Option (Nat × Nat)) : Mach :=
  let before := m.gz
  let done := m.slewed m.now
  let m := m.updTime (fun x => { x with gzOff := x.gzOff + done + size, slew := 0, slewAt := m.now })
  let ps := m.gridParts
  let m := m.each ps (fun m p => m.updPart p (fun x => { x with rephase := true }))
  let m := (m.setObj F.timeLAST_STEP_NS 0 (uint 64 size)).setObj F.timeSTEP_COUNT 0 (m.obj F.timeSTEP_COUNT + 1)
  m.updTime (fun x => { x with
    gmChanged := false
    stepping := some ⟨before, m.gz, size, cause, ps, List.replicate 8 0, by_⟩ })

/-- An offset is removed: 1 µs or less by slewing at 50 ppm (R54), a slew that ran giving way; more by a step (R55). -/
def Mach.adjust (m : Mach) (size : Int) (cause : Nat) (by_ : Option (Nat × Nat)) : Mach :=
  if size.natAbs ≤ 1000 then
    let done := m.slewed m.now
    m.updTime (fun x => { x with gzOff := x.gzOff + done, slew := size, slewAt := m.now })
  else m.stepTime size cause by_

/-- GPTP_SYNC (R28, R30, R54, R55): an offset of grandmaster time minus module time is measured, in the module's domain and at a sync
interval it supports. An offset measured while a step is being applied is not removed. DESIGN CHOICE, log 8. -/
def execGptpSync (t : Nat) (msg : SyncMsg) (s : State) : Out :=
  ev t (fun m =>
    if (m.timeState ≠ 1 ∧ m.timeState ≠ 4) ∨ msg.domain ≠ m.obj F.timeDOMAIN ∨ msg.log < -7 ∨ 0 < msg.log then m else
    let m := (m.setObj F.timeOFFSET_NS 0 (uint 32 msg.offset)).updTime (fun x => { x with syncLog := msg.log })
    let m := m.when (!m.time.stepping.isSome) (fun m => m.adjust msg.offset (if m.time.gmChanged then 1 else 0) none)
    if msg.offset.natAbs ≤ 100 then
      ((if m.timeState = 4 then m.setTimeState 1 else m).updTime (fun x => { x with
        outOfWin := 0
        gmChanged := false
        received := true })).setObj F.timeGZ_VALID 0 1
    else if m.timeState = 1 then
      if 3 ≤ m.time.outOfWin + 1 then m.setTimeState 4 else m.updTime (fun x => { x with outOfWin := x.outOfWin + 1 })
    else m) s

/-- The time-slip record of a step (R56). -/
def slipRecord (x : Stepping) : Chron where
  sub := 0
  low := if x.cause = 2 then 0x06 else 0x03
  detail := toLe 8 x.before ++ toLe 8 x.after ++ toLe 8 (uint 64 x.size) ++ [x.cause] ++ x.lengths.flatMap (toLe 4)

/-- TIME_STEP_COMPLETE (R64): every partition has re-phased; the record is written and a TIME_SET completes, carrying it. -/
def execTimeStepComplete (t : Nat) (s : State) : Out :=
  ev t (fun m =>
    match m.time.stepping with
    | some x =>
      if x.waiting ≠ [] then m else
      let r := slipRecord x
      let m := (m.chron r).updTime (fun x => { x with stepping := none })
      match x.by_ with
      | some (q, sq) => m.complete q 0x0011 sq stDONE ((chronParts m r).map (fun b => ⟨1, b⟩))
      | none => m
    | none => m) s

/-- The terms the best master clock algorithm compares, first to last: priority1, clock quality, priority2, identity (R28). -/
def rankOf (a : Announce) : List Nat :=
  [a.priority1, a.clockClass * 2 ^ 24 + a.accuracy * 2 ^ 16 + a.variance, a.priority2, a.identity]

/-- One rank is better than another: the first term that differs is lower. -/
def ranksBefore : List Nat → List Nat → Bool
  | a :: r, b :: q => if a = b then ranksBefore r q else decide (a < b)
  | _, _ => false

/-- The rank of this module as grandmaster. PRESUMED, log 44. -/
def Mach.ownRank (m : Mach) : List Nat := [m.obj F.timePRIORITY1, Config.gmQuality, m.obj F.timePRIORITY2, m.obj F.modSERIAL]

/-- The best master clock algorithm over the grandmasters heard and, where it may lead, this module (R28, R30). PRESUMED, log 44. -/
def Mach.bmca (m : Mach) : GmSel :=
  let best := m.time.heard.foldl (fun (x : Option Announce) a => match x with
    | some b => if ranksBefore (rankOf a) (rankOf b) then some a else some b
    | none => some a) none
  match best with
  | none => if m.obj F.timeGM_CAPABLE = 1 then .self else .none
  | some a => if m.obj F.timeGM_CAPABLE = 1 && ranksBefore m.ownRank (rankOf a) then .self else .other a.identity

/-- The algorithm's choice takes effect (R30): as GRANDMASTER, GZ time is valid once it has been set by command or received while LOCKED. A
grandmaster other than the one GM_IDENTITY names makes the next step one of cause 1 (R56); so does the same one heard again after its loss
has cleared GM_IDENTITY, and the first one heard: DESIGN CHOICE, log 44. -/
def Mach.select (m : Mach) : GmSel → Mach
  | .none => m
  | .self =>
    if m.obj F.timeGM_CAPABLE = 1 then
      ((m.setTimeState 3).setObj F.timeGM_IDENTITY 0 (m.obj F.modSERIAL)).when m.time.received (fun m => m.setObj F.timeGZ_VALID 0 1)
    else m
  | .other id =>
    let other := m.obj F.timeGM_IDENTITY ≠ id
    let m := m.when (decide other) (fun m => m.updTime (fun x => { x with gmChanged := true }))
    if m.timeState = 0 ∨ m.timeState = 2 ∨ m.timeState = 3 ∨ (m.timeState = 1 ∧ other) then
      (m.setTimeState 4).setObj F.timeGM_IDENTITY 0 id
    else m.setObj F.timeGM_IDENTITY 0 id

/-- GPTP_ANNOUNCE (R28, R30): a grandmaster is heard announced in the module's domain; the best master clock algorithm chooses. -/
def execGptpAnnounce (t : Nat) (a : Announce) (s : State) : Out :=
  ev t (fun m =>
    if a.domain ≠ m.obj F.timeDOMAIN ∨ a.identity = m.obj F.modSERIAL then m
    else
      let m := m.updTime (fun x => { x with heard := a :: x.heard.filter (fun b => b.identity != a.identity) })
      m.select m.bmca) s

/-- GRANDMASTER_LOST (R30): the grandmaster followed is no longer heard; the algorithm then chooses among what it still hears. -/
def execGrandmasterLost (t : Nat) (s : State) : Out :=
  ev t (fun m =>
    if m.timeState ≠ 1 ∧ m.timeState ≠ 4 then m
    else
      let gone := m.obj F.timeGM_IDENTITY
      let m := m.updTime (fun x => { x with heard := x.heard.filter (fun b => b.identity != gone) })
      let m := (m.setTimeState (if m.timeState = 1 ∨ m.gzValid then 2 else 0)).setObj F.timeGM_IDENTITY 0 0
      m.select m.bmca) s

/-- HOLDOVER_LIMIT_EXPIRY (R30): GZ time becomes not valid in HOLDOVER and ACQUIRING. -/
def execHoldoverLimitExpiry (t : Nat) (s : State) : Out :=
  ev t (fun m =>
    match m.time.leftAt with
    | some a =>
      if (m.timeState = 2 ∨ m.timeState = 4) ∧ a + m.obj F.timeHOLDOVER_LIMIT * 10 ^ 9 ≤ m.now then m.setObj F.timeGZ_VALID 0 0 else m
    | none => m) s

/-- ACQ_TIMEOUT has run since bring-up entered time acquisition (R31). -/
def Mach.acqOver (m : Mach) : Bool := decide (m.sys.stepAt + m.obj F.timeACQ_TIMEOUT * 10 ^ 9 ≤ m.now)

/-- Grandmasters whose announcements have ceased count no more in the algorithm. PRESUMED, log 44. -/
def Mach.unhear (m : Mach) (ids : List Nat) : Mach := m.updTime (fun x => { x with heard := x.heard.filter (fun a => !ids.contains a.identity) })

/-- Time acquisition of bring-up ends (R31): GRANDMASTER, ACQUIRING or FREE-RUN unless LOCKED. -/
def Mach.acqEnd (m : Mach) : Mach :=
  if m.timeState ≠ 4 then m else
  match m.bmca with
  | .none => m.setTimeState 0
  | x => m.select x

/-- GZ time goes to MRAM (R33). -/
def Mach.saveGz (m : Mach) : Mach := m.updTime (fun x => { x with saved := m.gz, savedAt := m.now })

/-- GZ_TIME_SAVE (R33): every 60 s. -/
def execGzTimeSave (t : Nat) (s : State) : Out :=
  ev t (fun m => if m.time.savedAt + 60 * 10 ^ 9 ≤ m.now then m.saveGz else m) s

/-- A 32-bit life counter advances and saturates; its limit writes one record (R35). -/
def Mach.sayLimit (m : Mach) (k v : Nat) : Mach :=
  if v = 2 ^ 32 - 1 ∧ !bit m.time.limitSaid k then
    (m.chron { sub := 0, low := 0x05, cause := k }).updTime (fun x => { x with limitSaid := setBit x.limitSaid k true })
  else m

/-- A second in service of a fitted cartridge (R416): AGE_H counts whole hours. DESIGN CHOICE, log 61. -/
def Mach.cartSecond (m : Mach) : Mach :=
  let whole := decide (3600 ≤ m.gauge.ageS + 1)
  m.when m.svc.cartIn (fun m =>
    (m.when whole (fun m => m.bump F.gaugeAGE_H)).updGauge (fun g => { g with ageS := if whole then 0 else g.ageS + 1 }))

/-- OPERATING_SECOND (R33, R35): a whole second has passed in FULL, HOLDUP or LOW; LOW_S with it (R579). -/
def execOperatingSecond (t : Nat) (s : State) : Out :=
  ev t (fun m =>
    if m.sys.off ∨ m.now < m.time.secAt + 10 ^ 9 then m else
    let m := m.updTime (fun x => { x with
      opSeconds := min (x.opSeconds + 1) (2 ^ 32 - 1)
      secAt := x.secAt + 10 ^ 9 })
    let m := (m.sayLimit 0 m.time.opSeconds).cartSecond
    m.when (m.obj F.powPOWER_STATE == 2) (fun m => m.bump F.powLOW_S)) s

/-! ### Module identities (R25) -/

/-- Device identities other than this module and its partner heard under an ID. DEDUCED, log 44. -/
def Mach.idRivals (m : Mach) (id : Nat) : List (Nat × Nat × Nat) := m.time.announcers.filter (fun a => a.1 == id)

/-- The ID is announced by more than one identity. DEDUCED, log 44. -/
def Mach.idClash (m : Mach) (id : Nat) : Bool :=
  if id = m.obj F.modMODULE_ID then (m.idRivals id).length != 0 else decide (2 ≤ (m.idRivals id).length)

/-- A conflict of module IDs is said (R25): record and event on the system event channel; ID_CONFLICT where the ID is this module's. -/
def Mach.idSaid (m : Mach) (id device : Nat) : Mach :=
  (m.chron { sub := 0, low := 0x01, inst := id, detail := toLe 8 device, notice := [0] }).when (id == m.obj F.modMODULE_ID)
    (fun m => m.setObj F.modID_CONFLICT 0 1)

/-- The module has taken its ID (R25): a device already heard to announce it makes a conflict. -/
def Mach.idTaken (m : Mach) (id : Nat) : Mach :=
  let m := m.setObj F.modID_CONFLICT 0 0
  match m.idRivals id with
  | a :: _ => m.idSaid id a.2.1
  | [] => m

/-- MODULE_ID_ANNOUNCE (R25): a second identity under an ID. -/
def execModuleIdAnnounce (t : Nat) (id device : Nat) (s : State) : Out :=
  ev t (fun m =>
    if device = m.obj F.modSERIAL ∨ (device = m.obj F.pairPARTNER_SERIAL ∧ m.obj F.pairROLE_HOME ≠ 0) then m else
    let was := m.idClash id
    let m := m.updTime (fun x => { x with
      announcers := (id, device, m.now) :: x.announcers.filter (fun a => !(a.1 == id && a.2.1 == device)) })
    if m.idClash id && !was then m.idSaid id device else m) s

/-- ID_CONFLICT_CLEAR (R25): only one identity has announced the ID for 10 s. -/
def execIdConflictClear (t : Nat) (id : Nat) (s : State) : Out :=
  ev t (fun m =>
    let m := m.updTime (fun x => { x with announcers := x.announcers.filter (fun a => !(a.1 == id && decide (a.2.2 + 10 * 10 ^ 9 ≤ m.now))) })
    if id = m.obj F.modMODULE_ID ∧ !m.idClash id then m.setObj F.modID_CONFLICT 0 0 else m) s

/-! ### Time commands -/

/-- The effect of TIME_GET (R63): one capture of all counters. -/
def timeGet (_ : Cmd) (m : Mach) : Res :=
  Res.done m [itm 1 8 m.gz, itm 2 4 m.time.opSeconds, itm 3 4 m.time.powerCycles, itm 4 1 m.timeState, itm 5 1 (m.obj F.timeGZ_VALID),
    itm 6 4 (m.obj F.timeOFFSET_NS)]

/-- The card of TIME_GET. -/
def timeGetCard : Card :=
  { op := 0x0010, bulk := false, boot := true }

/-- TIME_GET (R63). -/
def execTimeGet (msg : Msg) (s : State) : Out := zcpM timeGetCard timeGet msg s

/-- The longest period in use, ns. -/
def Mach.longestPeriod (m : Mach) : Nat := ((List.range 8).filter m.used).foldl (fun n p => max n (m.period p)) 0

/-- The effect of TIME_SET (R64). -/
def timeSet (c : Cmd) (m : Mach) : Res :=
  let given := if c.has 1 then 1 else 2
  let size : Int := if c.has 1 then (c.num 1 : Int) - m.gz else sint 64 (c.num 2)
  let result : Int := m.gz + size
  if m.timeState ≠ 3 then Res.fail m 0x1001
  else if m.time.stepping.isSome then Res.busy3 m (2 * m.longestPeriod / 1000)
  else if result < 0 ∨ 2 ^ 63 ≤ result then Res.bad m given
  else
    let m := (m.setObj F.timeGZ_VALID 0 1).updTime (fun x => { x with received := true })
    if size.natAbs ≤ 1000 then Res.done (m.adjust size 2 none) [itm 1 8 (uint 64 size)]
    else Res.started (m.adjust size 2 (some (c.q, c.seq))) [itm 1 8 (uint 64 size)]

/-- The card of TIME_SET. -/
def timeSetCard : Card :=
  { op := 0x0011, bulk := false, modes := [0, 1, 2, 5], sysOnly := true, items := [⟨1, 8, 8, false, false⟩, ⟨2, 8, 8, false, false⟩],
    combo := fun _ is => clash (hasItem is 1 && hasItem is 2) 2,
    lack := fun is => if hasItem is 1 || hasItem is 2 then none else some 1 }

/-- TIME_SET (R64). -/
def execTimeSet (msg : Msg) (s : State) : Out :=
  zcpM timeSetCard timeSet msg s

end Sys2Proof.Machine
end

