-- ==== Sys2Proof/Machine/Reset.lean ====
section
/-! DEFINITION. Operating modes and MODULE-scope resets (spec/18): what a mode change does, what a reset clears, bring-up. -/
namespace Sys2Proof.Machine

/-! ### Mode changes (R530 to R533) -/

/-- Every enabled function is tripped while the island is held (R465). -/
def Mach.heldTrip (m : Mach) : Mach := m.when m.islHeld (fun m => m.each (fnsOn m.isl.set) (fun m f => m.sfTrip f 0xFFFD))

/-- Partitions as the module leaves RUN and DEGRADED (R183): RUNNING ones halt as for PART_HALT, starts not yet made lapse. -/
def Mach.haltAll (m : Mach) : Mach :=
  m.each ((List.range 8).filter m.used) (fun m p =>
    if m.obj F.partSTATE p = 1 then m.givePart p 2
    else m.updPart p (fun x => { x with cmd := x.cmd.filter (fun c => decide (2 ≤ c.kind)) }))

/-- A change of mode with what R533 has happen on it. RUN means DEGRADED where R531 requires it. The commissioning values start at
fallback at entry to COMMISSION. -/
def Mach.goMode (m : Mach) (r : Ram) (new cause : Nat) : Mach × List W :=
  let old := m.mode
  let m := m.when (old == 0) (fun m => m.cancelSlate.dropStaged)
  let m := m.when (m.running && new != 1) Mach.haltAll
  let m := m.setObj F.modeDEGRADED_CAUSES 0 m.degradedCauses
  let m := m.setObj F.modeSAFE_HALT_CAUSE 0 (if new = 4 then cause else 0)
  let m := m.changeMode (if new = 1 ∧ m.degradedCauses ≠ 0 then 2 else new) cause
  let m := m.updSys (fun x => { x with standSince := if new = 3 then some m.now else none })
  let m := { m with pm := { m.pm with leads := new == 1 || ((new == 0 || new == 5) && (old == 0xFF || m.pm.leads)) } }
  let m := m.when (new != 3) Mach.leaveLow
  let m := m.when (old == 5 && m.obj F.secDEBUG_LEVEL == 2) (fun m => m.setDebug 1)
  let m := m.when (old == 4) (fun m => (m.setObj F.modeSTORM_COUNT 0 0).updSys (fun x => { x with storm := [] }))
  let m := m.when (new == 4) (fun m => m.doorsStop r)
  let m := (m.islMode.heldTrip).islOut r
  let m := m.limpEnter r
  let m := m.when (new == 1) Mach.autostart
  (m, if new = 0 then [.clear .comm] else [])

/-- Close an open presence window with a final status (R561): MODE_SET's own guard code where that status is MODE_GUARD. DEDUCED, log 64. -/
def Mach.closeWindow (m : Mach) (st : Nat) : Mach :=
  match m.sys.window with
  | none => m
  | some w =>
    let m := m.updSys (fun x => { x with window := none })
    let op := match w.what with
      | .mode _ => 0x0110
      | .cert _ _ _ _ _ _ => 0x0F11
      | .life _ => 0x0F14
      | .debug _ => 0x0F12
      | .activate _ _ => 0x1012
      | .slate => 0x0C11
    let st := if op = 0x0C11 then (if st = 0x1101 then 0x1C01 else 0x1C04) else st
    let m := m.when (op == 0x0F12) (fun m => m.updIsl (fun i => { i with debugHold := false }))
    m.complete w.queue op w.seq st (if op = 0x0110 then [itm 1 1 m.mode] else [])

/-- SAFE-HALT at a module-level fault or after a failed self-test: an open window closes with MODE_GUARD (R534). Every partition falls
back at once (R532). -/
def Mach.safeHalt (m : Mach) (r : Ram) (cause : Nat) : Mach × List W :=
  let m := m.closeWindow 0x1102
  let x := m.goMode r 4 cause
  ((List.range 8).filter m.used).foldl (fun y p =>
    if y.1.obj F.partSTATE p = 1 then
      let z := y.1.dropPart (wr r y.2) p 2
      (z.1, y.2 ++ z.2)
    else y) x

/-! ### What a MODULE-scope reset clears (R537) -/

/-- A field keeps its value across a MODULE reset: NV fields, the state of the load-channel controllers and, unless it restarted, of the
island; measured supply values; RC fields never. -/
def keepsObj (island : Bool) (k : Nat) : Bool :=
  let c := k / 2 ^ 32
  match fieldOf c (k % 2 ^ 8) with
  | none => false
  | some d =>
    d.nv || (d.acc != .rc && (c == 0x0701 || c == 0x0704 || c == 0x0B05 || c == 0x0B09 || (!island && (c == 0x0C01 || c == 0x0C02))))

/-- STATE of the update object (R593). -/
def Mach.updSync (m : Mach) : Mach :=
  m.setObj F.updSTATE 0
    (if m.svc.activation.isSome then 3
     else match m.svc.update with
       | some u => if u.verified then 2 else 1
       | none => if m.svc.trial.isSome then 4 else 0)

/-- An update trial ended by a reset (R587): the previous image is in force, the new one invalid. -/
def Mach.trialFailed (m : Mach) : Mach :=
  match m.svc.trial with
  | none => m
  | some x =>
    let bad := if x.previous = 0 then F.updSUP_VER_B else F.updSUP_VER_A
    ((((m.setObj F.secIMAGE_ACTIVE 0 x.previous).setObj bad 0 0).updSvc (fun y => { y with trial := none })).setObj F.updTRIAL_LEFT_S 0 0).updSync.chron
      { sub := 0x10, low := 0x01, cause := 1, detail := toLe 4 x.version }

/-- An open update is abandoned: the inactive store holds an image marked invalid (R583). -/
def Mach.dropUpdate (m : Mach) : Mach :=
  match m.svc.update with
  | none => m
  | some u =>
    let m := m.updSvc (fun y => { y with
      update := none
      partialOf := u.target :: y.partialOf.filter (fun k => k != u.target) })
    let m := if u.target = 0 then m.setObj (if m.obj F.secIMAGE_ACTIVE = 0 then F.updSUP_VER_B else F.updSUP_VER_A) 0 0 else m
    ((m.setObj F.updTARGET 0 0xFF).setObj F.updRECEIVED 0 0).updSync

/-- The memories after a reset: images, instance data, frames and Larder empty; banks, ownership and presets reloaded. -/
def Mach.resetWs (m : Mach) : List W :=
  [.clear .back, .clear .backQ, .clear .front, .clear .frontQ, .clear .work, .clear .pub, .clear .pubQ, .clear .next, .clear .nextQ,
   .clear .applied, .clear .comm, .clear .hold, .clear .cross, .clear .crossQ, .clear .inst, .clear .frame,
   .clear .larder, .clear .dirty, .clear .seen, .clear .seenQ] ++ m.bankWs ++ m.restWs

/-- Event channels and queues after a reset: closed, emptied, QUEUE_EPOCH one higher (R196, R203, R208, R537). -/
def Mach.resetQueues (m : Mach) : Mach :=
  m.each (List.range 64) (fun m q => m.setObj F.cqQUEUE_EPOCH q (m.obj F.cqQUEUE_EPOCH q + 1))

/-- A load channel as the module's own units stand after a reset: its program source at fallback, no start waiting; its controller's state
stays (R537). -/
def Mach.lcRest (m : Mach) (n : Nat) : Mach :=
  let pt := 0x00100 + 6 * n
  let fb := match m.cfg with
    | some k => if entFallback (alook 0 k.own pt) = 1 then alook 0 k.presets pt % 2 == 1 else false
    | none => false
  if (m.lc n).prog = fb ∧ (m.lc n).src = 5 ∧ (m.lc n).entry.isNone ∧ !(m.lc n).shed then m
  else m.updLc n (fun x => { x with
    prog := fb
    src := 5
    entry := none
    shed := false
    seenOff := false })

/-- A MODULE-scope reset acts (R535 to R537, R541): cause, first bring-up step; the island restarts with its supply only. DEDUCED, log 54. -/
def Mach.moduleReset (m : Mach) (cause step : Nat) (island : Bool) : Mach × List W :=
  let m := m.when (cause != 4 && cause != 5 && cause != 7) Mach.loseRushes
  let m := (m.trialFailed).dropUpdate
  let gz := m.gzStamp
  let m := { m with objs := m.objs.filter (fun e => keepsObj island e.1) }
  let m := ((m.setObj F.modeLAST_RESET 0 cause).bump F.modeRESETS).setObj F.modeLAST_RESET_TIME 0 gz
  let m := m.resetQueues
  let storm := (m.sys.storm ++ [(m.time.opSeconds, cause)]).drop (m.sys.storm.length + 1 - 8)
  let y := m.sys
  let m := { m with
    sys := { bringup := step, bringupAt := m.now, stepAt := m.now, lifeSay := y.lifeSay, storm := storm, imageOk := y.imageOk,
             imageProg := y.imageProg, imageCycles := y.imageCycles, imageFresh := y.imageSaved, mains := y.mains,
             lostAt := y.lostAt, off := false
             pubType := m.obj F.modPUB_ETHERTYPE
             pairType := m.obj F.modPAIR_ETHERTYPE
             udpPort := m.obj F.zcpZCP_PORT
             addrMode := m.obj F.zcpADDR_MODE
             prefixLen := m.obj F.zcpPREFIX_LEN
             staticAddr := m.obj F.zcpSTATIC_ADDR }
    time := { saved := m.time.saved, gzOff := (m.time.saved : Int) - (m.now : Int), savedAt := m.now, opSeconds := m.time.opSeconds,
              powerCycles := m.time.powerCycles, limitSaid := m.time.limitSaid, secAt := m.time.secAt }
    conns := []
    cqs := (List.range 64).foldl (fun l q => uset {} l q (fun _ => { identity := (m.cq q).identity })) []
    pools := []
    parts := (List.range 8).foldl (fun t p => uset {} t p (fun _ => { startCount := (m.part p).startCount })) []
    engines := []
    sec := { m.sec with nonce := none, fails := [], blocked := none, leaseEnd := none, debugConn := 255, sakAt := [] }
    svc := { partialOf := m.svc.partialOf, floors := m.svc.floors, raises := m.svc.raises, corr := m.svc.corr, cartIn := m.svc.cartIn, cartSerial := m.svc.cartSerial,
             cartFault := m.svc.cartFault, cartWin := m.svc.cartWin.map (fun (w : Option (Nat × Nat) × Nat) => (none, w.2)) }
    subs := []
    places := []
    trunks := []
    segs := []
    nodes := []
    hpBufs := [] }
  let m := m.each (List.range 32) Mach.lcRest
  let m := m.each (List.range 16) (fun m a => m.when (m.obj F.axDRIVE a == 2) (fun m => m.brakeDrop a))
  let m := { m with
    recd := { m.recd with isOpen := false, waiting := [], overWait := 0, wins := [] }
    senses := []
    los := []
    eps := []
    prs := []
    ems := []
    axs := []
    ggs := []
    mss := []
    ceAxes := 0
    ceGroups := 0
    doors := m.doors.filterMap (fun (e : Nat × DoorSt) => if e.2.profile = [] then none else some (e.1, { profile := e.2.profile }))
    alarms := []
    floods := []
    effs := []
    matrixStage := none
    gauge := { eol := m.gauge.eol, ageS := m.gauge.ageS }
    rails := []
    pm := {}
    isl := if island then { set := m.isl.set, brakes := m.isl.brakes } else { m.isl with debugHold := false, wrapHold := false } }
  (m, m.resetWs)

/-! ### Bring-up (R543) -/

/-- A place or node that the configuration names is configured, or assigned and absent (R254, R280); trunks and segments come up. -/
def Mach.fieldsUp (m : Mach) : Mach :=
  let m := m.each (m.listed F.placePARTITION []) (fun m n =>
    m.setObj F.placeSTATE n (if 8 ≤ m.obj F.placePARTITION n then 0 else if m.obj F.placeSERIAL n = 0 then 1 else 2))
  let m := m.each (m.listed F.nodePARTITION []) (fun m n =>
    m.setObj F.nodeSTATE n (if 8 ≤ m.obj F.nodePARTITION n then 0 else if m.obj F.nodeSERIAL n = 0 then 1 else 2))
  m.each (List.range 8) Mach.segStart

/-- Step 7 begins: the configuration is loaded into every unit, ports count, sensors are supplied, doors read their limits. -/
def Mach.unitsUp (m : Mach) (r : Ram) : Mach :=
  let m := m.fieldsUp
  let m := m.each (List.range 8) Mach.epRestart
  let m := m.each (List.range 16) Mach.axSync
  let m := m.each (List.range 3) Mach.macStart
  m.doorsInit r

/-- Bring-up goes on to a step. -/
def Mach.toStep (m : Mach) (r : Ram) (k : Nat) : Mach :=
  (m.updSys (fun x => { x with
    bringup := k
    stepAt := m.now })).when (k == 7) (fun m => m.unitsUp r)

/-- Power enters FULL at the end of step 1 (R568). -/
def Mach.powerFull (m : Mach) : Mach :=
  if m.obj F.powPOWER_STATE = 0 then (m.chron { sub := 0x0B, low := 0x85, cause := 0 }).notice 0 0x0B85 0xFF [itm 1 1 0]
  else m.setPower 0

/-- Step 3: the island's self-test ends (R435, R465); skipped if the island did not restart. DEDUCED, log 54. -/
def Mach.islandUp (m : Mach) (r : Ram) (ok : Bool) : Mach :=
  if m.obj F.islSTATE ≠ 0 then m
  else if !ok then m.safeFault r 1
  else ((((m.setObj F.islSTATE 0 1).bump F.islSELFTEST_PASSES).islMode).each (fnsOn m.isl.set) (fun m f => m.sfTrip f 0xFFFD)).islOut r

/-- Step 5: engines that passed are active again, failing ones are fenced (cause 6). -/
def Mach.enginesUp (m : Mach) (r : Ram) (bad : Nat) : Mach :=
  m.each (List.range 8) (fun m c =>
    let m := m.when (m.obj F.cePARTITION c < 8) (fun m => m.setObj F.ceSTATE c 1)
    if bit bad c then (m.fence r c 6).1 else m.bump F.cePASSES c)

/-- Resets within the last 60 s (R541). -/
def Mach.stormCount (m : Mach) : Nat := (m.sys.storm.filter (fun e => decide (m.time.opSeconds ≤ e.1 + 60))).length

/-- The mode bring-up enters (R533, R541, R556): mode and SAFE_HALT_CAUSE. DEDUCED, log 53. -/
def Mach.entryMode (m : Mach) : Nat × Nat :=
  let life := m.obj F.secLIFECYCLE
  if 8 ≤ m.stormCount then (4, 2)
  else if m.sys.haltAtEntry ≠ 0 then (4, m.sys.haltAtEntry)
  else if m.sys.unitFault.isSome then (4, 3)
  else if m.pm.standin = some true then (3, 0)
  else if life = 0 ∨ life = 3 then (0, 0)
  else if m.obj F.modeMODE_ON_START = 1 ∧ life = 2 then (0, 0)
  else (1, 0)

/-- Ask the partner for a full take of partitions (R478): a control frame on PAIR; the partition is unsynchronised. -/
def Mach.askTake (m : Mach) (p : Nat) : Mach :=
  let m := (m.setObj F.takeSYNC p 1).emit ⟨20, 4, p, [1]⟩
  { m with pm := { m.pm with takes := uset {} m.pm.takes p (fun x => { x with full := false, clean := false, cursor := 0 }) } }

/-- Redundant partitions. -/
def Mach.redundants (m : Mach) : List Nat := (List.range 8).filter (fun p => m.used p && m.isSet F.partREDUNDANT p)

/-- Step 8 ends (R543): the mode code is set, ingest opens, MODULE_STARTED and what waited for it are raised. DEDUCED, log 53. -/
def Mach.enterMode (m : Mach) (r : Ram) : Mach × List W :=
  let e := m.entryMode
  let m := m.setObj F.modeSTORM_COUNT 0 (min 255 m.stormCount)
  let m := (m.setObj F.modeBRINGUP_MS 0 ((m.now - m.sys.bringupAt) / 10 ^ 6)).updSys (fun x => { x with bringup := 0 })
  let m := m.openIngest
  let causes := if e.2 = 2 then m.sys.storm.map (fun (x : Nat × Nat) => x.2) else []
  let m := m.when (e.1 == 4) (fun m => m.chron { sub := 1, low := 0x01, cause := e.2, detail := causes })
  let x := m.goMode r e.1 e.2
  let m := x.1.notice 0 0x0181 0xFF [itm 1 1 (x.1.obj F.modeLAST_RESET), itm 2 4 (x.1.obj F.modeBRINGUP_MS)]
  let m := m.when (e.1 == 3) (fun m => (m.each m.redundants Mach.askTake).setObj F.pairSTATE 0 2)
  let m := m.when (m.obj F.modMODULE_ID == 0xFFFF) (fun m => m.emitNet 4 (toBe 8 (m.obj F.modSERIAL)))
  (m.when m.sys.lifeSay (fun m =>
     ((m.chron { sub := 0x0F, low := 0x81, cause := m.obj F.secLIFECYCLE }).notice 0 0x0F81 0xFF [itm 1 1 (m.obj F.secLIFECYCLE)]).updSys
       (fun x => { x with lifeSay := false })), x.2)

/-- The module is one of a pair (R469). -/
def Mach.paired (m : Mach) : Bool := m.obj F.pairROLE_HOME != 0

/-- Every assigned node answers, or DISCOVERY_S has expired (R543 step 7). -/
def Mach.discovered (m : Mach) : Bool :=
  decide (m.sys.stepAt + m.obj F.modeDISCOVERY_S * 10 ^ 9 ≤ m.now) ||
  ((m.listed F.placePARTITION []).all (fun n => decide (8 ≤ m.obj F.placePARTITION n) || m.obj F.placeSERIAL n == 0 || m.obj F.placeSTATE n == 4) &&
   (m.listed F.nodePARTITION []).all (fun n => decide (8 ≤ m.obj F.nodePARTITION n) || m.obj F.nodeSERIAL n == 0 || m.obj F.nodeSTATE n == 4))

/-- The cartridge is precharged, or PRECHARGE_MAX_S has expired (R543 step 2). -/
def Mach.precharged (m : Mach) : Bool :=
  decide (m.obj F.gaugeWRAP_MJ ≤ m.obj F.gaugeE_USED_MJ) || decide (m.sys.stepAt + m.obj F.modePRECHARGE_MAX_S * 10 ^ 9 ≤ m.now)

/-- BRINGUP_STEP_COMPLETE (R543): a step ends on its own condition only. -/
def execBringupStepComplete (t : Nat) (b : BringUp) (s : State) : Out :=
  evR t (fun r m =>
    if m.sys.off ∨ m.sys.bootFailed then (m, [])
    else
      match m.sys.bringup with
      | 1 => if b.ok && decide (m.sys.stepAt + 10 ^ 7 ≤ m.now) then (m.powerFull.toStep r 2, []) else (m, [])
      | 2 =>
        if !m.precharged then (m, [])
        else
          let late := decide (m.obj F.gaugeE_USED_MJ < m.obj F.gaugeWRAP_MJ)
          ((m.when late (fun m => m.pfSync.chron { sub := 1, low := 0x02, cause := 2, detail := [m.obj F.gaugePF_STATE] })).toStep r 3, [])
      | 3 => ((m.islandUp r b.ok).toStep r 4, [])
      | 4 =>
        if b.bootFail then (m.updSys (fun x => { x with bootFailed := true }), [])
        else
          let m := m.when (!b.ok) (fun m =>
            (m.setObj F.secIMAGE_ACTIVE 0 (1 - m.obj F.secIMAGE_ACTIVE)).chron { sub := 1, low := 0x02, cause := 4 })
          (m.toStep r 5, [])
      | 5 => (((m.enginesUp r b.badCe).when b.badMem (fun m => m.updSys (fun x => { x with haltAtEntry := 5 }))).toStep r 6, [])
      | 6 => if m.timeState = 1 || m.acqOver then (m.acqEnd.toStep r 7, []) else (m, [])
      | 7 => if !m.discovered then (m, []) else ((m.when (!b.cfgOk) (fun m => m.updSys (fun x => { x with haltAtEntry := max 4 x.haltAtEntry }))).toStep r 8, [])
      | 8 => if m.paired && m.pm.standin.isNone then (m, []) else m.enterMode r
      | _ => (m, [])) s

/-- ACQ_TIMEOUT (R31, R543 step 6): the algorithm chooses among the grandmasters still heard; bring-up goes on to step 7.
PRESUMED, log 44. -/
def execAcqTimeout (t : Nat) (silent : List Nat) (s : State) : Out :=
  evR t (fun r m => if m.sys.bringup = 6 && m.acqOver then ((m.unhear silent).acqEnd.toStep r 7, []) else (m, [])) s

/-! ### Reset sources (R535, R536, R549) -/

/-- MAINS_POWER_ON (R535, R568): the logic supply rises from OFF. -/
def execMainsPowerOn (t : Nat) (s : State) : Out :=
  evR t (fun _ m =>
    if !m.sys.off then (m.updSys (fun x => { x with mains := true }), [])
    else
      let m := (m.setObj F.powPOWER_STATE 0 0).updTime (fun x => { x with powerCycles := min (x.powerCycles + 1) (2 ^ 32 - 1), secAt := m.now })
      let m := m.updSys (fun x => { x with
        mains := true
        lostAt := none })
      let x := m.moduleReset 1 1 true
      (x.1.sayLimit 1 x.1.time.powerCycles, x.2)) s

/-- BROWN_OUT (R535): the island restarts only where its own supply fell too. -/
def execBrownOut (t : Nat) (island : Bool) (s : State) : Out :=
  evR t (fun _ m => if m.sys.off then (m, []) else m.moduleReset 2 1 island) s

/-- RESET_N (R535): a low pulse of so many ns ends; below 10 µs it is ignored, from 50 µs it acts, between it may. In HOLDUP it is
ignored until the wrap has ended; in OFF it has no effect. DEDUCED, log 54. -/
def execResetN (t : Nat) (low : Nat) (acts : Bool) (s : State) : Out :=
  evR t (fun _ m =>
    if m.sys.off ∨ m.obj F.powPOWER_STATE = 1 ∨ low < 10000 ∨ (low < 50000 ∧ !acts) then (m, [])
    else m.moduleReset 3 4 false) s

/-- A watchdog escalates (R536): Rushes is drained before the reset acts. -/
def Mach.escalate (m : Mach) : Mach × List W := m.drainRushes.moduleReset 4 4 false

/-- The supervisor restarts (R536): every DTLS connection and session ends, queue state and held events are held. -/
def Mach.supRestart (m : Mach) : Mach :=
  let m := m.each (List.range 32) Mach.endSession
  { m with
    conns := []
    sys := { m.sys with restarting := some m.now } }

/-- WATCHDOG_EXPIRY (R536): the first restarts the supervisor alone, a second within 60 s escalates. -/
def execWatchdogExpiry (t : Nat) (s : State) : Out :=
  evR t (fun _ m =>
    if m.sys.off ∨ (1 ≤ m.sys.bringup ∧ m.sys.bringup ≤ 4) then (m, [])
    else if m.sys.wdAt.any (fun a => decide (m.now ≤ a + 60 * 10 ^ 9)) then m.escalate
    else ((m.updSys (fun x => { x with wdAt := some m.now })).supRestart, [])) s

/-- SUPERVISOR_RESTART_DONE (R536). -/
def execSupervisorRestartDone (t : Nat) (s : State) : Out :=
  ev t (fun m =>
    match m.sys.restarting with
    | none => m
    | some a =>
      ((m.updSys (fun x => { x with restarting := none })).bump F.modeSUP_RESTARTS).chron
        { sub := 1, low := 0x03, cause := 1, detail := toLe 4 ((m.now - a) / 10 ^ 6) }) s

/-- SUPERVISOR_RESTART_TIMEOUT (R536, R587): a restart not complete in 3 s escalates. -/
def execSupervisorRestartTimeout (t : Nat) (s : State) : Out :=
  evR t (fun _ m =>
    match m.sys.restarting with
    | some a => if a + 3 * 10 ^ 9 ≤ m.now then m.escalate else (m, [])
    | none => (m, [])) s

/-- DEBUG_RESET (R535, R564): at INTRUSIVE in SERVICE. -/
def execDebugReset (t : Nat) (s : State) : Out :=
  evR t (fun _ m => if m.obj F.secDEBUG_LEVEL = 2 ∧ m.mode = 5 then m.moduleReset 6 4 false else (m, [])) s

/-- An object field that outlives a return to factory values: identity, counters and epochs (R537, R557). -/
def keepsFactory (k : Nat) : Bool :=
  let c := k / 2 ^ 32
  let f := k % 2 ^ 8
  match fieldOf c f with
  | none => false
  | some d =>
    d.nv && d.acc == .ro && (c == 0x0001 || c == 0x0101 || c == 0x0E01 || c == 0x0F01 || c == 0x1001 || c == 0x0B09 || c == 0x0B05 ||
      (c == 0x0D01 && (f == 10 || f == 14 || f == 19)) || (c == 0x0A01 && f == F.doorCYCLES.num) || (c == 0x0502 && f == F.placeASSIGN_EPOCH.num) ||
      (c == 0x0602 && f == F.nodeASSIGN_EPOCH.num))

/-- Factory values that a GZ-640-M0 has otherwise (R2, R369, R544): no motor stage, no door, EP0 to EP3 unassigned; its Slate. -/
def Mach.variantObjs (m : Mach) : Mach :=
  if m.isM4 then m
  else
    (m.each (List.range 4) (fun m i =>
      let m := ((m.setObj F.epMODE i 0).setObj F.epSUPPLY i 0).setObj F.axDRIVE i 0
      m.each [(F.axFB_PORT, 255), (F.doorSTORYBOARD, 255), (F.doorDRIVE_KIND, 0), (F.doorDRIVE, 0), (F.doorFB_PORT, 255)]
        (fun m e => m.setObj e.1 i e.2))).setObj F.islSLATE 0 (slateOf factorySetM0)

/-- The machine right after reset where it is a GZ-640-M0: `State.reset` is a GZ-640-M4. -/
def State.resetM0 : State :=
  let m := State.reset.m.setObj F.modVARIANT 0 1
  { State.reset with m := { m with isl := { m.isl with set := factorySetM0 } }.variantObjs }

/-- What a lifecycle change erases or sets (R557): anchors, owner certificate, CAKs; on a return to PROVISIONED the configuration, the
retain image, every object and the safety set too; RMA sets MODE_ON_START. -/
def Mach.lifeApply (m : Mach) (to_ : Nat) : Mach :=
  let old := m.obj F.secLIFECYCLE
  let clear := fun (m : Mach) => { m with
    sec := { m.sec with ownerCert := [], anchors := [], caks := [] }
    objs := m.objs.filter (fun e => decide (e.1 / 2 ^ 32 ≠ 0x0F02)) }
  let m := if to_ = 3 then ((clear m).setObj F.secOWNER_CERT 0 0).setObj F.modeMODE_ON_START 0 1
    else if to_ = 1 ∧ old ≠ 0 then
      let m := clear m
      (({ m with
        objs := m.objs.filter (fun e => keepsFactory e.1)
        cfg := none
        plans := []
        boards := []
        matrix := {}
        matrixOld := {}
        matrixWait := 0
        doors := []
        ctls := m.ctls.map (fun (e : Nat × CtlSt) => (e.1, { e.2 with map := List.replicate 33 0 }))
        isl := { m.isl with set := m.factorySafety, fns := [], conns := [] }
        sys := { m.sys with imageOk := false } } : Mach).setObj F.secOWNER_CERT 0 0).variantObjs
    else m
  (m.setObj F.secLIFECYCLE 0 to_).updSys (fun x => { x with lifeSay := true })

/-- RESET_TAKES_EFFECT (R549, R557). -/
def execResetTakesEffect (t : Nat) (s : State) : Out :=
  evR t (fun _ m =>
    match m.sys.resetDue with
    | some (due, cause) =>
      if due ≤ m.now then
        let m := match m.sys.lifeNext with
          | some l => m.lifeApply l
          | none => m
        m.moduleReset cause 4 false
      else (m, [])
    | none => (m, [])) s

/-- MODULE_LEVEL_FAULT (R532): unit 0 fabric, 1 Take engine, 2 alarm and shutdown unit, 3 power manager, 4 recorder ingest. -/
def execModuleLevelFault (t : Nat) (unit : Fin 5) (s : State) : Out :=
  evR t (fun r m =>
    if m.sys.off then (m, [])
    else
      let m := m.updSys (fun x => { x with unitFault := some unit.val })
      let m := m.chron { sub := 1, low := 0x01, inst := unit.val, cause := 3 }
      if m.mode = 0xFF ∨ m.mode = 4 then (m, []) else m.safeHalt r 3) s

end Sys2Proof.Machine
end

