-- ==== Sys2Proof/Machine/Modes.lean ====
section
/-! DEFINITION. Commands of spec/18: MODE_SET, RESET, BLOCK_QUIESCE, and the ends of partition and block resets. -/
namespace Sys2Proof.Machine

/-! ### MODE_SET (R533, R534, R548, R556, R566, R574) -/

/-- The lifecycle state reaches a mode (R556). -/
def lifeReaches (life mode : Nat) : Bool :=
  if life = 0 ∨ life = 3 then mode == 0 || mode == 4 || mode == 5
  else if life = 1 then mode == 1 || mode == 2 || mode == 4
  else true

/-- Guards of a transition (R533): 0 allowed, 7 a load is open in COMMISSION (LOCKED), else GUARD of R548. DEDUCED, log 53. -/
def Mach.modeGuard (m : Mach) (to_ : Nat) : Nat :=
  let from_ := if m.mode = 2 then 1 else m.mode
  let load := m.svc.load.isSome
  match from_, to_ with
  | 1, 0 => if load then 2 else 0
  | 1, 5 => if load then 2 else 0
  | 0, 1 => if load then 7 else if m.sys.window.any (fun w => w.what == .slate) then 3 else 0
  | 0, 5 => 0
  | 5, 0 => if m.obj F.secDEBUG_LEVEL = 2 ∨ m.svc.activation.isSome then 6 else 0
  | 0, 4 => 0
  | 1, 4 => 0
  | 3, 4 => 0
  | 5, 4 => 0
  | 4, 0 => if m.sys.unitFault.isSome then 4 else 0
  | 4, 5 => if m.sys.unitFault.isSome then 4 else 0
  | 3, 0 => 0
  | 3, 5 => 0
  | 0, 3 => if m.paired && m.pm.peer.role == some 1 && m.pm.peer.fits then 0 else 5
  | _, _ => 1

/-- The transition needs presence while PRESENCE_REQ is 1. -/
def needsPresence (from_ to_ : Nat) : Bool := (to_ == 0 || to_ == 5) && (from_ == 1 || from_ == 2 || from_ == 3 || from_ == 4)

/-- The transition of MODE_SET takes place. -/
def Mach.modeGo (m : Mach) (r : Ram) (to_ : Nat) : Mach × List W :=
  let x := m.goMode r to_ (if to_ = 4 then 1 else 0)
  if to_ = 3 then ((x.1.each x.1.redundants Mach.askTake).setObj F.pairSTATE 0 2, x.2) else x

/-- The effect of MODE_SET (R548). -/
def modeSet (c : Cmd) (r : Ram) (m : Mach) : Res :=
  let to_ := c.num 1
  if to_ = m.mode ∨ (to_ = 1 ∧ m.mode = 2) then Res.done m [itm 1 1 m.mode]
  else if m.obj F.powPOWER_STATE = 1 ∧ to_ ≠ 4 then Res.fail m stWRONG_MODE
  else if !lifeReaches (m.obj F.secLIFECYCLE) to_ ∨ (m.isSet F.secTAINTED ∧ to_ ≠ 4) then Res.fail m 0x1F04
  else if m.sys.window.any (fun w => match w.what with
      | .mode _ => true
      | _ => false) then Res.fail m stLOCKED
  else
    match m.modeGuard to_ with
    | 0 =>
      if needsPresence m.mode to_ && m.isSet F.modePRESENCE_REQ then
        (if m.windowOpen then Res.fail m stLOCKED else Res.started (m.openWindow c (.mode to_)))
      else
        let x := m.modeGo r to_
        Res.done x.1 [itm 1 1 x.1.mode] x.2
    | 7 => Res.fail m stLOCKED
    | g => Res.fail m 0x1102 [itm 2 1 g]

/-- The card of MODE_SET. -/
def modeSetCard : Card :=
  { op := 0x0110, bulk := false, sysOnly := true, items := [⟨1, 1, 1, true, false⟩], valOk := fun _ v => decide (beNat v ≤ 5) }

/-- MODE_SET (R548). -/
def execModeSet (msg : Msg) (s : State) : Out :=
  zcp modeSetCard modeSet msg s

/-! ### Blocks (R539, R540) -/

/-- A block number of R539. -/
def isBlock (b : Nat) : Bool :=
  decide (b ≤ 3) || (decide (0x10 ≤ b) && decide (b ≤ 0x17)) || (decide (0x20 ≤ b) && decide (b ≤ 0x24)) ||
  (decide (0x30 ≤ b) && decide (b ≤ 0x37)) || (decide (0x40 ≤ b) && decide (b ≤ 0x43))

/-- Fields of instances of a class that are not NV return to their values after a MODULE reset. -/
def Mach.clearObjs (m : Mach) (cls lo hi : Nat) : Mach :=
  { m with objs := m.objs.filter (fun e =>
      let i := e.1 / 2 ^ 8 % 2 ^ 24
      !(e.1 / 2 ^ 32 == cls && decide (lo ≤ i) && decide (i ≤ hi) && !((fieldOf cls (e.1 % 2 ^ 8)).any (·.nv)))) }

/-- Close the DTLS connections of a port. -/
def Mach.closePort (m : Mach) (port : Nat) : Mach :=
  m.each ((List.range 32).filter (fun c => (m.conn c).state != 0 && (m.conn c).port == port)) (fun m c =>
    (m.endSession c).updConn c (fun _ => {}))

/-- A BLOCK reset returns its unit to the values after a MODULE reset and reloads its configuration (R539). -/
def Mach.blockClear (m : Mach) (b : Nat) : Mach :=
  if b ≤ 3 then
    let m := ((m.clearObjs 0x0501 b b).clearObjs 0x0502 (b * 256) (b * 256 + 255)).updTrunk b (fun _ => {})
    let m := { m with places := m.places.filter (fun e => decide (e.1 / 256 ≠ b)) }
    m.each ((m.listed F.placePARTITION []).filter (fun n => n / 256 == b)) (fun m n =>
      m.setObj F.placeSTATE n (if 8 ≤ m.obj F.placePARTITION n then 0 else if m.obj F.placeSERIAL n = 0 then 1 else 2))
  else if b < 0x18 then
    let k := b - 0x10
    let m := ((m.clearObjs 0x0601 k k).clearObjs 0x0602 (k * 64) (k * 64 + 63)).updSg k (fun _ => {})
    let m := { m with nodes := m.nodes.filter (fun e => decide (e.1 / 64 ≠ k)) }
    (m.each ((m.listed F.nodePARTITION []).filter (fun n => n / 64 == k)) (fun m n =>
      m.setObj F.nodeSTATE n (if 8 ≤ m.obj F.nodePARTITION n then 0 else 1))).segStart k
  else if b = 0x20 ∨ b = 0x21 then (m.clearObjs 0x0F03 (b - 0x20) (b - 0x20)).macStart (b - 0x20)
  else if b = 0x22 then
    let m := (m.clearObjs 0x0F03 2 2).macStart 2
    { m with pm := { m.pm with peer := { m.pm.peer with missPair := 3, downPair := true } } }
  else if b = 0x23 then m.closePort 2
  else if b = 0x24 then m.closePort 3
  else if b < 0x38 then (m.clearObjs 0x0801 (b - 0x30) (b - 0x30)).epRestart (b - 0x30)
  else
    let k := b - 0x40
    ((m.clearObjs 0x0803 k k).updEm k (fun x => { phase := x.phase, z := x.z })).emRebase k

/-- A block whose reset was commanded has restarted (R539, R540): its record and event; a forced reset of an unquiesced block may leave its
fabric port hanging; the command ends. -/
def Mach.blockBack (m : Mach) (block : Nat) (hangs : Bool) (e : Nat × Bool × Msg) : Mach :=
  let m := m.updSys (fun x => { x with resetting := x.resetting.filter (fun y => y.1 != block) })
  let m := (m.blockClear block).chron { sub := 1, low := 0x82, inst := block }
  let m := m.when (hangs && e.2.1) (fun m =>
    (m.updSys (fun x => { x with hung := block :: x.hung })).chron { sub := 1, low := 0x01, inst := block, cause := 0x0104 })
  (m.notice 0 0x0182 0xFF [itm 1 1 block]).endRunning e.2.2.queue stDONE []

/-- The card of BLOCK_QUIESCE. -/
def blockQuiesceCard : Card :=
  { op := 0x0112, bulk := false, sysOnly := true, modes := [0, 1, 2, 4, 5], items := [⟨1, 1, 1, true, false⟩],
    valOk := fun _ v => isBlock (beNat v) }

/-- The effect of BLOCK_QUIESCE (R550). -/
def blockQuiesce (c : Cmd) (m : Mach) : Res :=
  let b := c.num 1
  if m.sys.hung.contains b then Res.fail m 0x1104
  else Res.started (m.updSys (fun x => { x with quiescing := x.quiescing ++ [(b, m.now, c.q, c.seq)] }))

/-- BLOCK_QUIESCE (R550). -/
def execBlockQuiesce (msg : Msg) (s : State) : Out :=
  zcpM blockQuiesceCard blockQuiesce msg s

/-- QUIESCE_DONE (R540, R550): the transfers in flight have ended, or one is still in flight after 10 ms. -/
def execQuiesceDone (t : Nat) (block : Nat) (busy : Bool) (s : State) : Out :=
  ev t (fun m =>
    match m.sys.quiescing.find? (fun e => e.1 == block) with
    | none => m
    | some e =>
      let gone := fun (m : Mach) => m.updSys (fun x => { x with quiescing := x.quiescing.erase e })
      if !busy then
        ((gone m).updSys (fun x => { x with quiesced := aset x.quiesced block (m.now + 10 * 10 ^ 9) })).complete e.2.2.1 0x0112 e.2.2.2 stDONE []
      else if e.2.1 + 10 * 10 ^ 6 ≤ m.now then
        ((gone m).updSys (fun x => { x with quiesced := adel x.quiesced block })).complete e.2.2.1 0x0112 e.2.2.2 stTIMEOUT []
      else m) s

/-- QUIESCE_EXPIRY (R540): 10 s without a reset. -/
def execQuiesceExpiry (t : Nat) (block : Nat) (s : State) : Out :=
  ev t (fun m => m.updSys (fun x => { x with quiesced := x.quiesced.filter (fun e => !(e.1 == block && decide (e.2 ≤ m.now))) })) s

/-! ### RESET (R538, R549) -/

/-- Longest of the delays of a MODULE reset by command: 10 ms, the image write, the drain of Rushes; at most 40 ms (R549). -/
def Mach.resetDelay (m : Mach) : Nat :=
  min 40000000 (max 10000000 (max (m.obj F.modeRETAIN_BYTES * 4800 / 1024) (m.recd.rushes.length * 200)))

/-- A MODULE reset by command is begun: the retain image is written, Rushes drained; no further command is accepted. -/
def Mach.resetBegin (m : Mach) (r : Ram) : Mach × List W :=
  let due := m.now + m.resetDelay
  let x := m.drainRushes.saveImage r
  (x.1.updSys (fun y => { y with resetDue := some (due, 5) }), x.2)

/-- A PARTITION reset begins (R538 steps 1 to 3). -/
def Mach.partReset (m : Mach) (r : Ram) (p : Nat) (by_ : Nat × Nat) : Mach × List W :=
  let ws := m.savePart r p
  let x := if m.obj F.partSTATE p = 1 then m.dropPart r p 0 else (m.stopPart p 0, [])
  let m := x.1.each ((x.1.enginesOf p).filter (fun c => x.1.obj F.ceSTATE c == 2)) (fun m c =>
    (m.setObj F.ceSTATE c 3).updEng c (fun e => { e with retest := some none }))
  (m.updPart p (fun y => { y with resetBy := some by_ }), ws ++ x.2)

/-- The effect of RESET (R549). DEDUCED, log 54. -/
def resetBody (msg : Msg) (c : Cmd) (r : Ram) (m : Mach) : Res :=
  let kind := c.num 1
  let tgt := c.num 2
  if kind = 0 then
    (if !isSys c.owner then Res.fail m stNOT_OWNER
     else
       let x := m.resetBegin r
       Res.done x.1 [] x.2)
  else if kind = 1 then
    (if !isSys c.owner ∧ c.owner ≠ tgt then Res.fail m stNOT_OWNER
     else if (m.part tgt).resetBy.isSome then Res.busy3 m 40000
     else
       let x := m.partReset r tgt (c.q, c.seq)
       Res.started x.1 [] x.2)
  else if !isSys c.owner then Res.fail m stNOT_OWNER
  else if m.sys.hung.contains tgt then Res.fail m 0x1104
  else
    let quiet := m.sys.quiesced.any (fun e => e.1 == tgt && decide (m.now < e.2))
    if !quiet ∧ c.num 3 = 0 then Res.fail m 0x1103
    else if m.sys.resetting.any (fun e => e.1 == tgt) then Res.busy3 m 5000
    else
      { m := m.updSys (fun x => { x with
          resetting := x.resetting ++ [(tgt, !quiet, msg)]
          quiesced := adel x.quiesced tgt }), defer := true }

/-- The card of RESET. -/
def resetCard : Card :=
  { op := 0x0111, bulk := false, items := [⟨1, 1, 1, true, false⟩, ⟨2, 1, 1, false, false⟩, ⟨3, 1, 1, false, false⟩],
    valOk := fun ty v => if ty = 1 then decide (beNat v ≤ 2) else if ty = 3 then decide (beNat v ≤ 1) else true,
    combo := fun _ is =>
      let k := itemNum is 1 3
      let tg := itemNum is 2 0
      clash ((decide (k = 0) && hasItem is 2) || (decide (k ≤ 1) && hasItem is 3) || (k == 1 && decide (7 < tg)) ||
        (k == 2 && hasItem is 2 && !isBlock tg)),
    lack := fun is => if itemNum is 1 0 ≠ 0 ∧ !hasItem is 2 then some 2 else none,
    modesBy := fun _ is =>
      let k := ((is.find? (·.ty == 1)).map (fun i => beNat i.val)).getD 0
      if k = 0 then [0, 1, 2, 3, 4, 5] else if k = 1 then [0, 1, 2, 5] else [0, 1, 2, 4, 5] }

/-- RESET (R549). -/
def execReset (msg : Msg) (s : State) : Out :=
  zcp resetCard (resetBody msg) msg s

/-- An engine returns to its partition after a full self-test pass (R98): the base placement resumes at the next start of Solve. -/
def Mach.engineBack (m : Mach) (c : Nat) : Mach :=
  let p := m.obj F.cePARTITION c
  let m := ((m.setObj F.ceSTATE c (if p < 8 then 1 else 0)).setObj F.ceFENCE_CAUSE c 0).bump F.cePASSES c
  if 8 ≤ p then m
  else
    let l := bitsOf 8 (m.fencedOf p)
    let m := (m.setObj F.sheetFENCED_1 p ((l[0]?).getD 0xFF)).setObj F.sheetFENCED_2 p ((l[1]?).getD 0xFF)
    m.updPart p (fun x => { x with latched := some (m.fencedOf p) })

/-- RC fields of an instance return to their reset values. DEDUCED, log 54. -/
def Mach.clearRc (m : Mach) (cls i : Nat) : Mach :=
  { m with objs := m.objs.filter (fun e =>
      !(e.1 / 2 ^ 32 == cls && e.1 / 2 ^ 8 % 2 ^ 24 == i && (fieldOf cls (e.1 % 2 ^ 8)).any (fun d => d.acc == .rc))) }

/-- PARTITION_RESET_DONE (R538 steps 3 to 6): engines that passed their retest return, the fault fields and RC counters clear, the records
are initialised, AUTOSTART starts the partition cold. -/
def execPartitionResetDone (t : Nat) (p : Fin 8) (passed : Nat) (s : State) : Out :=
  evR t (fun _ m =>
    let k := p.val
    match (m.part k).resetBy with
    | none => (m, [])
    | some (q, sq) =>
      let es := (m.enginesOf k).filter (fun c => m.obj F.ceSTATE c == 3)
      let m := m.each es (fun m c =>
        let m := m.updEng c (fun e => { e with retest := none })
        if bit passed c then m.engineBack c else m.setObj F.ceSTATE c 2)
      let m := m.degrade
      let m := (((m.setObj F.partFAULT_CAUSE k 0).setObj F.partFAULT_CE k 0xFF).setObj F.partFAULT_TASK k 0xFF).setObj F.partFAULT_PC k 0
      let m := ((m.setObj F.partFAULT_CYCLE k 0).clearRc 0x0201 k).clearRc 0x0202 k
      let m := (m.clearRc 0x0D02 k).clearRc 0x0E02 k
      let m := m.each (m.enginesOf k) (fun m c => m.clearRc 0x0302 c)
      let ws := (m.recordsOf k).flatMap (fun i => if i.retain then [] else m.initWs i)
      let m := m.updPart k (fun x => { x with resetBy := none })
      let m := m.when (m.obj F.partAUTOSTART k != 0 && m.running && m.hasEngine k) (fun m => m.givePart k 0)
      (m.complete q 0x0111 sq stDONE [itm 1 1 (m.fencedOf k)] k, ws)) s

end Sys2Proof.Machine
end

