-- ==== Sys2Proof/Machine/Security.lean ====
section
/-! DEFINITION. Security, debug, lifecycle, power states but the wrap (spec/19). -/
namespace Sys2Proof.Machine

/-! ### Certificates (R551 to R553, R577, R580, R581) -/

/-- The effect of CERT_GET (R580). -/
def certGet (c : Cmd) (m : Mach) : Res :=
  let found := if c.num 1 = 0 then Config.deviceChain
    else if c.num 1 = 1 then (if m.sec.ownerCert = [] then [] else [m.sec.ownerCert])
    else ((m.sec.anchors.find? (fun a => a.1 == c.num 2)).map (fun a => [a.2])).getD []
  if found = [] then Res.bad m (if c.num 1 = 2 then 2 else 1) else Res.done m (found.map (fun b => ⟨1, b⟩))

/-- The card of CERT_GET. -/
def certGetCard : Card :=
  { op := 0x0F10, bulk := true, items := [⟨1, 1, 1, true, false⟩, ⟨2, 1, 1, false, false⟩],
    valOk := fun ty v => if ty = 1 then decide (beNat v ≤ 2) else decide (beNat v ≤ 7),
    lack := fun is => if itemNum is 1 0 = 2 ∧ !hasItem is 2 then some 2 else none }

/-- CERT_GET (R580). -/
def execCertGet (msg : Msg) (s : State) : Out :=
  zcpM certGetCard certGet msg s

/-- Slots that hold an anchor of USE 1 whose ROLE_MASK includes SECURITY. -/
def Mach.securityAnchors (m : Mach) : List Nat :=
  (List.range 8).filter (fun k => m.obj F.ancUSE k == 1 && bit (m.obj F.ancROLE_MASK k) 4)

/-- Combinations CERT_INSTALL refuses: a slot or port its KIND has not, a CAK of another length, a USE of R577 that is none (R581). -/
def certCombo (_ is : List Item) : Option (Nat × Nat) :=
  let k := itemNum is 1 4
  if k = 3 ∧ (is.find? (·.ty == 3)).any (fun i => i.val.length != 32) then some (stBAD_LENGTH, 3)
  else clash ((decide (k ≤ 1) && decide (7 < itemNum is 2 0)) || (k == 3 && decide (1 < itemNum is 2 0)) ||
    (k == 0 && hasItem is 4 && (itemNum is 4 0 == 0 || decide (3 < itemNum is 4 0))))

/-- Items that a KIND and USE of CERT_INSTALL ask for (R581). -/
def certLack (is : List Item) : Option Nat :=
  let k := itemNum is 1 0
  if k ≠ 2 ∧ !hasItem is 2 then some 2
  else if k ≠ 1 ∧ !hasItem is 3 then some 3
  else if k = 0 ∧ !hasItem is 4 then some 4
  else if k = 0 ∧ itemNum is 4 0 = 1 ∧ !hasItem is 5 then some 5
  else if k = 0 ∧ itemNum is 4 0 = 1 ∧ !hasItem is 6 then some 6
  else none

/-- The effect of CERT_INSTALL up to its presence window (R581). -/
def certInstall (c : Cmd) (m : Mach) : Res :=
  let k := c.num 1
  let der := c.bytes 3
  if (k = 0 ∧ !(Config.certP384 der && Config.certIsCa der)) ∨ (k = 2 ∧ !(Config.certP384 der && Config.certForDevice der)) then Res.fail m 0x1F01
  else if k ≤ 1 ∧ m.obj F.secLIFECYCLE = 2 ∧ m.securityAnchors = [c.num 2] then Res.fail m 0x1F05
  else if m.windowOpen then Res.fail m stLOCKED
  else Res.started (m.openWindow c (.cert k (c.num 2) der (c.num 4) (c.num 5) (c.num 6)))

/-- The card of CERT_INSTALL. -/
def certInstallCard : Card :=
  { op := 0x0F11, bulk := true, sysOnly := true,
    items := [⟨1, 1, 1, true, false⟩, ⟨2, 1, 1, false, false⟩, ⟨3, 1, 65535, false, false⟩, ⟨4, 1, 1, false, false⟩, ⟨5, 1, 1, false, false⟩,
              ⟨6, 8, 8, false, false⟩],
    valOk := fun ty v => ty != 1 || decide (beNat v ≤ 3), combo := certCombo, lack := certLack,
    modesBy := fun m _ => if m.obj F.secLIFECYCLE = 1 then [1, 2, 4] else [0, 5] }

/-- CERT_INSTALL (R581). -/
def execCertInstall (msg : Msg) (s : State) : Out :=
  zcpM certInstallCard certInstall msg s

/-- A confirmed installation or removal takes place: record and CERT_CHANGED (R581). -/
def Mach.certApply (m : Mach) (kind slot : Nat) (data : List Nat) (use roles queues : Nat) : Mach :=
  let m :=
    if kind = 0 then
      ((((m.setObj F.ancUSE slot use).setObj F.ancROLE_MASK slot (if use = 1 then roles else 0)).setObj F.ancQUEUES slot
        (if use = 1 then queues else 0)).setObj F.ancFINGERPRINT slot (Config.certPrint data)).updSec (fun x => { x with
          anchors := aset x.anchors slot data })
    else if kind = 1 then
      ((((m.setObj F.ancUSE slot 0).setObj F.ancROLE_MASK slot 0).setObj F.ancQUEUES slot 0).setObj F.ancFINGERPRINT slot 0).updSec (fun x => { x with
        anchors := adel x.anchors slot })
    else if kind = 2 then (m.updSec (fun x => { x with ownerCert := data })).setObj F.secOWNER_CERT 0 1
    else m.updSec (fun x => { x with caks := aset x.caks slot data })
  (m.chron { sub := 0x0F, low := 0x82, inst := slot, cause := kind }).notice 0 0x0F82 0xFF

/-! ### Lifecycle (R556 to R558) -/

/-- A transition of R557, and the authority it needs: 0 the SECURITY role, 1 factory token, 2 service token, 3 SECURITY role or service token. -/
def lifeStep (from_ to_ : Nat) : Option Nat :=
  match from_, to_ with
  | 0, 1 => some 1
  | 1, 2 => some 0
  | 2, 1 => some 0
  | 1, 3 => some 2
  | 2, 3 => some 3
  | 3, 1 => some 2
  | _, _ => none

/-- A token verifies (R557): a signature over serial number, target and nonce. -/
def Mach.tokenOk (m : Mach) (to_ key : Nat) (token : List Nat) : Bool :=
  Config.ecdsaOk (toBe 8 (m.obj F.secSERIAL) ++ [to_] ++ toBe 8 (m.obj F.secLIFECYCLE_NONCE)) token key

/-- LIFECYCLE_NONCE takes a new value after every LIFECYCLE_SET (R557). -/
def Mach.newLifeNonce (m : Mach) : Mach :=
  let x := m.takeFree
  x.2.setObj F.secLIFECYCLE_NONCE 0 x.1

/-- The effect of LIFECYCLE_SET up to its presence window (R558). -/
def lifecycleSet (c : Cmd) (m0 : Mach) : Res :=
  let to_ := c.num 1
  let m := m0.newLifeNonce
  if m.obj F.powPOWER_STATE = 1 then Res.fail m stWRONG_MODE
  else
    match lifeStep (m.obj F.secLIFECYCLE) to_ with
    | none => Res.fail m 0x1F04
    | some a =>
      let key := if a = 1 then Config.factoryAnchor else Config.serviceAnchor
      let role := (m.conn c.conn).role == 4
      if (a = 1 ∨ a = 2) ∧ !c.has 2 then Res.bad m 2
      else if (a = 0 ∨ a = 3) ∧ !role ∧ !(decide (a = 3) && c.has 2) then Res.fail m stROLE_REFUSED
      else if (a = 1 ∨ a = 2 ∨ (a = 3 ∧ !role)) ∧ !m0.tokenOk to_ key (c.bytes 2) then Res.fail (m.bump F.secAUTH_FAILS) 0x1F02
      else if to_ = 2 ∧ m.securityAnchors = [] then Res.fail m 0x1F04
      else if m.windowOpen then Res.fail m stLOCKED
      else Res.started (m.openWindow c (.life to_))

/-- The card of LIFECYCLE_SET. -/
def lifecycleSetCard : Card :=
  { op := 0x0F14, bulk := true, sysOnly := true, modes := [0, 1, 2, 4, 5], items := [⟨1, 1, 1, true, false⟩, ⟨2, 96, 96, false, false⟩],
    valOk := fun ty v => ty != 1 || decide (beNat v ≤ 3) }

/-- LIFECYCLE_SET (R558). -/
def execLifecycleSet (msg : Msg) (s : State) : Out :=
  zcpM lifecycleSetCard lifecycleSet msg s

/-! ### Debug (R564 to R567, R575) -/

/-- The highest debug level of a lifecycle state and mode in FULL (R575). DEDUCED, log 74. -/
def debugMax (life mode : Nat) : Nat :=
  if mode = 5 ∧ life ≠ 1 then 2
  else if mode = 0xFF then 0
  else if life = 0 ∨ life = 3 then (if mode = 0 ∨ mode = 4 then 1 else 0)
  else if life = 1 then (if mode = 1 ∨ mode = 2 ∨ mode = 4 then 1 else 0)
  else 1

/-- The anchor of a debug chain is one R556 names. -/
def Mach.debugAnchor (m : Mach) (a : Nat) : Bool :=
  let life := m.obj F.secLIFECYCLE
  if life = 0 then a == Config.factoryAnchor
  else if life = 2 then
    (List.range 8).any (fun k => m.obj F.ancUSE k == 2 && m.obj F.ancFINGERPRINT k == a) ||
      (m.isSet F.secVENDOR_DEBUG && a == Config.serviceAnchor)
  else a == Config.serviceAnchor

/-- A level is granted (R565). -/
def Mach.grantDebug (m : Mach) (level conn : Nat) : Mach :=
  let m := (m.setDebug level).bump F.secDEBUG_GRANTS
  m.updSec (fun x => { x with
    leaseEnd := some (m.now + m.obj F.secDEBUG_LEASE_S * 10 ^ 9)
    debugConn := conn })

/-- An AUTH_FAILED reply: three within 60 s block the command for 300 s (R567). -/
def Mach.authFail (m : Mach) : Mach :=
  let fs := (m.now :: m.sec.fails).filter (fun a => decide (m.now ≤ a + 60 * 10 ^ 9))
  (m.bump F.secAUTH_FAILS).updSec (fun x => { x with
    fails := if 3 ≤ fs.length then [] else fs
    blocked := if 3 ≤ fs.length then some (m.now + 300 * 10 ^ 9) else x.blocked })

/-- The effect of DEBUG_AUTH (R567). -/
def debugAuth (c : Cmd) (m : Mach) : Res :=
  let level := c.num 2
  let m := m.when (c.num 1 == 1) Mach.leaveLow
  if m.sec.blocked.any (fun e => decide (m.now < e)) then Res.fail m stLOCKED
  else if (m.conn c.conn).port < 2 ∨ m.obj F.powPOWER_STATE ≠ 0 ∨ debugMax (m.obj F.secLIFECYCLE) m.mode < level then Res.fail m 0x1F03
  else if c.num 1 = 0 then
    let x := m.takeFree
    let n := x.1 % 2 ^ 256
    Res.done (x.2.updSec (fun y => { y with nonce := some (n, m.now) })) [itm 1 32 n]
  else
    let chain := c.all 3
    let good := match m.sec.nonce with
      | none => false
      | some (n, at_) =>
        decide (m.now ≤ at_ + 60 * 10 ^ 9) && decide (chain.length ≤ 4) && chain.all Config.certP384 && m.debugAnchor (Config.chainAnchor chain) &&
        Config.ecdsaOk (toBe 32 n ++ toBe 8 (m.obj F.secSERIAL) ++ [level]) (c.bytes 4) (Config.certPrint (chain.headD []))
    let m := m.updSec (fun y => { y with nonce := none })
    if !good then Res.fail m.authFail 0x1F02
    else if level = 1 then Res.done (m.grantDebug 1 c.conn) [itm 2 4 (m.obj F.secDEBUG_LEASE_S)]
    else if m.windowOpen then Res.fail m stLOCKED
    else Res.started (m.openWindow c (.debug c.conn))

/-- The card of DEBUG_AUTH. -/
def debugAuthCard : Card :=
  { op := 0x0F12, bulk := true,
    items := [⟨1, 1, 1, true, false⟩, ⟨2, 1, 1, true, false⟩, ⟨3, 1, 65535, false, true⟩, ⟨4, 96, 96, false, false⟩],
    valOk := fun ty v => if ty = 1 then decide (beNat v ≤ 1) else if ty = 2 then beNat v == 1 || beNat v == 2 else true,
    lack := fun is => if itemNum is 1 0 = 0 then none else if !hasItem is 3 then some 3 else if !hasItem is 4 then some 4 else none }

/-- DEBUG_AUTH (R567). -/
def execDebugAuth (msg : Msg) (s : State) : Out :=
  zcpM debugAuthCard debugAuth msg s

/-- The card of DEBUG_CLOSE. -/
def debugCloseCard : Card :=
  { op := 0x0F13, bulk := false }

/-- The effect of DEBUG_CLOSE (R567). -/
def debugClose (_ : Cmd) (r : Ram) (m : Mach) : Res :=
  Res.done ((m.setDebug 0).islMode.islOut r)

/-- DEBUG_CLOSE (R567). -/
def execDebugClose (msg : Msg) (s : State) : Out :=
  zcp debugCloseCard debugClose msg s

/-- DEBUG_LEASE_EXPIRY (R565). -/
def execDebugLeaseExpiry (t : Nat) (s : State) : Out :=
  evR t (fun r m => (if m.sec.leaseEnd.any (fun e => decide (e ≤ m.now)) then (m.setDebug 0).islMode.islOut r else m, [])) s

/-- AUTH_BLOCK_EXPIRY (R567). -/
def execAuthBlockExpiry (t : Nat) (s : State) : Out :=
  ev t (fun m => if m.sec.blocked.any (fun e => decide (e ≤ m.now)) then m.updSec (fun x => { x with blocked := none }) else m) s

/-- Cells of the memory a space of DEBUG_MEMORY_WRITE names (R68, R71, R84, R170): 1 program banks, 3 instance data, 4 the working output
image, 5 frame files. -/
def debugCells (sp : Nat) : Nat :=
  if sp = 1 then 2 ^ 24 else if sp = 3 then 48 * 2 ^ 20 else if sp = 4 then 2 ^ 20 else if sp = 5 then 2 ^ 16 else 0

/-- DEBUG_MEMORY_WRITE (R564, R566): at INTRUSIVE; 0 supervisor memory, 1 a program bank, 2 a Call sheet, 3 instance data, 4 the working
output image, 5 a frame file. The first three set TAINTED. A cell the memory does not have is not written. DEDUCED, log 74. -/
def execDebugMemoryWrite (t : Nat) (sp a v : Nat) (s : State) : Out :=
  evR t (fun _ m =>
    if m.obj F.secDEBUG_LEVEL ≠ 2 ∨ (sp ≠ 0 ∧ sp ≠ 2 ∧ debugCells sp ≤ a) then (m, [])
    else
      (m.when (decide (sp ≤ 2)) (fun m => m.setObj F.secTAINTED 0 1),
       if sp = 1 then [.put .bank a (v % 2 ^ 32)] else if sp = 3 then [.put .inst a (v % 2 ^ 8)] else if sp = 4 then [.put .work a (v % 2 ^ 16)]
       else if sp = 5 then [.put .frame a (v % 2 ^ 8)] else [])) s

/-! ### MACsec (R562, R563) -/

/-- MKA_SECURED (R563): MKA secures a port's link, with its cipher suite, or fails. -/
def execMkaSecured (t : Nat) (port : Fin 3) (ok : Bool) (cipher : Nat) (s : State) : Out :=
  ev t (fun m =>
    let n := port.val
    if m.obj F.psecMACSEC_MODE n = 0 then m
    else if ok && (cipher == 2 || (cipher == 1 && n != 2)) then
      ((m.setObj F.psecSTATE n 2).setObj F.psecCIPHER n cipher).updSec (fun x => { x with sakAt := aset x.sakAt n m.now })
    else
      let m := (m.setObj F.psecSTATE n 3).setObj F.psecCIPHER n 0
      if n = 2 then { m with pm := { m.pm with peer := { m.pm.peer with downPair := true, missPair := 3 } } } else m) s

/-- SAK_RENEWAL (R562): at 2^30 packets below exhaustion, and every 24 h. -/
def execSakRenewal (t : Nat) (port : Fin 3) (exhausted : Bool) (s : State) : Out :=
  ev t (fun m =>
    let n := port.val
    if m.obj F.psecSTATE n = 2 ∧ (exhausted ∨ alook 0 m.sec.sakAt n + 24 * 3600 * 10 ^ 9 ≤ m.now) then
      (m.bump F.psecREKEYS n).updSec (fun x => { x with sakAt := aset x.sakAt n m.now })
    else m) s

/-! ### Mains and LOW (R568 to R570) -/

/-- LOW_ENTRY (R569): every condition of LOW holds. -/
def execLowEntry (t : Nat) (s : State) : Out :=
  evR t (fun r m =>
    if m.mode = 3 ∧ m.sys.standSince.any (fun a => decide (a + 10 * 10 ^ 9 ≤ m.now)) ∧ m.isSet F.pairLOW_OK ∧ m.sys.mains ∧
        m.obj F.gaugePF_STATE = 0 ∧ m.obj F.secDEBUG_LEVEL = 0 ∧ m.obj F.powPOWER_STATE = 0 then
      (((m.setPower 2).updSys (fun x => { x with lowSince := some m.now })).islMode.islOut r, [])
    else (m, [])) s

/-- MAINS_RETURN (R570, R573): before the wrap the module returns to FULL; once it has begun, the wrap completes. -/
def execMainsReturn (t : Nat) (s : State) : Out :=
  ev t (fun m =>
    if m.sys.off then m
    else
      let m := m.updSys (fun x => { x with mains := true })
      if m.obj F.powPOWER_STATE = 1 ∧ m.sys.wrap.isNone then (m.updSys (fun x => { x with lostAt := none })).setPower 0 else m) s

end Sys2Proof.Machine
end

