-- ==== Sys2Proof/Machine/Service.lean ====
section
/-! DEFINITION. Service (spec/20): firmware updates, the supervisor trial, transfers of a configuration, cartridge, calibration. -/
namespace Sys2Proof.Machine

/-! ### Transfer and verification (R582 to R584) -/

/-- Largest image of a target (R583). -/
def imageMax (target : Nat) : Nat :=
  if target = 0 then 96 * 2 ^ 20 else if target = 1 then 2 ^ 20 else if target ≤ 3 then 256 * 2 ^ 10 else 16 * 2 ^ 20

/-- Combination checks of UPDATE_BEGIN (R584). -/
def updateCombo (_ is : List Item) : Option (Nat × Nat) :=
  let k := itemNum is 1 0
  clash (hasItem is 1 && ((hasItem is 2 && !(k == 4 || k == 5)) || (k == 4 && decide (1023 < itemNum is 2 0)) || (k == 5 && decide (511 < itemNum is 2 0)) ||
    (hasItem is 3 && (k == 6 || decide (imageMax k < itemNum is 3 0))) || (hasItem is 4 && k != 6)))

/-- Items that a target asks for. -/
def updateLack (is : List Item) : Option Nat :=
  let k := itemNum is 1 0
  if (k = 4 ∨ k = 5) ∧ !hasItem is 2 then some 2
  else if k ≠ 6 ∧ !hasItem is 3 then some 3
  else if k = 6 ∧ !hasItem is 4 then some 4
  else none

/-- The node of a target runs (STATE 4). -/
def Mach.nodeUp (m : Mach) (target index : Nat) : Bool := if target = 4 then m.obj F.placeSTATE index == 4 else m.obj F.nodeSTATE index == 4

/-- The partner has been absent for 60 s (R592). -/
def Mach.partnerGone (m : Mach) : Bool :=
  m.paired && m.obj F.pairPARTNER == 0 && m.pm.peer.lostAt.any (fun a => decide (a + 60 * 10 ^ 9 ≤ m.now))

/-- Version field of the supervisor image that is not in force. -/
def Mach.idleImage (m : Mach) : Fld := if m.obj F.secIMAGE_ACTIVE = 0 then F.updSUP_VER_B else F.updSUP_VER_A

/-- The effect of UPDATE_BEGIN (R583, R584). DEDUCED, log 75. -/
def updateBegin (c : Cmd) (m : Mach) : Res :=
  let k := c.num 1
  let tag := (m.conn c.conn).tag
  let m := m.when (m.svc.update.any (fun u => u.tag != tag && decide (u.lastAt + 600 * 10 ^ 9 ≤ m.now))) Mach.dropUpdate
  if m.svc.update.isSome then Res.fail m 0x2004
  else if (k = 4 ∨ k = 5) ∧ !m.nodeUp k (c.num 2) then Res.fail m 0x2006
  else if k = 6 ∧ !m.partnerGone then Res.fail m stWRONG_MODE
  else
    let u : Update := { target := k, index := c.num 2, size := c.num 3, serial := c.num 4, data := [], verified := decide (k = 6), version := 0,
                        restartMs := 0, vendor := 0, product := 0, queue := c.q, tag := tag, lastAt := m.now }
    Res.done (((m.updSvc (fun x => { x with update := some u })).setObj F.updTARGET 0 k).setObj F.updRECEIVED 0 0).updSync

/-- The card of UPDATE_BEGIN. -/
def updateBeginCard : Card :=
  { op := 0x1010, bulk := true, sysOnly := true,
    items := [⟨1, 1, 1, true, false⟩, ⟨2, 2, 2, false, false⟩, ⟨3, 4, 4, false, false⟩, ⟨4, 8, 8, false, false⟩],
    valOk := fun ty v => ty != 1 || decide (beNat v ≤ 6), combo := updateCombo, lack := updateLack }

/-- UPDATE_BEGIN (R584). -/
def execUpdateBegin (msg : Msg) (s : State) : Out :=
  zcpM updateBeginCard updateBegin msg s

/-- The effect of UPDATE_DATA (R583): contiguous, ascending pieces; the store of an image being written holds no valid image. DEDUCED, log 75. -/
def updateData (c : Cmd) (m : Mach) : Res :=
  match m.svc.update with
  | none => Res.fail m 0x2002
  | some u =>
    let d := c.bytes 2
    if c.num 1 ≠ u.data.length then Res.bad m 1
    else if u.size < u.data.length + d.length then Res.bad m 2
    else
      let m := m.updSvc (fun x => { x with update := some { u with data := u.data ++ d, lastAt := m.now } })
      let m := m.setObj F.updRECEIVED 0 (u.data.length + d.length)
      Res.done (m.when (u.target == 0) (fun m => m.setObj m.idleImage 0 0))

/-- The card of UPDATE_DATA. -/
def updateDataCard : Card :=
  { op := 0x1011, bulk := true, sysOnly := true, items := [⟨1, 4, 4, true, false⟩, ⟨2, 1, 65000, true, false⟩] }

/-- UPDATE_DATA (R584). -/
def execUpdateData (msg : Msg) (s : State) : Out :=
  zcpM updateDataCard updateData msg s

/-- Fused minimum version of a target (R554). -/
def Mach.floorOf (m : Mach) (target : Nat) : Nat := alook 0 m.svc.floors target

/-- IMAGE_VERIFIED (R583): every byte has arrived and the image has been checked. -/
def execImageVerified (t : Nat) (v : Verdict) (s : State) : Out :=
  ev t (fun m =>
    match m.svc.update with
    | none => m
    | some u =>
      if u.verified ∨ u.data.length ≠ u.size then m
      else
        let node := decide (u.target = 4) || decide (u.target = 5)
        let fits := if u.target = 4 then v.vendor == m.obj F.placeVENDOR u.index && v.product == m.obj F.placePRODUCT u.index
          else if u.target = 5 then v.vendor == m.obj F.nodeVENDOR u.index && v.product == m.obj F.nodePRODUCT u.index else true
        let st := if !v.ok || !fits then 0x2001 else if !node && decide (v.version < m.floorOf u.target) then 0x2005 else 0
        let say := fun (m : Mach) => m.event u.queue 0x1080 (m.queueOwner u.queue) st [itm 1 1 (m.obj F.updSTATE), itm 2 1 u.target]
        if st ≠ 0 then say m.dropUpdate
        else
          let m := m.updSvc (fun x => { x with update := some { u with
            verified := true, version := v.version, restartMs := v.restartMs, vendor := v.vendor, product := v.product } })
          say (m.when (u.target == 0) (fun m => m.setObj m.idleImage 0 v.version)).updSync) s

/-- UPDATE_IDLE_EXPIRY (R583): 600 s without UPDATE_DATA. DEDUCED, log 75. -/
def execUpdateIdleExpiry (t : Nat) (s : State) : Out :=
  ev t (fun m => m.when (m.svc.update.any (fun u => decide (u.lastAt + 600 * 10 ^ 9 ≤ m.now))) Mach.dropUpdate) s

/-! ### Activation (R582, R585 to R587, R592) -/

/-- Modes in which the open update may be activated (R582). -/
def activateModes (m : Mach) : List Nat :=
  match m.svc.update with
  | none => [0, 1, 2, 3, 4, 5]
  | some u => if u.target ≤ 3 then [0, 1, 2, 3, 4, 5] else if u.target ≤ 5 then [0, 1, 2, 5] else [0, 1, 2]

/-- Activation needs presence (R582). -/
def Mach.activatePresence (m : Mach) (u : Update) : Bool := u.target == 6 || (decide (1 ≤ u.target) && decide (u.target ≤ 3) && m.running)

/-- The island restarts: STARTING, every target in its safe state (R436, R585). -/
def Mach.islandDown (m : Mach) (r : Ram) : Mach :=
  let m := (m.cancelSlate.dropStaged).setObj F.islSTATE 0 0
  let m := m.updIsl (fun i => { set := i.set, brakes := i.brakes, debugHold := i.debugHold, wrapHold := i.wrapHold })
  m.islOut r

/-- HOLD_MS of a node's place or object. -/
def Mach.nodeHold (m : Mach) (target index : Nat) : Nat := if target = 4 then m.obj F.placeHOLD_MS index else m.obj F.nodeHOLD_MS index

/-- A verified image is activated: a supervisor, island or controller restarts from it; a node's MANAGE goes out at its owner's next Clapper;
the partner record takes effect. DEDUCED, log 75. -/
def Mach.activateGo (m : Mach) (r : Ram) (u : Update) (raise force : Bool) (q seq : Nat) : Mach :=
  let m := (((m.updSvc (fun x => { x with update := none })).setObj F.updTARGET 0 0xFF).setObj F.updRECEIVED 0 0)
  let run := fun (m : Mach) => (m.updSvc (fun x => { x with
    activation := some ⟨u.target, u.index, q, seq, m.now, raise, u.version, false⟩ })).updSync
  if u.target = 0 then
    let old := m.obj F.secIMAGE_ACTIVE
    let m := (m.setObj F.secIMAGE_ACTIVE 0 (1 - old)).updSvc (fun x => { x with
      trial := some ⟨m.now + 600 * 10 ^ 9, raise, old, u.version⟩ })
    (run m).supRestart
  else if u.target = 1 then (run m).islandDown r
  else if u.target ≤ 3 then (run m).ctlDown r (u.target - 2)
  else if u.target ≤ 5 then
    if (m.nodeHold u.target u.index ≤ u.restartMs ∧ !force) ∨ !m.nodeUp u.target u.index then m.updSync.complete q 0x1012 seq 0x2006
    else run m
  else
    let m := ((m.setObj F.pairPARTNER_SERIAL 0 u.serial).bump F.updACTIVATIONS).updSync
    let m := { m with pm := { m.pm with peer := { lostAt := m.pm.peer.lostAt } } }
    (m.chron { sub := 0x10, low := 0x04, cause := 6, detail := toLe 8 u.serial }).complete q 0x1012 seq stDONE

/-- The effect of UPDATE_ACTIVATE (R585). DEDUCED, log 75. -/
def updateActivate (c : Cmd) (r : Ram) (m : Mach) : Res :=
  match m.svc.update with
  | none => Res.fail m 0x2002
  | some u =>
    if m.obj F.powPOWER_STATE ≠ 0 then Res.fail m stWRONG_MODE
    else if !u.verified then Res.fail m 0x2003
    else if m.svc.activation.isSome then Res.fail m stLOCKED
    else
      let raise := c.num 1 == 1
      let force := c.num 2 == 1
      if m.activatePresence u then
        if m.windowOpen then Res.fail m stLOCKED else Res.started (m.openWindow c (.activate raise force))
      else Res.started (m.activateGo r u raise force c.q c.seq)

/-- The card of UPDATE_ACTIVATE. -/
def updateActivateCard : Card :=
  { op := 0x1012, bulk := true, sysOnly := true, items := [⟨1, 1, 1, false, false⟩, ⟨2, 1, 1, false, false⟩],
    valOk := fun _ v => decide (beNat v ≤ 1), modesBy := fun m _ => activateModes m }

/-- UPDATE_ACTIVATE (R585). -/
def execUpdateActivate (msg : Msg) (s : State) : Out :=
  zcp updateActivateCard updateActivate msg s

/-- The MANAGE frame of a node's activation goes out at its owner's Clapper (R586). -/
def Mach.clapActivation (m : Mach) (p : Nat) : Mach :=
  match m.svc.activation with
  | none => m
  | some a =>
    let own := if a.target = 4 then m.obj F.placePARTITION a.index else m.obj F.nodePARTITION a.index
    if a.sent ∨ a.target < 4 ∨ own ≠ p then m
    else
      let m := m.updSvc (fun x => { x with activation := some { a with sent := true } })
      if a.target = 4 then m.manage (a.index / 256) (a.index % 256) (m.obj F.placeASSIGN_EPOCH a.index) (m.place a.index).mac (3 :: toBe 4 a.version)
      else m.emit ⟨8 + a.index / 64, 0xA, a.index % 64, 3 :: toBe 4 a.version⟩

/-- The fused minimum of a target rises (R554, R587): 64 times in all. DEDUCED, log 75. -/
def Mach.raiseFloor (m : Mach) (target version : Nat) : Mach :=
  if m.svc.raises < 64 then m.updSvc (fun x => { x with
    floors := aset x.floors target version
    raises := x.raises + 1 })
  else m.chron { sub := 0x10, low := 0x04, cause := 2, detail := [target] ++ toLe 4 version }

/-- The controller of a rail is up again after an activation (R585): claimed channels return in turn, 1 ms apart. -/
def Mach.ctlBack (m : Mach) (r : Ram) (k : Nat) : Mach :=
  let m := m.each (chansOf k) (fun m n => m.updLc n (fun x => { x with usedAt := m.now }))
  let m := m.updCtl k (fun x => { x with powered := true })
  let m := if m.limpForce then m.engage r k 2 else m
  let on := (chansOf k).filter (fun n => (m.lcClaim n).1)
  let m := m.each (on.zip (List.range on.length)) (fun m e => m.updLc e.1 (fun x => { x with uvAt := some (m.now + e.2 * 10 ^ 6) }))
  m.each (chansOf k) (fun m n => m.lcEval r n false)

/-- ACTIVATION_DONE (R585): the unit runs its new image; or it does not, and the old one runs on. DEDUCED, log 75. -/
def execActivationDone (t : Nat) (ok : Bool) (s : State) : Out :=
  evR t (fun r m =>
    match m.svc.activation with
    | none => (m, [])
    | some a =>
      if a.target = 0 ∧ ok ∧ m.sys.restarting.isSome then (m, [])
      else if 4 ≤ a.target ∧ !a.sent then (m, [])
      else
        let m := (m.updSvc (fun x => { x with activation := none })).updSync
        let m := if a.target = 1 then m.islandUp r true
          else if a.target = 2 ∨ a.target = 3 then m.ctlBack r (a.target - 2)
          else if a.target = 0 ∧ !ok then m.trialFailed else m
        if !ok then (m.complete a.queue 0x1012 a.seq (if 4 ≤ a.target then 0x2006 else 0x2001), [])
        else
          let m := m.bump F.updACTIVATIONS
          let m := if a.target = 1 then m.setObj F.updISLAND_VER 0 a.version else if a.target = 2 then m.setObj F.updLCC_VER_FA 0 a.version
            else if a.target = 3 then m.setObj F.updLCC_VER_FB 0 a.version else m
          let m := m.when (a.raise && decide (1 ≤ a.target) && decide (a.target ≤ 3)) (fun m => m.raiseFloor a.target a.version)
          (m.complete a.queue 0x1012 a.seq stDONE [itm 1 4 a.version], [])) s

/-- TRIAL_END (R587 step 4): 600 s without a failure. -/
def execTrialEnd (t : Nat) (s : State) : Out :=
  ev t (fun m =>
    match m.svc.trial with
    | none => m
    | some x =>
      if m.now < x.ends then m
      else
        let m := ((m.updSvc (fun y => { y with trial := none })).setObj F.updTRIAL_LEFT_S 0 0).updSync
        m.when x.raise (fun m => m.raiseFloor 0 x.version)) s

/-! ### Configuration transfer (R588) -/

/-- The card of LOAD_BEGIN. -/
def loadBeginCard : Card :=
  { op := 0x0310, bulk := true, sysOnly := true, items := [⟨1, 1, 1, true, false⟩, ⟨2, 4, 4, true, false⟩],
    valOk := fun ty v => if ty = 1 then decide (beNat v ≤ 1) else decide (beNat v ≤ 536870912),
    modesBy := fun _ is => if is.any (fun i => i.ty == 1 && beNat i.val == 1) then [0, 1, 2] else [0] }

/-- The effect of LOAD_BEGIN (R588). DEDUCED, log 76. -/
def loadBegin (c : Cmd) (m : Mach) : Res :=
  if m.svc.load.isSome then Res.fail m stLOCKED
  else Res.done (m.updSvc (fun x => { x with load := some (c.num 1, c.num 2, [], c.q, m.now) }))

/-- LOAD_BEGIN (R588). -/
def execLoadBegin (msg : Msg) (s : State) : Out :=
  zcpM loadBeginCard loadBegin msg s

/-- Modes of the open load. -/
def loadModes (m : Mach) : List Nat :=
  match m.svc.load with
  | none => [0, 1, 2, 3, 4, 5]
  | some l => if l.1 = 1 then [0, 1, 2] else [0]

/-- The card of LOAD_DATA. -/
def loadDataCard : Card :=
  { op := 0x0311, bulk := true, sysOnly := true, items := [⟨1, 4, 4, true, false⟩, ⟨2, 1, 65000, true, false⟩],
    modesBy := fun m _ => loadModes m }

/-- The effect of LOAD_DATA (R588, R583). -/
def loadData (c : Cmd) (m : Mach) : Res :=
  match m.svc.load with
  | none => Res.fail m 0x1313
  | some (kind, size, data, q, _) =>
    if c.num 1 ≠ data.length then Res.bad m 1
    else if size < data.length + (c.bytes 2).length then Res.bad m 2
    else Res.done (m.updSvc (fun x => { x with load := some (kind, size, data ++ c.bytes 2, q, m.now) }))

/-- LOAD_DATA (R588, R583). -/
def execLoadData (msg : Msg) (s : State) : Out :=
  zcpM loadDataCard loadData msg s

/-- The card of LOAD_ABORT. -/
def loadAbortCard : Card :=
  { op := 0x0313, bulk := false, sysOnly := true }

/-- The effect of LOAD_ABORT (R588). -/
def loadAbort (_ : Cmd) (m : Mach) : Res :=
  Res.done (m.updSvc (fun x => { x with load := none }))

/-- LOAD_ABORT (R588). -/
def execLoadAbort (msg : Msg) (s : State) : Out :=
  zcpM loadAbortCard loadAbort msg s

/-- LOAD_IDLE_EXPIRY (R588): 600 s without LOAD_DATA. -/
def execLoadIdleExpiry (t : Nat) (s : State) : Out :=
  ev t (fun m => m.when (m.svc.load.any (fun l => decide (l.2.2.2.2 + 600 * 10 ^ 9 ≤ m.now))) (fun m =>
    m.updSvc (fun x => { x with load := none }))) s

/-! ### The cartridge (R589) -/

/-- CARTRIDGE on EC0: 0 removed, 1 inserted, 2 in service, 3 window closed. -/
def Mach.cartSay (m : Mach) (what : Nat) : Mach :=
  (m.chron { sub := 0x10, low := 0x82, cause := what, detail := toLe 8 m.svc.cartSerial }).notice 0 0x1082 0xFF [itm 1 1 what]

/-- The replacement window closes with a status for the command that opened it. -/
def Mach.cartClose (m : Mach) (st : Nat) : Mach :=
  match m.svc.cartWin with
  | none => m
  | some w =>
    let m := (m.updSvc (fun x => { x with cartWin := none })).pfSync
    match w.1 with
    | some (q, sq) => m.complete q 0x1014 sq st
    | none => m

/-- The card of CARTRIDGE_REPLACE. -/
def cartridgeReplaceCard : Card :=
  { op := 0x1014, bulk := false, sysOnly := true }

/-- The effect of CARTRIDGE_REPLACE (R589). -/
def cartridgeReplace (c : Cmd) (m : Mach) : Res :=
  if m.obj F.powPOWER_STATE ≠ 0 ∨ m.svc.cartWin.isSome then Res.fail m 0x2008
  else
    let e := m.now + 600 * 10 ^ 9
    let gz := if m.gzValid then m.gzAt e else 0
    Res.started (m.updSvc (fun x => { x with cartWin := some (some (c.q, c.seq), e) })).pfSync [itm 1 8 gz]

/-- CARTRIDGE_REPLACE (R589). -/
def execCartridgeReplace (msg : Msg) (s : State) : Out :=
  zcpM cartridgeReplaceCard cartridgeReplace msg s

/-- CARTRIDGE_REMOVED (R589): without the command, a record, CARTRIDGE and a window of its own. DESIGN CHOICE, log 61. -/
def execCartridgeRemoved (t : Nat) (s : State) : Out :=
  ev t (fun m =>
    if !m.svc.cartIn then m
    else
      let m := m.updSvc (fun x => { x with cartIn := false })
      let m := m.when m.svc.cartWin.isNone (fun m =>
        (m.updSvc (fun x => { x with cartWin := some (none, m.now + 600 * 10 ^ 9) })).cartSay 0)
      m.energies 0 0) s

/-- CARTRIDGE_INSERTED (R589): a new serial number starts AGE_H and CAPACITY_MJ anew. DESIGN CHOICE, log 61. -/
def execCartridgeInserted (t : Nat) (serial : Nat) (s : State) : Out :=
  ev t (fun m =>
    if m.svc.cartIn then m
    else
      let new := serial != m.svc.cartSerial
      let m := m.updSvc (fun x => { x with
        cartIn := true
        cartFault := false
        cartSerial := serial })
      let m := m.when new (fun m => ((m.setObj F.gaugeAGE_H 0 0).setObj F.gaugeCAPACITY_MJ 0 36000).updGauge (fun g => { g with
        eol := false
        ageS := 0 }))
      m.pfSync) s

/-- PRECHARGE_DONE (R589): E_USED reaches WRAP_MJ. -/
def execPrechargeDone (t : Nat) (s : State) : Out :=
  ev t (fun m =>
    if !m.svc.cartIn then m
    else
      let w := m.obj F.gaugeWRAP_MJ
      (m.energies (max w (m.obj F.gaugeE_CC_MJ)) (max w (m.obj F.gaugeE_V_MJ))).cartClose stDONE) s

/-- CARTRIDGE_WINDOW_EXPIRY (R589): TIMEOUT with no cartridge fitted; with one that holds WRAP_MJ, DONE. DEDUCED, log 76. -/
def execCartridgeWindowExpiry (t : Nat) (s : State) : Out :=
  ev t (fun m =>
    if m.svc.cartWin.any (fun w => decide (w.2 ≤ m.now)) then
      if !m.svc.cartIn then m.cartClose stTIMEOUT
      else m.when (decide (m.obj F.gaugeWRAP_MJ ≤ m.obj F.gaugeE_USED_MJ)) (fun m => m.cartClose stDONE)
    else m) s

/-- CARTRIDGE_LEVEL_CHANGE (R410, R412, R416): the cartridge's energy crosses a threshold of PF_STATE, or the cartridge faults or no longer does. -/
def execCartridgeLevelChange (t : Nat) (level : CartLevel) (s : State) : Out :=
  ev t (fun m =>
    if !m.svc.cartIn then m
    else
      let m := (m.setObj F.gaugeCART_MV 0 (min 65535 level.mv)).setObj F.gaugeTEMP 0 (uint 16 level.temp)
      (m.updSvc (fun x => { x with cartFault := level.fault })).energies level.cc level.v) s

/-! ### Calibration (R590) -/

/-- The card of CALIBRATE. -/
def calibrateCard : Card :=
  { op := 0x1013, bulk := true, modes := [0, 1, 2, 5], items := [⟨1, 1, 1, true, false⟩, ⟨2, 1, 1, true, false⟩],
    valOk := fun ty v => ty != 1 || decide (beNat v ≤ 1),
    combo := fun _ is => clash (decide (7 < itemNum is 2 0) || (itemNum is 1 1 == 0 && decide (3 < itemNum is 2 0))) }

/-- The effect of CALIBRATE (R590). -/
def calibrate (c : Cmd) (r : Ram) (m : Mach) : Res :=
  let kind := c.num 1
  let unit := c.num 2
  if !isSys c.owner && !(kind == 1 && m.loOwner r unit == some c.owner) then Res.fail m stNOT_OWNER
  else if m.svc.calib.isSome then Res.fail m 0x2004
  else Res.started (m.updSvc (fun x => { x with
    calib := some (kind, unit, c.q, c.seq, m.now + (if kind = 0 then 2 else 50) * 10 ^ 6) }))

/-- CALIBRATE (R590). -/
def execCalibrate (msg : Msg) (s : State) : Out :=
  zcp calibrateCard calibrate msg s

/-- CALIBRATED (R590): the offset in 0.001 % of full scale and the gain in ppm that the references give. DEDUCED, log 76. -/
def execCalibrated (t : Nat) (offset gain : Int) (s : State) : Out :=
  evR t (fun r m =>
    match m.svc.calib with
    | none => (m, [])
    | some (kind, unit, q, sq, _) =>
      let old : Int × Int := alook (0, 0) m.svc.corr (kind * 16 + unit)
      let m := m.updSvc (fun x => { x with
        calib := none
        calUnc := if kind = 0 then some (kind, unit, m.now + 10 ^ 6) else x.calUnc })
      let p := if kind = 1 then (m.loOwner r unit).getD 0xFF else 0xFF
      if 500 < offset.natAbs ∨ 10000 < gain.natAbs then (m.complete q 0x1013 sq 0x2007 [] p, [])
      else
        let m := m.updSvc (fun x => { x with corr := aset x.corr (kind * 16 + unit) (offset, gain) })
        let m := m.chron { sub := 0x10, low := 0x81, part := p, inst := kind * 16 + unit,
                           detail := toLe 4 (uint 32 old.1) ++ toLe 4 (uint 32 old.2) ++ toLe 4 (uint 32 offset) ++ toLe 4 (uint 32 gain) }
        let m := m.notice (m.chanOf p) 0x1081 p [itm 1 1 kind, itm 2 1 unit]
        (m.complete q 0x1013 sq stDONE [itm 1 4 (uint 32 (offset - old.1)), itm 2 4 (uint 32 (gain - old.2))] p, [])) s

end Sys2Proof.Machine
end

