-- ==== Sys2Proof/Machine/Front.lean ====
section
/-! DEFINITION. The front panel and the digital inputs (spec/21), and what a confirmed presence window does (R561). -/
namespace Sys2Proof.Machine

/-- The command of an open presence window proceeds at CONFIRM (R561). DEDUCED, log 64. -/
def Mach.confirmed (m : Mach) (r : Ram) (w : Window) : Mach × List W :=
  let m := m.updSys (fun x => { x with window := none })
  match w.what with
  | .mode to_ =>
    (match m.modeGuard to_ with
     | 0 =>
       let x := m.modeGo r to_
       (x.1.complete w.queue 0x0110 w.seq stDONE [itm 1 1 x.1.mode], x.2)
     | g => (m.complete w.queue 0x0110 w.seq 0x1102 [itm 1 1 m.mode, itm 2 1 g], []))
  | .cert kind slot data use roles queues =>
    ((m.certApply kind slot data use roles queues).complete w.queue 0x0F11 w.seq stDONE, [])
  | .life to_ =>
    ((m.complete w.queue 0x0F14 w.seq stDONE [itm 1 1 to_]).updSys (fun x => { x with lifeNext := some to_ })).resetBegin r
  | .debug conn =>
    if debugMax (m.obj F.secLIFECYCLE) m.mode < 2 then (m.complete w.queue 0x0F12 w.seq 0x1F03, [])
    else
      let m := (((m.updIsl (fun i => { i with debugHold := true })).islMode).heldTrip).islOut r
      ((m.grantDebug 2 conn).complete w.queue 0x0F12 w.seq stDONE [itm 2 4 (m.obj F.secDEBUG_LEASE_S)], [])
  | .activate raise force =>
    (match m.svc.update with
     | none => (m.complete w.queue 0x1012 w.seq 0x2002, [])
     | some u =>
       if (activateModes m).contains m.mode then (m.activateGo r u raise force w.queue w.seq, [])
       else (m.complete w.queue 0x1012 w.seq stWRONG_MODE, []))
  | .slate => (m.updIsl (fun i => { i with switch := some (w.queue, w.seq) }), [])

/-- CONFIRM_KEY (R561, R607): a key press acts only in a presence window. -/
def execConfirmKey (t : Nat) (s : State) : Out :=
  evR t (fun r m =>
    let m := m.updSys (fun x => { x with keyAt := m.now })
    match m.sys.window with
    | some w => if m.deaf then (m, []) else m.confirmed r w
    | none => (m, [])) s

/-- SELECT_KEY (R561, R607): it cancels a presence window, or steps through the status pages. -/
def execSelectKey (t : Nat) (s : State) : Out :=
  ev t (fun m =>
    let m := m.updSys (fun x => { x with keyAt := m.now })
    if m.windowOpen then m.closeWindow 0x1102
    else m.updSys (fun x => { x with page := x.page % 10 + 1 })) s

/-- PRESENCE_TIMEOUT (R561): 30 s without CONFIRM. -/
def execPresenceTimeout (t : Nat) (s : State) : Out :=
  ev t (fun m => m.when (m.sys.window.any (fun w => decide (w.ends ≤ m.now))) (fun m => m.closeWindow 0x1101)) s

/-- DISPLAY_PAGE_TIMEOUT (R607): 60 s without a key press. -/
def execDisplayPageTimeout (t : Nat) (s : State) : Out :=
  ev t (fun m => m.when (decide (m.sys.keyAt + 60 * 10 ^ 9 ≤ m.now)) (fun m => m.updSys (fun x => { x with page := 1 }))) s

/-- DIGITAL_INPUT_CHANGE (R615, R357): a level has held for FILTER_US; it is counted, and stops the axes it limits. -/
def execDigitalInputChange (t : Nat) (n : Fin 32) (level : Bool) (s : State) : Out :=
  evR t (fun r m =>
    let k := n.val
    if bit m.di k = level then (m, [])
    else
      let m := ({ m with di := setBit m.di k level }).bump F.diEDGES k
      (m.each (List.range 16) (fun m a =>
        let m := m.when (m.obj F.axLIM_POS_DI a == k) (fun m => m.axLimit r a true level)
        m.when (m.obj F.axLIM_NEG_DI a == k) (fun m => m.axLimit r a false level)), [])) s

end Sys2Proof.Machine
end

