-- ==== Sys2Proof/Machine/PartCtl.lean ====
section
/-! DEFINITION. Commands on engines and partitions (R92, R94, R97, R98, R177, R183 to R187). -/
namespace Sys2Proof.Machine

/-! ### Engines -/

/-- SELF_TEST_SLICE_END (R92, R94): a slice completes; 4096 make a pass; a failed one fences the engine. -/
def execSelfTestSliceEnd (t : Nat) (ce : Fin 8) (pass : Bool) (s : State) : Out :=
  evR t (fun r m =>
    let c := ce.val
    let st := m.obj F.ceSTATE c
    if 2 ≤ st ∨ (st = 1 ∧ (m.eng c).slice = 0) then (m, [])
    else
      let m := m.updEng c (fun e => { e with slice := 0 })
      if !pass then ({ m with pm := { m.pm with testFail := m.pm.testFail || m.mode == 3 } }).fence r c 1
      else
        let m := m.setObj F.ceSLICES c (m.obj F.ceSLICES c + 1)
        (m.when (m.obj F.ceSLICES c % 4096 == 0) (fun m => m.bump F.cePASSES c), [])) s

/-- The queue may act on an engine: its partition's, or a system queue. -/
def Mach.mayCe (m : Mach) (owner c : Nat) : Bool := isSys owner || m.obj F.cePARTITION c == owner

/-- The effect of CE_FENCE (R97). With FORCE on a partition that does not run, OUTCOME is 2 and the partition stays in its state: DESIGN CHOICE,
log 53. -/
def ceFence (c : Cmd) (r : Ram) (m : Mach) : Res :=
  let n := c.num 1
  if !m.mayCe c.owner n then Res.fail m stNOT_OWNER
  else if m.obj F.ceSTATE n ≠ 1 then Res.done m [itm 1 1 0]
  else
    let p := m.obj F.cePARTITION n
    let set := setBit (m.fencedOf p) n true
    let bad := decide (p < 8) && m.fenceFaults p set
    if bad ∧ c.num 2 = 0 then Res.fail m 0x1308
    else
      let shed := (m.planOf p set).any (fun x => x.shed != [])
      let x := m.fence r n 5
      Res.done x.1 [itm 1 1 (if bad then 2 else shed.toNat)] x.2

/-- The card of CE_FENCE. -/
def ceFenceCard : Card :=
  { op := 0x0320, bulk := false, modes := [0, 1, 2, 5], items := [⟨1, 1, 1, true, false⟩, ⟨2, 1, 1, false, false⟩],
    valOk := fun ty v => if ty = 1 then decide (beNat v ≤ 7) else decide (beNat v ≤ 1) }

/-- CE_FENCE (R97). DEDUCED, log 53. -/
def execCeFence (msg : Msg) (s : State) : Out :=
  zcp ceFenceCard ceFence msg s

/-- The card of CE_RETEST. -/
def ceRetestCard : Card :=
  { op := 0x0321, bulk := true, modes := [0, 1, 2, 5], items := [⟨1, 1, 1, true, false⟩], valOk := fun _ v => decide (beNat v ≤ 7) }

/-- The effect of CE_RETEST (R98). An engine whose retest already runs answers CE_NOT_FENCED: DESIGN CHOICE, log 53. -/
def ceRetest (c : Cmd) (m : Mach) : Res :=
  let n := c.num 1
  if !m.mayCe c.owner n then Res.fail m stNOT_OWNER
  else if m.obj F.ceSTATE n ≠ 2 then Res.fail m 0x1307
  else Res.started ((m.setObj F.ceSTATE n 3).updEng n (fun e => { e with retest := some (some (c.q, c.seq)) }))

/-- CE_RETEST (R98). -/
def execCeRetest (msg : Msg) (s : State) : Out :=
  zcpM ceRetestCard ceRetest msg s

/-- CE_RETEST_DONE (R98): one full pass, passed or failed. -/
def execCeRetestDone (t : Nat) (ce : Fin 8) (pass : Bool) (s : State) : Out :=
  ev t (fun m =>
    let c := ce.val
    match (m.eng c).retest with
    | some (some (q, sq)) =>
      let m := m.updEng c (fun e => { e with retest := none })
      let m := (if pass then m.engineBack c else m.setObj F.ceSTATE c 2).degrade
      m.complete q 0x0321 sq stDONE [itm 1 1 (!pass).toNat] (m.obj F.cePARTITION c)
    | _ => m) s

/-! ### Partitions -/

/-- VIOLATION_SUMMARY (R177): the counts not yet reported, 1 s after the previous record. DEDUCED, log 54. -/
def execViolationSummary (t : Nat) (p : Fin 8) (s : State) : Out := ev t (fun m => m.vioReport p.val) s

/-- FIRST_CLAPPER: the partition's k-th Clapper after now, as GZ time; 0 where GZ time is not valid. DEDUCED, log 53. -/
def Mach.clapperGz (m : Mach) (p k : Nat) : Nat := let g := m.nextClapGz p; if g = 0 then 0 else g + (k - 1) * m.period p

/-- The Clapper at which fallback applies after PART_HALT or PART_STOP (R184): two ahead of a RUNNING partition, else the next. -/
def Mach.fallGz (m : Mach) (p : Nat) : Nat := m.clapperGz p (if m.obj F.partSTATE p = 1 then 2 else 1)

/-- The effect of PART_START (R183, R185, R186). -/
def partStart (c : Cmd) (m : Mach) : Res :=
  let p := c.num 1
  let st := m.obj F.partSTATE p
  if !isSys c.owner && c.owner != p then Res.fail m stNOT_OWNER
  else if (m.part p).cmd.isSome then Res.fail m 0x1201
  else if st = 1 then Res.done m [itm 1 8 (m.clapperGz p 1)]
  else if st = 3 ∨ (st = 0 ∧ c.num 2 = 1) then Res.fail m 0x1201
  else if !m.hasEngine p then Res.fail m 0x1202
  else Res.done (m.givePart p (c.num 2)) [itm 1 8 (m.clapperGz p 1)]

/-- The card of PART_START. -/
def partStartCard : Card :=
  { op := 0x0210, bulk := false, modes := [1, 2], items := [⟨1, 1, 1, true, false⟩, ⟨2, 1, 1, true, false⟩],
    valOk := fun ty v => if ty = 1 then decide (beNat v ≤ 7) else decide (beNat v ≤ 1), partTy := some 1 }

/-- PART_START (R186). DEDUCED, log 53. -/
def execPartStart (msg : Msg) (s : State) : Out :=
  zcpM partStartCard partStart msg s

/-- PART_HALT and PART_STOP (R183, R187): the state they find as their target, those they refuse, the command they give. -/
def partLeave (target : Nat) (refused : Nat → Bool) (kind : Nat) (c : Cmd) (m : Mach) : Res :=
  let p := c.num 1
  let st := m.obj F.partSTATE p
  if !isSys c.owner && c.owner != p then Res.fail m stNOT_OWNER
  else if (m.part p).cmd.isSome then Res.fail m 0x1201
  else if st = target then Res.done m [itm 1 8 (m.fallGz p)]
  else if refused st then Res.fail m 0x1201
  else Res.done (m.givePart p kind) [itm 1 8 (m.fallGz p)]

/-- The card of PART_HALT. -/
def partHaltCard : Card :=
  { op := 0x0211, bulk := false, modes := [1, 2], items := [⟨1, 1, 1, true, false⟩],
    valOk := fun _ v => decide (beNat v ≤ 7), partTy := some 1 }

/-- PART_HALT (R187). -/
def execPartHalt (msg : Msg) (s : State) : Out :=
  zcpM partHaltCard (partLeave 2 (fun st => st == 0 || st == 3) 2) msg s

/-- The card of PART_STOP. -/
def partStopCard : Card :=
  { op := 0x0212, bulk := false, modes := [1, 2], items := [⟨1, 1, 1, true, false⟩],
    valOk := fun _ v => decide (beNat v ≤ 7), partTy := some 1 }

/-- PART_STOP (R187). -/
def execPartStop (msg : Msg) (s : State) : Out :=
  zcpM partStopCard (partLeave 0 (fun _ => false) 3) msg s

end Sys2Proof.Machine
end

