-- ==== Sys2Proof/Machine/Walk.lean ====
section
/-! DEFINITION. The worst path of a task's code as the loader reckons it (R78, R85, R90, R102, R129, R144): the occupancy of the store buffer,
spills and fills, along every path at once, in the clocks of R65 to R120. DEDUCED, log 36. -/
namespace Sys2Proof.Machine

/-! ### What may stand on a path -/

/-- An entry of the store buffer on a path: image or region; its granules; the bits of a direct store (a range's bits are not known); the clock
at which its drain begins, counted from the path's present clock. -/
structure WEnt where
  point : Bool
  lo : Nat
  hi : Nat
  mask : Nat
  exact : Bool
  start : Int
deriving DecidableEq, Repr

/-- A path so far: clocks since the stretch began, the buffer, the oldest frame that stands in a window, spills and fills. -/
structure Path where
  clk : Nat := 0
  sb : List WEnt := []
  oldest : Nat := 0
  moves : Nat := 0
deriving DecidableEq, Repr

/-- Clocks pass: entries drain when they have begun 4 clocks before (R76). -/
def Path.pass (x : Path) (n : Nat) : Path :=
  { x with
    clk := x.clk + n
    sb := (x.sb.map (fun e => { e with start := e.start - n })).filter (fun e => decide (0 < e.start + 4)) }

/-- Clocks until an empty buffer as R90 charges them: 4 for each occupied entry. -/
def Path.drain (x : Path) : Nat := 4 * x.sb.length

/-- A new entry at the tail; a full buffer waits for its head (R76). -/
def Path.enter (x : Path) (e : WEnt) : Path :=
  let x := if x.sb.length < 8 then x else x.pass (((x.sb.head?.map (fun (h : WEnt) => h.start + 4)).getD 0).toNat)
  { x with sb := x.sb ++ [{ e with start := max 1 ((x.sb.getLast?.map (fun (h : WEnt) => h.start + 4)).getD 1) }] }

/-- Two entries of ranges of granules touch. -/
def WEnt.meets (a b : WEnt) : Bool :=
  a.point == b.point && decide (a.lo ≤ b.hi) && decide (b.lo ≤ a.hi) && (!(a.exact && b.exact) || (a.mask &&& b.mask) != 0)

/-- Position of the youngest entry that satisfies a test. -/
def lastOf (f : WEnt → Bool) (l : List WEnt) : Option Nat := ((List.range l.length).reverse).find? (fun i => ((l[i]?).map f).getD false)

/-- A store (R76, R78): a direct one merges into its granule's entry while that has not begun to drain; an indexed one is a new entry. -/
def Path.store (x : Path) (e : WEnt) : Path :=
  if !e.exact then x.enter e
  else
    match lastOf (fun h => h.exact && h.point == e.point && h.lo == e.lo && decide (0 ≤ h.start)) x.sb with
    | some k => { x with sb := x.sb.set k (match x.sb[k]? with
        | some h => { h with mask := h.mask ||| e.mask }
        | none => e) }
    | none => x.enter e

/-- A load (R77, R78): forwarded from a direct store's entry that covers it, else 4 clocks for each entry up to the last one that touches it. -/
def Path.load (x : Path) (e : WEnt) : Path :=
  match lastOf (fun h => h.meets e) x.sb with
  | none => x
  | some k =>
    match x.sb[k]? with
    | some h => if e.exact && h.exact && (h.mask &&& e.mask) == e.mask then x else x.pass (4 * (k + 1))
    | none => x

/-- A call from a depth takes a window: a 15th live frame spills (R84). -/
def Path.push (x : Path) (depth : Nat) : Path :=
  if depth + 1 - x.oldest < 15 then x
  else { x.pass 44 with
    oldest := x.oldest + 1
    moves := x.moves + 1 }

/-- The return to a depth, 4 clocks, and the fill of a spilled frame (R84, R119). -/
def Path.ret (x : Path) (depth : Nat) : Path :=
  let x := x.pass 4
  if x.oldest ≤ depth then x
  else { x.pass 48 with
    oldest := depth
    moves := x.moves + 1 }

/-- A path joins those that reach the same place: of two in one state the longer stays. -/
def Path.join (x : Path) : List Path → List Path
  | [] => [x]
  | y :: r =>
    if y.sb = x.sb ∧ y.oldest = x.oldest then
      (if y.clk < x.clk ∨ (y.clk = x.clk ∧ y.moves < x.moves) then x else y) :: r
    else y :: x.join r

/-- Paths without those another one covers. -/
def joinPaths (l : List Path) : List Path := l.foldl (fun r x => x.join r) []

/-- The longest of paths, with its drain. -/
def longest (l : List Path) : Path :=
  l.foldl (fun b x => if b.clk + b.drain < x.clk + x.drain ∨ (b.clk + b.drain = x.clk + x.drain ∧ b.moves < x.moves) then x else b) {}

/-! ### Instructions -/

/-- Entry of an access of an instruction: granules of 4 slots or 8 bytes, the bits of a direct one. -/
def entryOf (point : Bool) (lo hi : Nat) (bit : Option Nat) (exact : Bool) : WEnt :=
  let n := if point then 4 else 8
  let w := if point then 16 else 8
  let m := match bit with
    | some i => 2 ^ i
    | none => 2 ^ (w * (hi - lo)) - 1
  ⟨point, lo / n, (hi - 1) / n, if exact then m * 2 ^ (w * (lo % n)) else 0, exact, 0⟩

/-- Clocks of an instruction that goes on to the next one (R107 to R113). -/
def clkOf (op : Nat) : Nat :=
  if op = 0x62 ∨ op = 0x72 then 3 else if op = 0x63 ∨ op = 0x64 ∨ op = 0x73 ∨ op = 0x74 then 36 else 1

/-- A native call (R129): handoff, granules in, body, granules the type can write out, the object's command points, return. -/
def Mach.nativePath (m : Mach) (k : Pkg) (b : Body) (d : Desc) (x : Path) : Path :=
  let gran := fun (g n : Nat) => (⟨false, d.base / 8 + g, d.base / 8 + g + n - 1, if n = 1 then 2 ^ 64 - 1 else 0, n == 1, 0⟩ : WEnt)
  let bytes := ((unitAt k b.part d.base).map (·.bytes)).getD []
  let fixed := if d.block = 0x23 then 5 else if d.block = 0x30 then 6 else ((nativeSize d.block).map (·.1)).getD 24 / 8
  let loads := if d.block = 0x23 then 5 + cdiv (fld bytes 28 1) 2 else if d.block = 0x30 then 6 + cdiv (fld bytes 26 1) 4 else fixed
  let outs := chargedStores d.block
  let buf := d.block == 0x23
  let x := (x.pass 8).push b.chain.length
  let x := (List.range loads).foldl (fun (x : Path) g => (x.load (gran g 1)).pass 1) x
  let x := x.pass (bodyClk d.block bytes - loads - outs.length - buf.toNat)
  let x := outs.foldl (fun (x : Path) g => (x.store (gran g 1)).pass 1) x
  let x := if buf then (x.store (gran 5 32)).pass 1 else x
  let pts := if binds d.block then m.commandPts (boundObj k b.part d) else []
  (pts.foldl (fun (x : Path) pt => x.store (entryOf true pt (pt + 1) none true)) x).ret b.chain.length

/-- Where paths go from an instruction that is neither CALL of a composed block, SYNC, END nor LOOP: index reached, path. -/
def Mach.stepPath (m : Mach) (k : Pkg) (b : Body) (i : Nat) (x : Path) : List (Nat × Path) :=
  let op := b.op i
  let field := fun (w : Nat) => entryOf false (b.base + 2 * w) (b.base + 2 * w + 2) none true
  if op = 2 then [(i + b.arg i, x.pass 2)]
  else if op = 3 ∨ op = 4 then [(i + b.arg i, x.pass 2), (i + 1, x.pass 1)]
  else if op = 5 then [(i + 1, (x.store (field (b.lo i))).pass 1)]
  else if op = 7 then [(i + 1, (x.load (field (b.hi i))).pass 1)]
  else if op = 8 then
    (match b.desc i with
     | some d => [(i + 1, m.nativePath k b d x)]
     | none => [])
  else
    match accOf (b.word i) with
    | none => [(i + 1, x.pass (clkOf op))]
    | some a =>
      if a.locals ∨ op = 0x1B then [(i + 1, x.pass (clkOf op))]
      else
        let off := if a.point then a.off else b.base + a.off
        let e := entryOf a.point off (off + (b.reachEnd i a - a.off)) a.bit (!b.indexed i)
        let x := if a.load then x.load e else x
        let made := (x.store e).pass (clkOf op)
        let not := x.pass (clkOf op)
        if a.store then (if a.always then [(i + 1, made)] else [(i + 1, made), (i + 1, not)]) else [(i + 1, not)]

/-! ### Bodies -/

/-- A stretch of an engine's work that a SYNC ends, or the rest: its clocks with the drain, the SYNC, what it can touch. -/
structure Stretch where
  clk : Nat
  barrier : Nat
  task : Nat
  idx : Nat
  accs : List CellAcc
deriving DecidableEq, Repr

/-- A walk: paths by the index they reach, paths that have ended the body, stretches so far, accesses of the present one. -/
structure Walk where
  edges : List (Nat × Path) := []
  ends : List Path := []
  stretches : List Stretch := []
  accs : List CellAcc := []
deriving DecidableEq, Repr

/-- Paths at an index. -/
def Walk.here (f : Walk) (i : Nat) : List Path := joinPaths ((f.edges.filter (fun e => e.1 == i)).map (·.2))

/-- Accesses added, each once. -/
def Walk.touch (f : Walk) (l : List CellAcc) : Walk := { f with accs := l.foldl (fun r a => if r.contains a then r else a :: r) f.accs }

/-- Paths leave an index. -/
def Walk.go (f : Walk) (i : Nat) (new : List (Nat × Path)) : Walk := { f with edges := f.edges.filter (fun e => e.1 != i) ++ new }

/-- The LOOP of a loop (R114): back to its body in 3 clocks, or on in 2. -/
def Walk.loopEnd (f : Walk) (b : Body) (l : Nat × Nat) (last : Bool) : Walk :=
  let w := entryOf false (b.base + 2 * b.lo l.2) (b.base + 2 * b.lo l.2 + 2) none true
  let next := fun (x : Path) => let y := (x.load w).store w; if last then (l.2 + 1, y.pass 2) else (l.1 + 1, y.pass 3)
  f.go l.2 ((f.here l.2).map next)

/-- SYNC (R81): every path waits with an empty buffer; the stretch ends. -/
def Walk.sync (f : Walk) (b : Body) (i : Nat) : Walk :=
  match f.here i with
  | [] => f
  | x :: r =>
    let w := longest (x :: r)
    { f.go i [(i + 1, { oldest := w.oldest, moves := w.moves })] with
      stretches := f.stretches ++ [⟨w.clk + w.drain, b.arg i % 64, b.task, i, f.accs⟩]
      accs := [] }

/-- The walk of a body from an index to another, its loops as often as their counts (R115); `skip` enters a loop's body at its first index. -/
def Mach.walk (m : Mach) (k : Pkg) : Nat → Body → Bool → Nat → Nat → Walk → Walk
  | 0, _, _, _, _, f => f
  | n + 1, b, skip, i, hi, f =>
    if hi ≤ i then f
    else
      match (if skip then none else b.loops.find? (fun l => l.1 + 1 == i && decide (l.2 < hi))) with
      | some l =>
        let f := f.touch (m.accsAt k b l.2)
        let f := (List.range (b.hi l.1)).foldl (fun (f : Walk) j => (m.walk k n b true i l.2 f).loopEnd b l (j + 1 == b.hi l.1)) f
        m.walk k n b false (l.2 + 1) hi f
      | none =>
        let xs := f.here i
        let f := if xs.isEmpty then f else f.touch (m.accsAt k b i)
        let callee := if b.op i = 8 then (b.desc i).bind (fun d => if composed d.block ∧ ¬ b.chain.contains d.block then b.callee k d else none) else none
        let f := match callee with
          | some c =>
            let g := m.walk k n c false 0 c.code.length { f with
              edges := xs.map (fun x => (0, (x.pass 8).push b.chain.length))
              ends := [] }
            { f.go i (g.ends.map (fun x => (i + 1, x.ret b.chain.length))) with
              stretches := g.stretches
              accs := g.accs }
          | none =>
            if b.op i = 9 then f.sync b i
            else if b.op i = 1 then { f.go i [] with ends := f.ends ++ (if b.block = 0 then xs.map (fun x => x.pass 1) else xs) }
            else f.go i (xs.flatMap (m.stepPath k b i))
        m.walk k n b false (i + 1) hi f

/-- Steps a walk of a package's code can need: every index of every body on a way down of at most 144 frames. -/
def walkFuel (k : Pkg) : Nat := 145 * (((k.tasks.map (fun t => t.code.length)) ++ (k.blocks.map (fun c => c.code.length))).foldl max 0 + 1)

/-- The walk of a task from paths before it: its start costs 12 clocks (R90). -/
def Mach.taskWalk (m : Mach) (k : Pkg) (t : TaskCode) (f : Walk) : Walk :=
  let b := m.rootBody k t
  let g := m.walk k (walkFuel k) b false 0 b.code.length { f with
    edges := f.ends.map (fun x => (0, { x.pass 12 with oldest := 0 }))
    ends := [] }
  { g with ends := joinPaths g.ends }

/-- The walk of an engine's list: start of Solve 20 clocks, its tasks in order. -/
def Mach.listWalk (m : Mach) (k : Pkg) (ts : List Nat) : Walk :=
  (ts.filterMap (codeOf k)).foldl (fun f t => m.taskWalk k t f) { ends := [{ clk := 20 }] }

/-- The clocks of a walk's last stretch to an empty buffer. -/
def Walk.tail (f : Walk) : Nat := (longest f.ends).clk + (longest f.ends).drain

/-- WCET_CLK of a task (R87): from its start to its last END, each SYNC its drain and 6 clocks; and the spills and fills of that path. -/
def Mach.taskWorst (m : Mach) (k : Pkg) (t : TaskCode) : Nat × Nat :=
  let f := m.taskWalk k t { ends := [{}] }
  let e := f.ends.foldl (fun (b : Path) x => if b.clk < x.clk ∨ (b.clk = x.clk ∧ b.moves < x.moves) then x else b) {}
  ((f.stretches.map (fun s => s.clk + 6)).sum + e.clk, e.moves)

/-- MAX_DEPTH of a task (R85): its frames on the deepest way of calls. -/
def Mach.taskDepth (m : Mach) (k : Pkg) (t : TaskCode) : Nat :=
  ((m.instBodies k t).map (fun b => b.chain.length + (if b.callIdx.isEmpty then 1 else 2))).foldl max 1

end Sys2Proof.Machine
end

