-- ==== Sys2Proof/Machine/Sheet.lean ====
section
/-! DEFINITION. The Call sheet: what the loader computes of a partition's tasks, their barriers, the worst-case solve time, conflicts, and
the fence plans (R79 to R95). -/
namespace Sys2Proof.Machine

/-- Partitions with engines. -/
def Mach.usedParts (m : Mach) : List Nat := (List.range 8).filter m.used

/-! ### Engines' lists (R87, R90) -/

/-- An engine's list as walked: what comes before each SYNC, whether that SYNC is a repeated one, what comes after the last. -/
structure Timing where
  stretches : List (Stretch × Bool)
  tail : Nat
  accs : List CellAcc
deriving DecidableEq, Repr

/-- Mark each SYNC after the first of its barrier as repeated. -/
def markAgain : List Nat → List Stretch → List (Stretch × Bool)
  | _, [] => []
  | seen, x :: r => (x, seen.contains x.barrier) :: markAgain (x.barrier :: seen) r

/-- An engine's list walked (R90): with the final drain and 8 clocks. -/
def Mach.timingOf (m : Mach) (k : Pkg) (ts : List Nat) : Timing :=
  let f := m.listWalk k ts
  ⟨markAgain [] f.stretches, f.tail + 8, f.accs⟩

/-- Walk an engine's stretches with the barriers released so far: its clock, and what is left where it waits (R81, R90). -/
def walkMarks (rel : List (Nat × Nat)) : List (Stretch × Bool) → Nat → Nat × List (Stretch × Bool)
  | [], clk => (clk, [])
  | x :: r, clk =>
    match rel.find? (·.1 == x.1.barrier) with
    | some y => walkMarks rel r (if x.2 then max (clk + x.1.clk) y.2 + 6 else max (clk + x.1.clk) y.2)
    | none => (clk, x :: r)

/-- Participants of a barrier among engines' lists. -/
def takesPart (b : Nat) (x : Timing) : Bool := x.stretches.any (fun s => s.1.barrier == b)

/-- Release the barriers whose participants all wait at them, 6 clocks after the last arrival, until none is left to release (R81, R90). -/
def releases (es : List Timing) : Nat → List (Nat × Nat) → List (Nat × Nat)
  | 0, rel => rel
  | n + 1, rel =>
    let st := es.map (fun e => (e, walkMarks rel e.stretches 0))
    let part := fun (b : Nat) => st.filter (fun e => takesPart b e.1)
    let at_ := fun (b : Nat) (x : Nat × List (Stretch × Bool)) => match x.2 with
      | s :: _ => if s.1.barrier = b then some (x.1 + s.1.clk) else none
      | [] => none
    let due := (List.range 64).find? (fun b => !rel.any (·.1 == b) && !(part b).isEmpty && (part b).all (fun e => (at_ b e.2).isSome))
    match due with
    | none => rel
    | some b => releases es n (rel ++ [(b, ((part b).filterMap (fun e => at_ b e.2)).foldl max 0 + 6)])

/-- The timeline of a placement: S, the finish of each engine, the releases, the participants of each barrier. -/
structure Timeline where
  sClk : Nat
  ceClk : List (Nat × Nat)
  rel : List (Nat × Nat)
  parts : List (Nat × Nat)
deriving DecidableEq, Repr

/-- Engines' lists, walked. -/
abbrev Timings := List (Nat × Timing)

/-- The lists of a placement, walked. -/
def Mach.timingsOf (m : Mach) (k : Pkg) (lists : List (Nat × List Nat)) : Timings := lists.map (fun l => (l.1, m.timingOf k l.2))

/-- The SYNCs at which engines wait for each other for ever: barriers reached in opposite orders (SYNC_ORDER, R82). -/
def stuckAt (es : Timings) : List Stretch :=
  let rel := releases (es.map (·.2)) 65 []
  es.filterMap (fun e => ((walkMarks rel e.2.stretches 0).2.head?).map (·.1))

/-- The timeline of walked lists (R90): S is the largest finish. -/
def timelineOf (es : Timings) : Timeline :=
  let rel := releases (es.map (·.2)) 65 []
  let ce := es.map (fun e => (e.1, (walkMarks rel e.2.stretches 0).1 + e.2.tail))
  let mask := fun (b : Nat) => (es.filter (fun e => takesPart b e.2)).foldl (fun n e => n + 2 ^ e.1) 0
  ⟨(ce.map (·.2)).foldl max 0, ce, rel, (((List.range 64).map (fun b => (b, mask b))).filter (fun x => x.2 != 0))⟩

/-! ### Conflicts (R79, R80) -/

/-- The accesses of an engine's list with the barriers passed before each. -/
def Timing.reach (x : Timing) : List (List Nat × List CellAcc) :=
  let go := x.stretches.foldl (fun (y : List Nat × List (List Nat × List CellAcc)) s => (s.1.barrier :: y.1, y.2 ++ [(y.1, s.1.accs)])) ([], [])
  go.2 ++ [(go.1, x.accs)]

/-- A barrier both engines take part in orders accesses: one comes before it and the other after. DEDUCED, log 36. -/
def ordered (both : List Nat) (a b : List Nat) : Bool := both.any (fun x => a.contains x != b.contains x)

/-- Accesses of two engines' lists that conflict (DATA_RACE, R80): one cell, one of them a write, no barrier between. DEDUCED, log 36. -/
def racePair (x y : Timing) : List CellAcc :=
  let both := (x.stretches.map (·.1.barrier)).filter (fun b => takesPart b y)
  x.reach.flatMap (fun a => y.reach.flatMap (fun b =>
    if ordered both a.1 b.1 then []
    else a.2.flatMap (fun p => b.2.flatMap (fun q => if !p.locals && (p.write || q.write) && p.meets q then [p, q] else []))))

/-- Conflicting accesses of some two engines. -/
def racesIn : Timings → List CellAcc
  | [] => []
  | e :: r => r.flatMap (fun x => racePair e.2 x.2) ++ racesIn r

/-- A placement holds: no conflict, no barriers in opposite orders. -/
def placementOk (es : Timings) : Bool := (racesIn es).isEmpty && (stuckAt es).isEmpty

/-- S of a placement, clocks. -/
def Mach.sOf (m : Mach) (k : Pkg) (lists : List (Nat × List Nat)) : Nat := (timelineOf (m.timingsOf k lists)).sClk

/-! ### The base placement (R68, R87, R88) -/

/-- Tasks of a partition. -/
def Mach.tasksOf (m : Mach) (k : Pkg) (p : Nat) : List Nat := (k.tasks.map (·.task)).filter (fun t => m.obj F.taskPARTITION t == p)

/-- Insert a task by ORDER. -/
def insOrder (m : Mach) (t : Nat) : List Nat → List Nat
  | [] => [t]
  | x :: r => if m.obj F.taskORDER t < m.obj F.taskORDER x then t :: x :: r else x :: insOrder m t r

/-- Tasks of an engine in ascending ORDER. -/
def Mach.listOf (m : Mach) (k : Pkg) (p c : Nat) : List Nat :=
  ((m.tasksOf k p).filter (fun t => m.obj F.taskHOME_CE t == c)).foldl (fun l t => insOrder m t l) []

/-- The base placement of a partition. -/
def Mach.baseLists (m : Mach) (k : Pkg) (p : Nat) : List (Nat × List Nat) :=
  (bitsOf 8 (m.obj F.partCE_SET p)).map (fun c => (c, m.listOf k p c))

/-! ### Fence plans (R93) -/

/-- Insert at a position. -/
def insAt (l : List Nat) (i t : Nat) : List Nat := l.take i ++ t :: l.drop i

/-- Copies a placement asks for: engine, task. -/
def Mach.copiesIn (m : Mach) (lists : List (Nat × List Nat)) : List (Nat × Nat) :=
  lists.flatMap (fun l => (l.2.filter (fun t => m.obj F.taskHOME_CE t != l.1)).map (fun t => (l.1, t)))

/-- Which copies the plans may use: given copies, engine, task. A load's: whatever fits the bank beside them (R68). -/
def Mach.mayCopy (m : Mach) (k : Pkg) (copies : List (Nat × Nat)) (c t : Nat) : Bool := decide (m.bankUse k (copies ++ [(c, t)]) c ≤ bankSize)

/-- Those that stand in the banks. -/
def Mach.hasCopy (m : Mach) (_ : List (Nat × Nat)) (c t : Nat) : Bool := m.sheet.entries.any (fun e => e.1 == c && e.2.1 == t)

/-- Every placement of a task on the engines of a placement whose banks may hold its code, by engine, then position. DEDUCED, log 36. -/
def Mach.optionsOf (m : Mach) (may : List (Nat × Nat) → Nat → Nat → Bool) (copies : List (Nat × Nat)) (t : Nat) (lists : List (Nat × List Nat)) :
    List (List (Nat × List Nat)) :=
  (lists.filter (fun l => may (copies ++ m.copiesIn lists) l.1 t)).flatMap (fun l => (List.range (l.2.length + 1)).map (fun i =>
    lists.map (fun x => if x.1 = l.1 then (x.1, insAt x.2 i t) else x)))

/-- The placement of least S among those that hold; the first of equals. -/
def Mach.bestOf (m : Mach) (k : Pkg) (os : List (List (Nat × List Nat))) : Option (List (Nat × List Nat)) :=
  (os.foldl (fun (b : Option (Nat × List (Nat × List Nat))) o =>
    let es := m.timingsOf k o
    if !placementOk es then b
    else
      let n := (timelineOf es).sClk
      match b with
      | some x => if x.1 ≤ n then b else some (n, o)
      | none => some (n, o)) none).map (·.2)

/-- Stage 1: move tasks one at a time; a task without a placement is shed, or faults the plan. -/
def Mach.moveAll (m : Mach) (k : Pkg) (may : List (Nat × Nat) → Nat → Nat → Bool) (copies : List (Nat × Nat)) : List Nat → List (Nat × List Nat) → List Nat →
    List (Nat × List Nat) × List Nat × Bool
  | [], ls, shed => (ls, shed, false)
  | t :: r, ls, shed =>
    match m.bestOf k (m.optionsOf may copies t ls) with
    | some o => m.moveAll k may copies r o shed
    | none => if m.isSet F.taskSHEDDABLE t then m.moveAll k may copies r ls (shed ++ [t]) else (ls, shed, true)

/-- The next task to shed: lowest rank, of equal ranks the higher number. DEDUCED, log 36. -/
def Mach.nextShed (m : Mach) (ts : List Nat) : Option Nat :=
  ts.foldl (fun b t => match b with
    | none => some t
    | some x =>
      let a := m.obj F.taskSHED_RANK t
      let c := m.obj F.taskSHED_RANK x
      if a < c ∨ (a = c ∧ x < t) then some t else b) none

/-- Stages 2 and 3: shed until the budget holds; a plan with nothing left to shed faults. -/
def Mach.shedAll (m : Mach) (k : Pkg) (holds : Nat → Bool) : Nat → List (Nat × List Nat) → List Nat → List (Nat × List Nat) × List Nat × Bool
  | 0, ls, shed => (ls, shed, true)
  | n + 1, ls, shed =>
    if holds (m.sOf k ls) then (ls, shed, false)
    else
      match m.nextShed ((ls.flatMap (·.2)).filter (fun t => m.isSet F.taskSHEDDABLE t)) with
      | none => (ls, shed, true)
      | some t => m.shedAll k holds n (ls.map (fun l => (l.1, l.2.filter (· != t)))) (shed ++ [t])

/-- The plan of a set of fenced engines; the budget holds for a solve time as the caller says. DEDUCED, log 36. -/
def Mach.planFor (m : Mach) (k : Pkg) (p : Nat) (holds : Nat → Bool) (may : List (Nat × Nat) → Nat → Nat → Bool) (copies : List (Nat × Nat))
    (fenced : List Nat) : FencePlan :=
  let base := m.baseLists k p
  let mask := fenced.foldl (fun n c => n + 2 ^ c) 0
  let left := base.filter (fun l => !fenced.contains l.1)
  let moved := m.moveAll k may copies (fenced.flatMap (m.listOf k p)) left []
  let fin := if moved.2.2 then moved else m.shedAll k holds 257 moved.1 moved.2.1
  if fin.2.2 then ⟨mask, true, [], fin.2.1, 0, [], [], []⟩
  else
    let tl := timelineOf (m.timingsOf k fin.1)
    ⟨mask, false, fin.1, fin.2.1, tl.sClk, tl.ceClk, tl.rel, tl.parts⟩

/-- The base placement as a plan: no engine fenced. -/
def Mach.basePlan (m : Mach) (k : Pkg) (p : Nat) : FencePlan :=
  let tl := timelineOf (m.timingsOf k (m.baseLists k p))
  ⟨0, false, m.baseLists k p, [], tl.sClk, tl.ceClk, tl.rel, tl.parts⟩

/-- Pairs of a list, the lower first. -/
def pairsOf : List Nat → List (List Nat)
  | [] => []
  | a :: r => r.map (fun b => [a, b]) ++ pairsOf r

/-- Every plan of a partition, its code beside what the plans before place: base, single fences, pairs with FENCE_DEPTH 2. DEDUCED, log 36. -/
def Mach.plansFor (m : Mach) (k : Pkg) (p : Nat) (holds : Nat → Bool) (may : List (Nat × Nat) → Nat → Nat → Bool) : List FencePlan :=
  let ces := bitsOf 8 (m.obj F.partCE_SET p)
  let sets := ces.map (fun c => [c]) ++ (if m.obj F.sheetFENCE_DEPTH p = 2 then pairsOf ces else [])
  sets.foldl (fun l s => l ++ [m.planFor k p holds may (m.copiesOf l) s]) [m.basePlan k p]

/-! ### The sheet's checks -/

/-- A refusal: its status and reply items. -/
abbrev Bad := Nat × List Item

/-- Reply items of R122: task, BLOCK_ID, index. -/
def refItems (task block i : Nat) : List Item := [itm 1 1 task, itm 2 4 block, itm 3 4 i]

/-- A placement failure at the lowest task and, in it, the lowest index (R122): task, BLOCK_ID, index. -/
def lowestAt (st : Nat) (l : List (Nat × Nat × Nat)) : Option Bad :=
  (l.foldl (fun (b : Option (Nat × Nat × Nat)) x => match b with
    | some y => if x.1 < y.1 ∨ (x.1 = y.1 ∧ x.2.2 < y.2.2) then some x else b
    | none => some x) none).map (fun x => (st, refItems x.1 x.2.1 x.2.2))

/-- Equal ORDER of two tasks on one engine. -/
def Mach.sameOrder (m : Mach) (ts : List Nat) (t : Nat) : Bool :=
  ts.any (fun x => x != t && m.obj F.taskHOME_CE x == m.obj F.taskHOME_CE t && m.obj F.taskORDER x == m.obj F.taskORDER t)

/-- UNPLACED (R88): a task of no partition, on no engine of its own, or in another's place. -/
def Mach.unplaced (m : Mach) (k : Pkg) : List Nat :=
  (k.tasks.map (·.task)).filter (fun t =>
    let p := m.obj F.taskPARTITION t
    decide (7 < p) || !bit (m.obj F.partCE_SET p) (m.obj F.taskHOME_CE t) || m.sameOrder (m.tasksOf k p) t)

/-- The placement checks (R122), each over every partition: UNPLACED, BANK_FULL, DATA_RACE, SYNC_ORDER. -/
def Mach.sheetBad (m : Mach) (k : Pkg) : Option Bad :=
  let root := fun (t : Nat) => (t, 0, 0)
  let es := m.usedParts.map (fun p => m.timingsOf k (m.baseLists k p))
  (lowestAt 0x1306 ((m.unplaced k).map root)).orElse (fun _ =>
    (lowestAt 0x1304 (((List.range 8).filter (fun c => decide (bankSize < m.bankUse k [] c))).flatMap (fun c => (m.bankTasks k [] c).map root))).orElse
      (fun _ => (lowestAt 0x1303 ((es.flatMap racesIn).map (fun a => (a.task, a.block, a.idx)))).orElse (fun _ =>
        lowestAt 0x1305 ((es.flatMap stuckAt).map (fun s => (s.task, 0, s.idx))))))

/-- The engine that sets S: the lowest of those that finish last. -/
def critCe (x : FencePlan) : Nat := ((x.ceClk.find? (fun e => e.2 == x.sClk)).map (·.1)).getD 0xFF

/-- A plan comes into force (R94): task places and states, S and the engines' finish clocks of the plan. -/
def Mach.applyPlan (m : Mach) (p : Nat) (pl : FencePlan) : Mach :=
  let home := fun (m : Mach) (t c : Nat) => (m.setObj F.taskCURRENT_CE t c).setObj F.taskSTATE t (if m.obj F.taskHOME_CE t = c then 0 else 1)
  let m := m.each pl.lists (fun m l => m.each l.2 (fun m t => home m t l.1))
  let m := m.each pl.shed (fun m t => m.setObj F.taskSTATE t 2)
  let m := m.each pl.ceClk (fun m e => m.setObj F.ceWCET_CLK e.1 e.2)
  (m.setObj F.sheetS_CLK_NOW p pl.sClk).updPart p (fun x => { x with plan := some pl })

/-- The sheet's and the tasks' read-only fields (R87, R89, R96): of the plan in force while engines are fenced. -/
def Mach.sheetFields (m : Mach) (k : Pkg) (p : Nat) (plans : List FencePlan) : Mach :=
  let base := (plans.head?).getD ⟨0, true, [], [], 0, [], [], []⟩
  let one := plans.filter (fun x => (bitsOf 8 x.fenced).length == 1)
  let maskOf := fun (f : FencePlan → Bool) => (one.filter f).foldl (fun n x => n + x.fenced) 0
  let ts := m.tasksOf k p
  let now := ((m.part p).plan.bind (fun x => plans.find? (fun y => y.fenced == x.fenced && !y.faults))).getD base
  let m := m.each [(F.sheetCE_SET, m.obj F.partCE_SET p), (F.sheetTASKS, ts.length), (F.sheetBARRIERS, base.parts.length), (F.sheetS_CLK, base.sClk),
      (F.sheetCRIT_CE, critCe base), (F.sheetPLAN_MOVE, maskOf (fun x => !x.faults && x.shed == [])),
      (F.sheetPLAN_SHED, maskOf (fun x => !x.faults && x.shed != [])), (F.sheetPLAN_FAULT, maskOf (·.faults))]
    (fun m e => m.setObj e.1 p e.2)
  let m := m.each (k.tasks.filter (fun c => m.obj F.taskPARTITION c.task == p)) (fun m c =>
    let w := m.taskWorst k c
    let home := m.obj F.taskHOME_CE c.task
    m.each [(F.taskENTRY, ((m.sheet.entries.find? (fun e => e.1 == home && e.2.1 == c.task)).map (·.2.2)).getD 0), (F.taskLENGTH, c.code.length),
      (F.taskWCET_CLK, w.1), (F.taskMAX_DEPTH, m.taskDepth k c), (F.taskWORST_SPILLS, w.2)]
      (fun m e => m.setObj e.1 c.task e.2))
  m.applyPlan p now

/-- Sheets of the partitions with engines. -/
def Mach.sheetsOf (m : Mach) (k : Pkg) : Mach :=
  m.each m.usedParts (fun m p => m.sheetFields k p ((m.plans.filter (fun x => x.1 == p)).map (·.2)))

end Sys2Proof.Machine
end

