-- ==== Sys2Proof/Machine/Budget.lean ====
section
/-! DEFINITION. What the loader computes of a configuration: owners of nodes, the phase budget (R42 to R46), the trunk and segment schedules
(R230, R231, R264, R265, R279), the takeover bound (R488), the larder, the take rate, the wrap's energy (R572). Every function reads a
machine in which the configuration stands; the loader makes that machine, and gives it up where a check fails. -/
namespace Sys2Proof.Machine

/-! ### Owners of places, nodes and engines (R172, R254, R281) -/

/-- Windows of a place: first slot, number of slots, KIND. -/
def Mach.placeWins (m : Mach) (n : Nat) : List (Nat × Nat × Nat) :=
  [(m.obj F.placeIN_BASE n, m.obj F.placeIN_SLOTS n, 0), (m.obj F.placeOUT_BASE n, m.obj F.placeOUT_SLOTS n, 1),
   (m.obj F.placeSTATUS_POINT n, if m.obj F.placeSTATUS_POINT n < 2 ^ 20 then 1 else 0, 0)]

/-- Windows of a segment node. -/
def Mach.nodeWins (m : Mach) (n : Nat) : List (Nat × Nat × Nat) :=
  [(m.obj F.nodeIN_BASE n, m.obj F.nodeIN_SLOTS n, 0), (m.obj F.nodeOUT_BASE n, m.obj F.nodeOUT_SLOTS n, 1),
   (m.obj F.nodeSTATUS_POINT n, if m.obj F.nodeSTATUS_POINT n < 2 ^ 20 then 1 else 0, 0)]

/-- The windows that hold slots. -/
def liveWins (ws : List (Nat × Nat × Nat)) : List (Nat × Nat × Nat) := ws.filter (fun w => w.2.1 != 0)

/-- The owner of windows: the partition that owns their first slot; 0xFF none. -/
def Mach.winsOwner (m : Mach) (r : Ram) (ws : List (Nat × Nat × Nat)) : Nat :=
  match liveWins ws with
  | [] => 0xFF
  | w :: _ => (m.ownerOfPt r w.1).getD 0xFF

/-- STATE of a place or node after its configuration: kept where it stays configured. -/
def stateAfter (owner old fresh : Nat) : Nat := if 8 ≤ owner then 0 else if old = 0 then fresh else old

/-- Slots of the ownership table in force that name a partition. -/
def Mach.ownList (m : Mach) (r : Ram) : List (Nat × Nat) :=
  match m.cfg with
  | some k => (k.own.map (·.1)).map (fun pt => (pt, m.ownEnt r pt))
  | none => ((List.range 0xE00).map (fun pt => (pt, standingEntry pt))).filter (fun e => entValid e.2)

/-- Slots a partition owns, its stop request point among them, and slots it reads of others (R168). -/
def Mach.ownedBy (m : Mach) (r : Ram) (p : Nat) : Nat := ((m.ownList r).filter (fun e => e.1 != 0x00EF0 + p && owns e.2 p)).length + 1
def Mach.readsOf (m : Mach) (r : Ram) (p : Nat) : Nat :=
  ((m.ownList r).filter (fun e => entValid e.2 && entOwned e.2 && entOwner e.2 != p && bit e.2 (8 + p))).length

/-- Read-only fields that follow from the ownership table and the partition objects; a place that is deleted restarts its epoch (R247). -/
def Mach.derive (m : Mach) (r : Ram) : Mach :=
  let m := m.each (List.range 1024) (fun m n =>
    let o := m.winsOwner r (m.placeWins n)
    let st := stateAfter o (m.obj F.placeSTATE n) (if m.obj F.placeSERIAL n = 0 then 1 else 2)
    let gone := st == 0 && m.obj F.placeSTATE n != 0
    ((m.setObj F.placePARTITION n o).setObj F.placeSTATE n st).when gone (fun m => (m.setObj F.placeASSIGN_EPOCH n 0).setObj F.placeSERIAL n 0))
  let m := m.each (List.range 512) (fun m n =>
    if n % 64 = 0 then m else
    let o := m.winsOwner r (m.nodeWins n)
    (m.setObj F.nodePARTITION n o).setObj F.nodeSTATE n (stateAfter o (m.obj F.nodeSTATE n) (if m.obj F.nodeSERIAL n = 0 then 1 else 2)))
  let m := m.each (List.range 8) (fun m c =>
    let o := ((List.range 8).find? (fun p => bit (m.obj F.partCE_SET p) c)).getD 0xFF
    let m := m.setObj F.cePARTITION c o
    if m.obj F.ceSTATE c ≤ 1 then m.setObj F.ceSTATE c (if o < 8 then 1 else 0) else m)
  let m := m.each (List.range 64) (fun m q => m.setObj F.cqOWNER q (m.queueOwner q))
  m.each (List.range 8) (fun m p =>
    ((m.setObj F.partPOINTS_OWNED p (m.ownedBy r p)).setObj F.partXP_READ p (m.readsOf r p)).setObj F.sheetCE_SET p (m.obj F.partCE_SET p))

/-! ### Frames (R43, R236, R249, R258) -/

/-- Places of a partition on a trunk. -/
def Mach.trunkPlaces (m : Mach) (t p : Nat) : List Nat :=
  ((List.range 256).map (fun i => t * 256 + i)).filter (fun n => m.obj F.placePARTITION n == p)

/-- n_t: nodes on a trunk; in PAIR RING the stand-in counts as one (R226). -/
def Mach.trunkNodes (m : Mach) (t : Nat) : Nat :=
  (((List.range 256).map (fun i => t * 256 + i)).filter (fun n => decide (m.obj F.placePARTITION n < 8))).length +
  (if m.obj F.trunkTOPOLOGY t = 2 then 1 else 0)

/-- GFP-S connections of a partition's places on a trunk, by the safety set in force and the staged one (R249). -/
def Mach.gfpsOn (m : Mach) (t p : Nat) : Nat :=
  let on := fun (s : Table Nat) (c : Nat) => linkOn s c && setB s (linkAt c + 2) == t && m.obj F.placePARTITION (t * 256 + setB s (linkAt c + 3)) == p
  ((List.range 256).filter (fun c => on m.isl.set c || m.isl.staged.any (fun s => on s c))).length

/-- Output groups of a partition on a trunk: first place, members. -/
def Mach.trunkGroups (m : Mach) (t p : Nat) : List (Nat × List Nat) :=
  let ns := m.trunkPlaces t p
  (((ns.map (fun n => m.obj F.placeGROUP_FIRST n)).eraseDups)).map (fun g => (g, ns.filter (fun n => m.obj F.placeGROUP_FIRST n == g)))

/-- Payload of a group's output frame, bytes (R236). -/
def Mach.groupBytes (m : Mach) (ns : List Nat) : Nat :=
  (ns.map (fun n => 2 * m.obj F.placeOUT_SLOTS n)).sum + (if ns.length = 1 then 0 else 8 * ns.length)

/-- Wire bytes of a partition's input frames on a trunk; of its output frames. -/
def Mach.trunkInBytes (m : Mach) (t p : Nat) : Nat :=
  ((m.trunkPlaces t p).map (fun n => 2 * m.obj F.placeIN_SLOTS n + 62)).sum + 78 * m.gfpsOn t p
def Mach.trunkOutBytes (m : Mach) (t p : Nat) : Nat :=
  ((m.trunkGroups t p).map (fun g => m.groupBytes g.2 + 62)).sum + 78 * m.gfpsOn t p

/-- G_trunk and U_trunk of a partition, ps. DEDUCED, log 34. -/
def Mach.gTrunk (m : Mach) (t p : Nat) : Nat := 10 ^ 7 + 500000 * m.trunkNodes t + 3200 * m.trunkInBytes t p
def Mach.uTrunk (m : Mach) (t p : Nat) : Nat := 500000 * m.trunkNodes t + 3200 * m.trunkOutBytes t p + 5 * 10 ^ 6

/-- Output groups of a partition on a segment: number, members. -/
def Mach.segGroups (m : Mach) (s p : Nat) : List (Nat × List Nat) :=
  ((List.range 24).map (fun g => (g, (m.nodesOfPart s p).filter (fun n => m.obj F.nodeGROUP n == g && m.obj F.nodeOUT_SLOTS n != 0)))).filter
    (fun g => g.2 != [])

/-- Bus time of a segment group's output frame, ps. -/
def Mach.groupTf (m : Mach) (s : Nat) (ns : List Nat) : Nat :=
  m.tf s (ns.any (fun n => m.obj F.nodeFORMAT n == 0)) (2 + 2 * (ns.map (fun n => m.obj F.nodeOUT_SLOTS n)).sum)

/-- U_seg(s) of a partition, ps: its group frames and the other partitions' that can precede them, those of lower group (R263). DEDUCED, log 34. -/
def Mach.uSeg (m : Mach) (s p : Nat) : Nat :=
  let own := m.segGroups s p
  let last := (own.map (·.1)).foldl max 0
  let others := ((List.range 8).filter (· != p)).flatMap (fun q => (m.segGroups s q).filter (fun g => decide (g.1 < last)))
  ((own ++ others).map (fun g => m.groupTf s g.2)).sum + 5 * 10 ^ 6

/-- Points a partition publishes. -/
def pubSlots (k : Option Pkg) (p : Nat) : List Nat := (((k.map (·.pubs)).getD []).filter (fun l => l.1 == p)).flatMap (·.2)

/-- Wire bytes of n publication entries: frames of 640, 2 bytes of value and 2 bits of quality an entry. -/
def pubBytes (n : Nat) : Nat := n / 640 * (1280 + 160 + 106) + (if n % 640 = 0 then 0 else 2 * (n % 640) + cdiv (n % 640) 4 + 106)

/-- n_sub: subscribed plant points and slots read from other partitions (R175). -/
def Mach.nSub (m : Mach) (p : Nat) : Nat :=
  ((((m.cfg.map (·.subs)).getD []).filter (fun l => l.reader == p)).map (fun l => l.places.length)).sum + m.obj F.partXP_READ p

/-! ### Takes (R43, R474, R475) -/

/-- Numbers without repeats, rising. -/
def rising (l : List Nat) : List Nat :=
  l.eraseDups.foldr (fun n l => (l.takeWhile (fun k => decide (k < n))) ++ n :: l.dropWhile (fun k => decide (k < n))) []

/-- Lines of the working output image that hold a slot the partition stores to, ascending. DESIGN CHOICE, log 31. -/
def Mach.outLines (m : Mach) (r : Ram) (p : Nat) : List Nat :=
  rising (((m.ownList r).filter (fun e => mayWrite e.2 p)).map (fun e => e.1 / 32))

/-- Local inputs and system points of a partition, in ascending slots. -/
def Mach.localInputs (m : Mach) (r : Ram) (p : Nat) : List Nat :=
  ((List.range 0x1000).filter (fun pt => let e := m.ownEnt r pt; (owns e p && entKind e == 0) || (entValid e && entKind e == 4)))

/-- Effects whose target the partition owns. -/
def Mach.effectsOn (m : Mach) (r : Ram) (p : Nat) : List Nat :=
  (m.matrix.effects.filter (fun x => m.effOwner r x.2 == some p)).map (·.1)

/-- Runs of consecutive lines of one region, of at most 140 lines: region, first line, lines. -/
def runsOf : List (Nat × Nat) → List (Nat × Nat × Nat)
  | [] => []
  | (g, l) :: t =>
    match runsOf t with
    | (g', f, n) :: u => if g = g' ∧ f = l + 1 ∧ n < 140 then (g, l, n + 1) :: u else (g, l, 1) :: (g', f, n) :: u
    | [] => [(g, l, 1)]

/-- Lines of the engine block in use: 64 bytes, the states of alarms, the latches of effects, local inputs and system points (R474; log 31). -/
def Mach.engineLines (m : Mach) (r : Ram) (p : Nat) : Nat :=
  cdiv (64 + (m.alarmsOf p).length + (m.effectsOn r p).length + 2 * (m.localInputs r p).length) 64

/-- Lines of the instance region that a partition's code can write. -/
def Mach.dirtyable (m : Mach) (k : Pkg) (p : Nat) : List Nat :=
  rising ((m.tasksOf k p).flatMap (fun t => ((codeOf k t).map (m.instBodies k)).getD [])
    |>.flatMap (fun b => b.idxs.flatMap (m.accsAt k b))
    |>.flatMap (fun a => if a.write && !a.point && !a.locals then (List.range ((a.hi - 1) / 64 + 1 - a.lo / 64)).map (a.lo / 64 + ·) else []))

/-- b_T of a partition (R43, R475): 64 bytes a line that a cycle can write and 8 a run of lines. DEDUCED, log 31. -/
def Mach.takeBytesOf (m : Mach) (r : Ram) (p : Nat) : Nat :=
  if !m.isSet F.partREDUNDANT p then 0
  else
    let inst := ((m.cfg.map (fun k => m.dirtyable k p)).getD []).map (fun l => (0, l))
    let lines := inst ++ (m.outLines r p).map (fun l => (1, l)) ++ (List.range (m.engineLines r p)).map (fun l => (2, l))
    64 * lines.length + 8 * (runsOf lines).length

/-! ### Windows that repeat (R231, R265) -/

/-- Some multiple of a step lies strictly between two bounds. -/
def multipleIn (step : Nat) (lo hi : Int) : Bool :=
  let s : Int := max 1 (step : Int)
  decide ((lo / s + 1) * s < hi)

/-- Windows [a1, a2) every pa and [b1, b2) every pb overlap at some instant. -/
def windowsMeet (a1 a2 pa b1 b2 pb : Nat) : Bool :=
  decide (a1 < a2) && decide (b1 < b2) && multipleIn (Nat.gcd pa pb) ((b1 : Int) - a2) ((b2 : Int) - a1)

/-! ### The six terms (R43, R44) -/

/-- The terms of a partition, ns. -/
structure Terms where
  g : Nat
  s : Nat
  e : Nat
  t : Nat
  u : Nat
  margin : Nat
deriving DecidableEq, Repr

/-- Their sum. -/
def Terms.sum (x : Terms) : Nat := x.g + x.s + x.e + x.t + x.u + x.margin

/-- Least margin: 10 µs or 2 % of P (R44). -/
def Mach.marginMin (m : Mach) (p : Nat) : Nat := max 10000 (m.period p / 50)

/-- Intersections whose effects lie in a partition (R43 n_x). -/
def Mach.nX (m : Mach) (r : Ram) (p : Nat) : Nat :=
  (m.matrix.inters.filter (fun i => (m.matrix.effects.find? (·.1 == i.2)).any (fun e => m.effOwner r e.2 == some p))).length

/-- The terms of a partition alone for a solve time in clocks, each rounded up to 1 ns (R43). DEDUCED, log 34. -/
def Mach.ownTerms (m : Mach) (r : Ram) (p sClk : Nat) : Terms :=
  let trunks := (List.range 4).filter (fun t => m.trunkPlaces t p != [])
  let segs := (List.range 8).filter (fun s => m.segTimed s && m.nodesOfPart s p != [])
  let g := ((trunks.map (fun t => m.gTrunk t p)) ++ (segs.map (fun s => m.gSeg s p)) ++
    [2 * 10 ^ 6 + cdiv (m.nSub p * 15625) 100]).foldl max (4 * 10 ^ 6) + 2 * 10 ^ 6
  let n := (pubSlots m.cfg p).length
  let plant := if n = 0 then 0 else 8000 * pubBytes n + m.obj F.timeTRANSIT_US * 10 ^ 6
  let u := ((trunks.map (fun t => m.uTrunk t p)) ++ (segs.map (fun s => m.uSeg s p)) ++ [plant]).foldl max (2 * 10 ^ 6)
  { g := cdiv g 1000
    s := cdiv (sClk * 5) 4
    e := cdiv (3 * 10 ^ 6 + 2500 * m.nX r p) 1000
    t := if m.isSet F.partREDUNDANT p then cdiv (2 * 10 ^ 6 + cdiv (m.takeBytesOf r p * 625) 8) 1000 else 0
    u := cdiv u 1000
    margin := max (m.marginMin p) (m.obj F.cycMARGIN_NS p) }

/-- Solve clocks of a partition: of the configuration's base placement; the Standing Program's one task (R544) as loaded from the factory. -/
def Mach.sBase (m : Mach) (p : Nat) : Nat :=
  match m.cfg with
  | some k => (m.basePlan k p).sClk
  | none => m.obj F.sheetS_CLK p

/-- The use two partitions make of a shared unit, each from G on for so long, can overlap on the grid. -/
def Mach.useMeets (m : Mach) (p q : Nat) (x y : Terms) (len : Terms → Nat) : Bool :=
  windowsMeet x.g (x.g + len x) (m.period p) y.g (y.g + len y) (m.period q)

/-- The terms of a partition (R43) with the worst overlap of the others' use of the fabric, of the alarm and shutdown unit and of the Take
engine (R45): each other partition whose use can meet its own is served before it. DEDUCED, log 34. -/
def Mach.termsOf (m : Mach) (r : Ram) (p sClk : Nat) : Terms :=
  let x := m.ownTerms r p sClk
  let others := (m.usedParts.filter (· != p)).map (fun q => (q, m.ownTerms r q (m.sBase q)))
  let extra := fun (len cost : Terms → Nat) => ((others.filter (fun y => m.useMeets p y.1 x y.2 len)).map (fun y => cost y.2)).sum
  { x with
    g := max x.g (cdiv (2 * 10 ^ 6 + cdiv ((m.nSub p + (others.map (fun y => m.nSub y.1)).sum) * 15625) 100 + 2 * 10 ^ 6) 1000)
    e := x.e + extra (fun z => z.s + z.e) (·.e)
    t := if x.t = 0 then 0 else x.t + extra (fun z => z.s + z.e + z.t) (·.t) }

/-- The budget of a partition holds for a solve time (R12). -/
def Mach.budgetHolds (m : Mach) (r : Ram) (p sClk : Nat) : Bool := decide ((m.termsOf r p sClk).sum ≤ m.period p)

/-- The cycle object's figures (R62). -/
def Mach.budgetFields (m : Mach) (p : Nat) (x : Terms) : Mach :=
  m.each [(F.cycG_NS, x.g), (F.cycS_NS, x.s), (F.cycE_NS, x.e), (F.cycT_NS, x.t), (F.cycU_NS, x.u), (F.cycMARGIN_USED_NS, x.margin),
    (F.cycIDLE_NS, m.period p - x.sum)] (fun m e => m.setObj e.1 p e.2)

/-- The reply of BUDGET_EXCEEDED: each failing partition, its P and its six terms in ns (R42). DESIGN CHOICE, log 35. -/
def budgetItem (p period : Nat) (x : Terms) : Item :=
  ⟨1, [p] ++ toBe 4 period ++ toBe 4 x.g ++ toBe 4 x.s ++ toBe 4 x.e ++ toBe 4 x.t ++ toBe 4 x.u ++ toBe 4 x.margin⟩

/-! ### Trunks (R231) -/

/-- Least common multiple of periods. -/
def lcmOf (l : List Nat) : Nat := l.foldl Nat.lcm 1

/-- A partition's windows on a trunk, ns after its Clapper: input from t_open, output from P − U, ending t_set before the next. -/
def Mach.trunkWins (m : Mach) (t p : Nat) : List (Nat × Nat) :=
  if m.trunkPlaces t p = [] then []
  else
    let a := m.period p - m.obj F.cycU_NS p
    [(10000, cdiv (m.gTrunk t p) 1000), (a, a + (cdiv (m.uTrunk t p) 1000 - 5000))]

/-- Partitions with nodes on a trunk; on a segment. -/
def Mach.trunkParts (m : Mach) (t : Nat) : List Nat := m.usedParts.filter (fun p => m.trunkPlaces t p != [])
def Mach.segParts (m : Mach) (s : Nat) : List Nat := m.usedParts.filter (fun p => m.nodesOfPart s p != [])

/-- Pairs of different partitions. -/
def pairsIn (l : List Nat) : List (Nat × Nat) := (pairsOf l).filterMap (fun x => match x with
  | [a, b] => some (a, b)
  | _ => none)

/-- Hyperperiod of a trunk; window time in it, guard bands of 5 µs included; gate control entries: guard, window and rest of each. -/
def Mach.trunkHyper (m : Mach) (t : Nat) : Nat := if m.trunkParts t = [] then 0 else lcmOf ((m.trunkParts t).map m.period)
def Mach.trunkSched (m : Mach) (t : Nat) : Nat :=
  ((m.trunkParts t).map (fun p => m.trunkHyper t / m.period p * ((m.trunkWins t p).map (fun w => w.2 - w.1 + 5000)).sum)).sum
def Mach.trunkGates (m : Mach) (t : Nat) : Nat := ((m.trunkParts t).map (fun p => m.trunkHyper t / m.period p * 6)).sum

/-- TRUNK_SCHEDULE (R231). -/
def Mach.trunkBad (m : Mach) (t : Nat) : Bool :=
  let h := m.trunkHyper t
  decide (128000000 < h) || decide (1024 < m.trunkGates t) || decide (h * 9 < m.trunkSched t * 10) ||
  (pairsIn (m.trunkParts t)).any (fun e => (m.trunkWins t e.1).any (fun a => (m.trunkWins t e.2).any (fun b =>
    windowsMeet a.1 a.2 (m.period e.1) b.1 b.2 (m.period e.2))))

/-! ### The takeover bound (R483, R488) -/

/-- Redundant partitions. -/
def Mach.redunds (m : Mach) : List Nat := m.usedParts.filter (fun p => m.isSet F.partREDUNDANT p)

/-- Period of the heartbeats: the shortest of the redundant partitions' (R483); 1 ms without one. -/
def Mach.hbPeriod (m : Mach) : Nat := (m.redunds.map m.period).foldl (fun a b => if a = 0 then b else min a b) 0 |> (fun x => if x = 0 then 1000000 else x)

/-- Bytes the Larder holds of a partition, and in all (R481). -/
def Mach.larderPart (m : Mach) (r : Ram) (p : Nat) : Nat :=
  m.obj F.partINST_SIZE p + 65536 + 2 * ((m.ownList r).filter (fun e => owns e.2 p && entKind e.2 == 1)).length
def Mach.larderBytes (m : Mach) (r : Ram) : Nat := (m.redunds.map (m.larderPart r)).sum

/-- T_TO of a partition, ns (R488). -/
def Mach.takeoverNs (m : Mach) (r : Ram) (p : Nat) : Nat :=
  let pp := m.period p
  let hb := m.hbPeriod
  let t := 3 * hb + m.obj F.timeTRANSIT_US * 1000 + cdiv (m.larderBytes r) 20 + 1000000 + (if m.isSet F.pairLOW_OK then 2000000 else 0)
  cdiv (pp - Nat.gcd pp hb + t) pp * pp + pp

/-- Least HOLD_MS of a node of a partition, ms (R241, R265, R489). -/
def Mach.holdMin (m : Mach) (r : Ram) (p : Nat) : Nat :=
  max (cdiv (2 * m.period p) 1000000) (if m.isSet F.partREDUNDANT p then cdiv (m.takeoverNs r p) 1000000 else 0)

/-! ### The segment schedule (R264, R265, R279) -/

/-- Instants in one hyperperiod at which a reference frame is due at a Clapper. -/
def Mach.segClaps (m : Mach) (s h : Nat) : List Nat :=
  (List.range (h / 125000)).map (· * 125000) |>.filter (fun x => (m.segParts s).any (fun p => m.period p != 0 && x % m.period p == 0))

/-- Hyperperiod of a segment; 10 ms, the gap of its reference frames, where no partition has nodes on it. -/
def Mach.segHyper (m : Mach) (s : Nat) : Nat := if m.segParts s = [] then 10000000 else lcmOf ((m.segParts s).map m.period)

/-- Instants of additional reference frames between instants of a hyperperiod: none leaves a gap above 10 ms (R261). -/
def extraRefs (h : Nat) : List Nat → List Nat
  | [] => []
  | a :: r =>
    let b := (r.head?).getD h
    ((List.range ((b - a - 1) / 10000000)).map (fun i => a + (i + 1) * 10000000)) ++ extraRefs h r

/-- Reference frames in one hyperperiod: at Clappers, and additional ones. -/
def Mach.segRefs (m : Mach) (s : Nat) : List Nat × List Nat :=
  let h := m.segHyper s
  let c := if m.segParts s = [] then [0] else m.segClaps s h
  (c, extraRefs h c)

/-- Sum of fractions. -/
def addQ (a b : Nat × Nat) : Nat × Nat := (a.1 * b.2 + b.1 * a.2, a.2 * b.2)

/-- Bus time of cyclic frames in one hyperperiod, ps. -/
def Mach.segCyclic (m : Mach) (s : Nat) : Nat :=
  let h := m.segHyper s
  let refs := m.segRefs s
  (refs.1.length + refs.2.length) * m.tf s (m.segXl s) 8 +
  ((m.segParts s).map (fun p => h / m.period p * (((m.inNodes s p).map m.tfIn).sum + ((m.segGroups s p).map (fun g => m.groupTf s g.2)).sum))).sum

/-- Nodes of a segment with event frames. -/
def Mach.evtNodes (m : Mach) (s : Nat) : List Nat :=
  (nodesOf s).filter (fun n => decide (1 ≤ m.obj F.nodeSTATE n) && m.obj F.nodeEVT_BYTES n != 0)

/-- Bus time of a node's event frame, ps. -/
def Mach.evtTf (m : Mach) (n : Nat) : Nat := m.tf (n / 64) (m.obj F.nodeFORMAT n == 0) (m.obj F.nodeEVT_BYTES n)

/-- L of a segment in 0.01 %, rounded up (R265). -/
def Mach.segLoad (m : Mach) (s : Nat) : Nat :=
  let q := (m.evtNodes s).foldl (fun q n => addQ q (m.evtTf n, max 1 (m.obj F.nodeEVT_MIN_US n) * 10 ^ 6))
    (addQ (m.segCyclic s, m.segHyper s * 1000) (m.obj F.segTX_RATE s * m.tf s (m.segXl s) (m.obj F.segAPER_MAX s), 10 ^ 12))
  let q := addQ q (1, 100)
  cdiv (q.1 * 10000) q.2

/-- Insert an interval by its start. -/
def insIv (x : Nat × Nat) : List (Nat × Nat) → List (Nat × Nat)
  | [] => [x]
  | y :: r => if x.1 ≤ y.1 then x :: y :: r else y :: insIv x r

/-- Join overlapping intervals of a list sorted by start. -/
def joinIv : List (Nat × Nat) → List (Nat × Nat) → List (Nat × Nat)
  | [], acc => acc.reverse
  | x :: r, [] => joinIv r [x]
  | x :: r, a :: acc => if x.1 ≤ a.2 then joinIv r ((a.1, max a.2 x.2) :: acc) else joinIv r (x :: a :: acc)

/-- Closed intervals of the gate over one hyperperiod and the Clapper at its end, ns from one hyperperiod before (R264). -/
def Mach.closedIvs (m : Mach) (s : Nat) : List (Nat × Nat) :=
  let h := m.segHyper s
  let lead := cdiv (m.closeLead s) 1000
  let claps := (m.segParts s).flatMap (fun p => (List.range (h / m.period p + 1)).map (fun i =>
    (h + i * m.period p - (m.obj F.cycU_NS p + lead), h + i * m.period p + cdiv (m.gSeg s p) 1000)))
  let extra := (m.segRefs s).2.map (fun x => (h + x - lead, h + x + cdiv (m.tf s (m.segXl s) 8) 1000))
  joinIv ((claps ++ extra).foldl (fun l x => insIv x l) []) []

/-- Longest closed and shortest open interval of a gate, ns. -/
def closedMax (l : List (Nat × Nat)) : Nat := (l.map (fun x => x.2 - x.1)).foldl max 0
def openMin (l : List (Nat × Nat)) : Nat :=
  ((l.zip (l.drop 1)).map (fun e => e.2.1 - e.1.2)).foldl (fun a b => min a b) (if l.length ≤ 1 then 0 else 2 ^ 62)

/-- HIGH-class event frames of a segment (R258). -/
def Mach.highNodes (m : Mach) (s : Nat) : List Nat := (m.evtNodes s).filter (fun n => decide (m.obj F.nodeEVT_ID n < 0x100))

/-- The latency recursion of R279, ps, to its fixed point or out of fuel. -/
def Mach.latStep (m : Mach) (s n base : Nat) : Nat → Nat → Nat
  | 0, w => w
  | k + 1, w =>
    let hp := (m.highNodes s).filter (fun j => decide (m.obj F.nodeEVT_ID j < m.obj F.nodeEVT_ID n))
    let w' := base + (hp.map (fun j => cdiv w (max 1 (m.obj F.nodeEVT_MIN_US j) * 10 ^ 6) * m.evtTf j)).sum
    if w' = w then w else m.latStep s n base k w'

/-- The latency bound of a HIGH event frame, ps. DEDUCED, log 34. -/
def Mach.latBound (m : Mach) (s n : Nat) : Nat :=
  let base := closedMax (m.closedIvs s) * 1000 + m.tf s (m.segXl s) (m.obj F.segAPER_MAX s) + m.evtTf n
  m.latStep s n base 1000 base

/-- A HIGH bound that does not fit the open interval, or a frame after another's identifier (SEG_SCHEDULE, R258, R265). DEDUCED, log 34. -/
def Mach.segSchedBad (m : Mach) (s : Nat) : Bool :=
  let iv := m.closedIvs s
  let ev := m.evtNodes s
  decide (128000000 < m.segHyper s) || decide (65 < iv.length) ||
  ev.any (fun n => decide (m.obj F.nodeEVT_ID n < 0x080) || decide (0x6FF < m.obj F.nodeEVT_ID n) ||
    ev.any (fun j => j != n && m.obj F.nodeEVT_ID j == m.obj F.nodeEVT_ID n)) ||
  (m.segParts s != [] && (m.highNodes s).any (fun n => decide (openMin iv * 1000 + closedMax iv * 1000 < m.latBound s n))) ||
  (pairsIn (m.segParts s)).any (fun e =>
    let meets := fun (p q : Nat) => windowsMeet 0 (cdiv (m.gSeg s p) 1000) (m.period p) (m.period q - m.obj F.cycU_NS q) (m.period q - 5000) (m.period q)
    meets e.1 e.2 || meets e.2 e.1)

/-- A match filter copies an odd number of bytes, or to a slot outside its segment's range (R260, R282). -/
def Mach.mfBad (m : Mach) (k : Nat) : Bool :=
  m.obj F.mfCOPY_BYTES k % 2 == 1 || (decide (m.obj F.mfPOINT k < 2 ^ 20) &&
    !(segRange (k / 4) (m.obj F.mfPOINT k) && segRange (k / 4) (m.obj F.mfPOINT k + (m.obj F.mfCOPY_BYTES k / 2 - 1))))

/-- Rates and frame sizes a segment cannot have, and its match filters (R257, R259, R260, R280, R281). -/
def Mach.segBad (m : Mach) (s : Nat) : Bool :=
  let xlOff := m.obj F.segMODE s == 3 || m.obj F.segMODE s == 4
  let lim := fun (n : Nat) => if m.obj F.nodeFORMAT n = 0 then 1023 else 31
  (m.obj F.segFAST s == 0 && decide (3 < m.obj F.segXL_RATE s) && decide (1 ≤ m.obj F.segMODE s) && decide (m.obj F.segMODE s ≤ 2)) ||
  (List.range 4).any (fun i => m.mfBad (s * 4 + i)) ||
  (xlOff && decide ((if m.obj F.segMODE s = 4 then 8 else 64) < m.obj F.segAPER_MAX s)) ||
  (nodesOf s).any (fun n => decide (1 ≤ m.obj F.nodeSTATE n) &&
    (decide (lim n < m.obj F.nodeIN_SLOTS n) || (m.obj F.nodeFORMAT n == 0 && xlOff) || (m.obj F.nodeFORMAT n == 1 && m.obj F.segMODE s == 1) ||
     decide (m.obj F.segAPER_MAX s < m.obj F.nodeEVT_BYTES n) || (m.obj F.nodeGROUP n == 0xFF && m.obj F.nodeOUT_SLOTS n != 0))) ||
  (List.range 8).any (fun p => (m.segGroups s p).any (fun g =>
    decide ((g.2.map (fun n => m.obj F.nodeOUT_SLOTS n)).sum > lim (g.2.headD 0)) || g.2.any (fun n => m.obj F.nodeFORMAT n != m.obj F.nodeFORMAT (g.2.headD 0))))

/-- The segment's figures (R264, R265, R279). -/
def Mach.segFields (m : Mach) (s : Nat) : Mach :=
  if !m.segTimed s then m
  else
    let m := m.each [(F.segLOAD_PLAN, m.segLoad s), (F.segHYPERPERIOD_NS, m.segHyper s), (F.segCLOSE_LEAD_NS, cdiv (m.closeLead s) 1000)]
      (fun m e => m.setObj e.1 s e.2)
    m.each (nodesOf s) (fun m n =>
      m.setObj F.nodeLAT_BOUND_US n (if (m.highNodes s).contains n then cdiv (m.latBound s n) (10 ^ 6) else 0xFFFFFFFF))

/-! ### Takes, larder, wrap (R475, R479, R481, R572) -/

/-- TAKE_RATE (R475): Σ b_T / P in bytes per ms. -/
def Mach.takeRateBad (m : Mach) (r : Ram) : Bool :=
  m.redunds.any (fun p => decide (4194304 < m.takeBytesOf r p)) ||
  (let q := m.redunds.foldl (fun q p => addQ q (m.takeBytesOf r p * 10 ^ 6, m.period p)) (0, 1)
   decide (1048576 * q.2 < q.1))

/-- The largest slices of 4 to 64 KB that fit, one size for every partition (R479). -/
def Mach.sliceOf (m : Mach) (r : Ram) : Nat :=
  let fits := fun (f : Nat) =>
    let q := m.redunds.foldl (fun q p => addQ q ((m.takeBytesOf r p + f) * 10 ^ 6, m.period p)) (0, 1)
    decide (q.1 ≤ 1187500 * q.2)
  ((List.range 16).map (fun i => (i + 1) * 4096)).foldl (fun b f => if fits f then f else b) 4096

/-- The take objects' figures. -/
def Mach.takeFields (m : Mach) (r : Ram) : Mach :=
  let m := m.setObj F.pairLARDER_BYTES 0 (m.larderBytes r)
  m.each m.redunds (fun m p =>
    m.each [(F.takeTAKE_BYTES_MAX, m.takeBytesOf r p), (F.takeSLICE_BYTES, m.sliceOf r),
        (F.takeFULL_TAKE_NS, cdiv (m.larderPart r p) (m.sliceOf r) * m.period p), (F.takeTAKEOVER_NS, m.takeoverNs r p)]
      (fun m e => m.setObj e.1 p e.2))

/-- Longest S + E + T, ns, of the partitions a caller names (R571, R572). -/
def Mach.tFin (m : Mach) (ps : List Nat) : Nat := (ps.map (fun p => m.obj F.cycS_NS p + m.obj F.cycE_NS p + m.obj F.cycT_NS p)).foldl max 0

/-- t_take, ns (R571): 0.5 ms and 4.8 µs per KB of retained records. -/
def Mach.tTake (m : Mach) : Nat := 500000 + cdiv (4800 * m.obj F.modeRETAIN_BYTES) 1024

/-- t_wrap, ns, and WRAP_MJ (R572). -/
def Mach.tWrap (m : Mach) : Nat := m.obj F.powRIDE_MS * 1000000 + m.tFin m.usedParts + m.tTake + 3280000 + 20000000
def Mach.wrapMj (m : Mach) : Nat := cdiv (64 * (m.tWrap + 50000000)) 1600000000 * 1600

/-- The wrap's figures. -/
def Mach.wrapFields (m : Mach) : Mach := (m.setObj F.gaugeWRAP_MJ 0 m.wrapMj).setObj F.powT_WRAP_US 0 (cdiv m.tWrap 1000)

/-! ### The budget check (R46) -/

/-- Partitions that fail, with their terms. -/
def Mach.budgetFails (m : Mach) (r : Ram) : List (Nat × Terms) :=
  (m.usedParts.map (fun p => (p, m.termsOf r p (m.sBase p)))).filter (fun e => decide (m.period e.1 < e.2.sum))

/-- The phase budget of every partition (R42): its refusal, or the machine with its figures. DEDUCED, log 34. -/
def Mach.budgetCheck (m : Mach) (r : Ram) : Except Bad Mach :=
  match m.budgetFails r with
  | [] => .ok (m.each m.usedParts (fun m p => m.budgetFields p (m.termsOf r p (m.sBase p))))
  | l => .error (0x1310, l.map (fun e => budgetItem e.1 (m.period e.1) e.2))

/-- Trunk and segment schedules, holds, the wrap (R231, R241, R257, R265, R489, R572). -/
def Mach.scheduleCheck (m : Mach) (r : Ram) : Except Bad Mach :=
  let places := (List.range 1024).filter (fun n => decide (m.obj F.placePARTITION n < 8))
  let nodes := (List.range 512).filter (fun n => decide (m.obj F.nodePARTITION n < 8))
  if (List.range 4).any m.trunkBad then .error (0x1504, [])
  else if places.any (fun n => decide (m.obj F.placeHOLD_MS n < m.holdMin r (m.obj F.placePARTITION n))) then .error (0x1505, [])
  else if (List.range 4).any (fun t => (List.range 8).any (fun p => (m.trunkGroups t p).any (fun g => decide (1476 < m.groupBytes g.2)))) then
    .error (0x1506, [])
  else if (List.range 8).any m.segBad then .error (stBAD_PARAMETER, [])
  else if (List.range 8).any (fun s => m.segTimed s && decide (7000 < m.segLoad s)) then .error (0x1601, [])
  else if (List.range 8).any (fun s => m.segTimed s && m.segSchedBad s) then .error (0x1602, [])
  else if nodes.any (fun n => decide (m.obj F.nodeHOLD_MS n < m.holdMin r (m.obj F.nodePARTITION n))) then .error (0x1603, [])
  else
    let m := m.each (List.range 4) (fun m t => (m.setObj F.trunkHYPERPERIOD_NS t (m.trunkHyper t)).setObj F.trunkSCHED_NS t (m.trunkSched t))
    .ok ((m.each (List.range 8) Mach.segFields).takeFields r)

end Sys2Proof.Machine
end

