-- ==== Sys2Proof/Machine/Verify.lean ====
section
/-! DEFINITION. Load-time verification of a program's bodies (R122): every check from BAD_INSTRUCTION to SYNC_ORDER within one body, from
the code words, the calls, the instance records and the ownership table of a package. -/
namespace Sys2Proof.Machine

/-! ### Loops and flow (R105, R113, R115, R120) -/

/-- What holds before an instruction: branch-stack depth, LOCALS bits written on every path, whether the paths' depths differ. -/
structure At where
  depth : Nat
  locals : Nat
  clash : Bool
deriving DecidableEq, Repr

/-- Depth after an instruction (R105). -/
def depthAfter (op d : Nat) : Nat := if op = 0x30 then d + 1 else if op = 0x31 ∨ op = 0x32 ∨ op = 0x34 ∨ op = 0x35 then d - 1 else d

/-- Bits of LOCALS from a byte on: one bit of it, or n bytes. -/
def localBits (off n : Nat) (b : Option Nat) : Nat :=
  (match b with
   | some i => 2 ^ i
   | none => 2 ^ (8 * n) - 1) * 2 ^ (8 * off)

/-- LOCALS bits an instruction writes for certain (R120). -/
def Body.localsSet (b : Body) (i : Nat) : Nat :=
  match accOf (b.word i) with
  | some a => if a.locals && a.always && !b.indexed i then localBits a.off a.len a.bit else 0
  | none => 0

/-- Join of the paths that reach an instruction. -/
def joinAt : List (Nat × Nat) → Option At
  | [] => none
  | x :: r => some ⟨x.1, r.foldl (fun m y => m &&& y.2) x.2, r.any (fun y => y.1 != x.1)⟩

/-- The walk of a body in ascending index: open edges (target, depth, LOCALS) and what stands before each instruction so far. DEDUCED, log 32. -/
def Body.flow (b : Body) : List Nat → List (Nat × Nat × Nat) → List (Option At)
  | [], _ => []
  | i :: is, es =>
    let st := joinAt ((es.filter (fun e => e.1 == i)).map (·.2))
    match st with
    | none => none :: b.flow is es
    | some s =>
      let op := b.op i
      let d := depthAfter op s.depth
      let l := s.locals ||| b.localsSet i
      let out := if op = 1 then [] else if op = 2 then [(i + b.arg i, d, l)]
        else if op = 3 ∨ op = 4 then [(i + b.arg i, d, l), (i + 1, d, l)] else [(i + 1, d, l)]
      some s :: b.flow is (es ++ out)

/-- The states before each instruction; the first is entered with depth 0 and LOCALS unwritten (R101, R119, R120). -/
def Body.states (b : Body) : List (Option At) := b.flow b.idxs [(0, 0, 0)]

/-- A LOOP goes back to this index with another depth than the paths before it. -/
def Body.backClash (b : Body) (sts : List (Option At)) (i : Nat) (s : At) : Bool :=
  b.loops.any (fun l => l.1 + 1 == i && match (sts[l.2]?).bind id with
    | some e => e.depth != s.depth
    | none => false)

/-- STACK_DEPTH (R105). -/
def Body.badStack (b : Body) (sts : List (Option At)) (i : Nat) : Bool :=
  match (sts[i]?).bind id with
  | none => false
  | some s =>
    let op := b.op i
    s.clash || b.backClash sts i s || (op == 0x30 && decide (32 ≤ s.depth)) ||
    (decide (0x31 ≤ op ∧ op ≤ 0x35) && s.depth == 0) || (op == 1 && s.depth != 0)

/-- A jump that leaves the body, does not go forward, enters a loop from outside or lands behind an IDX (R113, R115). -/
def Body.badJump (b : Body) (i : Nat) : Bool :=
  let t := i + b.arg i
  decide (2 ≤ b.op i ∧ b.op i ≤ 4) &&
  (decide (b.code.length ≤ t) || t == i || b.op (t - 1) == 7 || b.loops.any (fun l => inLoop l t && !inLoop l i))

/-- An edge instruction (R104). -/
def opEdge (op : Nat) : Bool := op == 0x2B || op == 0x2C

/-! ### What the bodies of a program write (R104, R115) -/

/-- A write of a rung instruction: the number of its body in the order of R122, its index, its cells; whether it is an edge instruction. -/
structure Wr where
  body : Nat
  idx : Nat
  acc : CellAcc
  edge : Bool
deriving DecidableEq, Repr

/-- What the checks of a body read beside it: the records of its partition; every rung write and every loop counter of it. -/
structure Around where
  recs : List InstRec
  writes : List Wr
  counters : List CellAcc
deriving DecidableEq, Repr

/-- Writes of a body's instructions to its record and its LOCALS, calls apart. -/
def Mach.wrsOf (m : Mach) (k : Pkg) (n : Nat) (b : Body) : List Wr :=
  b.idxs.flatMap (fun i => if b.op i = 8 then [] else
    ((m.accsAt k b i).filter (fun a => a.write && !a.point)).map (fun a => ⟨n, i, a, opEdge (b.op i)⟩))

/-- The counter of a LOOP. -/
def Body.counter (b : Body) (e : Nat) : CellAcc := ⟨b.task, b.block, e, false, false, b.base + 2 * b.lo e, b.base + 2 * b.lo e + 2, none, true⟩

/-- What lies around the bodies of a partition, numbered. -/
def Mach.around (m : Mach) (k : Pkg) (bs : List (Nat × Body)) (p : Nat) : Around :=
  let mine := bs.filter (fun x => x.2.part == p)
  ⟨k.insts.filter (fun i => i.partition == p), mine.flatMap (fun x => m.wrsOf k x.1 x.2),
   mine.flatMap (fun x => x.2.loops.map (fun l => x.2.counter l.2))⟩

/-- Two writes of different instructions touch: LOCALS only within one body. -/
def Wr.hits (x y : Wr) : Bool := !(x.body == y.body && x.idx == y.idx) && (!x.acc.locals || x.body == y.body) && x.acc.meets y.acc

/-- An edge memory reached before by another edge instruction, or an edge memory this instruction writes without being its edge (R104).
DEDUCED, log 32. -/
def badEdge (a : Around) (n i : Nat) : Bool :=
  (a.writes.filter (fun w => w.body == n && w.idx == i)).any (fun w => a.writes.any (fun v =>
    v.edge && w.hits v && (!w.edge || decide (v.body < n) || (v.body == n && decide (v.idx < i)))))

/-- A LOCALS bit read that not every path has written (R120). DEDUCED, log 32. -/
def Body.badLocals (b : Body) (sts : List (Option At)) (i : Nat) : Bool :=
  match (sts[i]?).bind id, accOf (b.word i) with
  | some s, some a =>
    a.locals && a.load && (List.range ((b.reachEnd i a - a.off) / max 1 a.len)).any (fun o =>
      let need := localBits (a.off + o * a.len) a.len a.bit
      (s.locals &&& need) != need)
  | _, _ => false

/-- BAD_FLOW (R113, R120, R122). DEDUCED, log 32. -/
def Body.badFlow (b : Body) (a : Around) (n : Nat) (sts : List (Option At)) (i : Nat) : Bool :=
  b.badJump i || (i + 1 == b.code.length && b.op i != 1) || badEdge a n i || b.badLocals sts i

/-- LOOP_FORM (R115). DEDUCED, log 32. -/
def Body.badLoop (b : Body) (a : Around) (n i : Nat) : Bool :=
  b.op i == 6 &&
  (decide (i < b.hi i + 1) ||
   (let l := i - b.hi i - 1
    b.op l != 5 || b.lo l != b.lo i ||
    a.writes.any (fun w => !(w.body == n && (w.idx == i || w.idx == l)) && !w.acc.locals && w.acc.meets (b.counter i)) ||
    b.loops.any (fun x => x.2 != i && decide (l < x.2 ∧ x.1 < i) && !(decide (l < x.1 ∧ x.2 < i) || decide (x.1 < l ∧ i < x.2)))))

/-! ### Index prefixes (R116, R117) -/

/-- Bytes of an instance access's space: LOCALS 448, or the record (R100). -/
def Body.space (b : Body) (a : Touch) : Nat := if a.locals then 448 else b.size

/-- BAD_INDEX (R117). -/
def Body.badIndex (b : Body) (r : Around) (i : Nat) : Bool :=
  b.op i == 7 &&
  (decide (b.code.length ≤ i + 1) ||
   (match accOf (b.word (i + 1)) with
    | none => true
    | some a =>
      let e := b.reachEnd (i + 1) a
      if a.point then decide (0x100000 < e)
      else decide (b.space a < e) ||
        (!a.locals && r.counters.any (fun c => decide (b.base + a.off < c.hi ∧ c.lo < b.base + e)))))

/-! ### Bound objects (R145) -/

/-- The object exists and the partition owns it; of a gear group, every axis too. -/
def Mach.ownsObj (m : Mach) (r : Ram) (p : Nat) (o : Nat × Nat) : Bool :=
  let n := o.2
  if o.1 = 0x40 then decide (n < 16) && m.axOwner r n == some p
  else if o.1 = 0x41 then
    decide (n < 8) && m.ggOwner r n == some p && (bitsOf 16 (m.obj F.ggMEMBERS n)).all (fun a => m.axOwner r a == some p)
  else if o.1 = 0x50 then decide (n < 256) && m.doorOwner r n == some p
  else if o.1 = 0x60 then m.obj F.alarmOWNER n == p
  else if o.1 = 0x70 then decide (n < 32) && m.lcOwner r n == some p
  else decide (n < 8) && m.loOwner r n == some p

/-- Bound records a body calls: index, descriptor. -/
def Body.bound (b : Body) : List (Nat × Desc) :=
  b.callIdx.filterMap (fun i => match b.desc i with
    | some d => if binds d.block then some (i, d) else none
    | none => none)

/-! ### Instance accesses (R100, R126) -/

/-- A store to bytes lo to hi − 1 of the region reaches a header or a read-only field of a native block (R126). -/
def roHit (recs : List InstRec) (lo hi : Nat) (b : Option Nat) : Bool :=
  let mask := match b with
    | some i => 2 ^ i
    | none => 255
  recs.any (fun d =>
    let id := fld d.bytes 0 4
    let n := if (nativeSize id).isSome then d.bytes.length else 24
    (List.range n).any (fun o => decide (lo ≤ d.offset + o ∧ d.offset + o < hi) && (decide (o < 24) || (mask &&& rwMask id o) != mask)))

/-- Two records neither disjoint nor one properly inside the other that may hold it (R118, R159). -/
def recClash (x y : InstRec) : Bool :=
  let a := x.offset
  let e := x.offset + x.bytes.length
  let c := y.offset
  let f := y.offset + y.bytes.length
  let holds := fun (i : InstRec) => composed (fld i.bytes 0 4) || fld i.bytes 0 4 == 0
  if e ≤ c ∨ f ≤ a then false
  else if a = c then x != y
  else if a < c then !(holds x && decide (a + 24 ≤ c ∧ f ≤ e))
  else !(holds y && decide (c + 24 ≤ a ∧ e ≤ f))

/-- INSTANCE_RANGE (R100, R118, R126). -/
def Body.badRange (b : Body) (r : Around) (n i : Nat) : Bool :=
  let op := b.op i
  let own := (match accOf (b.word i) with
    | some a => !a.point && (decide (b.space a < a.off + a.len) || (a.bit.isNone && a.off % a.len != 0))
    | none => false)
  let word := ((op == 5 || op == 6) && decide (b.size < 2 * b.lo i + 2)) || (op == 7 && decide (b.size < 2 * b.hi i + 2))
  let ro := r.writes.any (fun w => w.body == n && w.idx == i && !w.acc.locals && roHit r.recs w.acc.lo w.acc.hi w.acc.bit)
  let call := op == 8 && (match (b.desc i).bind (fun d => r.recs.find? (fun x => x.offset == d.base)) with
    | some x => !decide (b.base + 24 ≤ x.offset ∧ x.offset + x.bytes.length ≤ b.base + b.size) || r.recs.any (recClash x)
    | none => !(b.desc i).any (fun d => b.chain.contains d.block))
  own || word || ro || call

/-! ### The checks at one instruction (R122) -/

/-- BAD_INSTRUCTION (R99, R113, R118, R122). -/
def Body.badInstr (k : Pkg) (b : Body) (i : Nat) : Bool :=
  let op := b.op i
  let a := b.arg i
  opReserved op || (opN op && a != 0) || (opSix op && decide (64 ≤ a)) || (decide (0x40 ≤ op ∧ op ≤ 0x4A) && a % 16 != 0) ||
  (op == 0x1B && a / 4 % 4 != 0) || ((op == 5 || op == 6) && b.hi i == 0) ||
  (op == 8 && (match b.desc i with
    | some d => (nativeSize d.block).isNone && !(composed d.block && (blockOf k d.block).isSome)
    | none => true))

/-- POINT_ACCESS (R145, R174, R176); an index checks its accesses at run time, its base's alignment here (R117). -/
def Mach.badPoint (m : Mach) (r : Ram) (k : Pkg) (b : Body) (i : Nat) : Bool :=
  (match accOf (b.word i) with
   | some a => a.point && (a.off % a.len != 0 || (!b.indexed i && (List.range a.len).any (fun o =>
       let e := m.ownEnt r (a.off + o)
       (a.load && !mayRead e b.part) || (a.store && !mayWrite e b.part))))
   | none => false) ||
  (b.op i == 8 && (match b.desc i with
   | some d => binds d.block && !m.ownsObj r b.part (boundObj k b.part d)
   | none => false))

/-- OBJECT_SHARED (R145): an object bound before by another record, or a direct store to a bound object's command points. DEDUCED, log 32. -/
def Mach.badShared (m : Mach) (k : Pkg) (all : List (Nat × Nat)) (prior : List ((Nat × Nat) × Nat × Nat)) (b : Body) (i : Nat) : Bool :=
  (b.op i == 8 && (match b.desc i with
   | some d => binds d.block && prior.any (fun x => x.1 == boundObj k b.part d && x.2 != (b.part, d.base))
   | none => false)) ||
  (match accOf (b.word i) with
   | some a => a.point && a.store && !b.indexed i && all.any (fun o =>
       (m.commandPts o).any (fun p => decide (a.off ≤ p ∧ p < a.off + a.len)))
   | none => false)

/-- SYNC_ORDER within one body (R82): in a composed block, or executed a different number of times on different paths. -/
def Body.badSyncAt (b : Body) (sts : List (Option At)) (i : Nat) : Bool :=
  b.op i == 9 &&
  (b.block != 0 ||
   b.idxs.any (fun j => decide (2 ≤ b.op j ∧ b.op j ≤ 4) &&
     (decide (j < i ∧ i < j + b.arg j) || b.loops.any (fun l => inLoop l i && inLoop l j && decide (l.2 < j + b.arg j)))) ||
   b.idxs.any (fun j => decide (j < i) && b.op j == 1 && ((sts[j]?).bind id).isSome))

/-- What the bodies before a body have bound: object, partition, record. -/
abbrev Prior := List ((Nat × Nat) × Nat × Nat)

/-- The objects a body's CALLs bind, those before an index. -/
def Body.binding (k : Pkg) (b : Body) (i : Nat) : Prior :=
  (b.bound.filter (fun x => decide (x.1 < i))).map (fun x => (boundObj k b.part x.2, b.part, x.2.base))

/-- The first check that fails at an index, in the order of R122's table. -/
def Mach.badAt (m : Mach) (r : Ram) (k : Pkg) (a : Around) (all : List (Nat × Nat)) (prior : Prior) (n : Nat) (sts : List (Option At)) (b : Body)
    (i : Nat) : Option Nat :=
  let callee := if b.op i = 8 then b.desc i else none
  if b.badInstr k i then some 0x1309
  else if b.badStack sts i then some 0x130A
  else if b.badFlow a n sts i then some 0x130B
  else if b.badLoop a n i then some 0x130C
  else if m.badPoint r k b i then some 0x130D
  else if b.badIndex a i then some 0x130E
  else if b.badRange a n i then some 0x130F
  else if m.badShared k all (prior ++ b.binding k i) b i then some 0x1311
  else if callee.any (fun d => composed d.block && b.chain.contains d.block) then some 0x1301
  else if callee.isSome && decide (143 < b.chain.length + 2) then some 0x1302
  else if b.badSyncAt sts i then some 0x1305
  else none

/-- The first failure of a body; one without code has no path to an END. DEDUCED, log 32. -/
def Mach.bodyBad (m : Mach) (r : Ram) (k : Pkg) (a : Around) (all : List (Nat × Nat)) (prior : Prior) (n : Nat) (b : Body) : Option Bad :=
  if b.code = [] then some (0x130B, refItems b.task b.block 0)
  else
    let sts := b.states
    (b.idxs.findSome? (fun i => (m.badAt r k a all prior n sts b i).map (fun st => (st, i)))).map (fun x => (x.1, refItems b.task b.block x.2))

/-! ### All bodies in order (R122) -/

/-- Two bodies are one: the same record. A block without a CALL is checked with every record it runs on. DEDUCED, log 32. -/
def Body.same (a b : Body) : Bool := a.part == b.part && a.block == b.block && a.base == b.base

/-- Bodies without repeats, the first kept. -/
def onceBody : List Body → List Body → List Body
  | _, [] => []
  | seen, b :: r => if seen.any (Body.same b) then onceBody seen r else b :: onceBody (b :: seen) r

/-- Insert a body by BLOCK_ID, then by record offset. -/
def insBody (b : Body) : List Body → List Body
  | [] => [b]
  | x :: r => if b.block < x.block ∨ (b.block = x.block ∧ b.base < x.base) then b :: x :: r else x :: insBody b r

/-- A task's bodies: its root, then the others it calls, by BLOCK_ID and record. -/
def Mach.taskBodies (m : Mach) (k : Pkg) (t : TaskCode) : List Body :=
  let b := m.rootBody k t
  b :: (onceBody [] (b.below k 144)).foldl (fun l x => insBody x l) []

/-- Every body of a program in the order of R122: tasks ascending, a shared body under its lowest-numbered task. -/
def Mach.bodies (m : Mach) (k : Pkg) : List Body :=
  onceBody [] (((List.range 256).filterMap (codeOf k)).flatMap (m.taskBodies k))

/-- Bound records of a program's bodies: partition, descriptor. -/
def Mach.calledBound (m : Mach) (k : Pkg) : List (Nat × Desc) := (m.bodies k).flatMap (fun b => b.bound.map (fun x => (b.part, x.2)))

/-- Records of a package that bind an object and that no CALL names. -/
def looseUnits (k : Pkg) (ds : List (Nat × Desc)) : List (Nat × Desc) :=
  k.insts.filterMap (fun i =>
    let d : Desc := ⟨fld i.bytes 0 4, 0, i.offset⟩
    if binds d.block && !ds.any (fun x => x.1 == i.partition && x.2.base == d.base) then some (i.partition, d) else none)

/-- The first failure of a program's bodies (R122); load channels and axes that doors drive count as claimed (R356, R378). -/
def Mach.programBad (m : Mach) (r : Ram) (k : Pkg) (chans axes : List Nat) : Option Bad :=
  let bs := m.bodies k
  let bs := (List.range bs.length).zip bs
  let called := m.calledBound k
  let objs := (called ++ looseUnits k called).map (fun (x : Nat × Desc) => boundObj k x.1 x.2)
  let all := (objs ++ chans.map (fun (n : Nat) => (0x70, n))).eraseDups
  let env := (List.range 8).map (m.around k bs)
  go m r k (fun p => (env[p]?).getD ⟨[], [], []⟩) all bs (chans.map (fun n => ((0x70, n), (0xFF, 0))) ++ axes.map (fun n => ((0x40, n), (0xFF, 0))))
where
  /-- Bodies in order, with the bindings met before. -/
  go (m : Mach) (r : Ram) (k : Pkg) (env : Nat → Around) (all : List (Nat × Nat)) : List (Nat × Body) → Prior → Option Bad
    | [], _ => none
    | (n, b) :: rest, prior =>
      match m.bodyBad r k (env b.part) all prior n b with
      | some x => some x
      | none => go m r k env all rest (prior ++ b.binding k b.code.length)

/-- The last checks (R122): bindings of R145 that no CALL carries. -/
def Mach.looseBad (m : Mach) (r : Ram) (k : Pkg) : Option Bad :=
  let called := m.calledBound k
  go m r k (called.map (fun x => boundObj k x.1 x.2)) (looseUnits k called)
where
  /-- Records in order, with the objects bound before. -/
  go (m : Mach) (r : Ram) (k : Pkg) : List (Nat × Nat) → List (Nat × Desc) → Option Bad
    | _, [] => none
    | objs, (p, d) :: rest =>
      let o := boundObj k p d
      if !m.ownsObj r p o then some (0x130D, refItems 0xFF d.block 0xFFFFFFFF)
      else if objs.contains o then some (0x1311, refItems 0xFF d.block 0xFFFFFFFF)
      else go m r k (o :: objs) rest

/-! ### Init values (R124, R125) -/

/-- A native record's Init value outside its field's stated range (R125, R133 to R158). -/
def initBad (b : List Nat) : Bool :=
  let id := fld b 0 4
  let fbad := fun (os : List Nat) => os.any (fun o => fBad (fld b o 4))
  if 1 ≤ id ∧ id ≤ 4 then decide (2 ^ 63 - 1 < fld b 24 8)
  else if id = 0x20 then fbad [24, 28, 32, 36, 40, 44, 48, 52, 56] || negF b 36 || negF b 40 || negF b 44 || !decide ((fInt (f32 b 48).v) < fInt (f32 b 52).v)
  else if id = 0x21 then fbad [24, 28, 32] || negF b 28 || negF b 32
  else if id = 0x22 then fbad [24, 28] || negF b 28
  else if id = 0x23 then decide (fld b 28 1 = 0 ∨ 64 < fld b 28 1)
  else if id = 0x24 then fld b 24 4 == fld b 28 4 || fbad [32, 36]
  else if id = 0x30 then decide (31 < fld b 24 1 ∨ 31 < fld b 25 1 ∨ 64 < fld b 26 1)
  else if id = 0x40 then decide (15 < fld b 24 1 ∨ 3 < fld b 25 1 ∨ 4000000 < fld b 28 4)
  else if id = 0x41 then decide (7 < fld b 24 1 ∨ fld b 36 4 = 0)
  else if id = 0x70 then decide (31 < fld b 24 1 ∨ 15 < fld b 25 1)
  else if id = 0x71 then decide (7 < fld b 24 1) || fbad [28]
  else false

/-- A record's header is not what its place asks, or its BLOCK_ID has no block (R123, R124, R132, R159); a field lies where it may not (R75); an
Init value is out of range (R125). -/
def recBad (k : Pkg) (i : InstRec) : Bool :=
  let id := fld i.bytes 0 4
  let n := i.bytes.length
  fld i.bytes 4 4 != n || decide (n % 8 ≠ 0 ∨ n < 24 ∨ 8388608 < n) || i.offset % (if id = 0 then 64 else 8) != 0 ||
  i.fields.any (fun f => (f.size == 2 || f.size == 4 || f.size == 8) && f.offset % f.size != 0) ||
  (match nativeSize id with
   | some x => n != x.1 || initBad i.bytes
   | none => id != 0 && !(composed id && (blockOf k id).any (fun c => c.size == n)))

end Sys2Proof.Machine
end

