-- ==== Sys2Proof/Machine/Adopt.lean ====
section
/-! DEFINITION. The loader's checks of a configuration that stands in a machine (spec/06 to spec/19): partitions, ownership, windows, ports,
motion, doors, bindings, power, matrix, wrap. Each check is none where it passes, else the refusal: status and reply items. -/
namespace Sys2Proof.Machine

/-- The first refusal of a list of checks. -/
def firstBad (l : List (Option Bad)) : Option Bad := l.findSome? id

/-- A check that refuses with a status where a condition holds. -/
def badIf (b : Bool) (st : Nat) : Option Bad := if b then some (st, []) else none

/-! ### Partitions (R44, R168 to R170, R181, R205, R518) -/

/-- Some bit stands in two of the masks, one a partition. -/
def masksMeet (f : Nat → Nat) : Bool := (pairsIn (List.range 8)).any (fun e => (f e.1 &&& f e.2) != 0)

/-- A partition without engines owns points beside its stop request point, queues, tasks or alarms (NO_ENGINES). -/
def Mach.idleOwner (m : Mach) (p : Nat) : Bool :=
  !m.used p && (decide (1 < m.obj F.partPOINTS_OWNED p) || m.obj F.partQUEUES p != 0 ||
    ((m.cfg.map (·.tasks)).getD []).any (fun t => m.obj F.taskPARTITION t.task == p) ||
    (m.listed F.alarmOWNER []).any (fun a => m.obj F.alarmOWNER a == p))

/-- Instance regions: whole pages below the spill areas, disjoint (R170). -/
def Mach.regionsBad (m : Mach) : Bool :=
  let reg := fun (p : Nat) => (m.obj F.partINST_BASE p, m.obj F.partINST_SIZE p)
  (List.range 8).any (fun p => (reg p).1 % 4096 != 0 || (reg p).2 % 4096 != 0 || decide (49807360 < (reg p).1 + (reg p).2)) ||
  (pairsIn (List.range 8)).any (fun e => decide ((reg e.1).1 < (reg e.2).1 + (reg e.2).2 ∧ (reg e.2).1 < (reg e.1).1 + (reg e.1).2))

/-- The checks of the partition and cycle objects. -/
def Mach.partsBad (m : Mach) : Option Bad :=
  firstBad [badIf (masksMeet (fun p => m.obj F.partCE_SET p)) stBAD_PARAMETER,
    badIf ((List.range 8).any m.idleOwner) 0x1202,
    badIf (masksMeet (fun p => m.obj F.partQUEUES p) || (List.range 8).any (fun p => bit (m.obj F.partQUEUES p) 0)) stBAD_PARAMETER,
    badIf m.regionsBad stBAD_PARAMETER,
    badIf (decide (12288 < ((List.range 8).map (fun p => m.obj F.partREC_QUOTA p)).sum) ||
      m.usedParts.any (fun p => decide (m.obj F.partREC_QUOTA p < 64))) stBAD_PARAMETER,
    badIf ((List.range 8).any (fun p => decide (1 ≤ m.obj F.partCMD_CREDITS p ∧ m.obj F.partCMD_CREDITS p ≤ 15))) stBAD_PARAMETER,
    badIf ((List.range 8).any (fun p => m.obj F.cycMARGIN_NS p != 0 && decide (m.obj F.cycMARGIN_NS p < m.marginMin p))) stBAD_PARAMETER]

/-! ### Instance records (R123 to R125, R542) -/

/-- Bytes of retained records, each its own. -/
def retainedBytes (k : Pkg) : Nat :=
  ((k.insts.filter (·.retain)).map (fun i => (ownOffs (k.insts.filter (fun j => j.partition == i.partition)) i).length)).sum

/-- A task without its root record, or a call that names no record of its block. -/
def Mach.recordMissing (m : Mach) (k : Pkg) : Bool :=
  let is := fun (p : Nat) (d : Desc) => (unitAt k p d.base).any (fun i => fld i.bytes 0 4 == d.block)
  k.tasks.any (fun t => !is (m.obj F.taskPARTITION t.task) ⟨0, 0, t.root⟩) || (List.range 8).any (fun p => (m.partDescs k p).any (fun d => !is p d))

/-- The checks of the records. -/
def Mach.recordsBad (m : Mach) (k : Pkg) : Option Bad :=
  firstBad [badIf (k.insts.any (fun i => decide (7 < i.partition))) stBAD_PARAMETER,
    badIf (k.insts.any (fun i => decide (m.obj F.partINST_SIZE i.partition < i.offset + i.bytes.length))) stNO_RESOURCE,
    badIf (k.insts.any (recBad k) || m.recordMissing { k with tasks := k.tasks.filter (fun t => decide (m.obj F.taskPARTITION t.task ≤ 7)) })
      stBAD_PARAMETER,
    badIf (decide (8388608 < retainedBytes k)) stNO_RESOURCE,
    badIf (decide (256 < k.tasks.length) || (List.range 8).any (fun p => decide (32 < (m.tasksOf k p).length))) stNO_RESOURCE]

/-! ### Ownership (R169, R172, R173, R175, R24) -/

/-- Slots of the local objects that have more than one slot: first slot, number (R288, R316, R323, R335, R348, R350, R375). -/
def localObjects : List (Nat × Nat) :=
  (List.range 32).map (fun n => (0x00100 + 6 * n, 6)) ++ (List.range 8).map (fun n => (0x00200 + 8 * n, 5)) ++
  (List.range 8).map (fun n => (0x00300 + 16 * n, 16)) ++ (List.range 8).map (fun n => (0x00380 + 8 * n, 8)) ++
  (List.range 16).map (fun n => (0x00400 + 32 * n, 20)) ++ (List.range 256).map (fun n => (0x00600 + 8 * n, 8))

/-- The 24 slots of a gear group, in two runs (R350). -/
def groupSlots (g : Nat) : List Nat :=
  (List.range 12).map (fun i => 0x00400 + 64 * g + 20 + i) ++ (List.range 12).map (fun i => 0x00400 + 64 * g + 52 + i)

/-- Slots belong to one partition with the kinds their map gives, or to none. -/
def Mach.oneOwner (m : Mach) (r : Ram) (pts : List Nat) (kindOf : Nat → Option Nat) : Bool :=
  let live := pts.filter (fun pt => (kindOf pt).isSome)
  match live with
  | [] => true
  | a :: _ =>
    let e := m.ownEnt r a
    live.all (fun pt =>
      let x := m.ownEnt r pt
      entValid x == entValid e && (!entValid x || (some (entKind x) == kindOf pt && entOwner x == entOwner e)))

/-- Slots of a point by its WIDTH. -/
def entSlots (e : Nat) : Nat := if field e 23 22 = 1 then 2 else if field e 23 22 = 2 then 4 else 1

/-- A wide point is whole: the same partition, KIND and WIDTH, aligned under R8. -/
def Mach.wideOk (m : Mach) (r : Ram) (pt : Nat) : Bool :=
  let e := m.ownEnt r pt
  let n := entSlots e
  if !entValid e then true
  else
    let a := pt - pt % n
    let h := m.ownEnt r a
    bit e 21 == (pt != a) && entValid h && field h 23 22 == field e 23 22 && entOwner h == entOwner e && entKind h == entKind e &&
    (List.range n).all (fun i => let x := m.ownEnt r (a + i); entValid x && field x 23 22 == field e 23 22 && entOwner x == entOwner e && entKind x == entKind e)

/-- A part of the point space in which internal points can stand: trunk and segment ranges (R47, R250, R260). -/
def farRange (pt : Nat) : Bool := (decide (0x01000 ≤ pt) && decide (pt < 0x10000)) || decide (0x10000 ≤ pt)

/-- An entry of a slot that the system, the island or a partition's stop request has, or a KIND of theirs elsewhere (R172). -/
def keptBad (pt e : Nat) : Bool :=
  match fixedEntry pt with
  | some f => !(entValid e && entKind e == entKind f && entOwner e == entOwner f)
  | none => entValid e && decide (4 ≤ entKind e ∧ entKind e ≤ 6)

/-- An entry's own form: a defined KIND, WIDTH and FALLBACK, no reserved bit, the KIND its map gives a local slot (R171, R622); a wide point's
lowest slot at a multiple of its slots (R8). -/
def entryBad (pt e : Nat) : Bool :=
  decide (0xFFFFF < pt) || (entValid e && (entKind e == 7 || field e 23 22 == 3 || entFallback e == 3 || bit e 0 || field e 17 16 != 0 ||
    (!bit e 21 && pt % entSlots e != 0) || (decide (entKind e ≤ 3) && !farRange pt && localKind pt != some (entKind e))))

/-- Slots some window of a place or node binds, with the KIND it gives them. -/
def Mach.winKind (m : Mach) (wins : List (Nat × Nat × Nat)) (pt : Nat) : Option Nat :=
  let _ := m
  (wins.find? (fun w => decide (w.1 ≤ pt ∧ pt < w.1 + w.2.1))).map (·.2.2)

/-- SPLIT_OBJECT (R172). -/
def Mach.splitBad (m : Mach) (r : Ram) (k : Pkg) : Bool :=
  k.own.any (fun x => keptBad x.1 x.2) ||
  localObjects.any (fun o => !m.oneOwner r ((List.range o.2).map (o.1 + ·)) localKind) ||
  (List.range 8).any (fun g => !m.oneOwner r (groupSlots g) localKind) ||
  (List.range 1024).any (fun n => let w := liveWins (m.placeWins n)
    !m.oneOwner r (w.flatMap (fun x => (List.range x.2.1).map (x.1 + ·))) (m.winKind w)) ||
  (List.range 512).any (fun n => let w := liveWins (m.nodeWins n)
    !m.oneOwner r (w.flatMap (fun x => (List.range x.2.1).map (x.1 + ·))) (m.winKind w)) ||
  (List.range 8).any (fun s => (List.range 24).any (fun g =>
    decide (1 < (((nodesOf s).filter (fun n => m.obj F.nodeGROUP n == g && m.obj F.nodeOUT_SLOTS n != 0)).map (fun n => m.obj F.nodePARTITION n)).eraseDups.length))) ||
  k.own.any (fun x => !m.wideOk r x.1 || (entKind x.2 == 3 && entValid x.2 &&
    !k.subs.any (fun l => l.reader == entOwner x.2 && l.places.any (fun y => y.2 == x.1)))) ||
  k.subs.any (fun l => l.places.any (fun y => let e := m.ownEnt r y.2; !(owns e l.reader && entKind e == 3)))

/-- Slots of objects with a fallback of their own carry FALLBACK 0 (R173): axes, gear groups, doors, channels an LSTART drives. -/
def Mach.fallbackBad (m : Mach) (r : Ram) (k : Pkg) (bound : List (Nat × Nat)) : Bool :=
  k.own.any (fun x => entFallback (m.ownEnt r x.1) != 0 &&
    ((decide (0x00400 ≤ x.1) && decide (x.1 < 0x00E00)) ||
     (decide (0x00100 ≤ x.1) && decide (x.1 < 0x001C0) && bound.contains (0x70, (x.1 - 0x00100) / 6))))

/-- The objects the blocks of a program bind (R145). -/
def Mach.boundObjs (m : Mach) (k : Pkg) : List (Nat × Nat) :=
  let called := m.calledBound k
  ((called ++ looseUnits k called).map (fun x => boundObj k x.1 x.2)).eraseDups

/-- The checks of the ownership table and the publication lists. DEDUCED, log 33. -/
def Mach.ownBad (m : Mach) (r : Ram) (k : Pkg) : Option Bad :=
  firstBad [badIf (k.own.any (fun x => entryBad x.1 x.2)) stBAD_PARAMETER,
    badIf (m.splitBad r k) 0x1203,
    badIf (m.fallbackBad r k (m.boundObjs k)) stBAD_PARAMETER,
    badIf ((List.range 8).any (fun p => decide (65536 < m.obj F.partXP_READ p)) ||
      decide (65536 < (k.pubs.map (fun l => l.2.length)).sum) || decide (262144 < (k.subs.map (fun l => l.places.length)).sum)) stNO_RESOURCE,
    badIf (k.pubs.any (fun l => l.2.any (fun pt => !owns (m.ownEnt r pt) l.1))) stBAD_PARAMETER]

/-! ### Trunks and segments (R226, R236, R250, R253, R260, R471) -/

/-- A window lies in a range of points. -/
def winIn (lo n : Nat) (w : Nat × Nat × Nat) : Bool := decide (lo ≤ w.1) && decide (w.1 + w.2.1 ≤ lo + n)

/-- Some two windows of a list meet. -/
def winsMeet : List (Nat × Nat × Nat) → Bool
  | [] => false
  | a :: r => r.any (fun b => decide (a.1 < b.1 + b.2.1) && decide (b.1 < a.1 + a.2.1)) || winsMeet r

/-- Places and nodes that have a window. -/
def Mach.placesOn (m : Mach) : List Nat := (List.range 1024).filter (fun n => liveWins (m.placeWins n) != [])
def Mach.nodesOn (m : Mach) : List Nat := (List.range 512).filter (fun n => n % 64 != 0 && liveWins (m.nodeWins n) != [])

/-- A group is 1 to 16 consecutive places of one partition from its first (R236). -/
def Mach.groupBad (m : Mach) (t g : Nat) (ns : List Nat) : Bool :=
  let ps := ns.map (fun n => n % 256)
  decide (16 < ns.length) || ps != (List.range ns.length).map (g + ·) ||
  decide (1 < (ns.map (fun n => m.obj F.placePARTITION n)).eraseDups.length) || decide (256 ≤ g) || decide (3 < t)

/-- The checks of the windows, groups, topologies and EtherTypes. -/
def Mach.fieldBad (m : Mach) : Option Bad :=
  let pl := m.placesOn
  let nd := m.nodesOn
  let groups := fun (t : Nat) =>
    let ns := pl.filter (fun n => n / 256 == t)
    (ns.map (fun n => m.obj F.placeGROUP_FIRST n)).eraseDups.map (fun g => (g, ns.filter (fun n => m.obj F.placeGROUP_FIRST n == g)))
  badIf (pl.any (fun n => (liveWins (m.placeWins n)).any (fun w => !winIn (0x10000 + n / 256 * 0x3C000) 0x3C000 w)) ||
    nd.any (fun n => (liveWins (m.nodeWins n)).any (fun w => !winIn (0x01000 + n / 64 * 0x1E00) 0x1E00 w)) ||
    winsMeet (pl.flatMap (fun n => liveWins (m.placeWins n)) ++ nd.flatMap (fun n => liveWins (m.nodeWins n))) ||
    (List.range 4).any (fun t => (groups t).any (fun g => m.groupBad t g.1 g.2)) ||
    (List.range 4).any (fun t => (m.obj F.trunkTOPOLOGY t == 2 && m.obj F.pairROLE_HOME == 0) ||
      (m.obj F.pairROLE_HOME != 0 && m.obj F.trunkTOPOLOGY t != 2 && m.redunds.any (fun p => m.trunkPlaces t p != []))) ||
    (List.range 4).any (fun t => let e := m.obj F.trunkETHERTYPE t
      decide (e < 0x0600) || e == 0x88F7 || e == m.obj F.modPUB_ETHERTYPE)) stBAD_PARAMETER

/-! ### Ports and motion (R2, R322, R330, R351, R352, R356, R359, R363, R386) -/

/-- Settings of an absolute sensor that its frame cannot have (R331, R332, R343). -/
def Mach.sensorBad (m : Mach) (n : Nat) : Bool :=
  let clk := m.obj F.epSENS_CLK_KHZ n
  let w := m.obj F.epPOS_WIDTH n
  decide (5 ≤ m.obj F.epMODE n) && (decide (clk < 100) || decide ((if m.obj F.epMODE n = 5 then 4000 else 10000) < clk) ||
    (m.obj F.epMODE n == 5 && decide (m.obj F.epSENS_BITS n < m.obj F.epPOS_SHIFT n + w)))

/-- The checks of the feedback ports. -/
def Mach.portsBad (m : Mach) (r : Ram) : Option Bad :=
  firstBad [badIf ((List.range 8).any (fun n => decide (6 < m.obj F.epMODE n) || (decide (5 ≤ m.obj F.epMODE n) && m.obj F.epELECTRICAL n != 0))) 0x1804,
    badIf ((List.range 8).any m.sensorBad) stBAD_PARAMETER,
    badIf ((List.range 8).any (fun n => decide (5 ≤ m.obj F.epMODE n) &&
      (m.epOwner r n).any (fun p => m.period p % m.readInterval n != 0))) 0x1805]

/-- An axis's profile or drive cannot be (R351, R352, R359). -/
def Mach.axisBad (m : Mach) (r : Ram) (n : Nat) : Bool :=
  let v := fun (f : Fld) => m.obj f n
  let hi := m.rateMax n
  decide (hi < v F.axVS) || decide (hi < v F.axVE) || decide (hi < v F.axV1) || decide (hi < v F.axV_DEFAULT) ||
  decide (v F.axV_DEFAULT < v F.axVS) || decide (v F.axV_DEFAULT < v F.axVE) ||
  [F.axA1, F.axA2, F.axD1, F.axD2, F.axDQ].any (fun f => v f == 0) || decide (v F.axDQ < v F.axD1) || decide (v F.axDQ < v F.axD2) ||
  decide (sint 64 (v F.axPOS_MAX) ≤ sint 64 (v F.axPOS_MIN)) || (v F.axDRIVE == 2 && decide (4 ≤ n)) ||
  (m.bldc n && (let fb := v F.axFB_PORT; decide (8 ≤ fb) || m.obj F.epMODE fb != 2 || m.epOwner r fb != m.axOwner r n))

/-- The drive axes of doors. -/
def Mach.doorAxes (m : Mach) : List Nat := (m.doorsOn.filter (fun d => m.obj F.doorDRIVE_KIND d == 1)).map (fun d => m.obj F.doorDRIVE d)

/-- The checks of axes, stages and gear groups. -/
def Mach.motionBad (m : Mach) (r : Ram) : Option Bad :=
  let gs := (List.range 8).filter (fun g => m.obj F.ggMASTER g != 0xFF)
  firstBad [badIf (!m.isM4 && ((List.range 16).any (fun n => m.obj F.axDRIVE n == 2) || (List.range 4).any (fun k => m.obj F.msSTAGE_MODE k != 0 &&
      !(m.obj F.axDRIVE k != 2)))) stNO_RESOURCE,
    badIf ((List.range 16).any (m.axisBad r)) 0x1905,
    badIf (gs.any (fun g => m.obj F.ggMEMBERS g == 0 || (bitsOf 16 (m.obj F.ggMEMBERS g)).any (fun a => m.obj F.axDRIVE a == 0)) ||
      (pairsIn gs).any (fun e => (m.obj F.ggMEMBERS e.1 &&& m.obj F.ggMEMBERS e.2) != 0)) 0x1905,
    badIf (gs.any (fun g => (bitsOf 16 (m.obj F.ggMEMBERS g)).any m.doorAxes.contains)) 0x1311]

/-! ### Doors and bindings (R377, R378, R385, R386, R391, R393) -/

/-- The load channels a door claims: its drive channels and outputs (R378). -/
def Mach.doorChans (m : Mach) (d : Nat) : List Nat :=
  ((if m.obj F.doorDRIVE_KIND d = 2 then [m.obj F.doorDRIVE d, m.obj F.doorCLOSE_LC d] else []) ++
   [m.obj F.doorOUT0 d, m.obj F.doorOUT1 d, m.obj F.doorOUT2 d, m.obj F.doorOUT3 d]).filter (· != 0xFF)

/-- The inputs a door names. -/
def Mach.doorDins (m : Mach) (d : Nat) : List Nat := ((List.range 8).map (fun i => m.obj ⟨0x0A01, 8 + i, 32⟩ d)).filter (· != 0xFFFFFFFF)

/-- Two of a list are equal. -/
def repeats : List Nat → Bool
  | [] => false
  | a :: r => r.contains a || repeats r

/-- The checks of the doors. DEDUCED, log 33. -/
def Mach.doorsBad (m : Mach) (r : Ram) : Option Bad :=
  let ds := m.doorsOn
  firstBad [badIf (ds.any (fun d => match m.doorOwner r d with
      | some p => (m.doorDins d).any (fun x => decide (2 ^ 25 ≤ x) || !mayRead (m.ownEnt r (x % 2 ^ 20)) p)
      | none => false)) 0x130D,
    badIf (ds.any (fun d => (m.doorOwner r d).isSome && ((m.doorChans d).any (fun n => decide (31 < n) || m.lcOwner r n != m.doorOwner r d) ||
      (m.obj F.doorDRIVE_KIND d == 1 && m.axOwner r (m.obj F.doorDRIVE d) != m.doorOwner r d)))) 0x130D,
    badIf (repeats (ds.flatMap m.doorChans) || repeats m.doorAxes) 0x1311,
    badIf (ds.any (fun d => m.boardMisfits (m.board (m.obj F.doorSTORYBOARD d)) d ||
      (m.obj F.doorDRIVE_KIND d == 1 && (decide (15 < m.obj F.doorDRIVE d) || m.obj F.axDRIVE (m.obj F.doorDRIVE d) == 0 ||
        (bit (m.obj F.doorOBST_METHODS d) 0 && m.obj F.axDRIVE (m.obj F.doorDRIVE d) == 1))))) 0x1905]

/-- What a binding acts on: KIND and target. -/
def Mach.bindTarget (m : Mach) (b : Nat) : Nat × Nat :=
  (m.obj F.bindKIND b, if m.obj F.bindKIND b = 4 then m.obj F.bindPOINT b % 2 ^ 20 else m.obj F.bindINDEX b)

/-- A binding of R393. -/
def Mach.bindFault (m : Mach) (r : Ram) (k : Option Pkg) (b : Nat) : Bool :=
  let x := m.bindTarget b
  let d := m.obj F.bindDOOR b
  (x.1 == 1 && m.obj F.doorDRIVE_KIND d == 1 && m.obj F.doorDRIVE d == x.2) || (x.1 == 3 && (m.doorChans d).contains x.2) ||
  (x.1 == 4 && (let e := m.ownEnt r x.2
    !(entValid e && farRange x.2 && (entKind e == 1 || (entKind e == 2 && ((k.map (·.pubs)).getD []).any (fun l => l.2.contains x.2)))))) ||
  (x.1 == 1 && decide (15 < x.2)) || (x.1 == 2 && decide (7 < x.2)) || (x.1 == 3 && decide (31 < x.2)) ||
  m.bindsOn.any (fun c => decide (c < b) && m.obj F.bindDOOR c == d && m.bindTarget c == x)

/-- BINDING_CONFLICT (R393). -/
def Mach.bindsBad (m : Mach) (r : Ram) : Option Bad := badIf (m.bindsOn.any (m.bindFault r m.cfg)) 0x1A04

/-- PERMIT in the ownership entry of every permit point (R393). -/
def Mach.permitWs (m : Mach) (r : Ram) : List W :=
  (m.bindsOn.filter (fun b => m.obj F.bindKIND b == 4)).map (fun b =>
    let pt := m.obj F.bindPOINT b % 2 ^ 20
    .put .own pt (setBit (rd r .own pt) 18 true))

/-! ### Power (R407) -/

/-- Highest charge of a channel's profile. -/
def Mach.lcPeak (m : Mach) (n : Nat) : Nat :=
  ((m.profSegs (m.obj F.lcPROFILE n)).map (fun g => min (g.2 * m.obj F.lcILIM_MA n / 16) (hwPeak n))).foldl max 0

/-- End of a channel's profile, µs. -/
def Mach.lcEnd (m : Mach) (n : Nat) : Nat := ((m.profSegs (m.obj F.lcPROFILE n)).map (·.1)).foldl max 0

/-- POWER_CONFIG (R407): a channel that could never be admitted. DEDUCED, log 33. -/
def Mach.powerBad (m : Mach) (r : Ram) : Option Bad :=
  badIf ((List.range 32).any (fun n => (m.lcOwner r n).isSome && decide (m.obj F.railPEAK_MA (railOf n) < m.lcPeak n)) ||
    (List.range 2).any (fun x => decide (m.obj F.railPEAK_MA x < m.obj F.railBUDGET_MA x))) 0x1B01

/-- PRIO of a channel's starts, as the loader knows it: that its LSTART record starts with, or PRIO_DEFAULT (R404, R407). -/
def Mach.startPrio (m : Mach) (n : Nat) : Nat :=
  match (m.cfg.map (fun k => k.insts)).bind (fun l => l.find? (fun i => fld i.bytes 0 4 == 0x70 && fld i.bytes 24 1 == n)) with
  | some i => fld i.bytes 25 1
  | none => m.obj F.chanPRIO_DEFAULT n

/-- WAIT_BOUND_US of a channel (R407). -/
def Mach.waitBound (m : Mach) (r : Ram) (n : Nat) : Nat :=
  let ns := (chansOf (railOf n)).filter (fun j => (m.lcOwner r j).isSome)
  let per := fun (j : Nat) => ((m.lcOwner r j).map m.period).getD 0
  let run := (ns.map m.runMa).sum
  let over_ := (ns.map (fun j => m.lcPeak j - m.runMa j)).foldl max 0
  let hs := ns.filter (fun j => j != n && decide (m.startPrio j ≤ m.startPrio n))
  if m.obj F.railBUDGET_MA (railOf n) < run ∨ m.obj F.railPEAK_MA (railOf n) < run + over_ then 0xFFFFFFFF
  else min 0xFFFFFFFF ((ns.map m.lcEnd).foldl max 0 + (hs.map (fun j => m.lcEnd j + cdiv (per j) 1000)).sum + cdiv (per n) 1000)

/-- The loader's figures of the power manager. -/
def Mach.powerFields (m : Mach) (r : Ram) : Mach :=
  m.each (List.range 32) (fun m n => m.setObj F.chanWAIT_BOUND_US n (m.waitBound r n))

/-! ### The matrix (R17, R427) -/

/-- The first effect R427 refuses. -/
def Mach.matrixFault (m : Mach) (r : Ram) (x : Matrix) : Option Nat :=
  let whole := fun (pt : Nat) => x.effects.any (fun f => enB f.2 0 == 1 && enW f.2 4 % 2 ^ 20 == pt && enH f.2 8 == 0xFFFF)
  (x.effects.find? (fun f =>
    let b := f.2
    let pt := enW b 4 % 2 ^ 20
    let e := m.ownEnt r pt
    let n := (x.inters.filter (fun i => i.2 == f.1)).length
    enB b 0 != 0 && (decide (3 < enB b 0) || enB b 1 == 0 || decide (n < enB b 1) || decide (60000 < enH b 12) ||
      (enB b 0 == 1 && (!entValid e || entKind e != 1 || field e 23 22 != 0 || (decide (0x00600 ≤ pt) && decide (pt < 0x01000)) || (enH b 8 != 0xFFFF && whole pt))) ||
      (enB b 0 == 2 && decide (15 < enW b 4)) || (enB b 0 == 3 && decide (7 < enW b 4))))).map (·.1)

/-- CE_INVALID (R427), with the entry. DEDUCED, log 33. -/
def Mach.matrixBad (m : Mach) (r : Ram) (x : Matrix) : Option Bad := (m.matrixFault r x).map (fun e => (0x1B03, [itm 2 4 e]))

/-- More causes, effects or intersections than the module has (R21). -/
def matrixTooBig (x : Matrix) : Bool :=
  decide (262144 < x.inters.length) || x.causes.any (fun e => decide (4096 ≤ e.1)) || x.effects.any (fun e => decide (4096 ≤ e.1)) ||
  decide (4096 < x.causes.length) || decide (4096 < x.effects.length)

/-- Number of intersections of each effect (R433). -/
def Mach.matrixFields (m : Mach) : Mach :=
  let m := m.each (m.listed F.effINTERSECTIONS []) (fun m e => m.setObj F.effINTERSECTIONS e 0)
  m.each m.matrix.effects (fun m f => m.setObj F.effINTERSECTIONS f.1 (min 255 (m.matrix.inters.filter (fun i => i.2 == f.1)).length))

/-! ### Objects whose fields a write or a load has changed -/

/-- What a unit does with a field that has changed: ports restart on MODE and CPR (R327), segments take up their mode (R256), an axis
loses its reference with its drive (R369), a door its learned profile (R397), a channel its off-state result with OL_DETECT (R300), a port
its link with MACSEC_MODE and KEY_SOURCE (R562). -/
def Mach.fieldHook (m : Mach) (cls i f : Nat) : Mach :=
  if cls = 0x0801 ∧ (f = 0 ∨ f = 8) then m.epRestart i
  else if cls = 0x0601 ∧ f = 0 then m.segStart i
  else if cls = 0x0901 ∧ f = 0 then
    (m.updAx i (fun x => { x with
      pos := 0
      plan := []
      goal := none
      kind := 0
      refLost := true })).axSync i
  else if cls = 0x0A01 ∧ (f ≤ 4 ∨ f = 6) then m.setObj F.doorPROFILE_VALID i 0
  else if cls = 0x0F03 then m.macStart i
  else if cls = 0x0701 ∧ f = 2 then m.updLc i (fun x => { x with diag := 0 })
  else m

/-- The checks that hold of every configuration, with a program or without one. -/
def Mach.objectsBad (m : Mach) (r : Ram) : Option Bad :=
  firstBad [badIf (matrixTooBig m.matrix) stNO_RESOURCE, m.partsBad, m.fieldBad, m.portsBad r, m.motionBad r, m.doorsBad r, m.bindsBad r, m.powerBad r, m.matrixBad r m.matrix,
    badIf (decide (19200 < m.wrapMj)) 0x1B06]

end Sys2Proof.Machine
end

