-- ==== Sys2Proof/Machine/Loader.lean ====
section
/-! DEFINITION. Configuration loads and online changes (R588, R122, R163 to R167), the cause-and-effect matrix (R431). The loader works on a
machine in which the package stands; a check that fails gives that machine up. -/
namespace Sys2Proof.Machine

/-! ### A package in the machine -/

/-- Classes whose fields no configuration carries: identity, security, service. -/
def notConfig (c : Nat) : Bool := c == 0x0001 || c / 256 == 0x0F || c / 256 == 0x10

/-- A value a field's row allows (R5). -/
def rngOk (d : FieldDef) (v : Nat) : Bool := decide (v < 2 ^ (d.hi + 1 - d.lo)) && (d.rng.isEmpty || d.rng.any (fun x => decide (x.1 ≤ v ∧ v ≤ x.2)))

/-- A field value of a package that cannot stand: unknown, not kept in non-volatile memory, out of range. DEDUCED, log 33. -/
def pkgFieldBad (o : Nat × Nat × Nat × Nat) : Bool :=
  notConfig o.1 ||
  (match classOf o.1, fieldOf o.1 o.2.2.1 with
   | some c, some d => d.acc != .rw || !d.nv || decide (c.insts ≤ o.2.1) || !rngOk d o.2.2.2
   | _, _ => true)

/-- A field of a package as a field of the table. -/
def pkgFld (o : Nat × Nat × Nat × Nat) : Fld := ⟨o.1, o.2.2.1, ((fieldOf o.1 o.2.2.1).map (fun d => d.hi + 1 - d.lo)).getD 0⟩

/-- The machine with a package's fields and tables in it, read-only fields derived; the writes that fill the ownership table and presets. -/
def Mach.withPkg (m : Mach) (r : Ram) (k : Pkg) (full : Bool) : Mach × List W :=
  let m := m.settlePools.each k.objs (fun m o => m.setObj (pkgFld o) o.2.1 o.2.2.2)
  let m := { m with
    cfg := some k
    boards := k.boards
    plans := [] }
  let m := m.when full (fun m => { m with
    matrix := ⟨k.causes, k.effects, k.inters⟩
    matrixOld := {}
    matrixWait := 0 })
  let m := (m.setObj F.modeSTANDING 0 0).setObj F.pairPROGRAM_ID 0 k.programId
  let ws := pkgWs k
  let ws := ws ++ m.permitWs (wr r ws)
  (m.derive (wr r ws), ws)

/-! ### The loader's checks -/

/-- Fence plans of every partition (R93); code copies where the banks have room for them. -/
def Mach.allPlans (m : Mach) (r : Ram) (k : Pkg) (may : List (Nat × Nat) → Nat → Nat → Bool) : List (Nat × FencePlan) :=
  m.usedParts.flatMap (fun p => (m.plansFor k p (m.budgetHolds r p) may).map (fun x => (p, x)))

/-- Objects of the M4 variant alone in a package (R2): stepper and brushless motors, rail FM. -/
def onlyM4 (o : Nat × Nat × Nat × Nat) : Bool := o.1 == 0x0903 || (o.1 == 0x0B01 && o.2.1 == 2)

/-- Every check of a program with its configuration, then the loader's figures: the refusal, or the machine with plans, code placed at an
end of the banks, and figures. -/
def Mach.loaderCheck (m : Mach) (r : Ram) (k : Pkg) (top : Bool) : Except Bad Mach :=
  let first := firstBad [badIf (k.objs.any pkgFieldBad) stBAD_PARAMETER,
    badIf (!m.isM4 && k.objs.any onlyM4) stNO_RESOURCE,
    m.objectsBad r, m.recordsBad k, m.ownBad r k,
    m.programBad r k (m.doorsOn.flatMap m.doorChans) m.doorAxes,
    m.sheetBad k,
    m.looseBad r k,
    badIf (m.takeRateBad r) 0x1D03]
  match first with
  | some b => .error b
  | none =>
    match m.budgetCheck r with
    | .error b => .error b
    | .ok m =>
      match m.scheduleCheck r with
      | .error b => .error b
      | .ok m =>
        let m := (({ m with plans := m.allPlans r k (m.mayCopy k) }.withSheet k top).sheetsOf k)
        .ok ((((m.powerFields r).matrixFields).wrapFields).setObj F.modeRETAIN_BYTES 0 (retainedBytes k))

/-- The writes that fill the banks of a machine whose sheet is made. -/
def Mach.codeWs (m : Mach) (k : Pkg) : List W := .clear .bank :: banksWs (m.banks k m.sheet.top)

/-- The number of bytes staged of the open load, and what a commit answers where it is not ready (R588). -/
def Mach.loadNotReady (m : Mach) (kind : Nat) : Option Nat :=
  match m.svc.load with
  | none => some 0x1313
  | some (k, size, data, _, _) =>
    if k ≠ kind then some stBAD_PARAMETER
    else if data.length < size then some 0x1314
    else none

/-- The partner is sent a package over PAIR (R481, R499). -/
def Mach.sendPkg (m : Mach) (k : Pkg) (change : Bool) : Mach :=
  if m.obj F.pairROLE_HOME = 0 then m
  else m.emit ⟨20, 4, 0, change.toNat :: toBe 4 k.programId⟩

/-- Configuration in force: its record. -/
def Mach.configSaid (m : Mach) (k : Pkg) (change : Bool) : Mach :=
  m.chron { sub := 0x10, low := 0x04, cause := change.toNat, detail := toLe 4 k.programId }

/-! ### A full load (R588) -/

/-- Image spaces: they start empty under a new configuration. -/
def imageSpaces : List Space := [.back, .backQ, .front, .frontQ, .work, .pub, .pubQ, .next, .nextQ, .applied, .comm, .hold, .cross, .crossQ, .inst,
  .seen, .seenQ]

/-- The plan of the engines fenced in a partition is latched for its next Solve (R94). -/
def Mach.latchPlan (m : Mach) (p : Nat) : Mach :=
  m.when (m.fencedOf p != 0) (fun m => m.updPart p (fun x => { x with latched := some (m.fencedOf p) }))

/-- A partition's sequencer under a new configuration: its start count stays (R57), and what its fenced engines ask for. -/
def Mach.freshPart (m : Mach) (p : Nat) : Mach :=
  let m := m.setObj F.partSTATE p 0
  { m with parts := uset {} m.parts p (fun x => { startCount := x.startCount, clapAt := x.clapAt, clapped := x.clapped, lastLen := x.lastLen, plan := x.plan }) }
    |>.latchPlan p

/-- A full load takes effect: every record initialised, images empty, sequencers fresh, changed units restarted. -/
def Mach.adopt (old m : Mach) (r : Ram) (ws : List W) (k : Pkg) : Mach × List W :=
  let m := m.each (List.range 8) Mach.freshPart
  let m := { m with
    subs := []
    effs := [] }
  let m := m.each (k.objs.filter (fun o => old.obj (pkgFld o) o.2.1 != o.2.2.2)) (fun m o => m.fieldHook o.1 o.2.1 o.2.2.1)
  let ws := ws ++ m.codeWs k ++ imageSpaces.map W.clear ++ m.restWs ++ k.insts.flatMap m.initWs
  let m := m.doorsInit (wr r ws)
  let m := m.updSys (fun x => { x with
    restored := 0
    change := none
    changeAsk := none })
  ((m.configSaid k false).sendPkg k false, ws)

/-- The effect of LOAD_COMMIT (R588): every loader check on the package; a refusal leaves everything, with the load open. DEDUCED, log 33. -/
def loadCommit (k : Pkg) (_ : Cmd) (r : Ram) (m : Mach) : Res :=
  match m.loadNotReady 0 with
  | some st => Res.fail m st
  | none =>
    let x := m.withPkg r k true
    match x.1.loaderCheck (wr r x.2) k false with
    | .error b => Res.fail m b.1 b.2
    | .ok m' =>
      let y := m.adopt (m'.updSvc (fun v => { v with load := none })) r x.2 k
      Res.done y.1 [itm 1 4 k.programId] y.2

/-- The card of LOAD_COMMIT. -/
def loadCommitCard : Card :=
  { op := 0x0312, bulk := true, modes := [0], sysOnly := true }

/-- LOAD_COMMIT (R588). DESIGN CHOICE, log 7. -/
def execLoadCommit (msg : Msg) (pkg : Pkg) (s : State) : Out :=
  zcp loadCommitCard (loadCommit pkg) msg s (.pkg pkg)

/-! ### Migration (R163 to R167) -/

/-- What becomes of a record: kept in place, copied whole, converted to its new layout, initialised. -/
inductive Carry
  | kept
  | copied (src : InstRec)
  | converted (src : InstRec)
  | fresh
deriving DecidableEq, Repr

/-- BLOCK_ID and VERSION of a record. -/
def InstRec.id (i : InstRec) : Nat := leNat (i.bytes.take 4)
def InstRec.ver (i : InstRec) : Nat := (i.bytes[8]?).getD 0

/-- A record of a native block. -/
def InstRec.native (i : InstRec) : Bool := InstRec.id i != 0 && !composed (InstRec.id i)

/-- The object a record of a bound block names. -/
def unitObj (i : InstRec) : Option (Nat × Nat) :=
  if binds (InstRec.id i) then some (InstRec.id i, if InstRec.id i = 0x60 then leNat ((i.bytes.drop 24).take 2) else (i.bytes[24]?).getD 0) else none

/-- The record of the old program at a record's path. -/
def oldOf (old : List InstRec) (n : InstRec) : Option InstRec := old.find? (fun o => o.partition == n.partition && o.path == n.path)

/-- Treatment of a record of the new program (R163). A task's root holds what its task adds or loses at its end; a native record of one
VERSION and another size is initialised. DEDUCED, log 37. -/
def carryOf (old : List InstRec) (n : InstRec) : Carry :=
  match oldOf old n with
  | none => .fresh
  | some o =>
    let same := InstRec.ver o == InstRec.ver n && o.fields == n.fields && (InstRec.id n == 0 || o.bytes.length == n.bytes.length)
    if InstRec.id o ≠ InstRec.id n ∨ unitObj o ≠ unitObj n then .fresh
    else if same then (if o.offset = n.offset then .kept else .copied o)
    else if InstRec.native n && InstRec.ver o == InstRec.ver n then .fresh
    else .converted o

/-- Bytes placed into a record. -/
def pasteAt (b : List Nat) (off : Nat) (v : List Nat) : List Nat := b.take off ++ v ++ b.drop (off + v.length)

/-- A field carried by name into a record's bytes: the same type copied, an integer widened with its signedness; another type leaves the
Init value. -/
def carryField (src b : List Nat) (o n : FieldDesc) : List Nat :=
  let v := (src.drop o.offset).take o.size
  if o.ty ≠ n.ty then b
  else if n.ty = 3 then pasteAt b n.offset [setBit ((b[n.offset]?).getD 0) n.bit (bit ((src[o.offset]?).getD 0) o.bit)]
  else if o.size = n.size then pasteAt b n.offset v
  else if o.ty < 2 ∧ o.size < n.size then
    pasteAt b n.offset (v ++ List.replicate (n.size - o.size) (if o.ty = 1 ∧ 128 ≤ v.getLastD 0 then 255 else 0))
  else b

/-- A record converted to its new layout (R163): header fields but REC_SIZE and VERSION carried. -/
def convertRec (o n : InstRec) (src : List Nat) : List Nat :=
  let init := (List.range n.bytes.length).map (initByte n)
  let body :=
    if InstRec.native n then (Config.convertBlock (InstRec.id n) (InstRec.ver o) (InstRec.ver n) src).take n.bytes.length
    else n.fields.foldl (fun b f => match o.fields.find? (fun g => g.name == f.name) with
      | some g => carryField src b g f
      | none => b) init
  pasteAt (body ++ init.drop body.length) 0 (n.bytes.take 9 ++ (src.drop 9).take 15)

/-- What becomes of a record, byte by byte of its own: from the bytes of its old one where it has one; none: the byte stays. -/
def carryByte (old : List InstRec) (n : InstRec) (src : InstRec → List Nat) (off : Nat) : Option Nat :=
  match carryOf old n with
  | .kept => if 4 ≤ off ∧ off < 8 then (n.bytes[off]?) else none
  | .copied o => some (if 4 ≤ off ∧ off < 8 then (n.bytes[off]?).getD 0 else ((src o)[off]?).getD 0)
  | .converted o => some (((convertRec o n (src o))[off]?).getD 0)
  | .fresh => some (initByte n off)

/-- The writes of a record's carrying over within a space: records of its partition, where each record stands. -/
def carryPut (sp : Space) (at_ : InstRec → Nat) (r : Ram) (old new : List InstRec) (n : InstRec) : List W :=
  let src := fun (o : InstRec) => rdN r sp (at_ o) o.bytes.length
  let part := new.filter (fun i => i.partition == n.partition)
  (ownOffs part n).filterMap (fun off => (carryByte old n src off).map (fun v => .put sp (at_ n + off) v))

/-- The writes of every record's carrying over, from the memories as they stand before the switch (R165). DEDUCED, log 37. -/
def Mach.carryWs (m : Mach) (r : Ram) (old new : List InstRec) : List W := new.flatMap (carryPut .inst m.recordAt r old new)

/-- Records of the old program whose path is not in the new one. -/
def droppedOf (old new : List InstRec) : List InstRec := old.filter (fun o => (oldOf new o).isNone)

/-- Records counted on their own: none they lie in is itself copied, converted or initialised. DEDUCED, log 37. -/
def outermost (old new : List InstRec) : List InstRec :=
  new.filter (fun n => !new.any (fun c => insideRec n c && carryOf old c != .kept))

/-- Bytes a change copies in a partition (R165 b_mig). -/
def migBytes (old new : List InstRec) (p : Nat) : Nat :=
  (((outermost old new).filter (fun n => n.partition == p && carryOf old n != .kept)).map (·.bytes.length)).sum

/-- t_mig in ns, rounded down (R165, R167's worked example). -/
def tMig (b : Nat) : Nat := 2000 + b * 10 / 64

/-- Objects bound by the records of one list and by none of another. DEDUCED, log 37. -/
def unbound (old new : List InstRec) : List (Nat × Nat) :=
  let keep := (new.filter (fun n => carryOf old n != .fresh)).filterMap unitObj
  (old.filterMap unitObj).filter (fun o => !keep.contains o)

/-- The fallback value of a slot (R173, R189). -/
def Mach.fallbackVal (m : Mach) (r : Ram) (p pt e : Nat) : Nat :=
  if entKind e = 6 then setH m.isl.set (352 + 2 * p)
  else if entFallback e = 1 then rd r .preset pt
  else if entFallback e = 2 then rd r .hold pt
  else 0

/-- Slots by which a bound block commands its object. -/
def boundSlots (o : Nat × Nat) : List Nat :=
  if o.1 = 0x40 then [0x00400 + 32 * o.2]
  else if o.1 = 0x41 then [0x00400 + 64 * o.2 + 20]
  else if o.1 = 0x50 then [0x00600 + 8 * o.2]
  else if o.1 = 0x70 then [0x00100 + 6 * o.2]
  else if o.1 = 0x71 then [0x00200 + 8 * o.2, 0x00200 + 8 * o.2 + 1]
  else []

/-- What the program's copy of such a slot becomes with its block gone: an engaged group disengages, a load and a loop stand at their
fallback; axes and doors keep their last request. DEDUCED, log 37. -/
def Mach.droppedVal (m : Mach) (r : Ram) (o : Nat × Nat) (pt : Nat) : Nat :=
  if o.1 = 0x41 then setBit (rd r .work pt) 0 false
  else if o.1 = 0x70 ∨ o.1 = 0x71 then m.fallbackVal r ((m.ownerOfPt r pt).getD 0) pt (m.ownEnt r pt)
  else rd r .work pt

/-- An object whose bound block is dropped carries its fallback from the next Clapper on (R164): at once where this cycle's Publish is done,
else with this cycle's Publish. -/
def Mach.dropSlot (m : Mach) (r : Ram) (o : Nat × Nat) (pt : Nat) : Mach × List W :=
  let p := (m.ownerOfPt r pt).getD 0
  let v := m.droppedVal r o pt
  if (m.part p).phase = 3 then (m, [.put .work pt v, .put .next pt v, .put .nextQ pt 3])
  else (m.updPart p (fun x => { x with dropped := pt :: x.dropped }), [.put .work pt v])

/-- Every slot of the objects a change unbinds. -/
def Mach.dropSlots (m : Mach) (r : Ram) (os : List (Nat × Nat)) : Mach × List W :=
  (os.flatMap (fun o => (boundSlots o).map (fun pt => (o, pt)))).foldl (fun x e =>
    let y := x.1.dropSlot r e.1 e.2
    (y.1, x.2 ++ y.2)) (m, [])

/-! ### An online change (R588, R166) -/

/-- OWNER and KIND of every slot are as they were (R173). -/
def sameOwners (a b : Pkg) : Bool :=
  let ent := fun (k : Pkg) (pt : Nat) => alook 0 k.own pt
  ((a.own ++ b.own).map (·.1)).all (fun pt =>
    entValid (ent a pt) == entValid (ent b pt) && entOwner (ent a pt) == entOwner (ent b pt) && entKind (ent a pt) == entKind (ent b pt))

/-- Bodies in an engine's bank under the plans in the machine. -/
def Mach.bodiesOn (m : Mach) (k : Pkg) (c : Nat) : List Body := m.bankBodies k (m.bankTasks k (m.copiesOf (m.plans.map (·.2))) c)

/-- Engines whose bank cannot hold the changed code beside the old (R69). -/
def Mach.bankBoth (m n : Mach) (old new : Pkg) : List Nat :=
  (List.range 8).filter (fun c =>
    let was := m.bodiesOn old c
    decide (bankSize < bodiesSize was + bodiesSize ((n.bodiesOn new c).filter (fun b => !was.contains b))))

/-- The checks a change has beside those of a load: partitions and periods stay, OWNER and KIND stay, both codes and both sets of records
fit, the migration fits the idle time. DEDUCED, log 33. -/
def Mach.changeBad (m n : Mach) (old new : Pkg) : Option Bad :=
  let root := fun (t : Nat) => (t, 0, 0)
  firstBad [badIf (new.objs.any (fun o => (o.1 == 0x0201 || o.1 == 0x0202) && m.obj (pkgFld o) o.2.1 != o.2.2.2)) stBAD_PARAMETER,
    badIf (!sameOwners old new) stBAD_PARAMETER,
    lowestAt 0x1304 ((m.bankBoth n old new).flatMap (fun c => (n.bankTasks new [] c).map root)),
    badIf ((List.range 8).any (fun p =>
      decide (m.obj F.partINST_SIZE p < ((old.insts.filter (fun i => i.partition == p && InstRec.id i == 0)).map (·.bytes.length)).sum +
        migBytes old.insts new.insts p))) stNO_RESOURCE,
    badIf (m.usedParts.any (fun p => decide (m.obj F.cycIDLE_NS p < tMig (migBytes old.insts new.insts p)))) 0x1312]

/-- Every check of an online change (R46, R122, R165): the refusal, or the machine as the change leaves it, with the writes of its tables.
The new code goes to the banks' other end where both fit. -/
def Mach.changeCheck (m : Mach) (r : Ram) (k : Pkg) : Except Bad (Mach × List W) :=
  match m.cfg with
  | none => .error (stBAD_PARAMETER, [])
  | some o =>
    let x := m.withPkg r k false
    match x.1.loaderCheck (wr r x.2) k (!m.sheet.top) with
    | .error b => .error b
    | .ok n =>
      match m.changeBad n o k with
      | some b => .error b
      | none => .ok (n, x.2)

/-- No running partition is between its image swap and its Publish: the switch can be made. DEDUCED, log 37. -/
def Mach.atBoundary (m : Mach) : Bool :=
  m.usedParts.all (fun p => m.obj F.partSTATE p != 1 || ((m.part p).phase != 2 && (m.part p).withheld.isNone))

/-- Doors whose table or drive the change removed go to FAULT with cause 6 (R388). -/
def Mach.doorsRemoved (m : Mach) (r : Ram) (was : Mach) : Mach :=
  m.each (was.doorsOn.filter (fun d => m.doorsOn.contains d)) (fun m d =>
    let lost := (!(was.board (was.obj F.doorSTORYBOARD d)).isEmpty && (m.board (m.obj F.doorSTORYBOARD d)).isEmpty) ||
      (was.obj F.doorDRIVE_KIND d != 0 && m.obj F.doorDRIVE_KIND d == 0)
    m.when lost (fun m => m.doorFault r d 6))

/-- Nodes whose fallback a change has altered get their assignment again (R240). -/
def Mach.resend (m old : Mach) (r new : Ram) : Mach :=
  let table := fun (m : Mach) (r : Ram) (base n : Nat) => fallbackTable (m.ownEnt r) (rd r .preset) base n
  let m := m.each ((List.range 1024).filter (fun n => decide (2 ≤ m.obj F.placeSTATE n))) (fun m n =>
    let b := m.obj F.placeOUT_BASE n
    let k := m.obj F.placeOUT_SLOTS n
    if table old r b k = table m new b k then m else m.sendAssign new n (m.place n).mac)
  m.each ((List.range 512).filter (fun n => decide (2 ≤ m.obj F.nodeSTATE n))) (fun m n =>
    let b := m.obj F.nodeOUT_BASE n
    let k := m.obj F.nodeOUT_SLOTS n
    if table old r b k = table m new b k then m else m.segAdmit new n)

/-- The waiting change takes effect at a cycle boundary: code, tables and records switched, dropped objects to their fallback, the plans of
engines fenced latched (R164 to R166). DEDUCED, log 37. -/
def Mach.changeDue (m : Mach) (r : Ram) : Mach × List W :=
  match m.sys.change, m.cfg with
  | some k, some o =>
    if !m.atBoundary then (m, [])
    else
      let m := m.updSys (fun v => { v with change := none })
      match m.changeCheck r k with
      | .error _ => (m, [])
      | .ok (n, ts) =>
        let d := n.dropSlots r (unbound o.insts k.insts)
        let ws := ts ++ n.codeWs k ++ n.carryWs r o.insts k.insts ++ d.2
        let n := d.1.each (k.objs.filter (fun e => m.obj (pkgFld e) e.2.1 != e.2.2.2)) (fun m e => m.fieldHook e.1 e.2.1 e.2.2.1)
        let n := (n.doorsRemoved r m).each n.usedParts Mach.latchPlan
        let n := n.each n.usedParts (fun m p =>
          { m with pm := { m.pm with takes := uset {} m.pm.takes p (fun x => { x with migrate := true }) } })
        ((n.resend m r (wr r ws)).configSaid k true, ws)
  | _, _ => (m, [])

/-- Numbers of records kept, copied, converted, initialised, dropped (R167). DEDUCED, log 37. -/
def migCounts (old new : List InstRec) : List Nat :=
  let out := outermost old new
  let n := fun (f : Carry → Bool) => (out.filter (fun i => f (carryOf old i))).length
  let fresh := (out.filter (fun i => carryOf old i == .fresh)).filter (fun i => (oldOf old i).isSome)
  [n (· == .kept), n (fun c => match c with
     | .copied _ => true
     | _ => false), n (fun c => match c with
     | .converted _ => true
     | _ => false), n (· == .fresh), (droppedOf old new).length + fresh.length]

/-- The reply of a change (R167): PROGRAM_ID, the counts, t_mig. -/
def changeItems (old new : Pkg) : List Item :=
  let t := ((List.range 8).map (fun p => tMig (migBytes old.insts new.insts p))).foldl max 0
  itm 1 4 new.programId :: ((migCounts old.insts new.insts).zip [2, 3, 4, 5, 6]).map (fun e => itm e.2 4 e.1) ++ [itm 7 8 t]

/-- A change whose checks have passed waits for its boundary, its code beside the old where the banks hold both (R69). -/
def Mach.changeSet (m : Mach) (r : Ram) (k : Pkg) : Mach × List W :=
  match m.cfg, m.changeCheck r k with
  | some o, .ok (n, _) =>
    let new := n.banks k n.sheet.top
    let ws := if banksBoth (m.banks o m.sheet.top) new then banksWs new else []
    let m := (m.updSvc (fun v => { v with load := none })).updSys (fun v => { v with change := some k, changeAsk := none })
    let y := m.changeDue (wr r ws)
    (y.1, ws ++ y.2)
  | _, _ => (m, [])

/-- The effect of CHANGE_COMMIT (R588): checks and migration plan, then the switch at the next cycle boundary; a ready stand-in first verifies
the change (R499), and the reply waits for that. -/
def changeCommit (k : Pkg) (c : Cmd) (r : Ram) (m : Mach) : Res :=
  match m.loadNotReady 1 with
  | some st => Res.fail m st
  | none =>
    if m.sys.change.isSome ∨ m.sys.changeAsk.isSome then Res.fail m stLOCKED
    else match m.cfg, m.changeCheck r k with
      | some _, .error b => Res.fail m b.1 b.2
      | none, _ => Res.fail m stBAD_PARAMETER
      | some o, .ok _ =>
        let m := m.sendPkg k true
        if m.partnerReady then { m := m.updSys (fun v => { v with changeAsk := some (k, c.q) }), defer := true }
        else
          let y := m.changeSet r k
          Res.done y.1 (changeItems o k) y.2

/-- The stand-in's answer to a change, or its loss: the change goes on, or its commit fails with PARTNER_NOT_READY, the load still open (R499). -/
def Mach.changeTold (m : Mach) (r : Ram) (ok : Bool) : Mach × List W :=
  match m.sys.changeAsk, m.cfg with
  | some (k, q), some o =>
    if ok then
      let y := m.changeSet r k
      (y.1.endRunning q stDONE (changeItems o k), y.2)
    else ((m.updSys (fun v => { v with changeAsk := none })).endRunning q 0x1D02 [], [])
  | some (_, q), none => ((m.updSys (fun v => { v with changeAsk := none })).endRunning q 0x1D02 [], [])
  | none, _ => (m, [])

/-- The card of CHANGE_COMMIT. -/
def changeCommitCard : Card :=
  { op := 0x0314, bulk := true, modes := [0, 1, 2], sysOnly := true }

/-- CHANGE_COMMIT (R588). DESIGN CHOICE, log 7. -/
def execChangeCommit (msg : Msg) (pkg : Pkg) (s : State) : Out :=
  zcp changeCommitCard (changeCommit pkg) msg s (.pkg pkg)

/-! ### CAUSE_MATRIX_LOAD (R431) -/

/-- Entries of so many bytes, numbered from a first one. -/
def entriesOf (size first : Nat) : Nat → List Nat → List (Nat × List Nat)
  | 0, _ => []
  | n + 1, bs => if bs.isEmpty then [] else (first, bs.take size) :: entriesOf size (first + 1) n (bs.drop size)

/-- A section added to a staged matrix: 0 causes, 1 effects, 2 intersections at their place in the list. -/
def stageSection (x : Matrix) (sec off : Nat) (bs : List Nat) : Matrix :=
  if sec = 0 then { x with causes := (entriesOf 12 off (bs.length / 12) bs).foldl (fun l e => aset l e.1 e.2) x.causes }
  else if sec = 1 then { x with effects := (entriesOf 16 off (bs.length / 16) bs).foldl (fun l e => aset l e.1 e.2) x.effects }
  else
    let new := (entriesOf 4 off (bs.length / 4) bs).map (fun e => (field (enW e.2 0) 23 12, field (enW e.2 0) 11 0))
    { x with inters := x.inters.take off ++ new ++ x.inters.drop (off + new.length) }

/-- Bytes of an entry of a section, and entries it has. -/
def sectionSize (sec : Nat) : Nat := if sec = 0 then 12 else if sec = 1 then 16 else 4
def sectionMax (sec : Nat) : Nat := if sec = 2 then 262144 else 4096

/-- Entries in use, in ascending number (KIND 0 is unused). -/
def liveMatrix (x : Matrix) : Matrix :=
  { x with
    causes := x.causes.filter (fun e => enB e.2 0 != 0)
    effects := x.effects.filter (fun e => enB e.2 0 != 0) }

/-- The staging another live session has open. -/
def Mach.stageTaken (m : Mach) (c : Nat) : Bool :=
  m.matrixStage.any (fun x => (m.conn x.1).tag == x.2.1 && x.2.1 != 0 && !(x.1 == c))

/-- The committed matrix: checked, budgeted, in force at each partition's next Clapper. -/
def matrixCommit (c : Cmd) (r : Ram) (m : Mach) (x : Matrix) : Res :=
  let x := liveMatrix x
  let drop := { m with matrixStage := none }
  match (badIf (matrixTooBig x) stNO_RESOURCE).orElse (fun _ => m.matrixBad r x) with
  | some b => Res.fail drop b.1 b.2
  | none =>
    let new := { drop with
      matrix := x
      matrixOld := m.matrix
      matrixWait := if m.running then (m.usedParts.foldl (fun v p => setBit v p true) 0) else 0 }
    match new.budgetCheck r with
    | .error b => Res.fail drop b.1 b.2
    | .ok new =>
      let new := match new.cfg with
        | some k => { new with plans := new.allPlans r k new.hasCopy }.sheetsOf k
        | none => new
      let h := Config.matrixHash x.causes x.effects x.inters % 2 ^ 32
      let new := new.matrixFields.when (!m.running) (fun n => n.each m.usedParts (fun n p => { n with matrixWait := setBit n.matrixWait p true }.clapMatrix r p))
      let new := new.chron { sub := 0x0B, low := 0x04, cause := c.q, detail := toLe 4 h }
      Res.done new [itm 1 4 h]

/-- The effect of CAUSE_MATRIX_LOAD. -/
def causeMatrixLoad (c : Cmd) (r : Ram) (m : Mach) : Res :=
  let sec := c.num 1
  let bs := c.bytes 3
  let off := c.num 2
  if m.stageTaken c.conn then Res.fail m stLOCKED
  else if c.has 3 ∧ bs.length % sectionSize sec ≠ 0 then Res.fail m stBAD_LENGTH [⟨0xF5, [3]⟩]
  else if c.has 3 ∧ sectionMax sec < off + bs.length / sectionSize sec then Res.bad m 2
  else
    let own := (m.matrixStage.filter (fun x => x.1 == c.conn && x.2.1 == (m.conn c.conn).tag)).map (·.2.2)
    let x := if c.has 3 then stageSection (own.getD {}) sec off bs else own.getD {}
    if c.num 4 = 1 then matrixCommit c r m x
    else Res.done { m with matrixStage := some (c.conn, (m.conn c.conn).tag, x) }

/-- The card of CAUSE_MATRIX_LOAD. -/
def causeMatrixLoadCard : Card :=
  { op := 0x0B13, bulk := true, modes := [0, 1, 2], sysOnly := true,
    items := [⟨1, 1, 1, false, false⟩, ⟨2, 4, 4, false, false⟩, ⟨3, 1, 65536, false, false⟩, ⟨4, 1, 1, false, false⟩],
    lack := fun is =>
      if hasItem is 3 then (if !hasItem is 1 then some 1 else if !hasItem is 2 then some 2 else none) else if hasItem is 4 then none else some 3,
    valOk := fun ty v => if ty = 1 then decide (beNat v ≤ 2) else if ty = 4 then decide (beNat v ≤ 1) else true }

/-- CAUSE_MATRIX_LOAD (R431). -/
def execCauseMatrixLoad (msg : Msg) (s : State) : Out :=
  zcp causeMatrixLoadCard causeMatrixLoad msg s

end Sys2Proof.Machine
end

