-- ==== Sys2Proof/Machine/ObjCmd.lean ====
section
/-! DEFINITION. Object and point access (R214 to R218): GET_OBJECT, SET_OBJECT with the writes the opcode table names apart, POINT_READ,
POINT_WRITE. A write is checked on a machine in which it stands; a check that fails gives that machine up, so a write changes every
field it names or none (R5). -/
namespace Sys2Proof.Machine

/-! ### Wire form (R214) -/

/-- Width of a field in bits, and the field of the table. -/
def fdWidth (d : FieldDef) : Nat := d.hi + 1 - d.lo
def fdFld (c : Nat) (d : FieldDef) : Fld := ⟨c, d.num, fdWidth d⟩

/-- The smallest container of 1, 2, 4, 8 or 16 bytes for a width. -/
def container (w : Nat) : Nat := if w ≤ 8 then 1 else if w ≤ 16 then 2 else if w ≤ 32 then 4 else if w ≤ 64 then 8 else 16

/-- Place of a field's lowest bit in the big-endian number of a whole instance. -/
def fdShift (c : ClassDef) (d : FieldDef) : Nat := (c.size - d.off - d.wide / 8) * 8 + d.lo

/-- A whole instance: every field at its place, reserved bits 0. -/
def Mach.instanceBytes (m : Mach) (c : ClassDef) (i : Nat) : List Nat :=
  toBe c.size ((c.fields.map (fun d => m.obj (fdFld c.code d) i * 2 ^ fdShift c d)).sum)

/-- The bits of an instance that no field has are 0. -/
def reservedClear (c : ClassDef) (v : Nat) : Bool :=
  v == (c.fields.map (fun d => v / 2 ^ fdShift c d % 2 ^ fdWidth d * 2 ^ fdShift c d)).sum

/-! ### Targets -/

/-- Class, instance and field a request names; else the type at fault. DEDUCED, log 13. -/
def targetOf (is : List Item) : Except Nat (ClassDef × Nat × Option FieldDef) :=
  match classOf (itemNum is 1 0) with
  | none => .error 1
  | some c =>
    let i := itemNum is 2 0
    if c.insts ≤ i ∨ (c.code = 0x0602 ∧ i % 64 = 0) then .error 2
    else match is.find? (·.ty == 3) with
      | none => .ok (c, i, none)
      | some x => match fieldOf c.code (beNat x.val) with
        | none => .error 3
        | some d => .ok (c, i, some d)

/-- The partition an object belongs to; 0xFF the system (R181). -/
def Mach.objOwner (m : Mach) (r : Ram) (c i : Nat) : Nat :=
  if c = 0x0201 ∨ c = 0x0202 ∨ c = 0x0303 ∨ c = 0x0B07 ∨ c = 0x0D02 then i
  else if c = 0x0301 then m.obj F.taskPARTITION i
  else if c = 0x0302 then m.obj F.cePARTITION i
  else if c = 0x0003 then m.queueOwner i
  else if c = 0x0401 then (m.ownerOfPt r i).getD 0xFF
  else if c = 0x0502 then m.obj F.placePARTITION i
  else if c = 0x0602 then m.obj F.nodePARTITION i
  else if c = 0x0603 then m.obj F.mfPARTITION i
  else if c = 0x0701 ∨ c = 0x0B02 then (m.lcOwner r i).getD 0xFF
  else if c = 0x0703 then (m.loOwner r i).getD 0xFF
  else if c = 0x0801 then (m.epOwner r i).getD 0xFF
  else if c = 0x0802 then (m.prOwner r i).getD 0xFF
  else if c = 0x0901 ∨ c = 0x0903 then (m.axOwner r i).getD 0xFF
  else if c = 0x0902 then (m.ggOwner r i).getD 0xFF
  else if c = 0x0A01 then (m.doorOwner r i).getD 0xFF
  else if c = 0x0B06 then m.obj F.alarmOWNER i
  else if c = 0x0B04 then ((m.matrix.effects.find? (fun x => x.1 == i)).bind (fun x => m.effOwner r x.2)).getD 0xFF
  else 0xFF

/-- Fields that follow the running machine are brought up to the present before they are read. -/
def Mach.refresh (m : Mach) (r : Ram) (c i : Nat) : Mach :=
  if c = 0x0701 then (m.bucketSync i).lcSync i
  else if c = 0x0801 then
    let abs := decide (5 ≤ m.obj F.epMODE i)
    ((m.setObj F.epREAD_INTERVAL_NS i (if abs then m.readInterval i else 0)).setObj F.epLEAD_NS i (if abs then m.leadNs i else 0)).setObj
      F.epV_CO_USED i (m.vCo i (m.epPart r i))
  else if c = 0x0E02 then m.setObj F.quotaRESERVED i (m.quotaOf i)
  else if c = 0x0F01 then m.setObj F.secROLLBACK_USED 0 m.svc.raises
  else if c = 0x1001 then m.setObj F.updTRIAL_LEFT_S 0 ((m.svc.trial.map (fun x => cdiv (x.ends - m.now) (10 ^ 9))).getD 0)
  else if c = 0x0D01 then m.setObj F.pairCLEAN_ELAPSED_S 0 ((m.pm.cleanAt.map (fun x => (m.now - x) / 10 ^ 9)).getD 0)
  else if c = 0x0101 then m.setObj F.modeSTORM_COUNT 0 (min 255 m.stormCount)
  else m

/-! ### GET_OBJECT (R215) -/

/-- The target of a request as far as the items read name it: an unknown class, instance or field. -/
def targetClash (whole is : List Item) : Option (Nat × Nat) :=
  match targetOf whole with
  | .error ty => clash (if ty = 1 then hasItem is 1 else hasItem is 1 && hasItem is ty) ty
  | .ok _ => none

/-- The item at fault of a GET_OBJECT: its target; COUNT with FIELD, or past the last instance. -/
def getCombo (whole is : List Item) : Option (Nat × Nat) :=
  (targetClash whole is).orElse (fun _ =>
    match targetOf whole with
    | .error _ => none
    | .ok (c, i, f) => clash (hasItem is 4 && ((f.isSome && hasItem is 3) || (hasItem is 1 && hasItem is 2 && decide (c.insts < i + itemNum is 4 1)))) 4)

/-- One instance, or one field of it, read; RC fields are cleared at capture. -/
def Mach.capture (m : Mach) (r : Ram) (c : ClassDef) (i : Nat) (f : Option FieldDef) : Item × Mach :=
  let m := m.refresh r c.code i
  let ds := match f with
    | some d => [d]
    | none => c.fields
  let val := match f with
    | some d => toBe (container (fdWidth d)) (m.obj (fdFld c.code d) i)
    | none => m.instanceBytes c i
  let rst := fun (d : FieldDef) => instInit c.code i d.num d.init
  (⟨1, val⟩, m.each (ds.filter (fun d => d.acc == .rc)) (fun m d => m.setObj (fdFld c.code d) i (rst d)))

/-- The effect of GET_OBJECT. -/
def getObject (c : Cmd) (r : Ram) (m : Mach) : Res :=
  match targetOf c.items with
  | .error ty => Res.bad m ty
  | .ok (k, i, f) =>
    let ns := (List.range (c.num 4 1)).map (i + ·)
    if !isSys c.owner && ns.any (fun n => m.objOwner r k.code n != 0xFF && m.objOwner r k.code n != c.owner) then Res.fail m stNOT_OWNER
    else if !m.isM4 ∧ (k.code = 0x0903 ∨ (k.code = 0x0B01 ∧ ns.contains 2)) then Res.bad m 2
    else
      let x := ns.foldl (fun (x : List Item × Mach) n =>
        let y := x.2.capture r k n f
        (x.1 ++ [y.1], y.2)) ([], m)
      Res.done x.2 (x.1 ++ [itm 2 2 k.size])

/-- The card of GET_OBJECT. -/
def getObjectCard : Card :=
  { op := 0x0008, bulk := false,
    items := [⟨1, 2, 2, true, false⟩, ⟨2, 2, 2, true, false⟩, ⟨3, 1, 1, false, false⟩, ⟨4, 2, 2, false, false⟩],
    valOk := fun ty v => ty != 4 || (decide (1 ≤ beNat v) && decide (beNat v ≤ 64)), combo := getCombo }

/-- GET_OBJECT (R215). -/
def execGetObject (msg : Msg) (s : State) : Out :=
  zcp getObjectCard getObject msg s

/-! ### SET_OBJECT (R216): what is written -/

/-- A field a write may change. -/
def writable (d : FieldDef) : Bool := d.acc == .rw || d.acc == .wo || d.acc == .w1c

/-- Fields a request writes, with their values; none where DATA has the wrong length. -/
def writesOf (is : List Item) : List (FieldDef × Nat) :=
  let data := ((is.find? (·.ty == 4)).map (·.val)).getD []
  match targetOf is with
  | .error _ => []
  | .ok (_, _, some d) => [(d, beNat data)]
  | .ok (c, _, none) => (c.fields.filter writable).map (fun d => (d, beNat data / 2 ^ fdShift c d % 2 ^ fdWidth d))

/-- The item at fault of a SET_OBJECT: unknown target, a field that is not written, DATA of the wrong length, reserved bits, values out of
range. -/
def setCombo (whole is : List Item) : Option (Nat × Nat) :=
  (targetClash whole is).orElse (fun _ =>
    match targetOf whole with
    | .error _ => none
    | .ok (c, _, f) =>
      let v := itemNum is 4 0
      let named := hasItem is 1 && (f.isNone || hasItem is 3)
      let n := match f with
        | some d => container (fdWidth d)
        | none => c.size
      if named && f.any (fun d => !writable d) then some (stBAD_PARAMETER, 3)
      else if !(named && hasItem is 4) then none
      else if ((is.find? (·.ty == 4)).map (·.val.length)).getD 0 ≠ n then some (stBAD_LENGTH, 4)
      else clash ((f.isNone && !reservedClear c v) || (writesOf whole).any (fun x => !rngOk x.1 x.2)) 4)

/-- Modes in which a field is written. DEDUCED, log 42. -/
def fieldModes (c f : Nat) : List Nat :=
  if (c = 0x0601 ∧ f = 13) ∨ (c = 0x0602 ∧ f = 7) ∨ (c = 0x0603 ∧ f = 1) ∨ (c = 0x0B04 ∧ f = 0) ∨ (c = 0x0B06 ∧ (f = 10 ∨ f = 14)) then [0, 1, 2]
  else if c = 0x0F01 ∧ (f = 2 ∨ f = 3) then [0, 5]
  else [0]

/-- Modes in which a request's write is accepted: those of every field it writes. DEDUCED, log 42. -/
def setModes (_ : Mach) (is : List Item) : List Nat :=
  [0, 1, 2, 3, 4, 5].filter (fun md => (writesOf is).all (fun x => (fieldModes (itemNum is 1 0) x.1.num).contains md))

/-- The role a write needs (R559). -/
def setRole (role : Nat) (is : List Item) : Bool := if itemNum is 1 0 / 256 = 0x0F then role == 4 else role == 2

/-! ### What a write must meet -/

/-- A write that the state of its object refuses. DEDUCED, log 13. -/
def Mach.writeRefused (m : Mach) (r : Ram) (c : Cmd) (k i : Nat) (fs : List Nat) : Option Bad :=
  let own := m.objOwner r k i
  if k = 0x0B06 ∧ m.mode ≠ 0 ∧ !isSys c.owner then some (stWRONG_MODE, [])
  else if !isSys c.owner && own != c.owner then some (stNOT_OWNER, [])
  else if m.svc.load.isSome then some (stLOCKED, [])
  else if k = 0x0003 ∧ fs.contains 0 ∧ m.obj F.cqATTACHED i ≠ 0 then some (stLOCKED, [])
  else if (k = 0x0903 ∧ !m.isM4) ∨ (k = 0x0B01 ∧ i = 2) ∨ (k = 0x0F03 ∧ i = 2) then some (stBAD_PARAMETER, [⟨0xF5, [2]⟩])
  else none

/-- Two EtherTypes that cannot stand (R222). -/
def Mach.typesBad (m : Mach) : Bool :=
  let bad := fun (e o : Nat) => decide (e < 0x0600) || e == 0x88F7 || e == o || (List.range 4).any (fun t => m.obj F.trunkETHERTYPE t == e)
  bad (m.obj F.modPUB_ETHERTYPE) (m.obj F.modPAIR_ETHERTYPE) || bad (m.obj F.modPAIR_ETHERTYPE) (m.obj F.modPUB_ETHERTYPE)

/-- A custom profile whose segments do not rise (R295). -/
def Mach.profileBad (m : Mach) (k : Nat) : Bool :=
  let ends := (List.range (m.obj F.profSEGMENTS k)).map (fun i => m.obj ⟨0x0702, 1 + 2 * i, 32⟩ k)
  (ends.zip (ends.drop 1)).any (fun x => decide (x.2 ≤ x.1))

/-- An emulation output whose source and CPR_S do not go together, or whose Z lies beyond a revolution (R345). -/
def Mach.emBad (m : Mach) (k : Nat) : Bool :=
  let s := m.obj F.emSOURCE k
  (decide (s < 8) && m.obj F.emCPR_S k != 0) || (decide (16 ≤ s) && decide (s < 32) && m.obj F.emCPR_S k == 0) ||
  (s != 0xFF && decide (m.emCpr k ≤ m.obj F.emZ_POS k))

/-- The budget and schedule checks with the loader's figures and plans anew (R46, R231, R241, R250, R265). DEDUCED, log 14. -/
def Mach.recheck (m : Mach) (r : Ram) : Except Bad Mach :=
  match firstBad [m.partsBad, m.fieldBad, m.cfg.bind m.recordsBad, m.cfg.bind m.sheetBad, badIf (m.takeRateBad r) 0x1D03] with
  | some b => .error b
  | none =>
    match m.budgetCheck r with
    | .error b => .error b
    | .ok m =>
      match m.scheduleCheck r with
      | .error b => .error b
      | .ok m =>
        match m.cfg with
        | none => .ok m.wrapFields
        | some k =>
          .ok ((({ m with plans := m.allPlans r k (m.mayCopy k) }.withSheet k m.sheet.top).sheetsOf k).each m.usedParts Mach.latchPlan).wrapFields

/-- Writes of a class that start the budget check. -/
def budgetWrite (k : Nat) (fs : List Nat) : Bool :=
  k == 0x0201 || k == 0x0202 || k == 0x0501 || (k == 0x0301 && fs.any (fun f => decide (f ≤ 3))) || (k == 0x0303 && fs.contains 1) ||
  (k == 0x0502 && fs.any (fun f => f == 2 || decide (7 ≤ f))) || (k == 0x0601 && fs.any (fun f => decide (f ≤ 12))) ||
  (k == 0x0602 && fs.any (fun f => f != 4 && f != 5 && f != 7))

/-- The checks a class's chapter makes of a write, on the machine in which it stands: the refusal, or that machine with its figures. -/
def Mach.writeCheck (m : Mach) (r : Ram) (k i : Nat) (fs : List Nat) : Except Bad Mach :=
  let ok := fun (b : Option Bad) (n : Mach) => match b with
    | some b => Except.error b
    | none => Except.ok n
  if budgetWrite k fs then (m.derive r).recheck r
  else if k = 0x0001 then ok (badIf (m.typesBad || (decide (512 ≤ m.obj F.modMODULE_ID) && m.obj F.modMODULE_ID != 0xFFFF)) stBAD_PARAMETER) m
  else if k = 0x0602 then ok m.fieldBad m
  else if k = 0x0603 then ok (badIf (m.mfBad i) stBAD_PARAMETER) m
  else if k = 0x0702 then ok (firstBad [badIf (m.profileBad i) stBAD_PARAMETER, m.powerBad r]) (m.powerFields r)
  else if k = 0x0701 ∨ k = 0x0B01 ∨ k = 0x0B02 then ok (m.powerBad r) (m.powerFields r)
  else if k = 0x0801 then ok (firstBad [m.portsBad r, m.motionBad r]) m
  else if k = 0x0803 then ok (badIf (m.emBad i) stBAD_PARAMETER) m
  else if k = 0x0901 ∨ k = 0x0902 ∨ k = 0x0903 then ok (firstBad [m.motionBad r, m.doorsBad r]) m
  else if k = 0x0A01 then ok (firstBad [m.doorsBad r, m.bindsBad r]) m
  else if k = 0x0A02 then ok (m.bindsBad r) m
  else if k = 0x0B09 then ok (badIf (decide (19200 < m.wrapMj)) 0x1B06) m.wrapFields
  else .ok m

/-! ### What a write does -/

/-- Fields put into the machine: all but those a write acts through (LATCHED, SERIAL, MODULE_ID) and LINE_DELAY_NS of BiSS-C (R343). -/
def Mach.putFields (m : Mach) (k i : Nat) (vs : List (FieldDef × Nat)) : Mach :=
  m.each vs (fun m x =>
    if (k = 0x0B04 ∧ x.1.num = 0) ∨ (k = 0x0602 ∧ x.1.num = 7) ∨ (k = 0x0801 ∧ x.1.num = 19 ∧ m.obj F.epMODE i = 6) then m
    else m.setObj (fdFld k x.1) i x.2)

/-- A MODULE_ID takes effect (R222): its record, ID_CHANGES, the trips of a safety set that names another ID; a conflict over it (R25). -/
def Mach.takeId (m : Mach) (id : Nat) : Mach :=
  let old := m.obj F.modMODULE_ID
  let m := ((m.setObj F.modMODULE_ID 0 id).bump F.modID_CHANGES).updSys (fun x => { x with idNext := none })
  (m.chron { sub := 0x00, low := 0x04, detail := toLe 2 old ++ toLe 2 id }).heldTrip.idTaken id

/-- A MODULE_ID is written: it waits for the next Clapper of every partition. -/
def Mach.newId (m : Mach) (id : Nat) : Mach :=
  if id = m.obj F.modMODULE_ID then m.updSys (fun x => { x with idNext := none })
  else
    let ps := m.usedParts.filter (fun p => (m.part p).clapped)
    if ps = [] then m.takeId id else m.updSys (fun x => { x with idNext := some (id, ps) })

/-- A partition's Clapper: a written MODULE_ID is in force for it, and for the module when the last one has come. DEDUCED, log 42. -/
def Mach.clapId (m : Mach) (p : Nat) : Mach :=
  match m.sys.idNext with
  | some (id, ps) =>
    let rest := ps.filter (· != p)
    if rest = [] then m.takeId id else m.updSys (fun x => { x with idNext := some (id, rest) })
  | none => m

/-- What a write of one field does beside its value. DEDUCED, log 14; DEDUCED, log 42. -/
def Mach.fieldEffect (m : Mach) (r : Ram) (k i : Nat) (changed : Bool) (x : FieldDef × Nat) : Mach :=
  let f := x.1.num
  if k = 0x0B04 then (if f = 0 ∧ x.2 = 1 then m.latchRelease r i else m)
  else if k = 0x0602 ∧ f = 7 then m.segAssign r i x.2
  else if k = 0x0B06 ∧ f = 14 then
    (if (m.alarm i).shelf.isSome ∧ m.shelfEnd i ≤ m.now then (m.updAlarm i (fun y => { y with shelf := none })).alarmStep r i else m)
  else if k = 0x0D01 ∧ f = 4 ∧ x.2 = 0 then m.leaveLow
  else if k = 0x0801 ∨ k = 0x0A01 ∨ changed then m.fieldHook k i f
  else m

/-- The fields of a write as the machine holds them before it: a field's value differs. -/
def Mach.differs (m : Mach) (k i : Nat) (x : FieldDef × Nat) : Bool := m.obj (fdFld k x.1) i != x.2

/-- Permits of the bindings after a write of one: its former point loses PERMIT unless another binding names it. -/
def Mach.permitMove (old m : Mach) (r : Ram) (i : Nat) : List W :=
  let pt := old.obj F.bindPOINT i % 2 ^ 20
  (if old.obj F.bindKIND i = 4 then [W.put .own pt (setBit (rd r .own pt) 18 false)] else []) ++ m.permitWs r

/-- The writes that place code anew where a write changed the placement: homes of tasks, engines, plans. -/
def Mach.placeWs (m : Mach) (k : Nat) (fs : List Nat) : List W :=
  match m.cfg with
  | some p => if budgetWrite k fs then m.codeWs p else []
  | none => []

/-- The effect of SET_OBJECT. DEDUCED, log 14. -/
def setObject (c : Cmd) (r : Ram) (m : Mach) : Res :=
  match targetOf c.items with
  | .error ty => Res.bad m ty
  | .ok (k, i, _) =>
    let vs := writesOf c.items
    let fs := vs.map (·.1.num)
    match m.writeRefused r c k.code i fs with
    | some b => Res.fail m b.1 b.2
    | none =>
      let new := (m.when (k.code == 0x0201 || k.code == 0x0004) Mach.settlePools).putFields k.code i vs
      match new.writeCheck r k.code i fs with
      | .error b => Res.fail m b.1 (if b.1 = stBAD_PARAMETER then [⟨0xF5, [4]⟩] else b.2)
      | .ok new =>
        let new := new.each vs (fun n x => n.fieldEffect r k.code i (m.differs k.code i x) x)
        let new := if k.code = 0x0001 ∧ fs.contains 0 then
            (new.setObj F.modMODULE_ID 0 (m.obj F.modMODULE_ID)).newId (new.obj F.modMODULE_ID)
          else new
        let new := new.when (k.code == 0x0A02) (fun n => n.applyBinds r)
        Res.done new [] ((if k.code = 0x0A02 then m.permitMove new r i else []) ++ new.placeWs k.code fs)

/-- The card of SET_OBJECT (R216). -/
def cardSetObject : Card where
  op := 0x0009
  bulk := true
  items := [⟨1, 2, 2, true, false⟩, ⟨2, 2, 2, true, false⟩, ⟨3, 1, 1, false, false⟩, ⟨4, 1, 1024, true, false⟩]
  combo := setCombo
  modesBy := setModes
  sysBy := fun is => itemNum is 1 0 == 0x0001 || itemNum is 1 0 == 0x0A02
  roleBy := some setRole

/-- SET_OBJECT (R216). -/
def execSetObject (msg : Msg) (s : State) : Out := zcp cardSetObject setObject msg s

/-- MODULE_ID_WRITE (R222): SET_OBJECT on object 0x0001.0. DEDUCED, log 14. -/
def execModuleIdWrite (msg : Msg) (s : State) : Out := zcp cardSetObject setObject msg s

/-- CYCLE_OBJECT_WRITE (R62): SET_OBJECT on an object 0x0202.p. -/
def execCycleObjectWrite (msg : Msg) (s : State) : Out := zcp cardSetObject setObject msg s

/-- PARTITION_OBJECT_WRITE (R168): SET_OBJECT on an object 0x0201.p. -/
def execPartitionObjectWrite (msg : Msg) (s : State) : Out := zcp cardSetObject setObject msg s

/-- TASK_OBJECT_WRITE (R87): SET_OBJECT on an object 0x0301.n. -/
def execTaskObjectWrite (msg : Msg) (s : State) : Out := zcp cardSetObject setObject msg s

/-- PLACE_OBJECT_WRITE (R254): SET_OBJECT on an object 0x0502.n. -/
def execPlaceObjectWrite (msg : Msg) (s : State) : Out := zcp cardSetObject setObject msg s

/-- SEGMENT_OBJECT_WRITE (R280): SET_OBJECT on an object 0x0601.s. -/
def execSegmentObjectWrite (msg : Msg) (s : State) : Out := zcp cardSetObject setObject msg s

/-- NODE_SERIAL_WRITE (R281): SET_OBJECT on SERIAL of an object 0x0602.n. -/
def execNodeSerialWrite (msg : Msg) (s : State) : Out := zcp cardSetObject setObject msg s

/-- PORT_MODE_WRITE (R343): SET_OBJECT on MODE or CPR of an object 0x0801.n. -/
def execPortModeWrite (msg : Msg) (s : State) : Out := zcp cardSetObject setObject msg s

/-- EFFECT_LATCH_RELEASE (R433): SET_OBJECT writing 1 to LATCHED of an object 0x0B04.e. -/
def execEffectLatchRelease (msg : Msg) (s : State) : Out := zcp cardSetObject setObject msg s

/-- MAX_SHELVE_MIN_WRITE (R421): SET_OBJECT on MAX_SHELVE_MIN of an object 0x0B06.a. -/
def execMaxShelveMinWrite (msg : Msg) (s : State) : Out := zcp cardSetObject setObject msg s

/-- LOW_OK_WRITE (R569): SET_OBJECT on LOW_OK of object 0x0D01.0. -/
def execLowOkWrite (msg : Msg) (s : State) : Out := zcp cardSetObject setObject msg s

/-- RIDE_MS_WRITE (R579): SET_OBJECT on RIDE_MS of object 0x0B09.0. DEDUCED, log 14. -/
def execRideMsWrite (msg : Msg) (s : State) : Out := zcp cardSetObject setObject msg s

/-! ### Points (R217, R218) -/

/-- The partition whose cycle a slot is read in: its owner; for a slot of the system or the island the queue's, else the lowest used. DEDUCED, log 41. -/
def Mach.viewPart (m : Mach) (r : Ram) (owner pt : Nat) : Nat :=
  match m.ownerOfPt r pt with
  | some p => p
  | none => if owner < 8 then owner else m.usedParts.headD 0

/-- A slot as POINT_READ gives it: value and quality; view 0 as the program sees it, 1 as published. DEDUCED, log 41. -/
def Mach.viewSlot (m : Mach) (r : Ram) (owner view pt : Nat) : Nat × Nat :=
  let e := m.ownEnt r pt
  let p := m.viewPart r owner pt
  if !entValid e then (0, 3)
  else if fromWork e p then (if view = 1 then rd r .pub pt else rd r .seen (frontAt p pt), rd r .pubQ pt)
  else (rd r .seen (frontAt p pt), rd r .seenQ (frontAt p pt))

/-- The effect of POINT_READ. -/
def pointRead (c : Cmd) (r : Ram) (m : Mach) : Res :=
  let pt := c.num 1
  let pts := (List.range (c.num 2 1)).map (pt + ·)
  if !isSys c.owner && pts.any (fun x => !mayRead (m.ownEnt r x) c.owner) then Res.fail m stNOT_OWNER
  else
    let vs := pts.map (m.viewSlot r c.owner (c.num 3))
    Res.done m [itm 1 8 (m.part (m.viewPart r c.owner pt)).pubCycle, ⟨2, vs.flatMap (fun v => toBe 2 v.1)⟩,
      ⟨3, (chunks 4 128 (vs.map (·.2))).map (fun q => q.reverse.foldl (fun a x => a * 4 + x) 0)⟩]

/-- The card of POINT_READ. -/
def pointReadCard : Card :=
  { op := 0x0410, bulk := false, items := [⟨1, 4, 4, true, false⟩, ⟨2, 2, 2, false, false⟩, ⟨3, 1, 1, false, false⟩],
    valOk := fun ty v => if ty = 1 then decide (beNat v < 2 ^ 20) else if ty = 2 then decide (1 ≤ beNat v) && decide (beNat v ≤ 512)
      else if ty = 3 then decide (beNat v ≤ 1) else true,
    combo := fun _ is => clash (decide (2 ^ 20 < itemNum is 1 0 + itemNum is 2 1)) }

/-- POINT_READ (R217). -/
def execPointRead (msg : Msg) (s : State) : Out :=
  zcp pointReadCard pointRead msg s

/-- The 16-bit words of a byte string. -/
def wordsOf : List Nat → List Nat
  | a :: b :: r => (a % 256 * 256 + b % 256) :: wordsOf r
  | _ => []

/-- A wide point of which the range takes only a part (R218). -/
def Mach.wideCut (m : Mach) (r : Ram) (lo n pt : Nat) : Bool :=
  let e := m.ownEnt r pt
  let w := if field e 23 22 = 1 then 2 else if field e 23 22 = 2 then 4 else 1
  let a := pt - pt % w
  decide (a < lo) || decide (lo + n < a + w)

/-- The effect of POINT_WRITE. DEDUCED, log 41. -/
def pointWrite (c : Cmd) (r : Ram) (m : Mach) : Res :=
  let pt := c.num 1
  let vs := wordsOf (c.bytes 2)
  let pts := (List.range vs.length).map (pt + ·)
  let ents := pts.map (m.ownEnt r)
  if !isSys c.owner && ents.any (fun e => entValid e && entOwned e && entOwner e != c.owner) then Res.fail m stNOT_OWNER
  else if ents.any (fun e => !entValid e || (entKind e != 1 && entKind e != 6)) then Res.bad m 1
  else if pts.any (m.wideCut r pt vs.length) then Res.bad m 2
  else
    let ps := (ents.map entOwner).eraseDups
    Res.done m [itm 1 8 ((ps.map m.applyGz).foldl max 0)] (commPut pt vs)

/-- The card of POINT_WRITE. -/
def pointWriteCard : Card :=
  { op := 0x0411, bulk := false, modes := [0], items := [⟨1, 4, 4, true, false⟩, ⟨2, 2, 1024, true, false⟩],
    valOk := fun ty v => ty != 1 || decide (beNat v < 2 ^ 20),
    lenOk := fun ty n => ty != 2 || n % 2 == 0,
    combo := fun _ is => clash (decide (2 ^ 20 < itemNum is 1 0 + ((is.find? (·.ty == 2)).map (·.val.length)).getD 0 / 2)) }

/-- POINT_WRITE (R218). -/
def execPointWrite (msg : Msg) (s : State) : Out :=
  zcp pointWriteCard pointWrite msg s

end Sys2Proof.Machine
end

