-- ==== Sys2Proof/Machine/Take.lean ====
section
/-! DEFINITION. Takes (R474 to R481): what the active module sends of a redundant partition each cycle, and what a stand-in does with it. -/
namespace Sys2Proof.Machine

/-! ### Parts of the pair's state -/

/-- Change the pair's state. -/
def Mach.updPm (m : Mach) (f : PairMach → PairMach) : Mach := { m with pm := f m.pm }

/-- Change what is known of the partner. -/
def Mach.updPeer (m : Mach) (f : Peer → Peer) : Mach := m.updPm (fun x => { x with peer := f x.peer })

/-- Takes of a partition. -/
def Mach.take (m : Mach) (p : Nat) : TakeSt := ug {} m.pm.takes p

/-- Change them. -/
def Mach.updTake (m : Mach) (p : Nat) (f : TakeSt → TakeSt) : Mach := m.updPm (fun x => { x with takes := uset {} x.takes p f })

/-- Listed cells of a range of a space, as offsets from its start with their values. -/
def cellsIn (r : Ram) (sp : Space) (lo n : Nat) : List (Nat × Nat) :=
  (r.filter (fun e => decide (sp.key lo ≤ e.1) && decide (e.1 < sp.key lo + n))).map (fun e => (e.1 - sp.key lo, e.2))

/-- The writes that make a range of one space equal to a range of another with the same reset content. -/
def copyRange (r : Ram) (src dst : Space) (a b n : Nat) : List W :=
  (cellsIn r dst b n).map (fun e => W.put dst (b + e.1) (rd r src (a + e.1))) ++ (cellsIn r src a n).map (fun e => W.put dst (b + e.1) e.2)

/-! ### Lines (R474, R481) -/

/-- Lines of the instance region. -/
def Mach.instLines (m : Mach) (p : Nat) : Nat := m.obj F.partINST_SIZE p / 64

/-- Lines of a full take: instance region, output lines, engine block of 1024 lines. -/
def Mach.lineCount (m : Mach) (r : Ram) (p : Nat) : Nat := m.instLines p + (m.outLines r p).length + 1024

/-- Region and line of the i-th line of a full take, and back. -/
def Mach.lineOf (m : Mach) (r : Ram) (p i : Nat) : Nat × Nat :=
  let n := m.instLines p
  let o := m.outLines r p
  if i < n then (0, i) else if i < n + o.length then (1, (o[i - n]?).getD 0) else (2, i - n - o.length)
def Mach.lineIdx (m : Mach) (r : Ram) (p region line : Nat) : Nat :=
  let o := m.outLines r p
  if region = 0 then line else if region = 1 then m.instLines p + o.findIdx (· == line) else m.instLines p + o.length + line

/-- Place of a line in the Larder. -/
def larderAt (p region line : Nat) : Nat := p * 2 ^ 35 + region * 2 ^ 33 + line * 64

/-- Bytes of the remote part of a partition's input image, values then quality. -/
def Mach.remoteImage (m : Mach) (r : Ram) (p : Nat) : List Nat :=
  let pts := (((m.ownList r).filter (fun e => owns e.2 p && entKind e.2 == 0 && farRange e.1)).map (·.1))
  pts.flatMap (fun pt => toLe 2 (rd r .front (frontAt p pt)) ++ [rd r .frontQ (frontAt p pt)])

/-- The engine block in use, from its first byte (log 31). -/
def Mach.engineBlock (m : Mach) (r : Ram) (p : Nat) : List Nat :=
  let x := m.part p
  padTo 64 (toLe 8 x.cycle ++ toLe 4 x.startCount ++ [m.obj F.partSTATE p, 0, 0, 0] ++ toBe 32 (Config.sha256 (m.remoteImage r p)) ++
    toLe 4 (m.take p).cursor) ++
  (m.alarmsOf p).map (fun a => m.obj F.alarmSTATE a) ++ (m.effectsOn r p).map (fun e => (m.eff e).active.toNat) ++
  (m.localInputs r p).flatMap (fun pt => toLe 2 (rd r .front (frontAt p pt)))

/-- The 64 bytes of a line. -/
def Mach.lineBytes (m : Mach) (r : Ram) (eb : List Nat) (p region line : Nat) : List Nat :=
  if region = 0 then rdN r .inst (m.obj F.partINST_BASE p + 64 * line) 64
  else if region = 1 then (rdN r .work (32 * line) 32).flatMap (toLe 2)
  else padTo 64 (eb.drop (64 * line))

/-- Lines the cycle wrote: dirty instance and output lines, and the engine block's lines in use. -/
def Mach.takeLines (m : Mach) (r : Ram) (eb : List Nat) (p : Nat) : List (Nat × Nat) :=
  let base := m.obj F.partINST_BASE p / 64
  let inst := (cellsIn r .dirty (p * 2 ^ 36) (2 ^ 32)).map (fun e => (0, e.1 - base))
  let out := (cellsIn r .dirty (p * 2 ^ 36 + 2 ^ 32) (2 ^ 32)).map (fun e => (1, e.1))
  inst ++ out ++ (List.range (cdiv eb.length 64)).map (fun l => (2, l))

/-- The dirty-line bitmap of a partition cleared. -/
def cleanWs (r : Ram) (p : Nat) : List W := (cellsIn r .dirty (p * 2 ^ 36) (2 ^ 36)).map (fun e => .put .dirty (p * 2 ^ 36 + e.1) 0)

/-! ### Frames (R480) -/

/-- A run with its header and lines. -/
def Mach.runBytes (m : Mach) (r : Ram) (eb : List Nat) (p : Nat) (x : Nat × Nat × Nat) : List Nat :=
  [x.1, 0] ++ toLe 2 x.2.2 ++ toLe 4 x.2.1 ++ (List.range x.2.2).flatMap (fun i => m.lineBytes r eb p x.1 (x.2.1 + i))

/-- The 24-byte header of a pair frame. -/
def Mach.pairHead (m : Mach) (type flags gen cycle index runs len : Nat) : List Nat :=
  [type, flags] ++ toBe 2 (m.obj F.modMODULE_ID % 512) ++ toBe 4 gen ++ toBe 8 cycle ++ toBe 4 index ++ toBe 2 runs ++ toBe 2 len

/-- Frames of a take or of a slice on PAIR, one run a frame, the trailer in the last. -/
def Mach.sendRuns (m : Mach) (p kind flags gen : Nat) (runs : List (List Nat)) : Mach :=
  let n := runs.length
  let crc := toBe 4 (crc32c runs.flatten)
  let cyc := (m.part p).cycle
  m.each (runs.zip (List.range n)) (fun m e =>
    let last := e.2 + 1 == n
    let body := if last then e.1 ++ crc else e.1
    m.emit ⟨20, kind, p, m.pairHead kind (flags + last.toNat * 128 + p) gen cyc e.2 1 body.length ++ body⟩)

/-- A full take of a partition starts: its lines from the first. DEDUCED, log 65. -/
def Mach.startFull (m : Mach) (p : Nat) : Mach :=
  m.updTake p (fun x => { x with full := true, cursor := 0, fullAt := m.now, ask := false, claps := 0 })

/-- The next slice of a running full take, sent with a take's generation. DESIGN CHOICE, log 31. -/
def Mach.sliceSend (m : Mach) (r : Ram) (eb : List Nat) (p gen : Nat) : Mach :=
  let x := m.take p
  if !x.full then m
  else
    let total := m.lineCount r p
    let n := min (max 1 (m.obj F.takeSLICE_BYTES p / 64)) (total - x.cursor)
    let lines := (List.range n).map (fun i => m.lineOf r p (x.cursor + i))
    let m := m.sendRuns p 2 0 gen ((runsOf lines).map (m.runBytes r eb p))
    if x.cursor + n < total then m.updTake p (fun y => { y with cursor := x.cursor + n })
    else
      let m := (m.updTake p (fun y => { y with full := false, cursor := 0 })).bump F.takeFULL_TAKES p
      m.when x.ask (fun m => m.startFull p)

/-- A planned switch in which this module goes out. -/
def Mach.goingOut (m : Mach) : Option Switch := m.pm.switch.filter (fun w => !w.incoming)

/-- The first instant at or after one that is a Clapper of every redundant partition, on the time base. DEDUCED, log 66. -/
def Mach.commonClap (m : Mach) (from_ : Nat) : Nat :=
  let l := lcmOf (m.redundants.map (fun p => max 1 (m.period p)))
  let g := m.gzAt from_
  from_ + (cdiv g l * l - g)

/-- The outgoing module of a planned switch finds C_s at the end of this cycle: a take of b bytes that cannot be over by C_s + G puts C_s
to the next common Clapper, and the partner is told (R500 step 2). DEDUCED, log 66. -/
def Mach.switchLater (m : Mach) (p b : Nat) : Mach :=
  match m.goingOut with
  | none => m
  | some w =>
    if (m.part p).clapAt + m.period p < w.at_ ∨ m.now + cdiv (b * 10000) 11875 + 5000 ≤ w.at_ + m.obj F.cycG_NS p then m
    else
      let at_ := m.commonClap (w.at_ + 1)
      (m.emit ⟨20, 4, 0, 5 :: toBe 8 (m.gzAt at_)⟩).updPm (fun x => { x with switch := some { w with at_ := at_ } })

/-- The take of a RUNNING redundant partition for this cycle, with the next slice of its full take (R474, R477, R479). DESIGN CHOICE, log 31. -/
def Mach.takeSend (m : Mach) (r : Ram) (p : Nat) : Mach × List W :=
  if !m.paired || !m.running || !m.used p || !m.isSet F.partREDUNDANT p || m.obj F.partSTATE p != 1 then (m, [])
  else
    let x := m.take p
    let m := m.when (x.ask && !x.full) (fun m => m.startFull p)
    let eb := m.engineBlock r p
    let gen := (m.obj F.takeLAST_GEN p + 1) % 2 ^ 32
    let runs := (runsOf (m.takeLines r eb p)).map (m.runBytes r eb p)
    let m := m.switchLater p runs.flatten.length
    let final := m.goingOut.any (fun w => decide (w.at_ ≤ (m.part p).clapAt + m.period p))
    let m := (m.setObj F.takeLAST_GEN p gen).peak F.takeMAX_TAKE_BYTES p runs.flatten.length
    let m := m.sendRuns p 1 (final.toNat * 64 + x.migrate.toNat * 32 + x.restart.toNat * 16) gen runs
    let m := m.updTake p (fun y => { y with migrate := false, restart := false })
    (m.sliceSend r eb p gen, cleanWs r p)

/-- FULL_TAKE_PERIOD (R479): the 1000th Clapper since the latest full take began; it starts when the running one ends. -/
def execFullTakePeriod (t : Nat) (p : Fin 8) (s : State) : Out :=
  ev t (fun m =>
    if !m.paired || !m.running || !m.isSet F.partREDUNDANT p.val || decide ((m.take p.val).claps < 1000) then m
    else if (m.take p.val).full then m.updTake p.val (fun x => { x with ask := true })
    else m.startFull p.val) s

/-! ### What a stand-in does with them (R477, R478, R479) -/

/-- Runs of a payload: region, first line, bytes. -/
def readRuns : Nat → List Nat → List (Nat × Nat × List Nat)
  | 0, _ => []
  | fuel + 1, bs =>
    if bs.length < 8 then []
    else
      let n := leNat ((bs.drop 2).take 2)
      ((bs[0]?).getD 0, leNat ((bs.drop 4).take 4), (bs.drop 8).take (64 * n)) :: readRuns fuel (bs.drop (8 + 64 * n))

/-- A payload put into the Larder. -/
def larderWs (p : Nat) (bs : List Nat) : List W := (readRuns (bs.length + 1) bs).flatMap (fun x => putN .larder (larderAt p x.1 x.2.1) x.2.2)

/-- A take or a slice is missing or spoilt: SYNC 1, counted, a full take asked for (R478). -/
def Mach.takeBad (m : Mach) (p : Nat) : Mach := ((m.bump F.pairTAKES_LOST).updTake p (fun x => { x with asm := none })).askTake p

/-- A complete slice: the Larder's lines; the last one synchronises the partition if no gap came since it began. DEDUCED, log 65. -/
def Mach.sliceIn (m : Mach) (r : Ram) (p : Nat) (bs : List Nat) : Mach × List W :=
  let runs := readRuns (bs.length + 1) bs
  match runs with
  | [] => (m, [])
  | a :: _ =>
    let first := m.lineIdx r p a.1 a.2.1
    let n := (runs.map (fun x => x.2.2.length / 64)).sum
    let x := m.take p
    if first ≠ 0 ∧ !x.full then (m, [])
    else if first ≠ 0 ∧ first ≠ x.cursor then (m.takeBad p, [])
    else
      let m := m.when (first == 0) (fun m => (m.setObj F.takeSYNC p 2).updTake p (fun y => { y with full := true, clean := true, fullAt := m.now }))
      let m := m.updTake p (fun y => { y with cursor := first + n })
      if first + n < m.lineCount r p then (m, larderWs p bs)
      else
        let m := (m.updTake p (fun y => { y with full := false, cursor := 0 })).bump F.takeFULL_TAKES p
        let m := m.when (m.take p).clean (fun m => (m.setObj F.takeSYNC p 3).updPm (fun y => { y with larderBad := false }))
        (m, larderWs p bs)

/-- The migration of the Larder's records under a change (R499): as R163 carries them. -/
def carryLarder (r : Ram) (old new : List InstRec) : List W :=
  new.flatMap (carryPut .larder (fun o => larderAt o.partition 0 0 + o.offset) r old new)

/-- The staged change switches on the stand-in with the take marked MIGRATE: its program, and the Larder's records. DEDUCED, log 65. -/
def Mach.migrateIn (m : Mach) (r : Ram) : Mach × List W :=
  match m.sys.change, m.cfg with
  | some k, some o =>
    let m := m.updSys (fun v => { v with change := none })
    match m.changeCheck r k with
    | .error _ => (m, [])
    | .ok (n, ts) => (n.configSaid k true, ts ++ n.codeWs k ++ carryLarder r o.insts k.insts)
  | _, _ => (m, [])

/-- A complete take: applied where its generation follows, discarded where it is old, a gap otherwise. DEDUCED, log 65. -/
def Mach.takeIn (m : Mach) (r : Ram) (p : Nat) (f : TakeIn) (bs : List Nat) : Mach × List W :=
  let d := (f.gen + 2 ^ 32 - m.obj F.takeLAST_GEN p) % 2 ^ 32
  let seen := (m.take p).seen
  let mark := fun (m : Mach) => (m.setObj F.takeLAST_GEN p f.gen).updTake p (fun x => { x with seen := true, cycle := f.cycle, since := 0 })
  if seen ∧ 2 ^ 31 ≤ d then (m, [])
  else if !seen ∨ d ≠ 1 then ((mark m).takeBad p, [])
  else
    let m := (mark m).peak F.takeMAX_TAKE_BYTES p bs.length
    let x := if f.migrate then m.migrateIn r else (m, [])
    (x.1.when f.restart (fun m => m.askTake p), x.2 ++ larderWs p bs)

end Sys2Proof.Machine
end

