-- ==== Sys2Proof/Machine/Standin.lean ====
section
/-! DEFINITION. Stand-in redundancy (spec/16): takes received, heartbeats, loss of the partner, takeover, planned switches, dry solves,
the pair's commands. -/
namespace Sys2Proof.Machine

/-! ### Readiness and the pair object (R482, R485, R501, R502) -/

/-- PAIR is up: secured, and its path not down. -/
def Mach.pairUp (m : Mach) : Bool := m.obj F.psecSTATE 2 == 2 && !m.pm.peer.downPair && !m.blockOut 0x22

/-- The partner as noted meets R469, with the serial number PAIR_SET gives. -/
def Mach.meets (m : Mach) (serial : Nat) (x : Peer) : Bool :=
  x.variant == m.obj F.modVARIANT && x.firmware && x.moduleId == m.obj F.modMODULE_ID && x.serial == serial

/-- Places and segment nodes of partitions that hold (a predicate says which). -/
def Mach.placesOf (m : Mach) (f : Nat → Bool) : List Nat := (List.range 1024).filter (fun n => m.obj F.placePARTITION n < 8 && f (m.obj F.placePARTITION n))
def Mach.nodesOfAny (m : Mach) (f : Nat → Bool) : List Nat :=
  (List.range 512).filter (fun n => n % 64 != 0 && decide (m.obj F.nodePARTITION n < 8) && f (m.obj F.nodePARTITION n))

/-- The member has no nodes. -/
def Mach.nodeless (m : Mach) : Bool := m.placesOf (fun _ => true) == [] && m.nodesOfAny (fun _ => true) == []

/-- NOT_READY_CAUSE of a stand-in (R482). -/
def Mach.notReady (m : Mach) : Nat :=
  let x := m.pm
  (!m.redundants.all (fun p => m.obj F.takeSYNC p == 3)).toNat + 2 * (x.peer.programId != m.obj F.pairPROGRAM_ID).toNat +
  4 * (x.peer.slate != m.obj F.islSLATE).toNat + 8 * (x.testFail || x.larderBad).toNat + 16 * (!m.pairUp).toNat +
  32 * (decide (x.heardCycles < 3) && !m.nodeless).toNat + 64 * (!x.peer.firmware).toNat

/-- PARTNER (R502). -/
def Mach.partnerCode (m : Mach) : Nat :=
  let x := m.pm.peer
  if !m.heard then 0
  else if x.downNet then 4
  else if x.downPair then 5
  else if x.role = some 1 then 1
  else if bit x.flags 0 then 2 else 3

/-- The conditions of R501 hold: on the home primary itself, or as its active partner sees it. -/
def Mach.cleanNow (m : Mach) : Bool :=
  if m.mode = 3 then m.obj F.pairROLE_HOME == 1 && m.pm.ready && m.pm.peer.missPair == 0 && m.pm.peer.missNet == 0
  else m.running && m.obj F.pairROLE_HOME == 2 && m.partnerReady && m.pm.peer.missPair == 0 && m.pm.peer.missNet == 0

/-- Bring the pair object up to date; a change of readiness writes a record and raises PAIR_STATE (R482). -/
def Mach.pairSync (m : Mach) : Mach :=
  if !m.paired then m
  else
    let m := (m.setObj F.pairPARTNER 0 m.partnerCode).setObj F.pairPARTNER_PROGRAM_ID 0 (if m.heard then m.pm.peer.programId else 0)
    let m := m.updPm (fun x => { x with cleanAt := if m.cleanNow then some (x.cleanAt.getD m.now) else none })
    if m.mode = 3 then
      let c := m.notReady
      let m := m.setObj F.pairNOT_READY_CAUSE 0 c
      let m := m.setObj F.pairSTATE 0 (if !m.pm.peer.fits then 5 else if c = 0 then 3 else if bit c 0 then 2 else 4)
      if m.pm.ready = (c == 0) then m
      else
        let m := m.updPm (fun x => { x with ready := c == 0 })
        (m.chron { sub := 0x0D, low := 0x85, cause := c, detail := [m.obj F.pairSTATE] }).notice 0 0x0D85 0xFF
          [itm 1 1 (m.obj F.pairSTATE), itm 2 2 c]
    else if m.running then
      (m.setObj F.pairSTATE 0 (if m.heard then (if m.pm.peer.fits then 1 else 5) else 0)).setObj F.pairNOT_READY_CAUSE 0
        (if m.heard then m.pm.peer.cause else 0)
    else m

/-! ### Heartbeats sent (R483) -/

/-- The heartbeat partition: the redundant one with the shortest period. -/
def Mach.hbPart (m : Mach) : Option Nat :=
  m.redundants.foldl (fun o p => match o with
    | none => some p
    | some q => if m.period p < m.period q then some p else some q) none

/-- The partition at whose Clappers heartbeats go out: with no redundant one, those on the 1 ms grid of the lowest used. DEDUCED, log 66. -/
def Mach.hbDue (m : Mach) (p : Nat) : Bool :=
  match m.hbPart with
  | some q => p == q
  | none => m.usedParts.headD 8 == p && m.gz % 1000000 == 0

/-- Role byte: bring-up (in SAFE-HALT too, R546), active, stand-in. A module that runs the member stays active in COMMISSION and SERVICE
(R534); one that has left STAND-IN or SAFE-HALT for them does not run it (R533, R546). DEDUCED, log 66. -/
def Mach.hbRole (m : Mach) : Nat := if m.mode = 3 then 2 else if m.running || ((m.mode == 0 || m.mode == 5) && m.pm.leads) then 1 else 0

/-- The heartbeat of a Clapper, on PAIR and on the plant network. During the wrap an active module with a ready stand-in falls silent. -/
def Mach.hbSend (m : Mach) (p : Nat) : Mach :=
  if !m.paired || !m.hbDue p || (decide (1 ≤ m.sys.bringup) && decide (m.sys.bringup < 7)) || (m.sys.wrap.isSome && m.running && m.partnerReady) then m
  else
    let flags := m.pm.ready.toNat + 2 * (m.obj F.pairROLE_HOME == 1).toNat + 4 * (m.obj F.powPOWER_STATE == 2).toNat
    let body := toBe 4 (m.obj F.pairEPOCH) ++ toBe 4 ((m.part p).cycle % 2 ^ 32) ++ [m.hbRole, flags] ++ toBe 2 (m.obj F.pairNOT_READY_CAUSE) ++
      toBe 4 (m.obj F.pairPROGRAM_ID) ++ toBe 4 (m.obj F.islSLATE) ++ (List.range 8).flatMap (fun q => toBe 4 (m.obj F.takeLAST_GEN q))
    let all := m.pairHead 3 0 0 (m.part p).cycle 0 0 body.length ++ body
    (m.emit ⟨20, 3, 0, all⟩).emitNet 3 all

/-! ### Heartbeats received and missed (R484) -/

/-- The path of a heartbeat changes its state: its record and count. -/
def Mach.pathSaid (m : Mach) (net down : Bool) : Mach :=
  (m.chron { sub := 0x0D, low := 0x03, inst := net.toNat, cause := down.toNat }).bump (if net then F.pairHB_MISSED_NET else F.pairHB_MISSED_PAIR)

/-- A switch under way ends without a change of control. -/
def Mach.switchOff (m : Mach) : Mach :=
  match m.pm.switch with
  | none => m
  | some w =>
    let m := m.updPm (fun x => { x with switch := none })
    let m := m.when (!w.incoming) (fun m => m.emit ⟨20, 4, 0, [7]⟩)
    match w.by_ with
    | some (op, q, sq) => m.complete q op sq 0x1D02
    | none => m

/-- Full takes commanded complete when the stand-in reports SYNC 3 (R507). -/
def Mach.fullsDone (m : Mach) : Mach :=
  if bit m.pm.peer.cause 0 then m
  else
    let over_ := fun (f : Nat × Nat × Nat) => (bitsOf 8 f.2.2).all (fun p => !(m.take p).full && !(m.take p).ask)
    let ds := m.pm.fulls.filter over_
    (m.updPm (fun x => { x with fulls := x.fulls.filter (fun f => !over_ f) })).each ds (fun m f => m.complete f.1 0x0D13 f.2.1 stDONE)

/-- What R469 compares of a heartbeat's sender, as a path brings it. -/
def Peer.note (y : Peer) (h : HbIn) : Peer :=
  { y with role := some h.role, variant := h.variant, serial := h.serial, moduleId := h.moduleId, firmware := h.firmware }

/-- What a heartbeat shows of the partner; one that comes after its Clapper + TRANSIT_US counts as missed (R484), and what it says is
noted all the same. DEDUCED, log 66. -/
def Mach.hbNote (m : Mach) (net fits : Bool) (h : HbIn) : Mach :=
  let per := m.hbPeriod
  let x := m.pm.peer
  let timely := decide (m.gz % per ≤ m.obj F.timeTRANSIT_US * 1000)
  let m := m.when (timely && if net then x.downNet else x.downPair) (fun m => m.pathSaid net false)
  let clap := m.now - m.gz % per
  m.updPeer (fun y =>
    let y := { y.note h with epoch := h.epoch, flags := h.flags, cause := h.cause, programId := h.programId, slate := h.slate }
    let y := { y with gens := h.gens, fits := fits }
    if !timely then y else
    let y := { y with clap := clap, lostAt := none }
    if net then { y with missNet := 0, downNet := false } else { y with missPair := 0, downPair := false })

/-- HEARTBEAT (R469, R484, R494, R495); a module not yet paired notes whom it hears on PAIR (R504). -/
def Mach.heartbeatIn (m : Mach) (net : Bool) (h : HbIn) : Mach :=
  let at_ := if net then h.port.val else 2
  if m.sys.off || h.etherType != m.sys.pairType || m.blockOut (0x20 + at_) then m
  else if !m.macPass at_ h.secured then m.macDrop at_
  else if !m.paired then m.when (!net) (fun m => m.updPeer (fun y => { y.note h with clap := m.now }))
  else
    let fits := m.meets (m.obj F.pairPARTNER_SERIAL) (({} : Peer).note h) && bit h.flags 1 != (m.obj F.pairROLE_HOME == 1)
    let was := m.pm.peer.fits
    let m := m.hbNote net fits h
    if !fits then
      let m := m.when was (fun m => (m.chron { sub := 0x0D, low := 0x02, detail := toLe 2 h.moduleId }).setObj F.pairSTATE 0 5)
      m.pairSync
    else
      let mine := m.obj F.pairEPOCH
      let m := m.updPm (fun x => { x with aloneAt := none })
      let m := m.when (h.role == 1 && decide (mine < h.epoch)) (fun m =>
        if m.running then m.demote else m.when (m.mode == 3) (fun m => m.setObj F.pairEPOCH 0 h.epoch))
      let m := m.when (h.role == 1 && h.epoch == mine && m.running && m.obj F.pairROLE_HOME == 2) Mach.demote
      let m := m.fullsDone
      let m := m.when (m.goingOut.isSome && !m.partnerReady) Mach.switchOff
      m.pairSync

/-- HEARTBEAT (R484). -/
def execHeartbeat (t : Nat) (net : Bool) (h : HbIn) (s : State) : Out := ev t (fun m => m.heartbeatIn net h) s

/-- HEARTBEAT_MISSED (R484): not received on a path by its Clapper + TRANSIT_US; the third in a row takes the path down. -/
def execHeartbeatMissed (t : Nat) (net : Bool) (s : State) : Out :=
  ev t (fun m =>
    let x := m.pm.peer
    let n := if net then x.missNet else x.missPair
    let down := if net then x.downNet else x.downPair
    if !m.paired || m.now < x.clap + (n + 1) * m.hbPeriod + m.obj F.timeTRANSIT_US * 1000 then m
    else
      let m := m.updPeer (fun y => if net then { y with missNet := n + 1 } else { y with missPair := n + 1 })
      let m := m.when (n == 2 && !down) (fun m => (m.pathSaid net true).updPeer (fun y => if net then { y with downNet := true } else { y with downPair := true }))
      m.pairSync) s

/-! ### Takes received -/

/-- A frame of a take or of a full-take slice: assembled, and acted on when its last frame and trailer are in (R478). -/
def Mach.frameIn (m : Mach) (r : Ram) (f : TakeIn) : Mach × List W :=
  let p := f.part.val
  let key := 2 * f.gen + f.slice.toNat
  let x := m.take p
  let pre : Option (Nat × List Nat) := if f.index = 0 then some (0, []) else
    match x.asm with
    | some (k, n, bs) => if k = key ∧ n = f.index then some (n, bs) else none
    | none => none
  match pre with
  | none => (m.takeBad p, [])
  | some (n, bs) =>
    let bs := bs ++ f.payload
    let m := m.updTake p (fun y => { y with asm := if f.last then none else some (key, n + 1, bs) })
    if !f.last then (m, [])
    else if crc32c bs ≠ f.crc then (m.takeBad p, [])
    else if f.slice then m.sliceIn r p bs
    else m.takeIn r p f bs

/-- TAKE_FRAME (R478, R479). -/
def execTakeFrame (t : Nat) (f : TakeIn) (s : State) : Out :=
  evR t (fun r m =>
    if !m.macPass 2 f.secured then (m.macDrop 2, [])
    else if !m.paired || m.mode != 3 || !m.pairUp || f.etherType != m.sys.pairType || f.moduleId != m.obj F.modMODULE_ID || !m.redundants.contains f.part.val then (m, [])
    else
      let x := m.frameIn r f
      (x.1.pairSync, x.2)) s

/-! ### Restoring the Larder (R487, R490) -/

/-- Larder to SRAM: instance region and output slots. -/
def Mach.restoreWs (m : Mach) (r : Ram) (p : Nat) : List W :=
  let base := m.obj F.partINST_BASE p
  (cellsIn r .inst base (m.obj F.partINST_SIZE p)).map (fun e => W.put .inst (base + e.1) 0) ++
  (cellsIn r .larder (larderAt p 0 0) (m.obj F.partINST_SIZE p)).map (fun e => W.put .inst (base + e.1) e.2) ++
  ((m.outLines r p).flatMap (fun l => (List.range 32).map (32 * l + ·))).filterMap (fun pt =>
    if mayWrite (m.ownEnt r pt) p then
      some (W.put .work pt (rd r .larder (larderAt p 1 0 + 2 * pt) + 256 * rd r .larder (larderAt p 1 0 + 2 * pt + 1)))
    else none)

/-- SRAM to the Larder: the outgoing module keeps its state as its Larder (R500). -/
def Mach.keepWs (m : Mach) (r : Ram) (p : Nat) : List W :=
  let base := m.obj F.partINST_BASE p
  let eb := m.engineBlock r p
  (cellsIn r .larder (larderAt p 0 0) (2 ^ 35)).map (fun e => W.put .larder (larderAt p 0 0 + e.1) 0) ++
  (cellsIn r .inst base (m.obj F.partINST_SIZE p)).map (fun e => W.put .larder (larderAt p 0 0 + e.1) e.2) ++
  (m.outLines r p).flatMap (fun l => putN .larder (larderAt p 1 l) ((rdN r .work (32 * l) 32).flatMap (toLe 2))) ++
  putN .larder (larderAt p 2 0) eb

/-- A partition goes on from its engine block: CYCLE_NUMBER continued, start count, state, alarms and effect latches (R474, R490). DEDUCED, log 65. -/
def Mach.resumePart (m : Mach) (r : Ram) (p up : Nat) : Mach :=
  let eb := fun (o n : Nat) => leNat (rdN r .larder (larderAt p 2 0 + o) n)
  let st := eb 12 1
  let m := (m.setObj F.partSTATE p st).updPart p (fun x => { x with
    cycle := (eb 0 8 + (m.take p).since) % 2 ^ 64
    startCount := (eb 8 4 + up) % 2 ^ 32
    cmd := none
    solves := st == 1
    phase := 0 })
  let as := m.alarmsOf p
  let m := m.each (as.zip (List.range as.length)) (fun m e => m.setObj F.alarmSTATE e.1 (eb (64 + e.2) 1))
  let es := m.effectsOn r p
  m.each (es.zip (List.range es.length)) (fun m e =>
    let on := eb (64 + as.length + e.2) 1 == 1
    ((m.updEff e.1 (fun y => { y with active := on })).setObj F.effLATCHED e.1 on.toNat).setObj F.effSTATE e.1 (if on then 4 else 1))

/-- At a cold takeover the start count goes on from the one the takes carried, raised by the takeover; the cold start raises it again (R57). -/
def Mach.coldCount (m : Mach) (r : Ram) (p : Nat) : Mach :=
  m.updPart p (fun x => { x with
    startCount := ((if (m.take p).seen then leNat (rdN r .larder (larderAt p 2 0 + 8) 4) else x.startCount) + 1) % 2 ^ 32 })

/-! ### Loss of the partner (R485, R486) -/

/-- The nodes of a partition, as their frames of the latest gathered Clapper show them: frames were latched, each reporting HOLDING or
FALLBACK; or it has no nodes. DEDUCED, log 66. -/
def Mach.partHolds (m : Mach) (p : Nat) : Bool :=
  let pl := m.placesOf (· == p)
  let nd := m.nodesOfAny (· == p)
  let fl := (pl.filter (fun n => (m.place n).missed == 0)).map (fun n => bit (m.place n).flags 7 || bit (m.place n).flags 6) ++
    (nd.filter (fun n => (m.node n).missed == 0)).map (fun n => bit (m.node n).header 5 || bit (m.node n).header 4)
  if pl = [] ∧ nd = [] then true else fl != [] && fl.all id

/-- The controller epoch is raised (R242, R244): at its limit it stays, with a record. -/
def Mach.raiseEpoch (m : Mach) : Mach :=
  let e := m.obj F.pairEPOCH
  if e = 2 ^ 32 - 1 then m.chron { sub := 0x0D, low := 0x05, detail := toLe 4 e } else m.setObj F.pairEPOCH 0 (e + 1)

/-- Loss said: record and event. -/
def Mach.lossSaid (m : Mach) (cause : Nat) : Mach :=
  (m.chron { sub := 0x0D, low := 0x82, cause := cause }).notice 0 0x0D82 0xFF [itm 1 1 cause]

/-- A takeover begins (R487): incomplete takes dropped, the epoch raised, windows closed, LOW left. -/
def Mach.takeoverStart (m : Mach) (cold : Bool) : Mach :=
  let m := (m.each m.redundants (fun m p => m.updTake p (fun x => { x with asm := none }))).raiseEpoch
  let m := (m.when m.windowOpen (fun m => m.closeWindow 0x1102)).leaveLow
  m.updPm (fun x => { x with takeover := some ⟨m.now, m.gzStamp, cold, if cold then some m.now else none⟩ })

/-- The stand-in is ready when its partner is lost: the heartbeats missed by the loss itself do not make PAIR down for it. DEDUCED, log 66. -/
def Mach.readyAtLoss (m : Mach) : Bool :=
  (m.when (decide (m.pm.peer.missPair ≤ 3)) (fun m => m.updPeer (fun y => { y with downPair := false }))).notReady == 0

/-- PARTNER_LOST (R485, R486): heartbeats j + 1 to j + 3 missed on both paths. -/
def execPartnerLost (t : Nat) (s : State) : Out :=
  ev t (fun m =>
    let x := m.pm.peer
    if !m.paired || x.role.isNone || m.pm.takeover.isSome || decide (x.missPair < 3) || decide (x.missNet < 3) ||
      decide (m.now < x.clap + 3 * m.hbPeriod + m.obj F.timeTRANSIT_US * 1000) then m
    else
      let was := x.role
      let ready := m.readyAtLoss
      let m := m.updPeer (fun y => { y with role := none, lostAt := some m.now })
      if m.running then ((m.switchOff).lossSaid 0).pairSync
      else if m.mode ≠ 3 ∨ was ≠ some 1 then m.pairSync
      else if x.slate ≠ m.obj F.islSLATE ∨ !m.redundants.all m.partHolds then (m.lossSaid 1).pairSync
      else if ready then m.takeoverStart false
      else if m.obj F.pairUNSYNC_ACTION = 0 then m.takeoverStart true
      else (m.lossSaid 2).pairSync) s

/-- Time S_L / 20 GB/s, ns (R487). -/
def Mach.restoreNs (m : Mach) : Nat := cdiv (m.obj F.pairLARDER_BYTES) 20

/-- LARDER_RESTORED (R487 step 2). -/
def execLarderRestored (t : Nat) (s : State) : Out :=
  evR t (fun r m =>
    match m.pm.takeover with
    | some k =>
      if k.restored.isSome ∨ m.now < k.at_ + m.restoreNs then (m, [])
      else (m.updPm (fun x => { x with takeover := some { k with restored := some m.now } }), m.redundants.flatMap (m.restoreWs r))
    | none => (m, [])) s

/-- The module takes over a running member: partitions go on from the Larder, or all start cold; the others start by AUTOSTART. -/
def Mach.becomeActive (m : Mach) (r : Ram) (cold : Bool) (up state : Nat) : Mach × List W :=
  let x := m.goMode r 1 0
  let m := x.1
  let m := if cold then m.each m.redundants (fun m p => (m.coldCount r p).givePart p 0) else m.each m.redundants (fun m p => m.resumePart r p up)
  let m := m.each m.redundants (fun m p => (m.setObj F.takeSYNC p 1).updTake p (fun y => { y with asm := none, full := false, clean := false, ask := true }))
  (m.setObj F.pairSTATE 0 state, x.2)

/-- TAKEOVER_READY (R487 step 3). -/
def execTakeoverReady (t : Nat) (s : State) : Out :=
  evR t (fun r m =>
    match m.pm.takeover with
    | some k =>
      match k.restored with
      | some a =>
        if m.now < a + 1000000 then (m, [])
        else
          let gens := (List.range 8).map (fun p => m.obj F.takeLAST_GEN p)
          let x := (m.updPm (fun y => { y with takeover := none, ready := false })).becomeActive r k.cold 1 0
          let m := (x.1.bump F.pairTAKEOVERS).setObj F.pairLAST_TAKEOVER 0 k.gz
          let what := toLe 8 k.gz ++ toLe 4 (m.obj F.pairEPOCH) ++ gens.flatMap (toLe 4) ++
            (List.range 8).flatMap (fun p => toLe 4 (m.obj F.takeTAKEOVER_NS p))
          let m := m.chron { sub := 0x0D, low := 0x80, cause := k.cold.toNat, detail := what }
          ((m.notice 0 0x0D80 0xFF [itm 1 8 k.gz, itm 2 4 (m.obj F.pairEPOCH)]).pairSync, x.2)
      | none => (m, [])
    | none => (m, [])) s

/-! ### Roles at bring-up (R472) -/

/-- PAIR_LISTEN_END (R472): 2 s of listening before mode entry decide the role. -/
def execPairListenEnd (t : Nat) (s : State) : Out :=
  ev t (fun m =>
    if !m.paired || m.sys.bringup != 8 || m.pm.standin.isSome || decide (m.now < m.sys.stepAt + 2 * 10 ^ 9) then m
    else
      let primary := m.obj F.pairROLE_HOME == 1
      let x := m.pm.peer
      let mine := m.obj F.pairEPOCH
      if !x.fits then m.updPm (fun y => { y with standin := some false })
      else match x.role with
        | some 1 => (m.setObj F.pairEPOCH 0 (max mine x.epoch)).updPm (fun y => { y with standin := some true })
        | some _ => m.updPm (fun y => { y with standin := some (if mine = x.epoch then !primary else decide (mine < x.epoch)) })
        | none =>
          if primary then m.updPm (fun y => { y with standin := some false })
          else m.updPm (fun y => { y with standin := some true, aloneAt := some m.now })) s

/-- ALONE_WAIT_EXPIRY (R472): a lone home stand-in becomes active if every node it hears holds; the epoch is not raised. -/
def execAloneWaitExpiry (t : Nat) (s : State) : Out :=
  evR t (fun r m =>
    match m.pm.aloneAt with
    | some a =>
      let holds := (m.placesOf (fun _ => true)).all (fun n => (m.place n).missed != 0 || bit (m.place n).flags 7 || bit (m.place n).flags 6) &&
        (m.nodesOfAny (fun _ => true)).all (fun n => (m.node n).missed != 0 || bit (m.node n).header 5 || bit (m.node n).header 4)
      if m.mode ≠ 3 ∨ m.now < a + m.obj F.pairALONE_WAIT_S * 10 ^ 9 ∨ !holds then (m, [])
      else
        let x := (m.updPm (fun y => { y with aloneAt := none })).goMode r 1 0
        (x.1.pairSync, x.2)
    | none => (m, [])) s

/-! ### Demotion (R494) -/

/-- A superseded module demotes at its Clapper: transmission stops, outputs fall back, STAND-IN, SYNC 1; a self-test pass follows. -/
def Mach.demoteNow (m : Mach) (r : Ram) : Mach × List W :=
  if !m.sys.demoting then (m, [])
  else
    let m := (m.updSys (fun x => { x with demoting := false })).switchOff
    let x := m.usedParts.foldl (fun (y : Mach × List W) p =>
      if y.1.obj F.partSTATE p = 1 then
        let z := y.1.dropPart (wr r y.2) p 2
        (z.1, y.2 ++ z.2)
      else y) (m, [])
    let y := x.1.goMode r 3 0
    let m := y.1.each y.1.redundants (fun m p => (m.setObj F.takeSYNC p 1).updTake p (fun z => { z with
      full := false
      clean := false
      seen := false }))
    let m := m.updPm (fun z => { z with testing := true, ready := false })
    let m := (m.chron { sub := 0x0D, low := 0x81, detail := toLe 4 (m.obj F.pairEPOCH) }).notice 0 0x0D81 0xFF [itm 1 4 (m.obj F.pairEPOCH)]
    (m.setObj F.pairSTATE 0 2, x.2 ++ y.2)

/-- DEMOTION_SELF_TEST_DONE (R494): a stand-in again, or SAFE-HALT. -/
def execDemotionSelfTestDone (t : Nat) (pass : Bool) (s : State) : Out :=
  evR t (fun r m =>
    if !m.pm.testing then (m, [])
    else
      let m := m.updPm (fun x => { x with testing := false })
      if pass then ((m.each m.redundants Mach.askTake).pairSync, []) else m.safeHalt r 6) s

/-! ### Checks of the stand-in (R496 to R498) -/

/-- DRY_SOLVE (R497): every DRY_S seconds the next redundant partition in turn is solved dry and compared. DEDUCED, log 66. -/
def execDrySolve (t : Nat) (p : Fin 8) (res : DryRes) (s : State) : Out :=
  ev t (fun m =>
    let next := ((m.redundants.find? (fun q => decide (m.pm.dryPart < q))).orElse (fun _ => m.redundants.head?))
    if !m.paired || m.mode != 3 || m.obj F.powPOWER_STATE == 2 || next != some p.val || decide (m.now < m.pm.dryAt + m.obj F.pairDRY_S * 10 ^ 9) then m
    else
      let m := m.updPm (fun x => { x with dryAt := m.now, dryPart := p.val })
      match res with
      | .skipped => m.bump F.takeDRY_SKIPPED p.val
      | .same => (m.bump F.takeDRY_SOLVES p.val).updPm (fun x => { x with drySaid := x.drySaid + 1 })
      | .differs l =>
        let m := ((m.bump F.takeDRY_SOLVES p.val).bump F.takeDRY_MISMATCHES p.val).updPm (fun x => { x with
          drySaid := x.drySaid + 1
          dryDiff := x.dryDiff + 1
          cleanAt := none })
        let m := m.chron { sub := 0x0D, low := 0x84, part := p.val, detail := toLe 4 (m.obj F.takeLAST_GEN p.val) ++ toLe 4 l }
        (m.notice 0 0x0D84 p.val [itm 1 1 p.val, itm 2 4 l]).emit ⟨20, 4, p.val, [1]⟩) s

/-- STANDIN_HEALTH (R498). -/
def execStandinHealth (t : Nat) (s : State) : Out :=
  ev t (fun m =>
    if !m.paired || m.mode != 3 || decide (m.now < m.pm.healthAt + 10 ^ 9) then m
    else
      let lag := fun (p : Nat) => (alook 0 ((List.range 8).zip m.pm.peer.gens) p + 2 ^ 32 - m.obj F.takeLAST_GEN p) % 2 ^ 32
      let passes := ((List.range 8).map (fun c => m.obj F.cePASSES c)).sum
      let m := m.notice 0 0x0D83 0xFF [itm 1 1 (m.obj F.pairSTATE), itm 2 2 (m.obj F.pairNOT_READY_CAUSE), ⟨3, (List.range 8).flatMap (fun p => toBe 4 (lag p))⟩,
        itm 4 4 m.pm.drySaid, itm 5 4 m.pm.dryDiff, itm 6 4 (passes % 2 ^ 32), itm 7 4 ((m.now - m.pm.scrubAt) / 10 ^ 9)]
      m.updPm (fun x => { x with healthAt := m.now, drySaid := 0, dryDiff := 0 })) s

/-- A word of an engine's memories is beyond correction (R86, R91): a frame fault, a bank error, an error of images or instance data. -/
def Mach.wordLost (m : Mach) (r : Ram) (c cause : Nat) : Mach × List W :=
  let e := m.eng c
  let live := e.run ≠ 0
  m.solveFault r (m.obj F.cePARTITION c) cause c (if live then e.task else 0xFF) (if live then e.pc else 0xFFFFFFFF)

/-- MEMORY_SCRUB (R70, R86, R91, R496): a word is clean, corrected or beyond correction; the last of a Larder pass. A fetch that is
corrected costs 2 clocks. DEDUCED, log 66. -/
def execMemoryScrub (t : Nat) (mem : MemWord) (k : Fin 8) (res : Fin 3) (last : Bool) (s : State) : Out :=
  evR t (fun r m =>
    if m.sys.off then (m, [])
    else match mem with
    | .larder =>
      if m.mode ≠ 3 then (m, [])
      else
        let m := m.when last (fun m => m.updPm (fun x => { x with scrubAt := m.now }))
        (m.when (res.val == 2) (fun m => (m.updPm (fun x => { x with larderBad := true })).pairSync), [])
    | .bank fetch =>
      if res.val = 0 then (m, [])
      else if res.val = 1 then
        ((m.bump F.ceECC_CORRECTED k.val).when (fetch && (m.eng k.val).run == 1) (fun m => m.updEng k.val (fun e => { e with clk := e.clk + 2 })), [])
      else
        let x := (m.when (m.mode == 3) (fun m => m.updPm (fun y => { y with testFail := true }))).wordLost r k.val 2
        (x.1.pairSync, x.2)
    | .data =>
      if res.val = 0 then (m, []) else if res.val = 1 then (m.bump F.ceECC_CORRECTED k.val, []) else m.wordLost r k.val 3
    | .frame => if res.val = 2 then m.wordLost r k.val 1 else (m, [])) s

/-- STANDIN_HUB_TEST (R496): every 24 h the I/O hub's bring-up tests, with the local outputs held at fallback. -/
def execStandinHubTest (t : Nat) (pass : Bool) (s : State) : Out :=
  ev t (fun m =>
    if !m.paired || m.mode != 3 || decide (m.now < m.pm.hubAt + 24 * 3600 * 10 ^ 9) then m
    else
      let m := m.updPm (fun x => { x with hubAt := m.now, testFail := x.testFail || !pass })
      (m.when (!pass) (fun m => m.chron { sub := 0x0D, low := 0x01, cause := 1 })).pairSync) s

/-! ### Planned switches (R500, R501, R505, R506) -/

/-- A planned switch starts: C_s, told to the partner. -/
def Mach.switchStart (m : Mach) (by_ : Option (Nat × Nat × Nat)) (maxMs : Nat) : Mach :=
  let at_ := m.commonClap (m.now + m.restoreNs)
  (m.emit ⟨20, 4, 0, 5 :: toBe 8 (m.gzAt at_)⟩).updPm (fun x => { x with switch := some ⟨by_, m.now, maxMs, at_, false⟩ })

/-- Control leaves this module: its partitions solve no further, its state stays as its Larder, it is a stand-in at SYNC 3. -/
def Mach.switchOut (m : Mach) (r : Ram) (w : Switch) (held : Bool) : Mach × List W :=
  let ps := m.redundants
  let ws := ps.flatMap (m.keepWs r)
  let gz := m.gzStamp
  let m := (m.updPm (fun x => { x with switch := none, ready := true })).each m.usedParts (fun m p =>
    if m.obj F.partSTATE p = 1 then m.stopPart p (if ps.contains p then 2 else 0) else m)
  let x := m.goMode r 3 0
  let m := x.1.each ps (fun m p => (m.setObj F.takeSYNC p 3).updTake p (fun y => { y with seen := true, since := 0, clean := true }))
  let m := (m.setObj F.pairSTATE 0 3).chron { sub := 0x0D, low := 0x86, cause := held.toNat, detail := toLe 8 gz }
  let m := m.notice 0 0x0D86 0xFF [itm 1 8 gz, itm 2 1 held.toNat]
  (match w.by_ with
   | some (op, q, sq) => m.complete q op sq stDONE [itm 1 8 gz, itm 2 1 held.toNat]
   | none => m, ws ++ x.2)

/-- Control comes to this module at C_s: the epoch is raised, the Larder is its state, it solves from this cycle on. -/
def Mach.switchIn (m : Mach) (r : Ram) : Mach × List W :=
  let ws := m.redundants.flatMap (m.restoreWs r)
  let m := ((m.updPm (fun x => { x with switch := none, ready := false })).raiseEpoch).leaveLow
  let x := m.becomeActive r false 0 1
  let m := x.1.chron { sub := 0x0D, low := 0x86, detail := toLe 8 m.gzStamp }
  ((m.notice 0 0x0D86 0xFF [itm 1 8 m.gzStamp, itm 2 1 0]).pairSync, ws ++ x.2)

/-- SWITCH_INSTANT (R500): C_s has come with the FINAL takes over, on the outgoing or the incoming module. DEDUCED, log 66. -/
def execSwitchInstant (t : Nat) (s : State) : Out :=
  evR t (fun r m =>
    match m.pm.switch with
    | some w =>
      if m.now < w.at_ then (m, [])
      else if w.incoming then (if m.mode = 3 then m.switchIn r else (m, []))
      else if m.running ∧ m.partnerReady then m.switchOut r w false
      else (m.switchOff, [])
    | none => (m, [])) s

/-- SWITCH_MAX_WAIT (R500): no instant met the condition within MAX_WAIT_MS; the switch is made, and cycle s is not solved. -/
def execSwitchMaxWait (t : Nat) (s : State) : Out :=
  evR t (fun r m =>
    match m.pm.switch with
    | some w =>
      if m.now < w.start + w.maxMs * 10 ^ 6 ∨ m.now < w.at_ then (m, [])
      else if w.incoming then
        (if m.mode = 3 then
          let x := m.switchIn r
          (x.1.each x.1.redundants (fun m p => m.updPart p (fun y => { y with noGather := true })), x.2)
         else (m, []))
      else if m.running ∧ m.partnerReady then m.switchOut r w true
      else (m.switchOff, [])
    | none => (m, [])) s

/-- CLEAN_PERIOD_ELAPSED (R501): a revertive home primary that has been a clean, ready stand-in for CLEAN_S asks for control. -/
def execCleanPeriodElapsed (t : Nat) (s : State) : Out :=
  ev t (fun m =>
    let over_ := m.pm.cleanAt.any (fun a => decide (a + m.obj F.pairCLEAN_S * 10 ^ 9 ≤ m.now))
    if m.mode = 3 ∧ m.isSet F.pairREVERTIVE ∧ m.cleanNow ∧ over_ ∧ m.pm.switch.isNone then m.emit ⟨20, 4, 0, [6]⟩ else m) s

/-- Why a switch cannot start (R505): its status. -/
def Mach.switchRefused (m : Mach) : Option Nat :=
  if m.mode = 3 ∨ !m.paired then some 0x1D07
  else if m.pm.switch.isSome then some 0x1D06
  else if m.obj F.pairEPOCH = 2 ^ 32 - 1 then some stSTALE_EPOCH
  else if !m.heard then some 0x1D04
  else if !m.partnerReady then some 0x1D02
  else none

/-- MAX_WAIT_MS and FORCE. -/
def switchVal (ty : Nat) (v : List Nat) : Bool :=
  if ty = 1 then decide (10 ≤ beNat v) && decide (beNat v ≤ 60000) else if ty = 2 then decide (beNat v ≤ 1) else true

/-- The card of SWITCHOVER. -/
def switchoverCard : Card :=
  { op := 0x0D11, bulk := false, modes := [1, 2, 3], sysOnly := true, items := [⟨1, 2, 2, false, false⟩], valOk := switchVal }

/-- The effect of SWITCHOVER (R505). -/
def switchover (c : Cmd) (m : Mach) : Res :=
  match m.switchRefused with
  | some st => Res.fail m st
  | none => Res.started (m.switchStart (some (0x0D11, c.q, c.seq)) (c.num 1 10000))

/-- SWITCHOVER (R505). -/
def execSwitchover (msg : Msg) (s : State) : Out :=
  zcpM switchoverCard switchover msg s

/-- The card of HANDBACK. -/
def handbackCard : Card :=
  { op := 0x0D12, bulk := false, modes := [1, 2, 3], sysOnly := true, items := [⟨1, 2, 2, false, false⟩, ⟨2, 1, 1, false, false⟩],
    valOk := switchVal }

/-- The effect of HANDBACK (R506). DEDUCED, log 66. -/
def handback (c : Cmd) (m : Mach) : Res :=
  let clean := m.pm.cleanAt.any (fun a => decide (a + m.obj F.pairCLEAN_S * 10 ^ 9 ≤ m.now))
  if m.obj F.pairROLE_HOME ≠ 2 then Res.fail m 0x1D07
  else match m.switchRefused with
  | some st => Res.fail m st
  | none =>
    if !clean && c.num 2 == 0 then Res.fail m 0x1D05
    else Res.started (m.switchStart (some (0x0D12, c.q, c.seq)) (c.num 1 10000))

/-- HANDBACK (R506). -/
def execHandback (msg : Msg) (s : State) : Out :=
  zcpM handbackCard handback msg s

/-- The card of FULL_TAKE. -/
def fullTakeCard : Card :=
  { op := 0x0D13, bulk := false, modes := [1, 2], sysOnly := true, items := [⟨1, 1, 1, true, false⟩], partTy := some 1,
    valOk := fun _ v => decide (beNat v ≤ 7) || beNat v == 0xFF }

/-- The effect of FULL_TAKE (R507). -/
def fullTake (c : Cmd) (m : Mach) : Res :=
  let ps := if c.num 1 = 0xFF then m.redundants else [c.num 1]
  if !ps.all m.redundants.contains then Res.bad m 1
  else if !m.heard || m.pm.peer.role != some 2 then Res.fail m 0x1D04
  else
    let mask := ps.foldl (fun v p => setBit v p true) 0
    Res.started ((m.each ps Mach.startFull).updPm (fun x => { x with fulls := x.fulls ++ [(c.q, c.seq, mask)] }))

/-- FULL_TAKE (R507). -/
def execFullTake (msg : Msg) (s : State) : Out :=
  zcpM fullTakeCard fullTake msg s

/-- The card of PAIR_SET. -/
def pairSetCard : Card :=
  { op := 0x0D10, bulk := true, modes := [0], sysOnly := true, items := [⟨1, 1, 1, true, false⟩, ⟨2, 8, 8, false, false⟩],
    valOk := fun ty v => ty != 1 || decide (beNat v ≤ 2),
    combo := fun _ is => clash (itemNum is 1 1 == 0 && hasItem is 2),
    lack := fun is => if itemNum is 1 0 ≠ 0 ∧ !hasItem is 2 then some 2 else none }

/-- The module hears a partner on PAIR: its path is up, or, before any pairing, a heartbeat came within three periods. -/
def Mach.hearsPair (m : Mach) : Bool :=
  m.pm.peer.role.isSome && m.obj F.psecSTATE 2 == 2 &&
  (if m.paired then !m.pm.peer.downPair else decide (m.now ≤ m.pm.peer.clap + 3 * m.hbPeriod + m.obj F.timeTRANSIT_US * 1000))

/-- The effect of PAIR_SET (R504); a partner heard that fails R469 is refused, with a record (R4). DEDUCED, log 13. -/
def pairSet (c : Cmd) (m : Mach) : Res :=
  if m.obj F.secLIFECYCLE ≠ 2 then Res.fail m 0x1F04
  else if c.num 1 ≠ 0 ∧ m.hearsPair ∧ !m.meets (c.num 2) m.pm.peer then
    Res.fail (m.chron { sub := 0x0D, low := 0x02, cause := 1, detail := toLe 2 m.pm.peer.moduleId }) 0x1D01
  else
    let m := (m.setObj F.pairROLE_HOME 0 (c.num 1)).setObj F.pairPARTNER_SERIAL 0 (c.num 2)
    Res.done (if c.num 1 = 0 then ((m.updPm (fun _ => {})).setObj F.pairSTATE 0 0).setObj F.pairPARTNER 0 0 else m.pairSync)

/-- PAIR_SET (R504). -/
def execPairSet (msg : Msg) (s : State) : Out :=
  zcpM pairSetCard pairSet msg s

/-! ### Control frames (R478, R480, R481, R499 to R501) -/

/-- A configuration from the active module is loaded on the stand-in; its partitions need a full take. DEDUCED, log 76. -/
def Mach.pairLoad (m : Mach) (r : Ram) (k : Pkg) : Mach × List W :=
  let x := m.withPkg r k true
  match x.1.loaderCheck (wr r x.2) k false with
  | .error b => (m.chron { sub := 0x0D, low := 0x02, cause := 2, detail := toLe 2 b.1 ++ toLe 4 k.programId }, [])
  | .ok n =>
    let y := m.adopt n r x.2 k
    ((y.1.each y.1.redundants Mach.askTake).pairSync, y.2)

/-- The stand-in tells the active module whether it has verified a change (R499). -/
def Mach.tellChange (m : Mach) (k : Pkg) (ok : Bool) : Mach := m.emit ⟨20, 4, 0, 2 :: ok.toNat :: toBe 4 k.programId⟩

/-- A control frame on PAIR (R480). -/
def Mach.pairCtlIn (m : Mach) (r : Ram) (c : PairCtl) : Mach × List W :=
  if !m.paired || !m.pairUp then (m, [])
  else match c with
  | .fullTake parts => if m.running then (m.each (m.redundants.filter (bit parts)) Mach.startFull, []) else (m, [])
  | .config k => if m.mode = 3 then m.pairLoad r k else (m, [])
  | .change k =>
    if m.mode ≠ 3 then (m, [])
    else
      (match m.changeCheck r k with
       | .ok _ => (m.updSys (fun v => { v with change := some k })).tellChange k true
       | .error b => (m.chron { sub := 0x0D, low := 0x02, cause := 3, detail := toLe 2 b.1 ++ toLe 4 k.programId }).tellChange k false, [])
  | .changeTold id ok => m.changeTold r (ok && m.sys.changeAsk.any (fun x => x.1.programId == id))
  | .switchTo at_ => if m.mode = 3 then (m.updPm (fun x => { x with switch := some ⟨none, m.now, 0, at_, true⟩ }), []) else (m, [])
  | .handback =>
    if m.running ∧ m.obj F.pairROLE_HOME = 2 ∧ m.switchRefused.isNone then (m.switchStart none 10000, []) else (m, [])
  | .abandon => (m.updPm (fun x => { x with switch := x.switch.filter (fun w => !w.incoming) }), [])

end Sys2Proof.Machine
end

