-- ==== Sys2Proof/Machine/Cycle.lean ====
section
/-! DEFINITION. The cycle of a partition (spec/02, spec/06): Clapper, image swap, the end of Solve with Effects, Take and Publish, overruns,
plant publications and cross-partition copies. -/
namespace Sys2Proof.Machine

/-! ### The publish copy (R16, R173, R179, R428) -/

/-- Slots of a partition with an output source: outputs, internal points, its stop request point; slot and ownership entry. -/
def Mach.outSlots (m : Mach) (r : Ram) (p : Nat) : List (Nat × Nat) :=
  (0x00EF0 + p, m.ownEnt r (0x00EF0 + p)) :: (m.ownList r).filter (fun e => mayWrite e.2 p && e.1 != 0x00EF0 + p)

/-- Slots written only by shed tasks whose SHED_ACTION is FALLBACK (R87), and those whose bound block a change dropped (R164). DEDUCED, log 51. -/
def Mach.shedSlots (m : Mach) (p : Nat) : List Nat :=
  match m.cfg with
  | none => []
  | some k =>
    let ts := k.tasks.filter (fun t => m.obj F.taskPARTITION t.task == p)
    let gone := fun (t : TaskCode) => m.obj F.taskSTATE t.task == 2 && m.obj F.taskSHED_ACTION t.task == 1
    let live := (ts.filter (fun t => !gone t)).flatMap (m.taskSlots k)
    (m.part p).dropped ++ ((ts.filter gone).flatMap (m.taskSlots k)).flatMap (fun e =>
      ((List.range (e.2 - e.1)).map (e.1 + ·)).filter (fun pt => !live.any (fun x => decide (x.1 ≤ pt ∧ pt < x.2))))

/-- The program source of a slot (R16): value, output quality, and the quality the unit that applies it sees. -/
def Mach.progSource (m : Mach) (r : Ram) (p : Nat) (shed : List Nat) (pt e : Nat) : Nat × Nat × Nat :=
  let fb := m.fallbackVal r p pt e
  if m.sys.wrap.any (fun w => decide (2 ≤ w.step)) then (fb, 3, 3)
  else if m.obj F.partSTATE p = 1 then (if shed.contains pt then (fb, 3, 3) else (rd r .work pt, 0, 0))
  else if m.mode = 0 ∧ entKind e ≠ 2 then
    match commOf r pt with
    | some v => (v, 0, 0)
    | none => (fb, 0, if 0x00400 ≤ pt ∧ pt ≤ 0x00DFF then 3 else 0)
  else (fb, 3, 3)

/-- What a higher source that claims a local object shows in the publish copy (R179): the value and the code. DEDUCED, log 51. -/
def Mach.heldShown (m : Mach) (pt v q : Nat) : Nat × Nat :=
  if 0x00100 ≤ pt ∧ pt ≤ 0x001BF then
    let c := m.lcClaim ((pt - 0x00100) / 6)
    if 2 ≤ c.2 ∧ c.2 ≤ 4 then (setBit v 0 c.1, 2) else (v, q)
  else if 0x00400 ≤ pt ∧ pt ≤ 0x005FF then
    let n := (pt - 0x00400) / 32
    if pt % 32 ≤ 7 then
      (v, if (m.ax n).isl || (m.ax n).trac then 2 else if bit m.ceAxes n then 1 else q)
    else (v, if (m.gg (n / 2)).trac then 2 else if bit m.ceGroups (n / 2) then 1 else q)
  else (v, q)

/-- Address at which the publish copy stands between Effects and its Publish. -/
def stagedAt (pt : Nat) : Nat := 2 ^ 20 + pt

/-- One slot of the publish copy (R15, R428): the program source, the effects on it, a permit point a binding holds at 0; with it the
value the units are to apply. DEDUCED, log 51. -/
def Mach.pubSlot (m : Mach) (r : Ram) (p : Nat) (shed : List Nat) (s : Nat × Nat) : List W :=
  let pt := s.1
  let src := m.progSource r p shed pt s.2
  let es := if entKind s.2 = 6 then [] else m.effsOn r p pt
  let x := if m.permitForced pt then (0, 2, 2)
    else if es.isEmpty then src else (forceWord src.1 es, 1, 1)
  let y := m.heldShown pt x.1 x.2.1
  [.put .next (stagedAt pt) x.1, .put .nextQ (stagedAt pt) x.2.2, .put .pub (stagedAt pt) y.1, .put .pubQ (stagedAt pt) y.2]

/-- Effects' end: the publish copy of a partition. -/
def Mach.pubCopy (m : Mach) (r : Ram) (p : Nat) : List W := (m.outSlots r p).flatMap (m.pubSlot r p (m.shedSlots p))

/-- The publish copy is sent: to the local units for their next Clapper, to every reader, to the value HOLD keeps while RUNNING (R173). -/
def Mach.pubSent (m : Mach) (r : Ram) (p : Nat) : List W :=
  (m.outSlots r p).flatMap (fun s =>
    let pt := s.1
    let move := fun (sp : Space) => W.put sp pt (rd r sp (stagedAt pt))
    [move .next, move .nextQ, move .pub, move .pubQ] ++ (if m.obj F.partSTATE p = 1 then [.put .hold pt (rd r .pub (stagedAt pt))] else []))

/-- Fallback at once for what the local units apply next (R494, R571 step 2). -/
def Mach.fallbackNext (m : Mach) (r : Ram) (p : Nat) : List W :=
  (m.outSlots r p).flatMap (fun s => [.put .next s.1 (m.fallbackVal r p s.1 s.2), .put .nextQ s.1 3])

/-! ### Publish (R50, R57, R175, R234 to R237) -/

/-- A slot as a publication or a cross-partition copy of its owner carries it: an output as published, its code translated (R179); an
input as sampled, with its own code. DEDUCED, log 51. -/
def Mach.pubCell (m : Mach) (r : Ram) (p pt : Nat) : Nat × Nat :=
  if fromWork (m.ownEnt r pt) p then
    (rd r .pub pt, if rd r .pubQ pt = 3 then (if m.obj F.partSTATE p = 3 then 3 else 2) else 0)
  else (rd r .front (frontAt p pt), rd r .frontQ (frontAt p pt))

/-- Slots a partition publishes to others of this module (R175). -/
def Mach.crossSlots (m : Mach) (r : Ram) (p : Nat) : List Nat :=
  ((m.ownList r).filter (fun e => owns e.2 p && field (setBit (field e.2 15 8) p false) 7 0 != 0)).map (·.1)

/-- The copy of a Publish in the cross-partition buffer, in the half the newest does not use (R175). DEDUCED, log 52. -/
def Mach.crossPublish (m : Mach) (r : Ram) (p valid : Nat) : Mach × List W :=
  let half := match (m.part p).crossFrom with
    | (_, 0) :: _ => 1
    | _ => 0
  let ws := (m.crossSlots r p).flatMap (fun pt =>
    let c := m.pubCell r p pt
    [W.put .cross (half * 2 ^ 20 + pt) c.1, W.put .crossQ (half * 2 ^ 20 + pt) c.2])
  (m.updPart p (fun x => { x with crossFrom := (valid, half) :: x.crossFrom.take 1 }), ws)

/-- LIST_HASH of a publication list (R57). -/
def listHash (slots : List Nat) : Nat := Config.sha256 (slots.flatMap (fun pt => toBe 4 (pt % 2 ^ 20))) / 2 ^ 224

/-- The publication frames of a partition's list, in fragments of 640 entries, on NET-A and NET-B (R57). DEDUCED, log 51. -/
def Mach.plantPublish (m : Mach) (r : Ram) (p cycle valid : Nat) : Mach :=
  let slots := alook [] ((m.cfg.map (·.pubs)).getD []) p
  if slots.isEmpty || !m.sends || m.mode == 0xFF then m
  else
    let cells := chunksOf (slots.map (fun pt => let c := m.pubCell r p pt; (c.1, if m.gzValid then c.2 else max 2 c.2)))
    let n := cells.length
    let frames := (cells.zip (List.range n)).flatMap (fun e => m.plantPorts.map (fun port =>
      ({ port := Fin.ofNat 2 port, etherType := m.sys.pubType, version := 1, last := e.2 + 1 == n, index := e.2, resv := 0, moduleId := m.idFor p, partition := p,
         startCount := (m.part p).startCount % 256, cycle := cycle, validFrom := valid, listHash := listHash slots,
         firstEntry := 640 * e.2, entryCount := e.1.length, values := e.1.map (·.1), quality := e.1.map (·.2), secured := m.obj F.psecSTATE port == 2 } : PubFrame)))
    { m with published := frames.reverse ++ m.published }
where
  /-- A list cut into pieces of 640. -/
  chunksOf (l : List (Nat × Nat)) : List (List (Nat × Nat)) :=
    (List.range (cdiv l.length 640)).map (fun i => (l.drop (640 * i)).take 640)

/-- The bytes of a place's output slots. DEDUCED, log 52. -/
def Mach.placeOut (m : Mach) (r : Ram) (n : Nat) : List Nat :=
  pointBytes (m.ownEnt r) (rd r .pub) 1024 (m.obj F.placeOUT_BASE n) (m.obj F.placeOUT_SLOTS n)

/-- The OUTPUT frames of a partition on the trunks (R236): one a group; a node alone by its own address, 2 to 16 by the group's. -/
def Mach.trunkPublish (m : Mach) (r : Ram) (p cycle : Nat) : Mach :=
  let mine := placeNums.filter (fun n => m.obj F.placePARTITION n == p && m.obj F.placeOUT_SLOTS n != 0 && decide (1 ≤ m.obj F.placeSTATE n))
  let group := fun (n : Nat) => n / 256 * 256 + m.obj F.placeGROUP_FIRST n % 256
  m.each ((mine.map group).eraseDups) (fun m g =>
    let ns := mine.filter (fun n => group n == g)
    let t := g / 256
    if ns.all (fun n => decide (m.obj F.placeSTATE n < 2)) then m
    else match ns with
      | [n] =>
        let data := m.placeOut r n
        m.emitT ⟨t, 1, (m.place n).mac, m.gfpHead 1 t (m.idFor p) (m.obj F.placeASSIGN_EPOCH n) cycle (n % 256) 1 data.length ++ data⟩
      | _ =>
        let data := ns.flatMap (fun n =>
          let d := m.placeOut r n
          [n % 256, 0] ++ toBe 2 d.length ++ toBe 4 (m.obj F.placeASSIGN_EPOCH n) ++ d)
        m.emitT ⟨t, 1, 0x035259000000 + t * 256 + g % 256, m.gfpHead 1 t (m.idFor p) 0 cycle (g % 256) ns.length data.length ++ data⟩)

/-- The wrap of a paired active module with a ready stand-in has silenced a redundant partition (R571 step 1). -/
def Mach.silent (m : Mach) (p : Nat) : Bool := m.sys.wrap.isSome && m.paired && m.running && m.isSet F.partREDUNDANT p && m.partnerReady

/-- What the programs see, as of this Publish (R217). -/
def Mach.seenCopy (m : Mach) (r : Ram) (p : Nat) : List W :=
  copyRange r .front .seen (p * 2 ^ 20) (p * 2 ^ 20) (2 ^ 20) ++ copyRange r .frontQ .seenQ (p * 2 ^ 20) (p * 2 ^ 20) (2 ^ 20) ++
  (m.outSlots r p).map (fun s => W.put .seen (frontAt p s.1) (rd r .work s.1))

/-- Publish of a partition (R50, R51): of the cycle in progress, or (back) of the one before it. DEDUCED, log 50. In a cycle in which a time
step fell, VALID_FROM counts from the Clapper as the new time has it: DESIGN CHOICE, log 50. -/
def Mach.publish (m : Mach) (r : Ram) (p : Nat) (back : Bool) : Mach × List W :=
  let x := m.part p
  let cycle := if back then (x.cycle + 2 ^ 64 - 1) % 2 ^ 64 else x.cycle
  let start := if back then x.clapAt - x.lastLen else x.clapAt
  let valid := (m.gzAt start + m.period p) % 2 ^ 64
  let end_ := m.now + m.obj F.cycU_NS p
  chain [
    onW (fun r m => m.pubSent r p),
    onRM (fun r m =>
      if m.silent p then m
      else
        let m := (m.trunkPublish r p cycle).plantPublish r p cycle valid
        let m := m.updPart p (fun y => { y with cycle := cycle })
        (m.segPublish (m.ownEnt r) (rd r .pub) p).updPart p (fun y => { y with cycle := x.cycle })),
    fun r m => m.crossPublish r p valid,
    onW (fun r m => m.seenCopy r p),
    onM (fun m => (m.peak F.cycMAX_USED_NS p (end_ - start)).updPart p (fun y => { y with
      pubEnd := end_
      published := true
      pubCycle := cycle
      dropped := []
      withheld := none }))] r m

/-! ### Overruns (R50 to R53) -/

/-- An overrun is counted; the policy or the limit faults the partition (R52). DEDUCED, log 50. -/
def Mach.overrun (m : Mach) (r : Ram) (p : Nat) : Mach × List W :=
  let m := (m.bump F.cycOVR_COUNT p).bump F.cycOVR_CONSEC p
  if m.obj F.cycOVR_POLICY p = 1 ∨ m.obj F.cycOVR_LIMIT p ≤ m.obj F.cycOVR_CONSEC p then m.partFault r p 10 0xFF 0xFF 0xFFFFFFFF else (m, [])

/-- The record and event of an overrun of a cycle: the time by which its Take ended late (R53). DEDUCED, log 50. -/
def Mach.overrunSaid (m : Mach) (p cycle late : Nat) : Mach :=
  m.chron { sub := 2, low := 0x01, part := p, cycle := cycle, detail := toLe 4 (min late (2 ^ 32 - 1)), notice := [m.partChan p] }

/-- Publish of a withheld cycle has not started in its time (R51). DEDUCED, log 50. -/
def Mach.solveLate (m : Mach) (r : Ram) (p : Nat) : Mach × List W := m.partFault r p 6 0xFF 0xFF 0xFFFFFFFF

/-- The same where its Solve has not ended either: its overrun, not counted so far, is counted and said (R53). DEDUCED, log 50. -/
def Mach.overrunCut (m : Mach) (r : Ram) (p cycle d : Nat) : Mach × List W :=
  (((m.overrunSaid p cycle (m.now + m.period p - d)).bump F.cycOVR_COUNT p).bump F.cycOVR_CONSEC p).solveLate r p

/-! ### Latches at the Clapper (R38, R40, R58, R59, R175, R178, R622) -/

/-- The digital inputs a partition owns (R615). -/
def Mach.inputPoints (m : Mach) (r : Ram) (p : Nat) : List W :=
  ((List.range 32).filter (fun n => m.ownerOfPt r n == some p)).flatMap (fun n => backPut p n (bit m.di n).toNat 0)

/-- The time system points (R40). -/
def Mach.timePoints (m : Mach) (p : Nat) : List W :=
  let x := m.part p
  let st := m.timeState
  let flags := m.gzValid.toNat + (st == 1).toNat * 2 + (st == 3).toNat * 4 + (st == 2).toNat * 8 + x.lenOff.toNat * 16 + x.skipped.toNat * 32
  back64 p 0x00F00 m.gz 0 ++ back64 p 0x00F04 x.cycle 0 ++ back32 p 0x00F08 m.time.opSeconds 0 ++ back32 p 0x00F0A m.time.powerCycles 0 ++
  backPut p 0x00F0C flags 0 ++ backPut p 0x00F0D (m.obj F.cycPERIOD_M p) 0 ++ back32 p 0x00F0E (x.lastLen % 2 ^ 32) 0 ++
  back32 p 0x00F10 (m.obj F.cycOVR_COUNT p) 0

/-- Reserved slots that read 0 with quality GOOD (R622): first slot, number. DEDUCED, log 78. -/
def reservedSlots : List (Nat × Nat) :=
  [(0x00F12, 14), (0x001C2, 62), (0x003C4, 60), (0x00E08, 24), (0x00050, 16), (0x00E2D, 3), (0x00E40, 176)]

/-- They are latched with the others. DEDUCED, log 51. -/
def reservedPoints (p : Nat) : List W := reservedSlots.flatMap (fun e => (List.range e.2).flatMap (fun i => backPut p (e.1 + i) 0 0))

/-- A VALID_FROM lies more than 2 × P_B from the subscriber's own time (R59, R175). -/
def oddTime (gz valid per : Nat) : Bool := decide (gz + 2 * per < valid) || decide (valid + 2 * per < gz)

/-- The set of a list due at its reader's Clapper: the latest one whose VALID_FROM has come, or that lies far off (R58, R59). -/
def dueSet (gz per : Nat) (s : SubSet) : Option PlantSet := s.ready.find? (fun x => decide (x.valid ≤ gz) || oddTime gz x.valid per)

/-- Latch one subscribed list (R57 to R60, R178). -/
def Mach.latchList (m : Mach) (i : Nat) (l : SubList) : Mach × List W :=
  let per := m.period l.reader
  let pa := l.periodM * 125000
  let old := ug {} m.subs i
  let due := dueSet m.gz per old
  let s : SubSet := match due with
    | some x => { old with
        last := some (x, m.now)
        ready := old.ready.takeWhile (fun y => y != x)
        late := old.late + (decide (x.valid < m.gzAt x.at_) || oddTime m.gz x.valid per).toNat
        bad := false }
    | none => old
  let absent := match s.last with
    | some (_, at_) => decide (at_ + 3 * pa ≤ m.now)
    | none => true
  let bad := s.bad || absent || m.idClash l.moduleId
  let m := { m with subs := uset {} m.subs i (fun _ => s) }
  (m, l.places.flatMap (fun e => match s.last.bind (fun x => x.1.values.find? (fun v => v.1 == e.1)) with
    | some v =>
      let q := max v.2.2 (if due.isSome then 0 else 1)
      backPut l.reader e.2 v.2.1 (if bad then 3 else if m.gzValid then q else max q 2)
    | none => [backQ l.reader e.2 3]))

/-- The plant points a partition subscribes to (R38). DEDUCED, log 51. -/
def Mach.plantLatch (m : Mach) (p : Nat) : Mach × List W :=
  let ls := (m.cfg.map (·.subs)).getD []
  ((ls.zip (List.range ls.length)).filter (fun e => e.1.reader == p)).foldl (fun x e =>
    let y := x.1.latchList e.2 e.1
    (y.1, x.2 ++ y.2)) (m, [])

/-- The slots of one other partition, all together (R175): the latest complete copy due, or the held one, with its age in the quality. -/
def Mach.crossFromOwner (m : Mach) (r : Ram) (p a : Nat) (slots : List Nat) : Mach × List W :=
  let per := m.period p
  let x := m.part p
  let due := (m.part a).crossFrom.find? (fun c => decide (c.1 ≤ m.gz) || oddTime m.gz c.1 per)
  let held := x.crossAt.find? (fun c => c.1 == a)
  let key := fun (c : Nat × Nat) => 2 * c.1 + c.2
  let fresh := due.filter (fun c => held.map (fun h => h.2.1) != some (key c))
  let keepAt := fun (pt : Nat) => (2 + p) * 2 ^ 20 + pt
  match fresh with
  | some c =>
    let m := m.updPart p (fun y => { y with
      crossAt := (a, key c, m.now) :: y.crossAt.filter (fun h => h.1 != a)
      crossLate := y.crossLate + (oddTime m.gz c.1 per).toNat })
    (m, slots.flatMap (fun pt =>
      let q := rd r .crossQ (c.2 * 2 ^ 20 + pt)
      backPut p pt (rd r .cross (c.2 * 2 ^ 20 + pt)) q ++ [.put .crossQ (keepAt pt) q]))
  | none =>
    let old := match held with
      | some h => decide (h.2.2 + 3 * m.period a ≤ m.now)
      | none => true
    (m, slots.map (fun pt => backQ p pt (if old then 3 else max 1 (rd r .crossQ (keepAt pt)))))

/-- CROSS_PARTITION_LATCH (R175): at the reader's Clapper. DEDUCED, log 52. -/
def Mach.crossLatch (m : Mach) (r : Ram) (p : Nat) : Mach × List W :=
  let mine := (m.ownList r).filter (fun e => entValid e.2 && entOwned e.2 && entOwner e.2 != p && bit e.2 (8 + p))
  (List.range 8).foldl (fun x a =>
    let ss := (mine.filter (fun e => entOwner e.2 == a)).map (·.1)
    if ss.isEmpty then x
    else
      let y := x.1.crossFromOwner r p a ss
      (y.1, x.2 ++ y.2)) (m, [])

/-! ### The Clapper (R36 to R38, R51, R55, R183, R621) -/

/-- GZ time reaches a multiple of a period at this instant: while a slew runs it can pass over one, or stand at one for two instants. -/
def Mach.onGrid (m : Mach) (per : Nat) : Bool := per != 0 && m.gzAt m.now / per != m.gzAt (m.now - 1) / per

/-- Whether this instant is a Clapper of the partition: on its grid (R36), after a step no earlier than R55 lets it be: half a period after
the last, t_set after the end of this cycle's Publish. A cycle that publishes nothing in its time gives no later bound than a period.
DEDUCED, log 50. -/
def Mach.clapDue (m : Mach) (p : Nat) : Bool :=
  let x := m.part p
  let published := (x.published && decide (x.pubEnd + 5000 ≤ m.now)) || decide (x.clapAt + m.period p ≤ m.now)
  m.used p && !m.sys.off && (m.sys.bringup == 0 || decide (7 ≤ m.sys.bringup)) && m.onGrid (m.period p) &&
  (!x.clapped || (decide (x.clapAt < m.now) && (!x.rephase || (decide (m.period p ≤ 2 * (m.now - x.clapAt)) && published))))

/-- The Solve of the cycle before is not finished. -/
def Mach.stillSolving (m : Mach) (p : Nat) : Bool := m.obj F.partSTATE p == 1 && (m.part p).solves && (m.part p).phase == 2

/-- Length of the cycle that ends, on the clock the slew moves: a difference a slew can have made is none (R54). -/
def Mach.cycleLen (m : Mach) (p : Nat) : Nat :=
  let len := m.now - (m.part p).clapAt
  if ((len : Int) - m.period p).natAbs ≤ len / 20000 + 1 then m.period p else len

/-- The sequencer at a Clapper: length of the cycle that ends, CYCLE_NUMBER, phase. A cycle whose predecessor overran is skipped (R51). A
re-phased cycle gives the step's record its length where the partition runs (R56). DEDUCED, log 50. -/
def Mach.clapSeq (m : Mach) (p : Nat) : Mach :=
  let x := m.part p
  let len := if x.clapped then m.cycleLen p else 0
  let busy := m.stillSolving p
  let skip := busy || x.withheld.isSome || x.noGather
  let m := m.updPart p (fun y => { y with
    cycle := if y.clapped then (y.cycle + 1) % 2 ^ 64 else 0
    clapAt := m.now
    clapped := true
    lastLen := len
    lenOff := y.clapped && (y.rephase || len != m.period p)
    rephase := false
    published := false
    noGather := false
    withheld := if busy && y.withheld.isNone then some (y.clapAt + 2 * m.period p - m.obj F.cycU_NS p) else y.withheld
    phase := if busy then 2 else if skip then 3 else 1 })
  m.when x.rephase (fun m => m.updTime (fun y => { y with stepping := y.stepping.map (fun s => { s with
    waiting := s.waiting.filter (· != p)
    lengths := s.lengths.set p (if m.obj F.partSTATE p = 1 then len else 0) }) }))

/-- The outputs published for this Clapper are applied to the local units (R621 step 2). -/
def Mach.clapApply (p : Nat) (meas : ClapIn) : List (Ram → Mach → Mach × List W) :=
  [onW (fun r m => m.doorOuts r p),
   onW (fun r m => (m.outSlots r p).map (fun s => .put .applied s.1 (rd r .next s.1))),
   onRM (fun r m => m.clapMatrix r p),
   onRM (fun r m => m.clapLoads r p),
   onRM (fun r m => m.clapGroups r p),
   onRM (fun r m => m.clapAxes r p),
   onRM (fun r m => m.clapDoors r p),
   fun r m => m.clapLoops r p meas.loops]

/-- Every input and status slot due is latched (R621 step 3). -/
def Mach.clapLatch (p last : Nat) (meas : ClapIn) : List (Ram → Mach → Mach × List W) :=
  [onM (fun m => (m.takeStages meas.stages).takeRails meas.rails),
   onW (fun r m => m.inputPoints r p),
   fun r m => m.latchLoads r p,
   fun r m => m.clapPorts r p meas.ports,
   fun r m => m.clapProbes r p,
   fun r m => m.latchAxes r p,
   fun r m => m.latchGroups r p,
   fun r m => m.latchDoors r p,
   onW (fun r m => m.loadPoints p ++ m.emPoints p last ++ m.clapCopies r p ++ m.timePoints p ++ reservedPoints p ++
     m.powerPoints p meas.loadMw ++ m.safetyPoints p),
   fun _ m => m.plantLatch p,
   fun r m => m.crossLatch r p,
   fun r m => m.clapAlarms r p]

/-- What else happens at a Clapper: reference frames, acknowledgements, heartbeat, activation, module ID, full-take pacing. -/
def Mach.clapRest (m : Mach) (p : Nat) : Mach :=
  let m := ((((m.clapRefs p).safetyAcks p).hbSend p).clapActivation p).clapId p
  m.updTake p (fun x => { x with
    since := x.since + 1
    claps := x.claps + 1 })

/-- A module that demotes at this Clapper holds every local output at its fallback (R494). -/
def Mach.clapDemote (m : Mach) (r : Ram) : Mach × List W :=
  if m.sys.demoting then chain [fun r m => m.demoteNow r, onW (fun r m => m.usedParts.flatMap (m.fallbackNext r))] r m else (m, [])

/-- The Clappers of the partitions whose instants fall on one edge (R621): the sequencers, then every apply, then every latch. -/
def Mach.clap (m : Mach) (r : Ram) (ps : List Nat) (meas : ClapIn) : Mach × List W :=
  let busy := fun (p : Nat) => m.stillSolving p
  let held := fun (p : Nat) => (m.part p).withheld.isSome
  let last := fun (p : Nat) => (m.part p).clapAt
  let cut := fun (p : Nat) => ((m.part p).cycle + 2 ^ 64 - 1) % 2 ^ 64
  chain (ps.flatMap (fun p => [onM (fun m => m.clapSeq p), fun r m => if busy p || held p then (m, []) else m.partDue r p]) ++
    [fun r m => m.clapDemote r] ++
    ps.flatMap (fun p => Mach.clapApply p meas) ++
    [onRM (fun r m => m.startAdmission r)] ++
    ps.map (fun p r m => if busy p && held p then m.overrunCut r p (cut p) (((m.part p).withheld).getD m.now) else (m, [])) ++
    ps.flatMap (fun p => Mach.clapLatch p (last p) meas) ++
    ps.flatMap (fun p => [onM (fun m => m.clapRest p),
     onM (fun m => m.updPart p (fun x => { x with skipped := busy p || held p })),
     fun r m => if held p && !busy p && (m.part p).withheld.isSome then m.publish r p true else (m, []),
     fun r m => m.changeDue r])) r m

/-- CLAPPER (R38, R621): every partition whose Clapper falls on the same edge has it with the one named; a change that a stand-in was to
verify is held back no longer than the stand-in is ready (R499). DEDUCED, log 50. -/
def Mach.clapIn (m : Mach) (r : Ram) (p : Nat) (x : ClapIn) : Mach × List W :=
  let y := if m.clapDue p then m.clap r ((List.range 8).filter m.clapDue) x else (m, [])
  if y.1.sys.changeAsk.isSome ∧ !y.1.partnerReady then
    let z := y.1.changeTold (wr r y.2) true
    (z.1, y.2 ++ z.2)
  else y

/-! ### The image swap and the start of Solve (R49, R87, R94) -/

/-- The plan latched takes effect (R94): task places and states, S of the plan. -/
def Mach.planStart (m : Mach) (r : Ram) (p : Nat) : Mach × List W :=
  match (m.part p).latched with
  | none => (m, [])
  | some f =>
    match m.planOf p f with
    | none => m.partFault r p 11 0xFF 0xFF 0xFFFFFFFF
    | some pl =>
      if pl.faults then m.partFault r p 11 0xFF 0xFF 0xFFFFFFFF
      else
        (((m.applyPlan p pl).updPart p (fun x => { x with latched := none })).degrade, [])

/-- The ordered tasks of an engine under the plan in force. -/
def Mach.tasksOn (m : Mach) (p c : Nat) : List Nat :=
  match m.planNowOf p with
  | some pl => alook [] pl.lists c
  | none => []

/-- Start of Solve on an engine (R90): 20 clocks, buffer empty, the first task of its list. -/
def Mach.engineStart (m : Mach) (r : Ram) (p c : Nat) : Mach × List W :=
  let e : Engine := { m.eng c with
    run := 1
    clk := 20
    portFree := 0
    sb := []
    idx := none
    waitAt := none
    slice := 0
    todo := m.tasksOn p c }
  let x : Rx := { r := r, m := m, ce := c, p := p, e := e }
  let y := x.nextTask
  (y.m.updEng c (fun _ => y.e), y.ws)

/-- SOLVE_START (R87, R92): every engine of the partition that is neither fenced nor in test starts; a self-test slice still running is
abandoned. The Standing Program's task is native: its engine is done at once. -/
def Mach.solveStart (m : Mach) (r : Ram) (p : Nat) : Mach × List W :=
  let x := m.planStart r p
  if x.1.obj F.partSTATE p ≠ 1 then x
  else
    let m := x.1.updPart p (fun y => { y with
      barriers := []
      released := [] })
    let cs := (m.enginesOf p).filter (fun c => m.obj F.ceSTATE c == 1)
    if m.cfg.isNone then
      (m.each cs (fun m c => (m.setObj F.ceSOLVES c (m.obj F.ceSOLVES c + 1)).updEng c (fun e => { e with
         run := 3
         slice := 1 })), x.2)
    else
      cs.foldl (fun y c =>
        let z := y.1.engineStart (wr r y.2) p c
        (z.1, y.2 ++ z.2)) (m, x.2)

/-- Cycles in a row in which some node of the partition was heard (R498), to 3. -/
def Mach.heardSync (m : Mach) (p : Nat) : Mach :=
  let ns := placeNums.filter (fun n => m.obj F.placePARTITION n == p && decide (2 ≤ m.obj F.placeSTATE n))
  let ss := (List.range 512).filter (fun n => m.obj F.nodePARTITION n == p && decide (2 ≤ m.obj F.nodeSTATE n))
  if ns.isEmpty && ss.isEmpty then m
  else
    let any := ns.any (fun n => (m.place n).missed == 0) || ss.any (fun n => (m.node n).missed == 0)
    m.updPm (fun x => { x with heardCycles := if any then min 3 (x.heardCycles + 1) else 0 })

/-- IMAGE_SWAP (R49, R178): at the gather deadline, t_sw before Solve: quality of missing nodes, back image to front, then Solve. -/
def execImageSwap (t : Nat) (p : Fin 8) (s : State) : Out :=
  evR t (fun r m =>
    let p := p.val
    let x := m.part p
    let g := x.clapAt + m.obj F.cycG_NS p
    if x.phase ≠ 1 ∨ m.now + 2000 < g then (m, [])
    else
      let runs := m.obj F.partSTATE p == 1 && x.solves
      let go := runs && m.sys.wrap.isNone && m.mode != 3
      chain [
        fun _ m => m.swapPlaces p,
        fun _ m => m.swapNodes p,
        onW (fun r _ => copyRange r .back .front (p * 2 ^ 20) (p * 2 ^ 20) (2 ^ 20) ++ copyRange r .backQ .frontQ (p * 2 ^ 20) (p * 2 ^ 20) (2 ^ 20)),
        onRM (fun r m => m.swapDoors r p),
        onM (fun m => (m.heardSync p).updPart p (fun y => { y with
          phase := if runs && !go && !(m.sys.wrap.any (fun w => decide (2 ≤ w.step))) then 3 else 2
          solves := y.solves && (go || !runs)
          solveAt := max m.now g })),
        fun r m => if go then m.solveStart r p else (m, [])] r m) s

/-! ### The end of Solve: Effects, Take, Publish (R50, R182, R544) -/

/-- The Standing Program's task T0 (R544): load channels from the digital inputs, loop outputs at 4.00 mA, doors from the probes' edges. DEDUCED, log 52. -/
def Mach.standingTask (m : Mach) (r : Ram) : List W :=
  let base := m.obj F.partINST_BASE 0
  (List.range 32).map (fun n => W.put .work (0x00100 + 6 * n) (rd r .front (frontAt 0 n) % 2)) ++
  (List.range 8).map (fun n => W.put .work (0x00200 + 8 * n) 8000) ++
  (if !m.isM4 then []
   else (List.range 4).flatMap (fun n =>
     let now := rd r .front (frontAt 0 (0x00380 + 8 * n + 1)) / 8 % 2
     let was := rd r .inst (base + n)
     let old := rd r .work (0x00600 + 8 * n)
     if now = was then []
     else [W.put .inst (base + n) now, W.put .work (0x00600 + 8 * n) ((if now = 1 then 1 else 2) + (old / 256 + 1) % 256 * 256)]))

/-- Some engine of the partition has not ended its Solve. -/
def Mach.enginesBusy (m : Mach) (p : Nat) : Bool := (m.enginesOf p).any (fun c => (m.eng c).run == 1 || (m.eng c).run == 2)

/-- Effects and Take of the cycle (R428, R474). -/
def Mach.effectsTake (m : Mach) (r : Ram) (p : Nat) (solved : Bool) : Mach × List W :=
  chain [
    onW (fun r m => if solved && m.cfg.isNone && p == 0 then m.standingTask r else []),
    onRM (fun r m => m.effectsOf r p),
    onW (fun r m => m.pubCopy r p),
    fun r m => if solved && !m.silent p then m.takeSend r p else (m, [])] r m

/-- Publish in time, or the overrun, counted and said as Take ends (R50 to R53): a Solve that ran on beyond its next Clapper ends here too.
DEDUCED, log 50. -/
def Mach.publishOrHold (m : Mach) (r : Ram) (p : Nat) (solved : Bool) : Mach × List W :=
  let x := m.part p
  let by_ := x.clapAt + m.period p - m.obj F.cycU_NS p
  let cyc := x.cycle
  match x.withheld with
  | some d =>
    chain [
      fun r m => (m.overrunSaid p ((cyc + 2 ^ 64 - 1) % 2 ^ 64) (m.now + m.period p - d)).overrun r p,
      fun r m =>
        if m.obj F.partSTATE p ≠ 1 then (m, [])
        else if m.now ≤ d then m.publish r p true else m.solveLate r p] r m
  | none =>
    if m.now ≤ by_ then (m.when solved (fun m => m.setObj F.cycOVR_CONSEC p 0)).publish r p false
    else if solved then
      let y := (m.overrunSaid p cyc (m.now - by_)).overrun r p
      (y.1.updPart p (fun z => { z with
        withheld := if y.1.obj F.partSTATE p = 1 then some (x.clapAt + 2 * m.period p - m.obj F.cycU_NS p) else none }), y.2)
    else (m, [])

/-- SOLVE_COMPLETE (R50): every engine of the partition has ended its Solve, or the cycle solves nothing; Effects and Take have run and
the sequencer stands at the end of Take. Before mode entry nothing is published. DEDUCED, log 50. -/
def execSolveComplete (t : Nat) (p : Fin 8) (s : State) : Out :=
  evR t (fun r m =>
    let p := p.val
    let x := m.part p
    let solved := m.obj F.partSTATE p == 1 && x.solves
    if x.phase ≠ 2 || (solved && m.enginesBusy p) then (m, [])
    else
      chain [
        fun r m => m.effectsTake r p solved,
        fun r m => if m.mode = 0xFF then (m, []) else m.publishOrHold r p solved,
        onM (fun m => m.updPart p (fun y => { y with phase := 3 })),
        fun r m => m.changeDue r] r m) s

/-- OVERRUN_PUBLISH_DEADLINE (R51): Publish of a withheld cycle has not started by 2P − U. -/
def execOverrunPublishDeadline (t : Nat) (p : Fin 8) (s : State) : Out :=
  evR t (fun r m =>
    let x := m.part p.val
    match x.withheld with
    | some d =>
      if m.now < d then (m, [])
      else if m.stillSolving p.val then m.overrunCut r p.val ((x.cycle + 2 ^ 64 - 1) % 2 ^ 64) d
      else m.solveLate r p.val
    | none => (m, [])) s

/-! ### Plant publications received (R57, R59) -/

/-- A set with this start count and CYCLE_NUMBER is newer than one held (R57). DEDUCED, log 52. -/
def newerSet (start cycle : Nat) (h : PlantSet) : Bool :=
  let d := (start + 256 - h.start % 256) % 256
  (d == 0 && decide (h.cycle < cycle)) || (decide (1 ≤ d) && decide (d ≤ 127))

/-- The set a subscriber holds: the newest complete one. -/
def SubSet.held (s : SubSet) : Option PlantSet := (s.ready.head?).orElse (fun _ => s.last.map (·.1))

/-- A fragment joins the set being assembled, or begins a newer one; the last one completes it. -/
def SubSet.fragment (s : SubSet) (f : PubFrame) (now : Nat) : SubSet :=
  let st := f.startCount % 256
  let empty : PlantSet × List Nat × Option Nat := (⟨st, f.cycle, f.validFrom, now, []⟩, [], none)
  let asm : Option (PlantSet × List Nat × Option Nat) := match s.asm with
    | some a => if a.1.start = st ∧ a.1.cycle = f.cycle then some a else if newerSet st f.cycle a.1 then some empty else none
    | none => some empty
  match asm with
  | none => s
  | some a =>
    if a.2.1.contains f.index then s
    else
      let vs := (f.values.zip f.quality).zip (List.range f.values.length)
      let set : PlantSet := { a.1 with
        at_ := now
        values := a.1.values ++ vs.map (fun e => (f.firstEntry + e.2, e.1.1 % 2 ^ 16, e.1.2 % 4)) }
      let got := f.index :: a.2.1
      let last := if f.last then some f.index else a.2.2
      if last.any (fun n => (List.range (n + 1)).all (fun i => got.contains i)) then { s with
        asm := none
        ready := set :: s.ready }
      else { s with
        asm := some (set, got, last) }

/-- Change what is held of a subscribed list. -/
def Mach.updSub (m : Mach) (i : Nat) (f : SubSet → SubSet) : Mach := { m with subs := uset {} m.subs i f }

/-- A frame for one subscribed list: hash, age, fragments. -/
def Mach.listFrame (m : Mach) (i : Nat) (l : SubList) (f : PubFrame) : Mach :=
  let s := ug {} m.subs i
  if f.listHash ≠ l.hash then
    let det := toLe 2 l.moduleId ++ [l.partition] ++ toLe 4 f.listHash
    let m := m.when (!s.mismatch) (fun m => m.chron { sub := 2, low := 0x01, part := l.reader, inst := i, cause := 1, detail := det })
    m.updSub i (fun z => { z with bad := true, mismatch := true })
  else if s.held.any (fun h => !newerSet (f.startCount % 256) f.cycle h) then m
  else (m.updSub i (fun z => z.fragment f m.now)).updSub i (fun z => { z with mismatch := false })

/-- PUBLICATION_FRAME (R57): a fragment of a publication list. -/
def execPublicationFrame (t : Nat) (f : PubFrame) (s : State) : Out :=
  ev t (fun m =>
    if m.sys.off || !m.plantPorts.contains f.port.val || f.etherType != m.sys.pubType || f.version != 1 || f.entryCount == 0 || decide (640 < f.entryCount) || f.values.length != f.entryCount ||
      f.quality.length != f.entryCount || decide (127 < f.index) then m
    else if !m.macPass f.port.val f.secured then m.macDrop f.port.val
    else
      let ls := (m.cfg.map (·.subs)).getD []
      m.each ((ls.zip (List.range ls.length)).filter (fun e => e.1.moduleId == f.moduleId && e.1.partition == f.partition))
        (fun m e => m.listFrame e.2 e.1 f)) s

/-- PUBLICATION_ABSENT (R59): nothing of a list has been latched for 3 × P_A: its points are BAD from the next Clapper on. -/
def execPublicationAbsent (t : Nat) (list : Nat) (s : State) : Out :=
  ev t (fun m =>
    match ((m.cfg.map (·.subs)).getD [])[list]? with
    | none => m
    | some l =>
      if ((ug {} m.subs list).last).any (fun x => decide (m.now < x.2 + 3 * (l.periodM * 125000))) then m
      else m.updSub list (fun s => { s with bad := true })) s

end Sys2Proof.Machine
end

