-- ==== Sys2Proof/Machine/RungBit.lean ====
section
/-! DEFINITION. Bit instructions on image points and instance data, branch stack and accumulator instructions (R103 to R105). -/
namespace Sys2Proof.Machine

/-- ACC from ACC and the addressed bit of a point, in 1 clock (R103). -/
def bitP (g : Bool → Bool → Bool) (op : Operand) (x : Rx) : Rx :=
  let y := x.pbit op
  (y.2.acc (g x.e.acc y.1)).done 1

/-- ACC from ACC and the addressed bit of instance data, in 1 clock (R104). -/
def bitI (g : Bool → Bool → Bool) (op : Operand) (x : Rx) : Rx :=
  let y := x.ibit op
  (y.2.acc (g x.e.acc y.1)).done 1

/-- Store a bit of a point where a condition holds; no store otherwise (R103). -/
def bitStP (c b : Bool) (op : Operand) (x : Rx) : Rx := (if c then x.pbitSt op b else x).done 1

/-- Store a bit of instance data where a condition holds; no store otherwise (R104). -/
def bitStI (c b : Bool) (op : Operand) (x : Rx) : Rx := (if c then x.ibitSt op b else x).done 1

/-- An edge instruction: the old bit and ACC give ACC, the bit takes ACC (R104). -/
def edge (g : Bool → Bool → Bool) (op : Operand) (x : Rx) : Rx :=
  let y := x.ibit op
  ((y.2.ibitSt op x.e.acc).acc (g x.e.acc y.1)).done 1

/-- A branch-stack instruction that needs an entry; an empty stack is a FETCH fault (R105, R121). -/
def withTop (f : Bool → Rx → Rx) (x : Rx) : Rx :=
  match x.e.stack with
  | [] => x.raise 9
  | t :: _ => (f t x).done 1

/-- Pop the branch stack. -/
def Rx.pop (x : Rx) : Rx := { x with e := { x.e with stack := x.e.stack.tail } }

/-- LD (R103): ACC := bit. -/
def execLd (ce : Fin 8) (op : Operand) (s : State) : Out :=
  rung ce true (bitP (fun _ b => b) op) s

/-- LDN (R103): ACC := not bit. -/
def execLdn (ce : Fin 8) (op : Operand) (s : State) : Out :=
  rung ce true (bitP (fun _ b => !b) op) s

/-- AND (R103): ACC := ACC and bit. -/
def execAnd (ce : Fin 8) (op : Operand) (s : State) : Out :=
  rung ce true (bitP (fun a b => a && b) op) s

/-- ANDN (R103): ACC := ACC and not bit. -/
def execAndn (ce : Fin 8) (op : Operand) (s : State) : Out :=
  rung ce true (bitP (fun a b => a && !b) op) s

/-- OR (R103): ACC := ACC or bit. -/
def execOr (ce : Fin 8) (op : Operand) (s : State) : Out :=
  rung ce true (bitP (fun a b => a || b) op) s

/-- ORN (R103): ACC := ACC or not bit. -/
def execOrn (ce : Fin 8) (op : Operand) (s : State) : Out :=
  rung ce true (bitP (fun a b => a || !b) op) s

/-- XOR (R103): ACC := ACC xor bit. -/
def execXor (ce : Fin 8) (op : Operand) (s : State) : Out :=
  rung ce true (bitP (fun a b => a != b) op) s

/-- ST (R103): bit := ACC, always stored. -/
def execSt (ce : Fin 8) (op : Operand) (s : State) : Out :=
  rung ce true (fun x => bitStP true x.e.acc op x) s

/-- STN (R103): bit := not ACC, always stored. -/
def execStn (ce : Fin 8) (op : Operand) (s : State) : Out :=
  rung ce true (fun x => bitStP true (!x.e.acc) op x) s

/-- SET (R103): if ACC = 1, bit := 1. -/
def execSet (ce : Fin 8) (op : Operand) (s : State) : Out :=
  rung ce true (fun x => bitStP x.e.acc true op x) s

/-- RST (R103): if ACC = 1, bit := 0. -/
def execRst (ce : Fin 8) (op : Operand) (s : State) : Out :=
  rung ce true (fun x => bitStP x.e.acc false op x) s

/-- LDQ (R103): ACC := 1 if the quality code of the point equals operand bits [1:0]; bits [3:2] are 0. -/
def execLdq (ce : Fin 8) (op : Operand) (s : State) : Out :=
  rung ce (decide (opPbit op < 4)) (fun x =>
    let y := x.quality ((opP op + x.index) % 2 ^ 20)
    (y.2.acc (y.1 == opPbit op % 4)).done 1) s

/-- LDI (R104): ACC := bit. -/
def execLdi (ce : Fin 8) (op : Operand) (s : State) : Out :=
  rung ce (okIbit op) (bitI (fun _ b => b) op) s

/-- LDNI (R104): ACC := not bit. -/
def execLdni (ce : Fin 8) (op : Operand) (s : State) : Out :=
  rung ce (okIbit op) (bitI (fun _ b => !b) op) s

/-- ANDI (R104): ACC := ACC and bit. -/
def execAndi (ce : Fin 8) (op : Operand) (s : State) : Out :=
  rung ce (okIbit op) (bitI (fun a b => a && b) op) s

/-- ANDNI (R104): ACC := ACC and not bit. -/
def execAndni (ce : Fin 8) (op : Operand) (s : State) : Out :=
  rung ce (okIbit op) (bitI (fun a b => a && !b) op) s

/-- ORI (R104): ACC := ACC or bit. -/
def execOri (ce : Fin 8) (op : Operand) (s : State) : Out :=
  rung ce (okIbit op) (bitI (fun a b => a || b) op) s

/-- ORNI (R104): ACC := ACC or not bit. -/
def execOrni (ce : Fin 8) (op : Operand) (s : State) : Out :=
  rung ce (okIbit op) (bitI (fun a b => a || !b) op) s

/-- XORI (R104): ACC := ACC xor bit. -/
def execXori (ce : Fin 8) (op : Operand) (s : State) : Out :=
  rung ce (okIbit op) (bitI (fun a b => a != b) op) s

/-- STI (R104): bit := ACC. -/
def execSti (ce : Fin 8) (op : Operand) (s : State) : Out :=
  rung ce (okIbit op) (fun x => bitStI true x.e.acc op x) s

/-- STNI (R104): bit := not ACC. -/
def execStni (ce : Fin 8) (op : Operand) (s : State) : Out :=
  rung ce (okIbit op) (fun x => bitStI true (!x.e.acc) op x) s

/-- SETI (R104): if ACC = 1, bit := 1. -/
def execSeti (ce : Fin 8) (op : Operand) (s : State) : Out :=
  rung ce (okIbit op) (fun x => bitStI x.e.acc true op x) s

/-- RSTI (R104): if ACC = 1, bit := 0. -/
def execRsti (ce : Fin 8) (op : Operand) (s : State) : Out :=
  rung ce (okIbit op) (fun x => bitStI x.e.acc false op x) s

/-- PE (R104): m := bit; bit := ACC; ACC := ACC and not m. -/
def execPe (ce : Fin 8) (op : Operand) (s : State) : Out :=
  rung ce (okIbit op) (edge (fun a m => a && !m) op) s

/-- NE (R104): m := bit; bit := ACC; ACC := m and not ACC. -/
def execNe (ce : Fin 8) (op : Operand) (s : State) : Out :=
  rung ce (okIbit op) (edge (fun a m => m && !a) op) s

/-- BPUSH (R105): top := ACC; a stack of 32 entries is a FETCH fault (R121). -/
def execBpush (ce : Fin 8) (op : Operand) (s : State) : Out :=
  rung ce (okN op) (fun x =>
    if 32 ≤ x.e.stack.length then x.raise 9
    else { x with e := { x.e with stack := x.e.acc :: x.e.stack } }.done 1) s

/-- BAND (R105): ACC := top and ACC; pop. -/
def execBand (ce : Fin 8) (op : Operand) (s : State) : Out :=
  rung ce (okN op) (withTop (fun t x => (x.acc (t && x.e.acc)).pop)) s

/-- BOR (R105): ACC := top or ACC; pop. -/
def execBor (ce : Fin 8) (op : Operand) (s : State) : Out :=
  rung ce (okN op) (withTop (fun t x => (x.acc (t || x.e.acc)).pop)) s

/-- BPEEK (R105): ACC := top. -/
def execBpeek (ce : Fin 8) (op : Operand) (s : State) : Out :=
  rung ce (okN op) (withTop (fun t x => x.acc t)) s

/-- BPOP (R105): ACC := top; pop. -/
def execBpop (ce : Fin 8) (op : Operand) (s : State) : Out :=
  rung ce (okN op) (withTop (fun t x => (x.acc t).pop)) s

/-- BDROP (R105): pop; ACC unchanged. -/
def execBdrop (ce : Fin 8) (op : Operand) (s : State) : Out :=
  rung ce (okN op) (withTop (fun _ x => x.pop)) s

/-- NOT (R105): ACC := not ACC. -/
def execNot (ce : Fin 8) (op : Operand) (s : State) : Out :=
  rung ce (okN op) (fun x => (x.acc (!x.e.acc)).done 1) s

/-- ONE (R105): ACC := 1. -/
def execOne (ce : Fin 8) (op : Operand) (s : State) : Out :=
  rung ce (okN op) (fun x => (x.acc true).done 1) s

/-- NEG (R105): WACC := 0 − WACC, modulo 2^64. -/
def execNeg (ce : Fin 8) (op : Operand) (s : State) : Out :=
  rung ce (okN op) (fun x => (x.wacc (0#64 - x.e.wacc)).done 1) s

/-- ABS (R105): WACC := its signed absolute value; −2^63 stays. -/
def execAbs (ce : Fin 8) (op : Operand) (s : State) : Out :=
  rung ce (okN op) (fun x => (x.wacc (absOp x.e.wacc)).done 1) s

/-- WNOT (R105): WACC := bitwise not WACC. -/
def execWnot (ce : Fin 8) (op : Operand) (s : State) : Out :=
  rung ce (okN op) (fun x => (x.wacc (~~~ x.e.wacc)).done 1) s

end Sys2Proof.Machine
end

