-- ==== Sys2Proof/Machine/RungWord.lean ====
section
/-! DEFINITION. Word instructions: moves, constants, arithmetic, logic, compares, bits of WACC (R106 to R112). -/
namespace Sys2Proof.Machine

/-- Load a point of n slots into WACC, in 1 clock (R106). -/
def loadP (n : Nat) (ext : Word64 → Word64) (op : Operand) (x : Rx) : Rx :=
  let y := x.pword op n
  (y.2.wacc (ext y.1)).done 1

/-- Store a point of n slots where a condition holds (R106). -/
def storeP (n : Nat) (c : Bool) (op : Operand) (x : Rx) : Rx := (if c then x.pwordSt op n else x).done 1

/-- Load an instance field of n bytes into WACC (R107). -/
def loadI (n : Nat) (ext : Word64 → Word64) (op : Operand) (x : Rx) : Rx :=
  let y := x.iword op n
  (y.2.wacc (ext y.1)).done 1

/-- Store an instance field of n bytes where a condition holds (R107). -/
def storeI (n : Nat) (c : Bool) (op : Operand) (x : Rx) : Rx := (if c then x.iwordSt op n else x).done 1

/-- WACC and, where written, ACC of an arithmetic instruction, in its clocks (R108, R109). -/
def Rx.arith (x : Rx) (f : Arith) (v : Word64) (clk : Nat) : Rx :=
  let y := f x.e.wacc v
  let x := x.wacc y.1
  (match y.2 with
   | some b => x.acc b
   | none => x).done clk

/-- An arithmetic instruction of the I form: a 32-bit field, extended (R108). -/
def arithI (f : Arith) (ext : Word64 → Word64) (clk : Nat) (op : Operand) (x : Rx) : Rx :=
  let y := x.iword op 4
  y.2.arith f (ext y.1) clk

/-- A shift of the I form: its count is bits [5:0] of a 32-bit field (R108). -/
def shiftI (f : Nat → Word64 → Word64) (op : Operand) (x : Rx) : Rx :=
  let y := x.iword op 4
  (y.2.wacc (f (y.1.toNat % 64) x.e.wacc)).done 1

/-- A compare sets ACC and leaves WACC (R110). -/
def Rx.cmp (x : Rx) (f : Word64 → Word64 → Bool) (v : Word64) : Rx := (x.acc (f x.e.wacc v)).done 1

/-- A compare with a 32-bit field, extended (R110). -/
def cmpI (f : Word64 → Word64 → Bool) (ext : Word64 → Word64) (op : Operand) (x : Rx) : Rx :=
  let y := x.iword op 4
  y.2.cmp f (ext y.1)

/-- A compare with an 8-byte field (R111). -/
def cmpD (f : Word64 → Word64 → Bool) (op : Operand) (x : Rx) : Rx :=
  let y := x.iword op 8
  y.2.cmp f y.1

/-- LW.16 (R106): WACC := the point, zero-extended. -/
def execLw16 (ce : Fin 8) (op : Operand) (s : State) : Out :=
  rung ce (okPword op 1) (loadP 1 id op) s

/-- LW.32 (R106): WACC := the point, zero-extended. -/
def execLw32 (ce : Fin 8) (op : Operand) (s : State) : Out :=
  rung ce (okPword op 2) (loadP 2 id op) s

/-- LW.64 (R106): WACC := the point, zero-extended. -/
def execLw64 (ce : Fin 8) (op : Operand) (s : State) : Out :=
  rung ce (okPword op 4) (loadP 4 id op) s

/-- LWS.16 (R106): WACC := the point, sign-extended. -/
def execLws16 (ce : Fin 8) (op : Operand) (s : State) : Out :=
  rung ce (okPword op 1) (loadP 1 (sext 16) op) s

/-- LWS.32 (R106): WACC := the point, sign-extended. -/
def execLws32 (ce : Fin 8) (op : Operand) (s : State) : Out :=
  rung ce (okPword op 2) (loadP 2 (sext 32) op) s

/-- SW.16 (R106): point := low 16 bits of WACC. -/
def execSw16 (ce : Fin 8) (op : Operand) (s : State) : Out :=
  rung ce (okPword op 1) (storeP 1 true op) s

/-- SW.32 (R106): point := low 32 bits of WACC. -/
def execSw32 (ce : Fin 8) (op : Operand) (s : State) : Out :=
  rung ce (okPword op 2) (storeP 2 true op) s

/-- SW.64 (R106): point := low 64 bits of WACC. -/
def execSw64 (ce : Fin 8) (op : Operand) (s : State) : Out :=
  rung ce (okPword op 4) (storeP 4 true op) s

/-- SWC.16 (R106): if ACC = 1, point := low 16 bits of WACC. -/
def execSwc16 (ce : Fin 8) (op : Operand) (s : State) : Out :=
  rung ce (okPword op 1) (fun x => storeP 1 x.e.acc op x) s

/-- SWC.32 (R106): if ACC = 1, point := low 32 bits of WACC. -/
def execSwc32 (ce : Fin 8) (op : Operand) (s : State) : Out :=
  rung ce (okPword op 2) (fun x => storeP 2 x.e.acc op x) s

/-- SWC.64 (R106): if ACC = 1, point := low 64 bits of WACC. -/
def execSwc64 (ce : Fin 8) (op : Operand) (s : State) : Out :=
  rung ce (okPword op 4) (fun x => storeP 4 x.e.acc op x) s

/-- LI.8 (R107): WACC := field, zero-extended. -/
def execLi8 (ce : Fin 8) (op : Operand) (s : State) : Out :=
  rung ce (okIword op 1) (loadI 1 id op) s

/-- LI.16 (R107): WACC := field, zero-extended. -/
def execLi16 (ce : Fin 8) (op : Operand) (s : State) : Out :=
  rung ce (okIword op 2) (loadI 2 id op) s

/-- LI.32 (R107): WACC := field, zero-extended. -/
def execLi32 (ce : Fin 8) (op : Operand) (s : State) : Out :=
  rung ce (okIword op 4) (loadI 4 id op) s

/-- LI.64 (R107): WACC := field, zero-extended. -/
def execLi64 (ce : Fin 8) (op : Operand) (s : State) : Out :=
  rung ce (okIword op 8) (loadI 8 id op) s

/-- LIS.8 (R107): WACC := field, sign-extended. -/
def execLis8 (ce : Fin 8) (op : Operand) (s : State) : Out :=
  rung ce (okIword op 1) (loadI 1 (sext 8) op) s

/-- LIS.16 (R107): WACC := field, sign-extended. -/
def execLis16 (ce : Fin 8) (op : Operand) (s : State) : Out :=
  rung ce (okIword op 2) (loadI 2 (sext 16) op) s

/-- LIS.32 (R107): WACC := field, sign-extended. -/
def execLis32 (ce : Fin 8) (op : Operand) (s : State) : Out :=
  rung ce (okIword op 4) (loadI 4 (sext 32) op) s

/-- SI.8 (R107): field := low 8 bits of WACC. -/
def execSi8 (ce : Fin 8) (op : Operand) (s : State) : Out :=
  rung ce (okIword op 1) (storeI 1 true op) s

/-- SI.16 (R107): field := low 16 bits of WACC. -/
def execSi16 (ce : Fin 8) (op : Operand) (s : State) : Out :=
  rung ce (okIword op 2) (storeI 2 true op) s

/-- SI.32 (R107): field := low 32 bits of WACC. -/
def execSi32 (ce : Fin 8) (op : Operand) (s : State) : Out :=
  rung ce (okIword op 4) (storeI 4 true op) s

/-- SI.64 (R107): field := low 64 bits of WACC. -/
def execSi64 (ce : Fin 8) (op : Operand) (s : State) : Out :=
  rung ce (okIword op 8) (storeI 8 true op) s

/-- SIC.16 (R107): if ACC = 1, field := low 16 bits of WACC. -/
def execSic16 (ce : Fin 8) (op : Operand) (s : State) : Out :=
  rung ce (okIword op 2) (fun x => storeI 2 x.e.acc op x) s

/-- SIC.32 (R107): if ACC = 1, field := low 32 bits of WACC. -/
def execSic32 (ce : Fin 8) (op : Operand) (s : State) : Out :=
  rung ce (okIword op 4) (fun x => storeI 4 x.e.acc op x) s

/-- SIC.64 (R107): if ACC = 1, field := low 64 bits of WACC. -/
def execSic64 (ce : Fin 8) (op : Operand) (s : State) : Out :=
  rung ce (okIword op 8) (fun x => storeI 8 x.e.acc op x) s

/-- LDK (R107): WACC := operand, sign-extended. -/
def execLdk (ce : Fin 8) (op : Operand) (s : State) : Out :=
  rung ce true (fun x => (x.wacc (opKs op)).done 1) s

/-- LDKS (R107): WACC := (WACC shifted left by 24) or operand, zero-extended. -/
def execLdks (ce : Fin 8) (op : Operand) (s : State) : Out :=
  rung ce true (fun x => (x.wacc ((x.e.wacc <<< 24) ||| opKz op)).done 1) s

/-- ADDK (R108): WACC + v, v the immediate sign-extended. -/
def execAddk (ce : Fin 8) (op : Operand) (s : State) : Out :=
  rung ce true (fun x => x.arith (keepAcc (· + ·)) (opKs op) 1) s

/-- SUBK (R108): WACC − v, v the immediate sign-extended. -/
def execSubk (ce : Fin 8) (op : Operand) (s : State) : Out :=
  rung ce true (fun x => x.arith (keepAcc (· - ·)) (opKs op) 1) s

/-- MULK (R108): low 64 bits of WACC × v, v the immediate sign-extended. -/
def execMulk (ce : Fin 8) (op : Operand) (s : State) : Out :=
  rung ce true (fun x => x.arith (keepAcc (· * ·)) (opKs op) 3) s

/-- DIVK (R109): signed quotient truncated toward zero; ACC := v ≠ 0, v the immediate sign-extended. -/
def execDivk (ce : Fin 8) (op : Operand) (s : State) : Out :=
  rung ce true (fun x => x.arith (divOp) (opKs op) 36) s

/-- MODK (R109): signed remainder, sign of WACC; ACC := v ≠ 0, v the immediate sign-extended. -/
def execModk (ce : Fin 8) (op : Operand) (s : State) : Out :=
  rung ce true (fun x => x.arith (modOp) (opKs op) 36) s

/-- ANDK (R108): WACC and v, v the immediate zero-extended. -/
def execAndk (ce : Fin 8) (op : Operand) (s : State) : Out :=
  rung ce true (fun x => x.arith (keepAcc (· &&& ·)) (opKz op) 1) s

/-- ORK (R108): WACC or v, v the immediate zero-extended. -/
def execOrk (ce : Fin 8) (op : Operand) (s : State) : Out :=
  rung ce true (fun x => x.arith (keepAcc (· ||| ·)) (opKz op) 1) s

/-- XORK (R108): WACC xor v, v the immediate zero-extended. -/
def execXork (ce : Fin 8) (op : Operand) (s : State) : Out :=
  rung ce true (fun x => x.arith (keepAcc (· ^^^ ·)) (opKz op) 1) s

/-- MAXK (R108): signed maximum, v the immediate sign-extended. -/
def execMaxk (ce : Fin 8) (op : Operand) (s : State) : Out :=
  rung ce true (fun x => x.arith (maxOp) (opKs op) 1) s

/-- MINK (R108): signed minimum, v the immediate sign-extended. -/
def execMink (ce : Fin 8) (op : Operand) (s : State) : Out :=
  rung ce true (fun x => x.arith (minOp) (opKs op) 1) s

/-- ADDI (R108): WACC + v, v a 32-bit field sign-extended. -/
def execAddi (ce : Fin 8) (op : Operand) (s : State) : Out :=
  rung ce (okIword op 4) (arithI (keepAcc (· + ·)) (sext 32) 1 op) s

/-- SUBI (R108): WACC − v, v a 32-bit field sign-extended. -/
def execSubi (ce : Fin 8) (op : Operand) (s : State) : Out :=
  rung ce (okIword op 4) (arithI (keepAcc (· - ·)) (sext 32) 1 op) s

/-- MULI (R108): low 64 bits of WACC × v, v a 32-bit field sign-extended. -/
def execMuli (ce : Fin 8) (op : Operand) (s : State) : Out :=
  rung ce (okIword op 4) (arithI (keepAcc (· * ·)) (sext 32) 3 op) s

/-- DIVI (R109): signed quotient truncated toward zero; ACC := v ≠ 0, v a 32-bit field sign-extended. -/
def execDivi (ce : Fin 8) (op : Operand) (s : State) : Out :=
  rung ce (okIword op 4) (arithI (divOp) (sext 32) 36 op) s

/-- MODI (R109): signed remainder, sign of WACC; ACC := v ≠ 0, v a 32-bit field sign-extended. -/
def execModi (ce : Fin 8) (op : Operand) (s : State) : Out :=
  rung ce (okIword op 4) (arithI (modOp) (sext 32) 36 op) s

/-- ANDI (R108): WACC and v, v a 32-bit field zero-extended. -/
def execAndiW (ce : Fin 8) (op : Operand) (s : State) : Out :=
  rung ce (okIword op 4) (arithI (keepAcc (· &&& ·)) id 1 op) s

/-- ORI (R108): WACC or v, v a 32-bit field zero-extended. -/
def execOriW (ce : Fin 8) (op : Operand) (s : State) : Out :=
  rung ce (okIword op 4) (arithI (keepAcc (· ||| ·)) id 1 op) s

/-- XORI (R108): WACC xor v, v a 32-bit field zero-extended. -/
def execXoriW (ce : Fin 8) (op : Operand) (s : State) : Out :=
  rung ce (okIword op 4) (arithI (keepAcc (· ^^^ ·)) id 1 op) s

/-- MAXI (R108): signed maximum, v a 32-bit field sign-extended. -/
def execMaxi (ce : Fin 8) (op : Operand) (s : State) : Out :=
  rung ce (okIword op 4) (arithI (maxOp) (sext 32) 1 op) s

/-- MINI (R108): signed minimum, v a 32-bit field sign-extended. -/
def execMini (ce : Fin 8) (op : Operand) (s : State) : Out :=
  rung ce (okIword op 4) (arithI (minOp) (sext 32) 1 op) s

/-- SHLK (R108): WACC shifted left, by an S operand. -/
def execShlk (ce : Fin 8) (op : Operand) (s : State) : Out :=
  rung ce (okS op) (fun x => (x.wacc (shlOp (opS op) x.e.wacc)).done 1) s

/-- SHLI (R108): WACC shifted left, by bits [5:0] of a 32-bit field. -/
def execShli (ce : Fin 8) (op : Operand) (s : State) : Out :=
  rung ce (okIword op 4) (shiftI shlOp op) s

/-- SHRK (R108): WACC shifted right, zeros in, by an S operand. -/
def execShrk (ce : Fin 8) (op : Operand) (s : State) : Out :=
  rung ce (okS op) (fun x => (x.wacc (shrOp (opS op) x.e.wacc)).done 1) s

/-- SHRI (R108): WACC shifted right, zeros in, by bits [5:0] of a 32-bit field. -/
def execShri (ce : Fin 8) (op : Operand) (s : State) : Out :=
  rung ce (okIword op 4) (shiftI shrOp op) s

/-- SARK (R108): WACC shifted right, sign in, by an S operand. -/
def execSark (ce : Fin 8) (op : Operand) (s : State) : Out :=
  rung ce (okS op) (fun x => (x.wacc (sarOp (opS op) x.e.wacc)).done 1) s

/-- SARI (R108): WACC shifted right, sign in, by bits [5:0] of a 32-bit field. -/
def execSari (ce : Fin 8) (op : Operand) (s : State) : Out :=
  rung ce (okIword op 4) (shiftI sarOp op) s

/-- EQK (R110). -/
def execEqk (ce : Fin 8) (op : Operand) (s : State) : Out :=
  rung ce true (fun x => x.cmp cmpEq (opKs op)) s

/-- EQI (R110). -/
def execEqi (ce : Fin 8) (op : Operand) (s : State) : Out :=
  rung ce (okIword op 4) (cmpI cmpEq (sext 32) op) s

/-- NEK (R110). -/
def execNek (ce : Fin 8) (op : Operand) (s : State) : Out :=
  rung ce true (fun x => x.cmp cmpNe (opKs op)) s

/-- NEI (R110). -/
def execNei (ce : Fin 8) (op : Operand) (s : State) : Out :=
  rung ce (okIword op 4) (cmpI cmpNe (sext 32) op) s

/-- GTK (R110). -/
def execGtk (ce : Fin 8) (op : Operand) (s : State) : Out :=
  rung ce true (fun x => x.cmp cmpGt (opKs op)) s

/-- GTI (R110). -/
def execGti (ce : Fin 8) (op : Operand) (s : State) : Out :=
  rung ce (okIword op 4) (cmpI cmpGt (sext 32) op) s

/-- GEK (R110). -/
def execGek (ce : Fin 8) (op : Operand) (s : State) : Out :=
  rung ce true (fun x => x.cmp cmpGe (opKs op)) s

/-- GEI (R110). -/
def execGei (ce : Fin 8) (op : Operand) (s : State) : Out :=
  rung ce (okIword op 4) (cmpI cmpGe (sext 32) op) s

/-- LTK (R110). -/
def execLtk (ce : Fin 8) (op : Operand) (s : State) : Out :=
  rung ce true (fun x => x.cmp cmpLt (opKs op)) s

/-- LTI (R110). -/
def execLti (ce : Fin 8) (op : Operand) (s : State) : Out :=
  rung ce (okIword op 4) (cmpI cmpLt (sext 32) op) s

/-- LEK (R110). -/
def execLek (ce : Fin 8) (op : Operand) (s : State) : Out :=
  rung ce true (fun x => x.cmp cmpLe (opKs op)) s

/-- LEI (R110). -/
def execLei (ce : Fin 8) (op : Operand) (s : State) : Out :=
  rung ce (okIword op 4) (cmpI cmpLe (sext 32) op) s

/-- GTUK (R110). -/
def execGtuk (ce : Fin 8) (op : Operand) (s : State) : Out :=
  rung ce true (fun x => x.cmp cmpGtu (opKz op)) s

/-- GTUI (R110). -/
def execGtui (ce : Fin 8) (op : Operand) (s : State) : Out :=
  rung ce (okIword op 4) (cmpI cmpGtu id op) s

/-- LTUK (R110). -/
def execLtuk (ce : Fin 8) (op : Operand) (s : State) : Out :=
  rung ce true (fun x => x.cmp cmpLtu (opKz op)) s

/-- LTUI (R110). -/
def execLtui (ce : Fin 8) (op : Operand) (s : State) : Out :=
  rung ce (okIword op 4) (cmpI cmpLtu id op) s

/-- ADDD (R111): WACC := WACC + v, an 8-byte field. -/
def execAddd (ce : Fin 8) (op : Operand) (s : State) : Out :=
  rung ce (okIword op 8) (fun x =>
    let y := x.iword op 8
    (y.2.wacc (x.e.wacc + y.1)).done 1) s

/-- SUBD (R111): WACC := WACC − v, an 8-byte field. -/
def execSubd (ce : Fin 8) (op : Operand) (s : State) : Out :=
  rung ce (okIword op 8) (fun x =>
    let y := x.iword op 8
    (y.2.wacc (x.e.wacc - y.1)).done 1) s

/-- EQD (R111). -/
def execEqd (ce : Fin 8) (op : Operand) (s : State) : Out :=
  rung ce (okIword op 8) (cmpD cmpEq op) s

/-- NED (R111). -/
def execNed (ce : Fin 8) (op : Operand) (s : State) : Out :=
  rung ce (okIword op 8) (cmpD cmpNe op) s

/-- GTD (R111). -/
def execGtd (ce : Fin 8) (op : Operand) (s : State) : Out :=
  rung ce (okIword op 8) (cmpD cmpGt op) s

/-- LTD (R111). -/
def execLtd (ce : Fin 8) (op : Operand) (s : State) : Out :=
  rung ce (okIword op 8) (cmpD cmpLt op) s

/-- GTUD (R111). -/
def execGtud (ce : Fin 8) (op : Operand) (s : State) : Out :=
  rung ce (okIword op 8) (cmpD cmpGtu op) s

/-- LTUD (R111). -/
def execLtud (ce : Fin 8) (op : Operand) (s : State) : Out :=
  rung ce (okIword op 8) (cmpD cmpLtu op) s

/-- WBIT (R112): ACC := WACC[n]. -/
def execWbit (ce : Fin 8) (op : Operand) (s : State) : Out :=
  rung ce (okS op) (fun x => (x.acc (x.e.wacc.getLsbD (opS op))).done 1) s

/-- WSETB (R112): WACC[n] := ACC. -/
def execWsetb (ce : Fin 8) (op : Operand) (s : State) : Out :=
  rung ce (okS op) (fun x => (x.wacc (setWBit x.e.wacc (opS op) x.e.acc)).done 1) s

end Sys2Proof.Machine
end

