-- ==== Sys2Proof/Machine/Session.lean ====
section
/-! DEFINITION. Connections, sessions, queues, event channels, supervisor load (spec/07), identification (R608). -/
namespace Sys2Proof.Machine

/-! ### Connections -/

/-- What the anchor rule of the lifecycle state grants a chain that reached this port: role mask and queue mask (R553, R556, R559, R560). -/
def Mach.grant (m : Mach) (port : Nat) (c : Chain) : Option (Nat × Nat) :=
  let life := m.obj F.secLIFECYCLE
  if 4 < c.count ∨ !c.p384 ∨ !c.endEntity ∨ (m.gzValid ∧ !c.inPeriod) then none
  else if life = 1 then some (0b10001, 0xF)
  else if life = 2 then
    ((List.range 8).find? (fun k => m.obj F.ancUSE k == 1 && m.obj F.ancFINGERPRINT k == c.anchor)).map
      (fun k => (m.obj F.ancROLE_MASK k, m.obj F.ancQUEUES k))
  else if 2 ≤ port ∧ ((life = 0 ∧ c.rybrion = 1) ∨ (life = 3 ∧ c.rybrion = 2)) then some (0b11111, 2 ^ 64 - 1)
  else none

/-- The handshake of a connection completes with a chain: established, or failed and counted (R191, R553). -/
def Mach.established (m : Mach) (i : Nat) (h : Hello) (c : Chain) : Mach :=
  match m.grant h.port c with
  | none => (m.updConn i (fun _ => {})).bump F.zcpAUTH_FAIL
  | some g =>
    m.updConn i (fun _ => { state := 2, port := h.port, helloAt := m.now, identity := c.identity, roleMask := g.1, queues := g.2,
                            unchecked := !m.gzValid })

/-- A datagram reaches ZCP (R190): IPv6, at the module's UDP port, at an address the port has, on a port in service. -/
def Mach.reaches (m : Mach) (h : Hello) : Bool :=
  h.v6 && h.udp == m.sys.udpPort && !m.blockOut (if h.port.val ≤ 1 then 0x20 + h.port.val else 0x21 + h.port.val) &&
  (h.addr == 0 || (decide (h.port.val ≤ 1) && h.addr.val == m.sys.addrMode))

/-- DTLS_HANDSHAKE (R191): a ClientHello under the supported features; a taken connection refuses it. -/
def execDtlsHandshake (t : Nat) (conn : Fin 32) (h : Hello) (s : State) : Out :=
  ev t (fun m =>
    if m.deaf || !m.reaches h then m
    else if decide (h.port.val ≤ 1) && !m.macPass h.port.val h.secured then m.macDrop h.port.val
    else if (m.conn conn).state = 2 then m.bump F.zcpAUTH_FAIL
    else if !h.dtls13 || !h.suite || !h.curve then (m.updConn conn (fun _ => {})).bump F.zcpAUTH_FAIL
    else match h.done with
      | some c => m.established conn h c
      | none =>
        if (m.conn conn).state = 1 then m
        else m.updConn conn (fun _ => { state := 1, port := h.port, helloAt := m.now })) s

/-- HANDSHAKE_TIMEOUT (R191): not complete 10 s after the ClientHello. -/
def execHandshakeTimeout (t : Nat) (conn : Fin 32) (s : State) : Out :=
  ev t (fun m =>
    if (m.conn conn).state = 1 ∧ (m.conn conn).helloAt + 10 * 10 ^ 9 ≤ m.now then
      (m.updConn conn (fun _ => {})).bump F.zcpAUTH_FAIL
    else m) s

/-- DTLS_CONNECTION_CLOSE (R193): the session ends with its connection. -/
def execDtlsConnectionClose (t : Nat) (conn : Fin 32) (s : State) : Out :=
  ev t (fun m => (m.endSession conn).updConn conn (fun _ => {})) s

/-- SESSION_IDLE_TIMEOUT (R193): IDLE_S without a message that passes step 5. -/
def execSessionIdleTimeout (t : Nat) (conn : Fin 32) (s : State) : Out :=
  ev t (fun m =>
    if (m.conn conn).tag ≠ 0 ∧ (m.conn conn).lastAt + (m.conn conn).idleS * 10 ^ 9 ≤ m.now then m.endSession conn else m) s

/-! ### Session and queue commands -/

/-- Card of SESSION_OPEN (R194). -/
def cardSessionOpen : Card where
  op := 0x0001
  bulk := false
  boot := true
  items := [⟨1, 1, 1, true, false⟩, ⟨2, 2, 2, false, false⟩, ⟨3, 1, 32, false, false⟩]
  valOk := fun ty v => if ty = 1 then beNat v ≤ 4 else if ty = 2 then 5 ≤ beNat v && beNat v ≤ 3600 else true

/-- Fields of a SESSION_OPEN reply. -/
def Mach.openFields (m : Mach) (tag : Nat) : List Item :=
  [itm 1 4 tag, itm 2 2 (m.obj F.modMODULE_ID), itm 3 1 m.mode, itm 4 1 1, itm 5 2 1400]

/-- The effect of SESSION_OPEN (R194); a chain whose validity period went unchecked is noted, once a session (R553). -/
def sessionOpen (msg : Msg) (m : Mach) : Mach :=
  if msg.opcode ≠ 0x0001 then m.reply msg stUNKNOWN_OPCODE []
  else match readParams cardSessionOpen msg.params with
  | .error e => m.reply msg e.1 [⟨0xF5, [e.2]⟩]
  | .ok is =>
    let c : Cmd := { conn := msg.conn, q := msg.queue, seq := msg.seq, owner := 0xFF, part := msg.part, items := is, t := msg.t }
    let k := m.conn msg.conn
    if k.tag ≠ 0 then
      if c.num 1 = k.role then m.reply msg stDONE (m.openFields k.tag) else m.reply msg stBAD_PARAMETER [⟨0xF5, [1]⟩]
    else if !bit k.roleMask (c.num 1) then m.reply msg stROLE_REFUSED []
    else
      let x := m.takeFree
      let tag := 1 + x.1 % (2 ^ 32 - 1)
      let m := x.2.updConn msg.conn (fun k => { k with tag := tag, role := c.num 1, idleS := c.num 2 30, name := c.bytes 3, lastAt := m.now })
      let m := m.when k.unchecked (fun m => m.chron { sub := 0x0F, low := 0x06, inst := msg.conn, detail := c.bytes 3 })
      (m.setObj F.zcpSESSIONS 0 m.sessions).reply msg stDONE (m.openFields tag)

/-- SESSION_OPEN: the message after steps 1 to 4 (R201 step 5). -/
def execSessionOpen (msg : Msg) (s : State) : Out :=
  evR msg.t (fun _ m => step1 msg m (fun m => (sessionOpen msg m, []))) s

/-- The card of SESSION_CLOSE. -/
def sessionCloseCard : Card :=
  { op := 0x0002, bulk := false, boot := true }

/-- The effect of SESSION_CLOSE (R193). -/
def sessionClose (c : Cmd) (m : Mach) : Res :=
  Res.done (m.endSession c.conn)

/-- SESSION_CLOSE (R193). -/
def execSessionClose (msg : Msg) (s : State) : Out :=
  zcpM sessionCloseCard sessionClose msg s

/-- The card of SESSION_PING. -/
def sessionPingCard : Card :=
  { op := 0x0003, bulk := false, boot := true }

/-- The effect of SESSION_PING (R193): step 5 has reset the idle timer. -/
def sessionPing (_ : Cmd) (m : Mach) : Res :=
  Res.done m

/-- SESSION_PING (R193). -/
def execSessionPing (msg : Msg) (s : State) : Out :=
  zcpM sessionPingCard sessionPing msg s

/-- Card of QUEUE_ATTACH (R196). -/
def cardQueueAttach : Card where
  op := 0x0004
  bulk := false
  boot := true
  items := [⟨1, 1, 1, true, false⟩, ⟨2, 4, 4, false, false⟩, ⟨3, 4, 4, false, false⟩, ⟨4, 1, 1, false, false⟩]
  valOk := fun ty v => if ty = 1 then beNat v ≤ 1 else if ty = 4 then beNat v ≤ 1 else true
  lack := fun is =>
    let m := (is.find? (·.ty == 1)).map (fun i => beNat i.val)
    if m = some 0 ∧ !is.any (·.ty == 2) then some 2 else if m = some 1 ∧ !is.any (·.ty == 3) then some 3 else none

/-- Fields of a QUEUE_ATTACH reply. -/
def Mach.attachFields (m : Mach) (q : Nat) : List Item :=
  [itm 1 4 (m.obj F.cqQUEUE_EPOCH q), itm 2 4 (m.obj F.cqNEXT_SEQ q), itm 3 1 (m.obj F.cqCLASS q), itm 4 1 (m.queueOwner q),
   itm 5 2 (m.obj F.cqEV_HELD q)]

/-- Bind a queue to a connection's session. -/
def Mach.bindQueue (m : Mach) (q conn : Nat) : Mach :=
  let m := m.updCq q (fun c => { c with conn := conn, identity := (m.conn conn).identity, sentEv := 0 })
  ((m.setObj F.cqATTACHED q 1).setObj F.cqSESSION_TAG q (m.conn conn).tag).setObj F.cqOWNER q (m.queueOwner q)

/-- A fresh attach starts the queue anew at FIRST_SEQ (R196). -/
def Mach.freshen (m : Mach) (q first : Nat) : Mach :=
  let m := (m.setObj F.cqQUEUE_EPOCH q (m.obj F.cqQUEUE_EPOCH q + 1)).setObj F.cqNEXT_SEQ q first
  ((m.updCq q (fun c => { c with cache := [], asm := none, accepted := 0 })).outSync q).closeWins q

/-- The effect of QUEUE_ATTACH (R196). -/
def queueAttach (msg : Msg) (m : Mach) : Mach :=
  let q := msg.queue
  if msg.opcode ≠ 0x0004 then m.reply msg stUNKNOWN_OPCODE []
  else match readParams cardQueueAttach msg.params with
  | .error e => m.reply msg e.1 [⟨0xF5, [e.2]⟩]
  | .ok is =>
    let c : Cmd := { conn := msg.conn, q := q, seq := msg.seq, owner := 0xFF, part := msg.part, items := is, t := msg.t }
    let k := m.conn msg.conn
    let held := m.cq q
    if 63 < q then m.reply msg stBAD_PARAMETER [⟨0xF5, [0]⟩]
    else if !bit k.queues q then m.reply msg stNOT_OWNER []
    else if held.conn ≠ 255 ∧ held.conn ≠ msg.conn.val ∧ !(c.num 4 = 1 ∧ (m.conn held.conn).identity = k.identity) then
      m.reply msg stLOCKED []
    else if c.num 1 = 1 then
      if held.identity ≠ k.identity then m.reply msg stNOT_OWNER []
      else if c.num 3 ≠ m.obj F.cqQUEUE_EPOCH q then m.reply msg stSTALE_EPOCH []
      else
        let m := m.bindQueue q msg.conn
        (m.reply msg stDONE (m.attachFields q)).pumpEv q
    else
      let m := (m.freshen q (c.num 2)).bindQueue q msg.conn
      (m.reply msg stDONE (m.attachFields q)).pumpEv q

/-- QUEUE_ATTACH: the message after steps 1 to 5 (R201 step 6). -/
def execQueueAttach (msg : Msg) (s : State) : Out :=
  evR msg.t (fun _ m => step1 msg m (fun m => step5 msg m (fun m => (queueAttach msg m, [])))) s

/-- The card of QUEUE_DETACH. -/
def queueDetachCard : Card :=
  { op := 0x0005, bulk := false, boot := true }

/-- The effect of QUEUE_DETACH (R196). -/
def queueDetach (c : Cmd) (m : Mach) : Res :=
  Res.done (m.detach c.q)

/-- QUEUE_DETACH (R196). -/
def execQueueDetach (msg : Msg) (s : State) : Out :=
  zcpM queueDetachCard queueDetach msg s

/-- a is at or before b in serial-number arithmetic of 32 bits (R202, R208). -/
def serialLe (a b : Nat) : Bool := (b + 2 ^ 32 - a % 2 ^ 32) % 2 ^ 32 < 2 ^ 31

/-- Release every held event at or before UPTO (R212). -/
def Mach.ackEvents (m : Mach) (q upto : Nat) : Mach :=
  let keep := (m.cq q).held.filter (fun e => !serialLe e.seq upto)
  let gone := (m.cq q).held.length - keep.length
  let m := m.updCq q (fun c => { c with held := keep, sentEv := c.sentEv - gone, lost := if keep.length < 256 then 0 else c.lost })
  ((m.setObj F.cqEV_ACKED q upto).setObj F.cqEV_HELD q keep.length).pumpEv q

/-- The effect of EVENT_ACK (R212). -/
def eventAck (c : Cmd) (m : Mach) : Res :=
  let u := c.num 1
  if serialLe (m.obj F.cqEV_NEXT c.q) u then Res.bad m 1
  else if serialLe u (m.obj F.cqEV_ACKED c.q) then Res.done m
  else Res.done (m.ackEvents c.q u)

/-- The card of EVENT_ACK. -/
def eventAckCard : Card :=
  { op := 0x0006, bulk := false, boot := true, items := [⟨1, 4, 4, true, false⟩] }

/-- EVENT_ACK (R212). -/
def execEventAck (msg : Msg) (s : State) : Out :=
  zcpM eventAckCard eventAck msg s

/-! ### Timers of queues and channels -/

/-- FRAGMENT_TIMEOUT (R206): no next fragment within 1 s; TIMEOUT under the sequence number of the last fragment, cached. -/
def execFragmentTimeout (t : Nat) (q : Fin 64) (s : State) : Out :=
  ev t (fun m =>
    match (m.cq q).asm with
    | some a =>
      if a.lastAt + 10 ^ 9 ≤ m.now ∧ (m.cq q).waiting = [] then
        let c : Cached := ⟨a.lastSeq, true, false, a.opcode, stTIMEOUT, a.part, m.gzStamp, []⟩
        let m := (m.updCq q (fun d => { d with asm := none, cache := (d.cache.filter (fun e => e.seq != a.lastSeq)) ++ [c] })).outSync q
        if a.noReply || (m.cq q).conn == 255 then m
        else m.send ⟨(m.cq q).conn, false, false, false, q, a.opcode, (m.conn (m.cq q).conn).tag, a.lastSeq, stTIMEOUT, a.part,
          m.gzStamp, [], []⟩
      else m
    | none => m) s

/-- EVENT_RESEND (R209): every EV_RETRY_MS the unacknowledged events in flight are sent again, oldest first. -/
def execEventResend (t : Nat) (q : Fin 64) (s : State) : Out :=
  ev t (fun m =>
    if (m.cq q).conn ≠ 255 ∧ (m.cq q).resentAt + m.obj F.zcpEV_RETRY_MS * 10 ^ 6 ≤ m.now then
      (m.each ((m.cq q).held.take (m.cq q).sentEv) (fun m e => m.sendEv q e)).updCq q (fun c => { c with resentAt := m.now })
    else m) s

/-- The shed stage changes: a record and SUPERVISOR_OVERLOAD on EC0 (R211, R220). -/
def Mach.setShed (m : Mach) (stage load : Nat) : Mach :=
  let m := (m.setObj F.zcpSHED_STAGE 0 stage).updSys (fun x => { x with hiLoads := 0, loLoads := 0 })
  (m.chron { sub := 0, low := 0x80, detail := [stage, load] }).notice 0 0x0080 0xFF [itm 1 1 stage, itm 2 1 load]

/-- SHED_WINDOW (R220): a 100 ms load window ends. -/
def execShedWindow (t : Nat) (load : Nat) (s : State) : Out :=
  ev t (fun m =>
    if m.deaf ∨ m.now < m.sys.loadAt + 10 ^ 8 then m else
    let m := (m.setObj F.zcpSUP_LOAD 0 load).updSys (fun x =>
      { x with loadAt := m.now, hiLoads := if 90 ≤ load then x.hiLoads + 1 else 0, loLoads := if load ≤ 70 then x.loLoads + 1 else 0 })
    let st := m.obj F.zcpSHED_STAGE
    if 3 ≤ m.sys.hiLoads ∧ st < 3 then m.setShed (st + 1) load
    else if 10 ≤ m.sys.loLoads ∧ 0 < st then m.setShed (st - 1) load
    else m) s

/-! ### Identification (R608) -/

/-- The card of MODULE_IDENTIFY. -/
def moduleIdentifyCard : Card :=
  { op := 0x000A, bulk := false, items := [⟨1, 2, 2, false, false⟩], valOk := fun _ v => beNat v ≤ 600 }

/-- The effect of MODULE_IDENTIFY (R608): SECONDS 1 to 600, default 10; 0 ends it. -/
def moduleIdentify (c : Cmd) (m : Mach) : Res :=
  Res.done (m.updSys (fun x =>
  { x with identify := if c.num 1 10 = 0 ∨ x.window.isSome then none else some (m.now + c.num 1 10 * 10 ^ 9) }))

/-- MODULE_IDENTIFY (R608). -/
def execModuleIdentify (msg : Msg) (s : State) : Out :=
  zcpM moduleIdentifyCard moduleIdentify msg s

/-- IDENTIFY_EXPIRY (R608). -/
def execIdentifyExpiry (t : Nat) (s : State) : Out :=
  ev t (fun m =>
    match m.sys.identify with
    | some e => if e ≤ m.now then m.updSys (fun x => { x with identify := none }) else m
    | none => m) s

end Sys2Proof.Machine
end

