-- ==== Sys2Proof/Machine/Serve.lean ====
section
/-! DEFINITION. Requests that waited for an earlier one of their queue (R204), and the events that end such an earlier one: a block that has
restarted, a stand-in's answer, a Clapper. -/
namespace Sys2Proof.Machine

/-- The requests that may wait, each with its card and its effect (R223): SET_OBJECT once, those that bring more than their message by
what they bring. -/
def Waiting.commands (w : Waiting) : List (Card × (Cmd → Ram → Mach → Res)) :=
  match w.extra with
  | .pkg k => [(loadCommitCard, loadCommit k), (changeCommitCard, changeCommit k)]
  | .present b => [(epUnfenceCard, epUnfence b)]
  | .plain =>
    [(sessionCloseCard, fun c _ m => sessionClose c m),
     (sessionPingCard, fun c _ m => sessionPing c m),
     (queueDetachCard, fun c _ m => queueDetach c m),
     (eventAckCard, fun c _ m => eventAck c m),
     (getObjectCard, getObject),
     (cardSetObject, setObject),
     (moduleIdentifyCard, fun c _ m => moduleIdentify c m),
     (timeGetCard, fun c _ m => timeGet c m),
     (timeSetCard, fun c _ m => timeSet c m),
     (modeSetCard, modeSet),
     (resetCard, resetBody w.msg),
     (blockQuiesceCard, fun c _ m => blockQuiesce c m),
     (partStartCard, fun c _ m => partStart c m),
     (partHaltCard, fun c _ m => partLeave 2 (fun st => st == 0 || st == 3) 2 c m),
     (partStopCard, fun c _ m => partLeave 0 (fun _ => false) 3 c m),
     (loadBeginCard, fun c _ m => loadBegin c m),
     (loadDataCard, fun c _ m => loadData c m),
     (loadAbortCard, fun c _ m => loadAbort c m),
     (ceFenceCard, ceFence),
     (ceRetestCard, fun c _ m => ceRetest c m),
     (pointReadCard, pointRead),
     (pointWriteCard, pointWrite),
     (trunkDiscoverCard, fun c _ m => trunkDiscover c m),
     (nodeAssignCard, nodeAssign),
     (nodeUnassignCard, fun c _ m => nodeUnassign c m),
     (nodeReplaceCard, nodeReplace),
     (nodeDiagReadCard, fun c _ m => nodeDiagRead c m),
     (segListenCard, fun c _ m => segListen c m),
     (segTxCard, fun c _ m => segTx c m),
     (segTxCancelCard, fun c _ m => segTxCancel c m),
     (filterLoadCard, filterLoad),
     (lcUnlockCard, lcUnlock),
     (lcClearLatchCard, lcClearLatch),
     (limpMapWriteCard, limpMapWrite),
     (loTrimCard, loTrim),
     (epSetPositionCard, epSetPosition),
     (axisJogCard, axisJog),
     (axisStopCard, axisStop),
     (axisHomeCard, axisHome),
     (doorCommandCard, doorCommand),
     (doorLearnCard, doorLearn),
     (storyboardLoadCard, fun c _ m => storyboardLoad c m),
     (alarmAckCard, fun c _ m => alarmAck c m),
     (alarmShelveCard, alarmShelve),
     (alarmUnshelveCard, alarmUnshelve),
     (causeMatrixLoadCard, causeMatrixLoad),
     (gaugeTestCard, fun c _ m => gaugeTest c m),
     (safetyParamWriteCard, fun c _ m => safetyParamWrite c m),
     (slateConfirmCard, fun c _ m => slateConfirm c m),
     (brakeTestCard, brakeTest),
     (pairSetCard, fun c _ m => pairSet c m),
     (switchoverCard, fun c _ m => switchover c m),
     (handbackCard, fun c _ m => handback c m),
     (fullTakeCard, fun c _ m => fullTake c m),
     (openWindowCard, fun c _ m => openWindowBody c m),
     (readWindowCard, fun c _ m => readWindowBody c m),
     (closeWindowCard, fun c _ m => closeWindowBody c m),
     (certGetCard, fun c _ m => certGet c m),
     (certInstallCard, fun c _ m => certInstall c m),
     (debugAuthCard, fun c _ m => debugAuth c m),
     (debugCloseCard, debugClose),
     (lifecycleSetCard, fun c _ m => lifecycleSet c m),
     (updateBeginCard, fun c _ m => updateBegin c m),
     (updateDataCard, fun c _ m => updateData c m),
     (updateActivateCard, updateActivate),
     (calibrateCard, calibrate),
     (cartridgeReplaceCard, fun c _ m => cartridgeReplace c m)]

/-- The card and the effect of a request that waited, by its opcode; a request of no command is refused as any command refuses it
(UNKNOWN_OPCODE). -/
def Waiting.command (w : Waiting) : Card × (Cmd → Ram → Mach → Res) :=
  (w.commands.find? (fun e => e.1.op == w.msg.opcode)).getD (sessionPingCard, fun c _ m => sessionPing c m)

/-- A request that waited, run in its turn: accepted before, it starts at the checks of its execution. -/
def runWaiting (w : Waiting) (s : State) : State :=
  let x := run9 w.command.1 w.command.2 w.msg (some w) s.ram s.m
  { s with ram := wr s.ram x.2, m := { x.1 with now := s.m.now } }

/-- The requests of a queue that wait run one after another until one does not end at once (R204). -/
def serve : Nat → Nat → State → State
  | 0, _, s => s
  | n + 1, q, s =>
    match (s.m.cq q).running, (s.m.cq q).waiting with
    | none, w :: l =>
      let t := runWaiting w { s with m := s.m.updCq q (fun c => { c with waiting := l }) }
      serve n q { t with m := t.m.outSync q }
    | _, _ => s

/-- After a command that may have ended a request of a queue, those that waited for it. -/
def served (q : Option Nat) (o : Out) : Out :=
  match o, q with
  | .next s, some q => .next (serve 17 q s)
  | o, _ => o

/-- Queue of the change that a stand-in is to verify. -/
def State.askQueue (s : State) : Option Nat := s.m.sys.changeAsk.map (·.2)

/-- BLOCK_RESET (R539, R540): the block has restarted. -/
def execBlockReset (t : Nat) (block : Nat) (hangs : Bool) (s : State) : Out :=
  let e := s.m.sys.resetting.find? (fun e => e.1 == block)
  served (e.map (fun e => e.2.2.queue)) (ev t (fun m =>
    match e with
    | none => m
    | some e => m.blockBack block hangs e) s)

/-- PAIR_CONTROL_FRAME (R480). -/
def execPairControlFrame (t : Nat) (c : PairCtl) (s : State) : Out :=
  served s.askQueue (evR t (fun r m => m.pairCtlIn r c) s)

/-- CLAPPER (R38, R621): with what the converters, stages and ports measure at this instant; a CLAPPER that names a partition whose Clapper
came with another's finds nothing left to do. -/
def execClapper (t : Nat) (p : Fin 8) (x : ClapIn) (s : State) : Out :=
  served s.askQueue (evR t (fun r m => m.clapIn r p.val x) s)

end Sys2Proof.Machine
end

