-- ==== Sys2Proof/Machine/Wrap.lean ====
section
/-! DEFINITION. Loss of mains and the hold-up wrap (spec/19 R570 to R573). -/
namespace Sys2Proof.Machine

/-- Step 1 of the wrap: no further Solve, doors and axes make quick stops and end their records. A stand-in makes steps 4 and 5 only. DEDUCED, log 77. -/
def Mach.wrapBegin (m : Mach) (r : Ram) : Mach :=
  if m.mode = 3 then m.updSys (fun x => { x with wrap := some ⟨m.now, 3, m.now⟩ })
  else
    let ps := m.usedParts.filter (fun p => m.obj F.partSTATE p == 1)
    let m := (m.doorsWrap r).each (List.range 16) (fun m n => m.axHalt r n 5 5 8)
    m.updSys (fun x => { x with wrap := some ⟨m.now, 1, m.now + m.tFin ps⟩ })

/-- Step 2: every local latch takes its fallback at once; nodes of non-redundant partitions get theirs for their next Clapper. DEDUCED, log 77. -/
def Mach.wrapFallback (m : Mach) (r : Ram) : Mach × List W :=
  chain (m.usedParts.flatMap (fun p =>
    [onW (fun r m => m.pubCopy r p),
     fun r m => if m.isSet F.partREDUNDANT p then (m, m.pubSent r p) else m.publish r p false] ++
    Mach.clapApply p ⟨[], [], [], [], 0⟩)) r m

/-- Step 5: the island is held, the rails switch off; with mains back, a reset of cause 7 follows. DEDUCED, log 77. -/
def Mach.wrapEnd (m : Mach) (r : Ram) (start : Nat) : Mach × List W :=
  let m := m.updIsl (fun i => { i with wrapHold := true })
  let m := (m.islMode.heldTrip).islOut r
  let m := (m.bump F.powWRAPS).setObj F.powLAST_WRAP_US 0 ((m.now - start) / 1000)
  if m.sys.mains then m.moduleReset 7 1 false
  else
    (m.updSys (fun x => { x with
      wrap := none
      off := true }), [])

/-- WRAP_STEP_COMPLETE (R571): step 2 comes t_fin after the start, step 3 t_take later; the others as soon as they are done. DEDUCED, log 77. -/
def execWrapStepComplete (t : Nat) (s : State) : Out :=
  evR t (fun r m =>
    match m.sys.wrap with
    | none => (m, [])
    | some w =>
      let to_ := fun (m : Mach) (k due : Nat) => m.updSys (fun x => { x with wrap := some ⟨w.start, k, due⟩ })
      if m.now < w.due then (m, [])
      else if w.step = 1 then (to_ m 2 (m.now + m.tTake)).wrapFallback r
      else if w.step = 2 then
        let x := m.saveImage r
        ((to_ x.1 3 m.now).saveGz, x.2)
      else if w.step = 3 then (to_ (m.drainRushes.closeIngest) 4 m.now, [])
      else m.wrapEnd r w.start) s

/-- WRAP_START (R570): RIDE_MS has passed in HOLDUP, or E_USED has fallen to WRAP_MJ. -/
def execWrapStart (t : Nat) (s : State) : Out :=
  evR t (fun r m =>
    let due := m.sys.lostAt.any (fun a => decide (a + m.obj F.powRIDE_MS * 10 ^ 6 ≤ m.now)) || decide (m.obj F.gaugeE_USED_MJ ≤ m.obj F.gaugeWRAP_MJ)
    if m.obj F.powPOWER_STATE = 1 ∧ m.sys.wrap.isNone ∧ !m.sys.off ∧ due then (m.wrapBegin r, []) else (m, [])) s

/-- MAINS_LOST (R570): HOLDUP, or a brown-out where no cartridge can hold the rails (island: its own supply falls too). DESIGN CHOICE, log 61; DEDUCED, log 74. -/
def execMainsLost (t : Nat) (island : Bool) (s : State) : Out :=
  evR t (fun r m =>
    if m.sys.off ∨ !m.sys.mains then (m, [])
    else
      let m := m.updSys (fun x => { x with
        mains := false
        lostAt := some m.now })
      if !m.svc.cartIn ∨ m.svc.cartFault then m.moduleReset 2 1 island
      else
        let m := (m.leaveLow.cancelSlate.dropStaged).closeWindow 0x1101
        let m := ((m.setDebug 0).islMode.heldTrip).islOut r
        let m := m.dropUpdate.cartClose stTIMEOUT
        let m := (m.bump F.powHOLDUPS).setPower 1
        (m.when (m.obj F.gaugePF_STATE == 2) (fun m => m.wrapBegin r), [])) s

end Sys2Proof.Machine
end

