-- ==== Sys2Proof/Machine/Dispatch.lean ====
section
/-! DEFINITION. What each command does: one arm per constructor, one direct call of its meaning. -/
namespace Sys2Proof.Machine

def exec (i : Instr) (s : State) : Host.Outcome State Fault Refusal :=
  match i with
  | .ld ce op => Sys2Proof.Machine.execLd ce op s
  | .ldn ce op => Sys2Proof.Machine.execLdn ce op s
  | .and ce op => Sys2Proof.Machine.execAnd ce op s
  | .andn ce op => Sys2Proof.Machine.execAndn ce op s
  | .or ce op => Sys2Proof.Machine.execOr ce op s
  | .orn ce op => Sys2Proof.Machine.execOrn ce op s
  | .xor ce op => Sys2Proof.Machine.execXor ce op s
  | .st ce op => Sys2Proof.Machine.execSt ce op s
  | .stn ce op => Sys2Proof.Machine.execStn ce op s
  | .set ce op => Sys2Proof.Machine.execSet ce op s
  | .rst ce op => Sys2Proof.Machine.execRst ce op s
  | .ldq ce op => Sys2Proof.Machine.execLdq ce op s
  | .ldi ce op => Sys2Proof.Machine.execLdi ce op s
  | .ldni ce op => Sys2Proof.Machine.execLdni ce op s
  | .andi ce op => Sys2Proof.Machine.execAndi ce op s
  | .andni ce op => Sys2Proof.Machine.execAndni ce op s
  | .ori ce op => Sys2Proof.Machine.execOri ce op s
  | .orni ce op => Sys2Proof.Machine.execOrni ce op s
  | .xori ce op => Sys2Proof.Machine.execXori ce op s
  | .sti ce op => Sys2Proof.Machine.execSti ce op s
  | .stni ce op => Sys2Proof.Machine.execStni ce op s
  | .seti ce op => Sys2Proof.Machine.execSeti ce op s
  | .rsti ce op => Sys2Proof.Machine.execRsti ce op s
  | .pe ce op => Sys2Proof.Machine.execPe ce op s
  | .ne ce op => Sys2Proof.Machine.execNe ce op s
  | .bpush ce op => Sys2Proof.Machine.execBpush ce op s
  | .band ce op => Sys2Proof.Machine.execBand ce op s
  | .bor ce op => Sys2Proof.Machine.execBor ce op s
  | .bpeek ce op => Sys2Proof.Machine.execBpeek ce op s
  | .bpop ce op => Sys2Proof.Machine.execBpop ce op s
  | .bdrop ce op => Sys2Proof.Machine.execBdrop ce op s
  | .not ce op => Sys2Proof.Machine.execNot ce op s
  | .one ce op => Sys2Proof.Machine.execOne ce op s
  | .neg ce op => Sys2Proof.Machine.execNeg ce op s
  | .abs ce op => Sys2Proof.Machine.execAbs ce op s
  | .wnot ce op => Sys2Proof.Machine.execWnot ce op s
  | .lw16 ce op => Sys2Proof.Machine.execLw16 ce op s
  | .lw32 ce op => Sys2Proof.Machine.execLw32 ce op s
  | .lw64 ce op => Sys2Proof.Machine.execLw64 ce op s
  | .lws16 ce op => Sys2Proof.Machine.execLws16 ce op s
  | .lws32 ce op => Sys2Proof.Machine.execLws32 ce op s
  | .sw16 ce op => Sys2Proof.Machine.execSw16 ce op s
  | .sw32 ce op => Sys2Proof.Machine.execSw32 ce op s
  | .sw64 ce op => Sys2Proof.Machine.execSw64 ce op s
  | .swc16 ce op => Sys2Proof.Machine.execSwc16 ce op s
  | .swc32 ce op => Sys2Proof.Machine.execSwc32 ce op s
  | .swc64 ce op => Sys2Proof.Machine.execSwc64 ce op s
  | .li8 ce op => Sys2Proof.Machine.execLi8 ce op s
  | .li16 ce op => Sys2Proof.Machine.execLi16 ce op s
  | .li32 ce op => Sys2Proof.Machine.execLi32 ce op s
  | .li64 ce op => Sys2Proof.Machine.execLi64 ce op s
  | .lis8 ce op => Sys2Proof.Machine.execLis8 ce op s
  | .lis16 ce op => Sys2Proof.Machine.execLis16 ce op s
  | .lis32 ce op => Sys2Proof.Machine.execLis32 ce op s
  | .si8 ce op => Sys2Proof.Machine.execSi8 ce op s
  | .si16 ce op => Sys2Proof.Machine.execSi16 ce op s
  | .si32 ce op => Sys2Proof.Machine.execSi32 ce op s
  | .si64 ce op => Sys2Proof.Machine.execSi64 ce op s
  | .sic16 ce op => Sys2Proof.Machine.execSic16 ce op s
  | .sic32 ce op => Sys2Proof.Machine.execSic32 ce op s
  | .sic64 ce op => Sys2Proof.Machine.execSic64 ce op s
  | .ldk ce op => Sys2Proof.Machine.execLdk ce op s
  | .ldks ce op => Sys2Proof.Machine.execLdks ce op s
  | .addk ce op => Sys2Proof.Machine.execAddk ce op s
  | .subk ce op => Sys2Proof.Machine.execSubk ce op s
  | .mulk ce op => Sys2Proof.Machine.execMulk ce op s
  | .divk ce op => Sys2Proof.Machine.execDivk ce op s
  | .modk ce op => Sys2Proof.Machine.execModk ce op s
  | .andk ce op => Sys2Proof.Machine.execAndk ce op s
  | .ork ce op => Sys2Proof.Machine.execOrk ce op s
  | .xork ce op => Sys2Proof.Machine.execXork ce op s
  | .shlk ce op => Sys2Proof.Machine.execShlk ce op s
  | .shrk ce op => Sys2Proof.Machine.execShrk ce op s
  | .sark ce op => Sys2Proof.Machine.execSark ce op s
  | .maxk ce op => Sys2Proof.Machine.execMaxk ce op s
  | .mink ce op => Sys2Proof.Machine.execMink ce op s
  | .addi ce op => Sys2Proof.Machine.execAddi ce op s
  | .subi ce op => Sys2Proof.Machine.execSubi ce op s
  | .muli ce op => Sys2Proof.Machine.execMuli ce op s
  | .divi ce op => Sys2Proof.Machine.execDivi ce op s
  | .modi ce op => Sys2Proof.Machine.execModi ce op s
  | .andiW ce op => Sys2Proof.Machine.execAndiW ce op s
  | .oriW ce op => Sys2Proof.Machine.execOriW ce op s
  | .xoriW ce op => Sys2Proof.Machine.execXoriW ce op s
  | .shli ce op => Sys2Proof.Machine.execShli ce op s
  | .shri ce op => Sys2Proof.Machine.execShri ce op s
  | .sari ce op => Sys2Proof.Machine.execSari ce op s
  | .maxi ce op => Sys2Proof.Machine.execMaxi ce op s
  | .mini ce op => Sys2Proof.Machine.execMini ce op s
  | .eqk ce op => Sys2Proof.Machine.execEqk ce op s
  | .nek ce op => Sys2Proof.Machine.execNek ce op s
  | .gtk ce op => Sys2Proof.Machine.execGtk ce op s
  | .gek ce op => Sys2Proof.Machine.execGek ce op s
  | .ltk ce op => Sys2Proof.Machine.execLtk ce op s
  | .lek ce op => Sys2Proof.Machine.execLek ce op s
  | .gtuk ce op => Sys2Proof.Machine.execGtuk ce op s
  | .ltuk ce op => Sys2Proof.Machine.execLtuk ce op s
  | .eqi ce op => Sys2Proof.Machine.execEqi ce op s
  | .nei ce op => Sys2Proof.Machine.execNei ce op s
  | .gti ce op => Sys2Proof.Machine.execGti ce op s
  | .gei ce op => Sys2Proof.Machine.execGei ce op s
  | .lti ce op => Sys2Proof.Machine.execLti ce op s
  | .lei ce op => Sys2Proof.Machine.execLei ce op s
  | .gtui ce op => Sys2Proof.Machine.execGtui ce op s
  | .ltui ce op => Sys2Proof.Machine.execLtui ce op s
  | .addd ce op => Sys2Proof.Machine.execAddd ce op s
  | .subd ce op => Sys2Proof.Machine.execSubd ce op s
  | .eqd ce op => Sys2Proof.Machine.execEqd ce op s
  | .ned ce op => Sys2Proof.Machine.execNed ce op s
  | .gtd ce op => Sys2Proof.Machine.execGtd ce op s
  | .ltd ce op => Sys2Proof.Machine.execLtd ce op s
  | .gtud ce op => Sys2Proof.Machine.execGtud ce op s
  | .ltud ce op => Sys2Proof.Machine.execLtud ce op s
  | .wbit ce op => Sys2Proof.Machine.execWbit ce op s
  | .wsetb ce op => Sys2Proof.Machine.execWsetb ce op s
  | .nop ce op => Sys2Proof.Machine.execNop ce op s
  | .endTask ce op => Sys2Proof.Machine.execEndTask ce op s
  | .jmp ce op => Sys2Proof.Machine.execJmp ce op s
  | .jmpc ce op => Sys2Proof.Machine.execJmpc ce op s
  | .jmpn ce op => Sys2Proof.Machine.execJmpn ce op s
  | .lpi ce op => Sys2Proof.Machine.execLpi ce op s
  | .loop ce op => Sys2Proof.Machine.execLoop ce op s
  | .idx ce op => Sys2Proof.Machine.execIdx ce op s
  | .call ce op => Sys2Proof.Machine.execCall ce op s
  | .sync ce op => Sys2Proof.Machine.execSync ce op s
  | .storeBufferDrain ce => Sys2Proof.Machine.execStoreBufferDrain ce s
  | .barrierRelease t p b => Sys2Proof.Machine.execBarrierRelease t p b s
  | .barrierTimeout t p b => Sys2Proof.Machine.execBarrierTimeout t p b s
  | .clapper t p x => Sys2Proof.Machine.execClapper t p x s
  | .imageSwap t p => Sys2Proof.Machine.execImageSwap t p s
  | .solveComplete t p => Sys2Proof.Machine.execSolveComplete t p s
  | .overrunPublishDeadline t p => Sys2Proof.Machine.execOverrunPublishDeadline t p s
  | .selfTestSliceEnd t ce pass => Sys2Proof.Machine.execSelfTestSliceEnd t ce pass s
  | .ceRetestDone t ce pass => Sys2Proof.Machine.execCeRetestDone t ce pass s
  | .gptpSync t msg => Sys2Proof.Machine.execGptpSync t msg s
  | .timeStepComplete t => Sys2Proof.Machine.execTimeStepComplete t s
  | .gptpAnnounce t a => Sys2Proof.Machine.execGptpAnnounce t a s
  | .grandmasterLost t => Sys2Proof.Machine.execGrandmasterLost t s
  | .holdoverLimitExpiry t => Sys2Proof.Machine.execHoldoverLimitExpiry t s
  | .acqTimeout t silent => Sys2Proof.Machine.execAcqTimeout t silent s
  | .gzTimeSave t => Sys2Proof.Machine.execGzTimeSave t s
  | .publicationFrame t f => Sys2Proof.Machine.execPublicationFrame t f s
  | .publicationAbsent t list => Sys2Proof.Machine.execPublicationAbsent t list s
  | .moduleIdAnnounce t id device => Sys2Proof.Machine.execModuleIdAnnounce t id device s
  | .idConflictClear t id => Sys2Proof.Machine.execIdConflictClear t id s
  | .dtlsHandshake t conn h => Sys2Proof.Machine.execDtlsHandshake t conn h s
  | .handshakeTimeout t conn => Sys2Proof.Machine.execHandshakeTimeout t conn s
  | .dtlsConnectionClose t conn => Sys2Proof.Machine.execDtlsConnectionClose t conn s
  | .sessionIdleTimeout t conn => Sys2Proof.Machine.execSessionIdleTimeout t conn s
  | .fragmentTimeout t q => Sys2Proof.Machine.execFragmentTimeout t q s
  | .eventResend t q => Sys2Proof.Machine.execEventResend t q s
  | .shedWindow t load => Sys2Proof.Machine.execShedWindow t load s
  | .sessionOpen msg => Sys2Proof.Machine.execSessionOpen msg s
  | .sessionClose msg => Sys2Proof.Machine.execSessionClose msg s
  | .sessionPing msg => Sys2Proof.Machine.execSessionPing msg s
  | .queueAttach msg => Sys2Proof.Machine.execQueueAttach msg s
  | .queueDetach msg => Sys2Proof.Machine.execQueueDetach msg s
  | .eventAck msg => Sys2Proof.Machine.execEventAck msg s
  | .getObject msg => Sys2Proof.Machine.execGetObject msg s
  | .setObject msg => Sys2Proof.Machine.execSetObject msg s
  | .moduleIdWrite msg => Sys2Proof.Machine.execModuleIdWrite msg s
  | .cycleObjectWrite msg => Sys2Proof.Machine.execCycleObjectWrite msg s
  | .partitionObjectWrite msg => Sys2Proof.Machine.execPartitionObjectWrite msg s
  | .taskObjectWrite msg => Sys2Proof.Machine.execTaskObjectWrite msg s
  | .placeObjectWrite msg => Sys2Proof.Machine.execPlaceObjectWrite msg s
  | .segmentObjectWrite msg => Sys2Proof.Machine.execSegmentObjectWrite msg s
  | .nodeSerialWrite msg => Sys2Proof.Machine.execNodeSerialWrite msg s
  | .portModeWrite msg => Sys2Proof.Machine.execPortModeWrite msg s
  | .effectLatchRelease msg => Sys2Proof.Machine.execEffectLatchRelease msg s
  | .maxShelveMinWrite msg => Sys2Proof.Machine.execMaxShelveMinWrite msg s
  | .lowOkWrite msg => Sys2Proof.Machine.execLowOkWrite msg s
  | .rideMsWrite msg => Sys2Proof.Machine.execRideMsWrite msg s
  | .moduleIdentify msg => Sys2Proof.Machine.execModuleIdentify msg s
  | .identifyExpiry t => Sys2Proof.Machine.execIdentifyExpiry t s
  | .timeGet msg => Sys2Proof.Machine.execTimeGet msg s
  | .timeSet msg => Sys2Proof.Machine.execTimeSet msg s
  | .modeSet msg => Sys2Proof.Machine.execModeSet msg s
  | .reset msg => Sys2Proof.Machine.execReset msg s
  | .blockQuiesce msg => Sys2Proof.Machine.execBlockQuiesce msg s
  | .partStart msg => Sys2Proof.Machine.execPartStart msg s
  | .partHalt msg => Sys2Proof.Machine.execPartHalt msg s
  | .partStop msg => Sys2Proof.Machine.execPartStop msg s
  | .loadBegin msg => Sys2Proof.Machine.execLoadBegin msg s
  | .loadData msg => Sys2Proof.Machine.execLoadData msg s
  | .loadCommit msg pkg => Sys2Proof.Machine.execLoadCommit msg pkg s
  | .loadAbort msg => Sys2Proof.Machine.execLoadAbort msg s
  | .changeCommit msg pkg => Sys2Proof.Machine.execChangeCommit msg pkg s
  | .ceFence msg => Sys2Proof.Machine.execCeFence msg s
  | .ceRetest msg => Sys2Proof.Machine.execCeRetest msg s
  | .pointRead msg => Sys2Proof.Machine.execPointRead msg s
  | .pointWrite msg => Sys2Proof.Machine.execPointWrite msg s
  | .trunkDiscover msg => Sys2Proof.Machine.execTrunkDiscover msg s
  | .discoveryComplete t trunk => Sys2Proof.Machine.execDiscoveryComplete t trunk s
  | .nodeAssign msg => Sys2Proof.Machine.execNodeAssign msg s
  | .nodeUnassign msg => Sys2Proof.Machine.execNodeUnassign msg s
  | .nodeReplace msg => Sys2Proof.Machine.execNodeReplace msg s
  | .nodeDiagRead msg => Sys2Proof.Machine.execNodeDiagRead msg s
  | .nodeConfirmTimeout t place => Sys2Proof.Machine.execNodeConfirmTimeout t place s
  | .gfpInputFrame t f => Sys2Proof.Machine.execGfpInputFrame t f s
  | .disownRepeat t trunk => Sys2Proof.Machine.execDisownRepeat t trunk s
  | .gfpIdentityFrame t trunk id => Sys2Proof.Machine.execGfpIdentityFrame t trunk id s
  | .manageReply t trunk mac place r => Sys2Proof.Machine.execManageReply t trunk mac place r s
  | .safetyIn t place conn counter data crc => Sys2Proof.Machine.execSafetyIn t place conn counter data crc s
  | .trunkLinkLoss t trunk linkA linkB reachA reachB isolated => Sys2Proof.Machine.execTrunkLinkLoss t trunk linkA linkB reachA reachB isolated s
  | .trunkLinkUp t trunk linkA linkB reachA reachB => Sys2Proof.Machine.execTrunkLinkUp t trunk linkA linkB reachA reachB s
  | .extraReferenceFrame t seg => Sys2Proof.Machine.execExtraReferenceFrame t seg s
  | .segInputFrame t f => Sys2Proof.Machine.execSegInputFrame t f s
  | .join t f => Sys2Proof.Machine.execJoin t f s
  | .segIdentity t f => Sys2Proof.Machine.execSegIdentity t f s
  | .matchFilterFrame t f => Sys2Proof.Machine.execMatchFilterFrame t f s
  | .filterProgramFrame t f => Sys2Proof.Machine.execFilterProgramFrame t f s
  | .segFrame t seg route => Sys2Proof.Machine.execSegFrame t seg route s
  | .segTxEnd t seg handle sof outcome => Sys2Proof.Machine.execSegTxEnd t seg handle sof outcome s
  | .segBusOff t seg => Sys2Proof.Machine.execSegBusOff t seg s
  | .busOffRecovery t seg => Sys2Proof.Machine.execBusOffRecovery t seg s
  | .transceiverFault t seg present => Sys2Proof.Machine.execTransceiverFault t seg present s
  | .segLoadMeasure t seg pct => Sys2Proof.Machine.execSegLoadMeasure t seg pct s
  | .segListen msg => Sys2Proof.Machine.execSegListen msg s
  | .segListenComplete t seg found => Sys2Proof.Machine.execSegListenComplete t seg found s
  | .segTx msg => Sys2Proof.Machine.execSegTx msg s
  | .segTxCancel msg => Sys2Proof.Machine.execSegTxCancel msg s
  | .filterLoad msg => Sys2Proof.Machine.execFilterLoad msg s
  | .lcShort t n => Sys2Proof.Machine.execLcShort t n s
  | .limitTimeout t n => Sys2Proof.Machine.execLimitTimeout t n s
  | .thermal t n => Sys2Proof.Machine.execThermal t n s
  | .lcCooled t n => Sys2Proof.Machine.execLcCooled t n s
  | .lcRestartDelay t n => Sys2Proof.Machine.execLcRestartDelay t n s
  | .inrushSegmentEnd t n early => Sys2Proof.Machine.execInrushSegmentEnd t n early s
  | .railUndervoltage t rail => Sys2Proof.Machine.execRailUndervoltage t rail s
  | .railRecovered t rail => Sys2Proof.Machine.execRailRecovered t rail s
  | .clampEnd t n uj => Sys2Proof.Machine.execClampEnd t n uj s
  | .bucketFull t n => Sys2Proof.Machine.execBucketFull t n s
  | .lcOpenLoad t n result => Sys2Proof.Machine.execLcOpenLoad t n result s
  | .senseVisit t k cur vout temp limiting clean => Sys2Proof.Machine.execSenseVisit t k cur vout temp limiting clean s
  | .aliveLost2ms t ctl => Sys2Proof.Machine.execAliveLost2ms t ctl s
  | .aliveLost50ms t ctl => Sys2Proof.Machine.execAliveLost50ms t ctl s
  | .aliveReturn t ctl => Sys2Proof.Machine.execAliveReturn t ctl s
  | .limpForceChange t level => Sys2Proof.Machine.execLimpForceChange t level s
  | .lhInputChange t k level => Sys2Proof.Machine.execLhInputChange t k level s
  | .lcControllerPower t ctl up => Sys2Proof.Machine.execLcControllerPower t ctl up s
  | .lcUnlock msg => Sys2Proof.Machine.execLcUnlock msg s
  | .lcClearLatch msg => Sys2Proof.Machine.execLcClearLatch msg s
  | .limpMapWrite msg => Sys2Proof.Machine.execLimpMapWrite msg s
  | .loTrim msg => Sys2Proof.Machine.execLoTrim msg s
  | .loLoopBreak t n => Sys2Proof.Machine.execLoLoopBreak t n s
  | .loopBreakClear t n => Sys2Proof.Machine.execLoopBreakClear t n s
  | .loRailLow t low => Sys2Proof.Machine.execLoRailLow t low s
  | .epEdge t n a b => Sys2Proof.Machine.execEpEdge t n a b s
  | .zEdge t n level => Sys2Proof.Machine.execZEdge t n level s
  | .hallTransition t n code => Sys2Proof.Machine.execHallTransition t n code s
  | .absoluteRead t n r => Sys2Proof.Machine.execAbsoluteRead t n r s
  | .epStandstill t n => Sys2Proof.Machine.execEpStandstill t n s
  | .epFenced t n cause => Sys2Proof.Machine.execEpFenced t n cause s
  | .probeLatch t k level => Sys2Proof.Machine.execProbeLatch t k level s
  | .emEdge t k => Sys2Proof.Machine.execEmEdge t k s
  | .epSetPosition msg => Sys2Proof.Machine.execEpSetPosition msg s
  | .epUnfence msg present => Sys2Proof.Machine.execEpUnfence msg present s
  | .moveDone t n => Sys2Proof.Machine.execMoveDone t n s
  | .axLimit t n positive active => Sys2Proof.Machine.execAxLimit t n positive active s
  | .axStall t n => Sys2Proof.Machine.execAxStall t n s
  | .followingError t n => Sys2Proof.Machine.execFollowingError t n s
  | .msFault t k fault => Sys2Proof.Machine.execMsFault t k fault s
  | .msFaultClear t k => Sys2Proof.Machine.execMsFaultClear t k s
  | .holdDelayExpiry t k => Sys2Proof.Machine.execHoldDelayExpiry t k s
  | .gearSyncMatched t g => Sys2Proof.Machine.execGearSyncMatched t g s
  | .splice t g => Sys2Proof.Machine.execSplice t g s
  | .rundownEnd t g => Sys2Proof.Machine.execRundownEnd t g s
  | .axisJog msg => Sys2Proof.Machine.execAxisJog msg s
  | .axisStop msg => Sys2Proof.Machine.execAxisStop msg s
  | .axisHome msg => Sys2Proof.Machine.execAxisHome msg s
  | .doorTick t mas => Sys2Proof.Machine.execDoorTick t mas s
  | .rowTimeout t n => Sys2Proof.Machine.execRowTimeout t n s
  | .stepTimeExpiry t n => Sys2Proof.Machine.execStepTimeExpiry t n s
  | .doorCommand msg => Sys2Proof.Machine.execDoorCommand msg s
  | .doorLearn msg => Sys2Proof.Machine.execDoorLearn msg s
  | .doorLearned t n => Sys2Proof.Machine.execDoorLearned t n s
  | .storyboardLoad msg => Sys2Proof.Machine.execStoryboardLoad msg s
  | .shedStageRise t rail ma mv => Sys2Proof.Machine.execShedStageRise t rail ma mv s
  | .shedStageFall t rail ma mv => Sys2Proof.Machine.execShedStageFall t rail ma mv s
  | .gaugeDisagree t cc v => Sys2Proof.Machine.execGaugeDisagree t cc v s
  | .gaugeAgree t cc v => Sys2Proof.Machine.execGaugeAgree t cc v s
  | .impedanceTestDone t esr recovered => Sys2Proof.Machine.execImpedanceTestDone t esr recovered s
  | .impedanceTestPeriod t => Sys2Proof.Machine.execImpedanceTestPeriod t s
  | .capacityLearn t capacity esr => Sys2Proof.Machine.execCapacityLearn t capacity esr s
  | .cartridgeEndOfLife t => Sys2Proof.Machine.execCartridgeEndOfLife t s
  | .gaugeTest msg => Sys2Proof.Machine.execGaugeTest msg s
  | .alarmDelayExpiry t a => Sys2Proof.Machine.execAlarmDelayExpiry t a s
  | .shelveExpiry t a => Sys2Proof.Machine.execShelveExpiry t a s
  | .floodEnd t g => Sys2Proof.Machine.execFloodEnd t g s
  | .alarmAck msg => Sys2Proof.Machine.execAlarmAck msg s
  | .alarmShelve msg => Sys2Proof.Machine.execAlarmShelve msg s
  | .alarmUnshelve msg => Sys2Proof.Machine.execAlarmUnshelve msg s
  | .effectDelayExpiry t e => Sys2Proof.Machine.execEffectDelayExpiry t e s
  | .causeMatrixLoad msg => Sys2Proof.Machine.execCauseMatrixLoad msg s
  | .safetyCycle t ppm => Sys2Proof.Machine.execSafetyCycle t ppm s
  | .contactSample t n isB level => Sys2Proof.Machine.execContactSample t n isB level s
  | .testPulse t k followed => Sys2Proof.Machine.execTestPulse t k followed s
  | .discrepancy t n => Sys2Proof.Machine.execDiscrepancy t n s
  | .connLoss t c => Sys2Proof.Machine.execConnLoss t c s
  | .resetPulse t src level => Sys2Proof.Machine.execResetPulse t src level s
  | .autoRearm t f => Sys2Proof.Machine.execAutoRearm t f s
  | .sqDelayExpiry t f => Sys2Proof.Machine.execSqDelayExpiry t f s
  | .darkTest t stuck groups => Sys2Proof.Machine.execDarkTest t stuck groups s
  | .sqReadbackFault t n => Sys2Proof.Machine.execSqReadbackFault t n s
  | .sqFaultClear t n => Sys2Proof.Machine.execSqFaultClear t n s
  | .safetyFault t cause => Sys2Proof.Machine.execSafetyFault t cause s
  | .brakeReleaseDelay t k => Sys2Proof.Machine.execBrakeReleaseDelay t k s
  | .brakeTestOverdue t k => Sys2Proof.Machine.execBrakeTestOverdue t k s
  | .brakeTest msg => Sys2Proof.Machine.execBrakeTest msg s
  | .brakeTestStep t k moved lost => Sys2Proof.Machine.execBrakeTestStep t k moved lost s
  | .safetyParamWrite msg => Sys2Proof.Machine.execSafetyParamWrite msg s
  | .slateConfirm msg => Sys2Proof.Machine.execSlateConfirm msg s
  | .confirmKey t => Sys2Proof.Machine.execConfirmKey t s
  | .selectKey t => Sys2Proof.Machine.execSelectKey t s
  | .presenceTimeout t => Sys2Proof.Machine.execPresenceTimeout t s
  | .takeFrame t f => Sys2Proof.Machine.execTakeFrame t f s
  | .fullTakePeriod t p => Sys2Proof.Machine.execFullTakePeriod t p s
  | .heartbeat t net h => Sys2Proof.Machine.execHeartbeat t net h s
  | .heartbeatMissed t net => Sys2Proof.Machine.execHeartbeatMissed t net s
  | .partnerLost t => Sys2Proof.Machine.execPartnerLost t s
  | .larderRestored t => Sys2Proof.Machine.execLarderRestored t s
  | .takeoverReady t => Sys2Proof.Machine.execTakeoverReady t s
  | .drySolve t p res => Sys2Proof.Machine.execDrySolve t p res s
  | .standinHealth t => Sys2Proof.Machine.execStandinHealth t s
  | .pairListenEnd t => Sys2Proof.Machine.execPairListenEnd t s
  | .aloneWaitExpiry t => Sys2Proof.Machine.execAloneWaitExpiry t s
  | .switchInstant t => Sys2Proof.Machine.execSwitchInstant t s
  | .switchMaxWait t => Sys2Proof.Machine.execSwitchMaxWait t s
  | .cleanPeriodElapsed t => Sys2Proof.Machine.execCleanPeriodElapsed t s
  | .pairSet msg => Sys2Proof.Machine.execPairSet msg s
  | .switchover msg => Sys2Proof.Machine.execSwitchover msg s
  | .handback msg => Sys2Proof.Machine.execHandback msg s
  | .fullTake msg => Sys2Proof.Machine.execFullTake msg s
  | .recordCommit t => Sys2Proof.Machine.execRecordCommit t s
  | .flashPageProgram t cls => Sys2Proof.Machine.execFlashPageProgram t cls s
  | .flashBlockFail t device => Sys2Proof.Machine.execFlashBlockFail t device s
  | .windowIdleExpiry t w => Sys2Proof.Machine.execWindowIdleExpiry t w s
  | .openWindow msg => Sys2Proof.Machine.execOpenWindow msg s
  | .readWindow msg => Sys2Proof.Machine.execReadWindow msg s
  | .closeWindow msg => Sys2Proof.Machine.execCloseWindow msg s
  | .mainsPowerOn t => Sys2Proof.Machine.execMainsPowerOn t s
  | .brownOut t island => Sys2Proof.Machine.execBrownOut t island s
  | .resetN t low acts => Sys2Proof.Machine.execResetN t low acts s
  | .watchdogExpiry t => Sys2Proof.Machine.execWatchdogExpiry t s
  | .supervisorRestartDone t => Sys2Proof.Machine.execSupervisorRestartDone t s
  | .bringupStepComplete t r => Sys2Proof.Machine.execBringupStepComplete t r s
  | .resetTakesEffect t => Sys2Proof.Machine.execResetTakesEffect t s
  | .partitionResetDone t p passed => Sys2Proof.Machine.execPartitionResetDone t p passed s
  | .blockReset t block hangs => Sys2Proof.Machine.execBlockReset t block hangs s
  | .quiesceDone t block busy => Sys2Proof.Machine.execQuiesceDone t block busy s
  | .quiesceExpiry t block => Sys2Proof.Machine.execQuiesceExpiry t block s
  | .moduleLevelFault t unit => Sys2Proof.Machine.execModuleLevelFault t unit s
  | .mainsLost t island => Sys2Proof.Machine.execMainsLost t island s
  | .mainsReturn t => Sys2Proof.Machine.execMainsReturn t s
  | .wrapStart t => Sys2Proof.Machine.execWrapStart t s
  | .wrapStepComplete t => Sys2Proof.Machine.execWrapStepComplete t s
  | .lowEntry t => Sys2Proof.Machine.execLowEntry t s
  | .debugLeaseExpiry t => Sys2Proof.Machine.execDebugLeaseExpiry t s
  | .authBlockExpiry t => Sys2Proof.Machine.execAuthBlockExpiry t s
  | .mkaSecured t port ok cipher => Sys2Proof.Machine.execMkaSecured t port ok cipher s
  | .sakRenewal t port exhausted => Sys2Proof.Machine.execSakRenewal t port exhausted s
  | .certGet msg => Sys2Proof.Machine.execCertGet msg s
  | .certInstall msg => Sys2Proof.Machine.execCertInstall msg s
  | .debugAuth msg => Sys2Proof.Machine.execDebugAuth msg s
  | .debugClose msg => Sys2Proof.Machine.execDebugClose msg s
  | .lifecycleSet msg => Sys2Proof.Machine.execLifecycleSet msg s
  | .updateBegin msg => Sys2Proof.Machine.execUpdateBegin msg s
  | .updateData msg => Sys2Proof.Machine.execUpdateData msg s
  | .imageVerified t v => Sys2Proof.Machine.execImageVerified t v s
  | .updateActivate msg => Sys2Proof.Machine.execUpdateActivate msg s
  | .activationDone t ok => Sys2Proof.Machine.execActivationDone t ok s
  | .trialEnd t => Sys2Proof.Machine.execTrialEnd t s
  | .updateIdleExpiry t => Sys2Proof.Machine.execUpdateIdleExpiry t s
  | .loadIdleExpiry t => Sys2Proof.Machine.execLoadIdleExpiry t s
  | .calibrate msg => Sys2Proof.Machine.execCalibrate msg s
  | .calibrated t offset gain => Sys2Proof.Machine.execCalibrated t offset gain s
  | .cartridgeReplace msg => Sys2Proof.Machine.execCartridgeReplace msg s
  | .cartridgeRemoved t => Sys2Proof.Machine.execCartridgeRemoved t s
  | .cartridgeInserted t serial => Sys2Proof.Machine.execCartridgeInserted t serial s
  | .prechargeDone t => Sys2Proof.Machine.execPrechargeDone t s
  | .cartridgeWindowExpiry t => Sys2Proof.Machine.execCartridgeWindowExpiry t s
  | .digitalInputChange t n level => Sys2Proof.Machine.execDigitalInputChange t n level s
  | .debugMemoryWrite t sp a v => Sys2Proof.Machine.execDebugMemoryWrite t sp a v s
  | .debugReset t => Sys2Proof.Machine.execDebugReset t s
  | .segFrameError t seg ident tec rec => Sys2Proof.Machine.execSegFrameError t seg ident tec rec s
  | .memoryScrub t mem k res last => Sys2Proof.Machine.execMemoryScrub t mem k res last s
  | .standinHubTest t pass => Sys2Proof.Machine.execStandinHubTest t pass s
  | .violationSummary t p => Sys2Proof.Machine.execViolationSummary t p s
  | .demotionSelfTestDone t pass => Sys2Proof.Machine.execDemotionSelfTestDone t pass s
  | .supervisorRestartTimeout t => Sys2Proof.Machine.execSupervisorRestartTimeout t s
  | .cartridgeLevelChange t level => Sys2Proof.Machine.execCartridgeLevelChange t level s
  | .operatingSecond t => Sys2Proof.Machine.execOperatingSecond t s
  | .segmentGateOpen t seg => Sys2Proof.Machine.execSegmentGateOpen t seg s
  | .pairControlFrame t c => Sys2Proof.Machine.execPairControlFrame t c s
  | .displayPageTimeout t => Sys2Proof.Machine.execDisplayPageTimeout t s
  | .railUvStaggeredReturn t n => Sys2Proof.Machine.execRailUvStaggeredReturn t n s
  | .axisStepEdge t n => Sys2Proof.Machine.execAxisStepEdge t n s

end Sys2Proof.Machine
end

