-- ==== Sys2Proof/Machine/Panel.lean ====
section
/-! DEFINITION. What the front panel shows (R606 to R608), as functions of the state: the LEDs and the display. -/
namespace Sys2Proof.Machine

/-- The colour of an LED. -/
inductive Colour
  | dark
  | green
  | amber
  | red
deriving DecidableEq, Repr

/-- How it is lit: steadily, flashing at 0.5, 1, 2 or 4 Hz, flickering with traffic. -/
inductive Blink
  | steady
  | half
  | one
  | two
  | four
  | flicker
deriving DecidableEq, Repr

/-- The state of an LED. -/
structure Led where
  colour : Colour := .dark
  blink : Blink := .steady
deriving DecidableEq, Repr

/-- The first of several conditions that holds decides an LED; where none holds it is dark (log 64). -/
def lamp : List (Bool × Led) → Led
  | [] => {}
  | (c, l) :: ls => if c then l else lamp ls

/-- PWR (R568). -/
def Mach.ledPwr (m : Mach) : Led :=
  let st := m.obj F.powPOWER_STATE
  lamp [(m.sys.off, {}), (st == 0, ⟨.green, .steady⟩), (st == 1, ⟨.amber, .steady⟩), (st == 2, ⟨.green, .one⟩)]

/-- MODE (R530, R543). -/
def Mach.ledMode (m : Mach) : Led :=
  lamp [(m.sys.off, {}), (m.sys.bootFailed, ⟨.red, .one⟩), (m.sys.bringup != 0, ⟨.amber, .four⟩), (m.mode == 0, ⟨.green, .two⟩),
    (m.mode == 1, ⟨.green, .steady⟩), (m.mode == 2, ⟨.amber, .steady⟩), (m.mode == 3, ⟨.green, .half⟩), (m.mode == 4, ⟨.red, .steady⟩),
    (m.mode == 5, ⟨.amber, .one⟩)]

/-- A safety function is tripped: in every state from its trip to its reset (R447, R448). -/
def Mach.anyTripped (m : Mach) : Bool := (List.range 64).any (fun f => decide (2 ≤ m.obj F.sfSTATE f))

/-- SAFE (R436, R467). -/
def Mach.ledSafe (m : Mach) : Led :=
  let st := m.obj F.islSTATE
  lamp [(m.sys.off, {}), (st == 1 && m.anyTripped, ⟨.amber, .steady⟩), (st == 1, ⟨.green, .steady⟩), (st == 2, ⟨.amber, .one⟩),
    (st == 3, ⟨.red, .steady⟩)]

/-- PAIR (R502): the partner is ready or active, or heard on one path and its heartbeats say so. -/
def Mach.ledPair (m : Mach) : Led :=
  let st := m.obj F.pairSTATE
  let near := m.obj F.pairPARTNER
  lamp [(m.sys.off || m.obj F.pairROLE_HOME == 0, {}), (st == 5, ⟨.red, .steady⟩), (st == 0 || st == 2 || st == 4, ⟨.amber, .steady⟩),
    (near == 1 || near == 2 || (decide (4 ≤ near) && (m.pm.peer.role == some 1 || bit m.pm.peer.flags 0)), ⟨.green, .steady⟩),
    (true, ⟨.amber, .steady⟩)]

/-- TIME (R30). -/
def Mach.ledTime (m : Mach) : Led :=
  let st := m.obj F.timeTIME_STATE
  lamp [(m.sys.off, {}), (st == 1 || st == 3, ⟨.green, .steady⟩), (st == 2 || st == 4, ⟨.amber, .steady⟩)]

/-- NET-A and NET-B, n = 0 and 1, with the link and the traffic the port's PHY reports (R578). -/
def Mach.ledNet (m : Mach) (n : Nat) (link traffic : Bool) : Led :=
  lamp [(m.sys.off || !link, {}), (m.obj F.psecSTATE n == 3, ⟨.amber, .steady⟩), (traffic, ⟨.green, .flicker⟩), (true, ⟨.green, .steady⟩)]

/-- A trunk is used: it has a configured place. -/
def Mach.trunkUsed (m : Mach) (t : Nat) : Bool := (List.range 256).any (fun a => m.obj F.placeSTATE (t * 256 + a) != 0)

/-- Links as configured (R226): port A and, on a ring of either kind, port B; a closed ring. -/
def Mach.trunkWell (m : Mach) (t : Nat) : Bool :=
  m.obj F.trunkLINK_A t == 1 &&
    (m.obj F.trunkTOPOLOGY t == 0 || (m.obj F.trunkLINK_B t == 1 && m.obj F.trunkRING_STATE t == 1))

/-- FT0 to FT3 (R253, R254). -/
def Mach.ledTrunk (m : Mach) (t : Nat) : Led :=
  let lost := (List.range 256).any (fun a => m.obj F.placeSTATE (t * 256 + a) == 3)
  lamp [(m.sys.off || !m.trunkUsed t, {}), (lost || decide (2 ≤ m.obj F.trunkRING_STATE t), ⟨.amber, .steady⟩),
    (m.trunkWell t, ⟨.green, .steady⟩)]

/-- CS (R280, R281). -/
def Mach.ledSegments (m : Mach) : Led :=
  let ss := (List.range 8).filter (fun s => m.obj F.segMODE s != 0)
  let lost := ss.any (fun s => m.obj F.segSTATE s == 3 || (List.range 64).any (fun a => m.obj F.nodeSTATE (s * 64 + a) == 3))
  lamp [(m.sys.off || ss == [], {}), (ss.any (fun s => m.obj F.segSTATE s == 4), ⟨.red, .steady⟩), (lost, ⟨.amber, .steady⟩),
    (ss.all (fun s => m.obj F.segSTATE s == 2), ⟨.green, .steady⟩)]

/-- FA and FB, k = 0 and 1 (R298). -/
def Mach.ledRail (m : Mach) (k : Nat) : Led :=
  let c := m.ctl k
  lamp [(m.sys.off || !c.powered, {}), (c.uv, ⟨.amber, .steady⟩), (true, ⟨.green, .steady⟩)]

/-- FM (R360): below 10 V it is absent, as FA and FB are; a GZ-640-M0 has none (R1). DEDUCED, log 64. -/
def Mach.ledFm (m : Mach) : Led :=
  let mv := ((List.range 4).map (fun n => m.obj F.msFM_V n * 10)).foldl max 0
  lamp [(m.sys.off || !m.isM4 || decide (mv < 10000), {}), ((List.range 4).any (fun n => m.obj F.msFAULT n == 3), ⟨.amber, .steady⟩),
    (true, ⟨.green, .steady⟩)]

/-- CART (R411, R412). -/
def Mach.ledCart (m : Mach) : Led :=
  let pf := m.obj F.gaugePF_STATE
  lamp [(m.sys.off, {}), (pf == 2, ⟨.red, .steady⟩), (m.gauge.eol, ⟨.amber, .one⟩), (pf == 1, ⟨.amber, .steady⟩), (pf == 0, ⟨.green, .steady⟩)]

/-- FAULT (R183, R532). -/
def Mach.ledFault (m : Mach) : Led :=
  lamp [(m.sys.off, {}), ((List.range 8).any (fun p => m.obj F.partSTATE p == 3) || m.sys.unitFault.isSome, ⟨.red, .steady⟩)]

/-! ### The display (R607, R608) -/

/-- What the display shows. -/
inductive Screen
  | dark
  /-- The command of the open presence window, the seconds left (R561). -/
  | window (what : Presence) (left : Nat)
  /-- IDENTIFY with the module ID, or with the serial number if no ID is set; the backlight flashes at 2 Hz (R608). -/
  | identify (id : Nat)
  /-- Bring-up step and cause of the last reset (R543, R546). -/
  | bringup (step cause : Nat)
  | bootFailed
  | safeHalt (cause : Nat)
  /-- A status page with the values of its two lines. -/
  | page (n : Nat) (line1 line2 : List Nat)
deriving DecidableEq, Repr

/-- The character of a partition on page 1: R running, H halted, S stopped, F fault, - unused. -/
def Mach.partChar (m : Mach) (p : Nat) : Char :=
  if !m.used p then '-'
  else match m.obj F.partSTATE p with
    | 0 => 'S'
    | 1 => 'R'
    | 2 => 'H'
    | _ => 'F'

/-- The values a status page shows. -/
def Mach.pageLines (m : Mach) (n : Nat) : List Nat × List Nat :=
  match n with
  | 1 => ([m.mode, m.obj F.modMODULE_ID], (List.range 8).map (fun p => (m.partChar p).toNat))
  | 2 => ([m.obj F.timeTIME_STATE], [m.gz])
  | 3 => ([m.obj F.islSLATE], [m.obj F.islSET_NO])
  | 4 => ([m.obj F.pairSTATE, m.obj F.pairPARTNER], [m.obj F.pairEPOCH])
  | 5 => ([m.sys.addrMode, m.sys.staticAddr], [])
  | 6 => ([m.sys.addrMode, m.sys.staticAddr], [])
  | 7 => ([m.obj F.secSERIAL], [m.obj F.secLIFECYCLE])
  | 8 => ([m.obj F.railRAIL_MV 0, m.obj F.railRAIL_MV 1], [m.obj F.msFM_V * 10, m.obj F.gaugeE_USED_MJ / 1000])
  | 9 => ([m.obj F.modeLAST_RESET], [m.obj F.modeBRINGUP_MS])
  | _ => ([if m.obj F.secIMAGE_ACTIVE = 0 then m.obj F.updSUP_VER_A else m.obj F.updSUP_VER_B], [m.obj F.updISLAND_VER])

/-- What the display shows, in the order of precedence of R607. -/
def Mach.screen (m : Mach) : Screen :=
  if m.sys.off then .dark
  else match m.sys.window with
    | some w => .window w.what ((w.ends - m.now + 10 ^ 9 - 1) / 10 ^ 9)
    | none =>
      if m.sys.identify.any (fun e => decide (m.now < e)) then
        .identify (if m.obj F.modMODULE_ID = 0xFFFF then m.obj F.secSERIAL else m.obj F.modMODULE_ID)
      else if m.sys.bootFailed then .bootFailed
      else if m.sys.bringup != 0 then .bringup m.sys.bringup (m.obj F.modeLAST_RESET)
      else if m.mode = 4 then .safeHalt (m.obj F.modeSAFE_HALT_CAUSE)
      else .page m.sys.page (m.pageLines m.sys.page).1 (m.pageLines m.sys.page).2

end Sys2Proof.Machine
end

