-- ==== Sys2Proof/Safety.lean ====
section
/-! DEFINITION. What a safe run of the block keeps, and the words the statements are made in: an engine ready to execute, the state after
an instruction, a command accepted. -/
namespace Sys2Proof.Machine

/-- Every memory is in its canonical form: keys strictly rising, no entry at its reset content, every value within its cell. -/
def State.ramOk (s : State) : Bool := Memory.wf s.ram

/-- A later state: time has not run back. -/
def State.later (s t : State) : Prop := s.m.now ≤ t.m.now

/-! ### Engines -/

/-- Engine ce is solving, its branch stack is within 32 entries, and an index prefix is within its declared maximum (R116, R121). -/
def State.canRun (s : State) (ce : Fin 8) : Prop :=
  (s.m.eng ce.val).run = 1 ∧ (s.m.eng ce.val).stack.length ≤ 32 ∧
  ((s.m.eng ce.val).idx.map (fun x => decide (x.1 ≤ x.2))).getD true = true

/-- The engine at the start of its instruction. -/
def State.rx (s : State) (ce : Fin 8) : Rx :=
  { r := s.ram, m := s.m, ce := ce.val, p := s.m.obj F.cePARTITION ce.val, e := s.m.eng ce.val }

/-- The state at the end of an instruction that raised no fault. -/
def State.ends (s : State) (x : Rx) : State :=
  { s with ram := wr s.ram x.ws, m := { x.m.updEng x.ce (fun _ => x.e) with now := s.m.now } }

/-- The state with engine ce changed and nothing else. -/
def State.withEng (s : State) (ce : Fin 8) (f : Engine → Engine) : State := { s with m := s.m.updEng ce.val f }

/-- The next instruction, n clocks on; an index prefix is spent. -/
def Engine.on (e : Engine) (n : Nat) : Engine := { e with pc := e.pc + 1, clk := e.clk + n, idx := none }

/-- The engine of an instruction in execution, changed. -/
def Rx.endE (x : Rx) (f : Engine → Engine) : Rx := { x with e := f x.e }

/-- The bytes of the record an I operand names at an offset lie in the partition's region; those of LOCALS always do (R74). -/
def State.within (s : State) (ce : Fin 8) (op : Operand) (off n : Nat) : Prop :=
  opLocal op = true ∨ (s.rx ce).instBase + off + n ≤ s.m.obj F.partINST_SIZE (s.m.obj F.cePARTITION ce.val)

/-- The field of n bytes an I-word operand names, moved by an index prefix, lies in the region. -/
def State.hasWord (s : State) (ce : Fin 8) (op : Operand) (n : Nat) : Prop := s.within ce op (opIword op + n * (s.rx ce).index) n

/-- The bit an I-bit operand names, moved by an index prefix, lies in the region. -/
def State.hasBit (s : State) (ce : Fin 8) (op : Operand) : Prop := s.within ce op (opIoff op + (s.rx ce).index) 1

/-- Field word w of the present record lies in the region. -/
def State.hasField (s : State) (ce : Fin 8) (w : Nat) : Prop := s.within ce 0#24 (2 * w) 2

/-! ### Requests of the command protocol -/

/-- The pool a queue's requests are paid from (R205). -/
def Mach.poolOf (m : Mach) (q : Nat) : Nat := if m.queueOwner q < 8 then m.queueOwner q else 8

/-- The machine as a body finds it: the instant, the session's time, the credit, the sequence number, the counters of the queue, no
assembly, the name of the session. -/
def Mach.intake (m : Mach) (msg : Msg) : Mach :=
  let m := (m.upTo msg.t).updConn msg.conn (fun c => { c with lastAt := max m.now msg.t })
  let m := if freeOps.contains msg.opcode then m else (m.spend (m.poolOf msg.queue)).getD m
  (((m.setObj F.cqNEXT_SEQ msg.queue ((msg.seq + 1) % 2 ^ 32)).bump F.cqEXECUTED msg.queue).updCq msg.queue
    (fun c => { c with accepted := c.accepted + 1 })).entered msg

/-- The request in execution. -/
def cmdOf (msg : Msg) (s : State) (is : List Item) : Cmd :=
  { conn := msg.conn, q := msg.queue, seq := msg.seq, owner := (s.m.intake msg).queueOwner msg.queue, part := msg.part, items := is, t := msg.t }

/-- A message that passes every check of R201 up to its execution: connection, frame, session, queue, sequence, room, credit, load. -/
structure Reaches (msg : Msg) (s : State) : Prop where
  /-- The module takes commands, on a secured connection. -/
  heard : s.m.deaf = false ∧ (s.m.conn msg.conn).state = 2
  /-- The header and the length are right. -/
  framed : msg.size = 32 + msg.plen ∧ msg.plen ≤ 1400 ∧ msg.params.length = msg.plen ∧ msg.magic = 0x5A43 ∧ msg.version = 1 ∧
    bit msg.flags 7 = false ∧ bit msg.flags 6 = false
  /-- The session is open. -/
  session : (s.m.conn msg.conn).tag ≠ 0 ∧ msg.tag = (s.m.conn msg.conn).tag
  /-- The queue is attached to it. -/
  queue : msg.queue ≤ 63 ∧ (s.m.cq msg.queue).conn = msg.conn
  /-- The sequence number is the next one. -/
  inSeq : msg.seq = s.m.obj F.cqNEXT_SEQ msg.queue ∧ msg.seq < 2 ^ 32
  /-- The queue has room. -/
  room : s.m.obj F.cqOUTSTANDING msg.queue < 16
  /-- No earlier request of the queue is still to end (R204). -/
  turn : (s.m.cq msg.queue).running = none ∧ (s.m.cq msg.queue).waiting = []
  /-- The queue's pool has a credit, and the load sheds no request of its kind; or the request is free. -/
  credit : freeOps.contains msg.opcode = true ∨
    10 ^ 9 ≤ (s.m.upTo msg.t).poolLevel (s.m.poolOf msg.queue) ∧
    ¬(3 ≤ s.m.obj F.zcpSHED_STAGE ∧ s.m.obj F.cqCLASS msg.queue = 1) ∧
    ¬(2 ≤ s.m.obj F.zcpSHED_STAGE ∧ (msg.opcode = 0x0E10 ∨ msg.opcode = 0x0E11))

/-- The parameters a message completes: its own, or those of the fragments held followed by its own (R206); none where more are to come, or
where it does not continue what is held. -/
def streamOf (msg : Msg) (s : State) : Option (List Nat) :=
  if bit msg.flags 5 then none
  else match (s.m.cq msg.queue).asm, fragOf msg.params with
    | none, none => some msg.params
    | none, some (i, bs) => if i = 0 then some bs else none
    | some a, some (i, bs) =>
      if msg.opcode = a.opcode ∧ msg.part = a.part ∧ msg.deadline = a.deadline ∧ i = a.index + 1 ∧ i ≤ 46 ∧
        a.bytes.length + bs.length ≤ 65536 then some (a.bytes ++ bs) else none
    | some _, none => none

/-- A request that passes the checks of its execution too: opcode, queue class, reserved fields, partition, deadline, parameters, mode,
role, system queue (R201, step 9), with the items its parameters, or the fragments it completes, carry. -/
structure Accepts (card : Card) (msg : Msg) (s : State) (is : List Item) : Prop where
  reach : Reaches msg s
  opcode : msg.opcode = card.op
  cls : card.bulk = true → (s.m.intake msg).obj F.cqCLASS msg.queue ≠ 0
  zeros : msg.status = 0 ∧ msg.resv = 0 ∧ field msg.flags 4 1 = 0
  part : isSys (cmdOf msg s is).owner = true ∨ msg.part = 0xFF ∨ msg.part = (cmdOf msg s is).owner
  inTime : msg.deadline = 0 ∨ ((s.m.intake msg).gzValid = true ∧ (s.m.intake msg).gz ≤ msg.deadline)
  params : ∃ bs, streamOf msg s = some bs ∧ readParams card bs = .ok is
  partTy : card.partTy.any (fun ty => msg.part ≠ 0xFF && (cmdOf msg s is).has ty && (cmdOf msg s is).num ty ≠ msg.part) = false
  mode : (if (s.m.intake msg).mode = 0xFF then card.boot else (card.modesBy (s.m.intake msg) is).contains (s.m.intake msg).mode) = true
  role : (match card.roleBy with
    | some f => f (s.m.conn msg.conn).role is
    | none => roleReaches (s.m.conn msg.conn).role card.op) = true
  sys : card.sysBy is = true → isSys (cmdOf msg s is).owner = true

/-- A message on a secured connection of a listening module, its header and length right (R201, steps 1 to 4). -/
def Framed (msg : Msg) (s : State) : Prop :=
  (s.m.deaf = false ∧ (s.m.conn msg.conn).state = 2) ∧
  msg.size = 32 + msg.plen ∧ msg.plen ≤ 1400 ∧ msg.params.length = msg.plen ∧ msg.magic = 0x5A43 ∧ msg.version = 1 ∧
  bit msg.flags 7 = false ∧ bit msg.flags 6 = false

/-- The last reply in the cache of the message's queue answers it, with a status and these fields (R203). -/
def Replied (t : State) (msg : Msg) (st : Nat) (fields : List Item) : Prop :=
  ((t.m.cq msg.queue).cache.getLast?.map (fun c => (c.seq, c.opcode, c.status, c.fields))) = some (msg.seq, msg.opcode, st, fields)

/-- An event is held on a channel: its code, status and fields. -/
def Raised (t : State) (ch code st : Nat) (fields : List Item) : Prop :=
  ∃ e ∈ (t.m.cq ch).held, e.code = code ∧ e.status = st ∧ e.fields = fields

/-- A channel has room for an event of its own: fewer than 255 are held (R210). -/
def State.roomy (s : State) (ch : Nat) : Prop := (s.m.cq ch).held.length < 255

/-- A command answers a next state, and this holds of it. -/
def Completes (c : Instr) (s : State) (P : State → Prop) : Prop := ∃ t, exec c s = .next t ∧ P t

/-- The instant a command's effect has: its own, or the present one where that is later. -/
def State.at_ (s : State) (t : Nat) : Nat := max s.m.now t

end Sys2Proof.Machine
end

