-- ==== Sys2Proof/Certificates/Slice0/Obligations.lean ====
section
/-! DEFINITION. The statements for the provers. `Completes c s P`: command c answers a next state, and P holds of it; `Accepts card msg s is`:
the request passes every check of R201 and of its own card, with the items is. Where a clause names the items of an event by types 1, 2, ...
and the manual gives the values only in prose, the layout is the model's choice (log 12). -/
open Sys2Proof Sys2Proof.Machine

/-! ### The step -/

/-- One step runs the command at the front of the queue on the state with the queue's rest. -/
def Obligations.StepRunsFront : Prop :=
  ∀ (c : Instr) (rest : List Instr) (s : State),
    step { s with pending := c :: rest } = exec c { s with pending := rest }

/-- Every step, whatever command is at the front, answers a next state: the queue has lost its front and nothing else, time has not run back (R34), and memories in canonical form (log 4) stay in it. -/
def Obligations.StepKeepsMemoryForm : Prop :=
  ∀ s : State, ∃ t, step s = .next t ∧ t.pending = s.pending.tail ∧ s.later t ∧ (s.ramOk = true → t.ramOk = true)

/-- The machine right after reset: memories in canonical form, no command waiting, no supply yet (log 3), no operating mode, LIFECYCLE and every other field at the value its object field reads as that nothing has written. -/
def Obligations.ResetMeetsInvariant : Prop :=
  State.reset.ramOk = true ∧ State.reset.pending = [] ∧ State.reset.m.sys.off = true ∧ State.reset.m.mode = 0xFF ∧
  ∀ (f : Fld) (i : Nat), State.reset.m.obj f i = objInit (objKey f.cls i f.num)

/-! ### The order of R201 -/

/-- The message of a request row other than SESSION_OPEN and QUEUE_ATTACH. -/
def Sys2Proof.Part.request : Instr → Option Msg
  | .sessionClose msg | .sessionPing msg | .queueDetach msg | .eventAck msg | .getObject msg | .setObject msg | .moduleIdWrite msg
  | .cycleObjectWrite msg | .partitionObjectWrite msg | .taskObjectWrite msg | .placeObjectWrite msg | .segmentObjectWrite msg
  | .nodeSerialWrite msg | .portModeWrite msg | .effectLatchRelease msg | .maxShelveMinWrite msg | .lowOkWrite msg | .rideMsWrite msg
  | .moduleIdentify msg | .timeGet msg | .timeSet msg | .modeSet msg | .reset msg | .blockQuiesce msg | .partStart msg | .partHalt msg
  | .partStop msg | .loadBegin msg | .loadData msg | .loadCommit msg _ | .loadAbort msg | .changeCommit msg _ | .ceFence msg
  | .ceRetest msg | .pointRead msg | .pointWrite msg | .trunkDiscover msg | .nodeAssign msg | .nodeUnassign msg | .nodeReplace msg
  | .nodeDiagRead msg | .segListen msg | .segTx msg | .segTxCancel msg | .filterLoad msg | .lcUnlock msg | .lcClearLatch msg
  | .limpMapWrite msg | .loTrim msg | .epSetPosition msg | .epUnfence msg _ | .axisJog msg | .axisStop msg | .axisHome msg
  | .doorCommand msg | .doorLearn msg | .storyboardLoad msg | .gaugeTest msg | .alarmAck msg | .alarmShelve msg | .alarmUnshelve msg
  | .causeMatrixLoad msg | .brakeTest msg | .safetyParamWrite msg | .slateConfirm msg | .pairSet msg | .switchover msg | .handback msg
  | .fullTake msg | .openWindow msg | .readWindow msg | .closeWindow msg | .certGet msg | .certInstall msg | .debugAuth msg
  | .debugClose msg | .lifecycleSet msg | .updateBegin msg | .updateData msg | .updateActivate msg | .calibrate msg | .cartridgeReplace msg => some msg
  | _ => none

/-- Any request row but SESSION_OPEN and QUEUE_ATTACH (R201 to R203): without a secured connection it changes nothing but the time; with a wrong MAGIC it is counted in DISCARDED; a wrong VERSION, length, session, queue or sequence number is answered and has no other effect; a duplicate of a completed request is answered from the cache and not executed; a fragment that is not the last is held without a reply, one that does not continue what is held drops it (R206); a request accepted while an earlier one of its queue has not ended waits (R204). -/
def Obligations.RequestProtocol : Prop :=
  ∀ (i : Instr) (msg : Msg) (s : State), Sys2Proof.Part.request i = some msg →
    let m := s.m.upTo msg.t
    let q := msg.queue
    let becomes := fun (m' : Mach) => exec i s = .next { s with m := { m' with now := s.at_ msg.t } }
    let k := m.updConn msg.conn (fun c => { c with lastAt := m.now })
    let attached := (s.m.conn msg.conn).tag ≠ 0 ∧ msg.tag = (s.m.conn msg.conn).tag ∧ q ≤ 63 ∧ (s.m.cq q).conn = msg.conn
    (s.m.deaf = true ∨ (s.m.conn msg.conn).state ≠ 2 → becomes m) ∧
    (s.m.deaf = false → (s.m.conn msg.conn).state = 2 → msg.size < 32 ∨ msg.magic ≠ 0x5A43 → becomes (m.bump F.zcpDISCARDED)) ∧
    (s.m.deaf = false → (s.m.conn msg.conn).state = 2 → 32 ≤ msg.size → msg.magic = 0x5A43 → bit msg.flags 7 = false → bit msg.flags 6 = false →
      (msg.version ≠ 1 → becomes (m.reply msg stBAD_PARAMETER [⟨0xF4, [1]⟩, ⟨0xF5, [0]⟩])) ∧
      (msg.version = 1 → msg.size ≠ 32 + msg.plen ∨ 1400 < msg.plen → becomes (m.reply msg stBAD_LENGTH [⟨0xF5, [0]⟩]))) ∧
    (Framed msg s → (s.m.conn msg.conn).tag = 0 ∨ msg.tag ≠ (s.m.conn msg.conn).tag → becomes (m.reply msg stSESSION_UNKNOWN [])) ∧
    (Framed msg s → (s.m.conn msg.conn).tag ≠ 0 → msg.tag = (s.m.conn msg.conn).tag → 63 < q ∨ (s.m.cq q).conn ≠ msg.conn →
      becomes (k.reply msg stQUEUE_NOT_ATTACHED [])) ∧
    (Framed msg s → attached →
      let next := s.m.obj F.cqNEXT_SEQ q
      let d := (msg.seq + 2 ^ 32 - next) % 2 ^ 32
      (∀ c, 2 ^ 32 - 32 ≤ d → 2 ^ 32 - d ≤ (s.m.cq q).accepted → (s.m.cq q).cache.find? (fun c => c.seq == msg.seq) = some c → c.final = true →
        becomes ((k.bump F.cqREPLAYED q).send ⟨msg.conn, false, false, true, q, c.opcode, (s.m.conn msg.conn).tag, c.seq, c.status, c.part,
          c.deadline, c.fields, []⟩)) ∧
      (d ≠ 0 → d < 2 ^ 32 - 32 → becomes ((k.bump F.cqGAP_REPLIES q).reply msg stSEQUENCE_GAP [⟨0xF3, toBe 4 next⟩])) ∧
      (d = 0 → 16 ≤ s.m.obj F.cqOUTSTANDING q →
        let paid := if freeOps.contains msg.opcode then k else (k.spend (s.m.poolOf q)).getD k
        becomes ((paid.bump F.cqBUSY_REPLIES q).reply msg stBUSY [⟨0xF1, toBe 4 1000⟩, ⟨0xF6, [0]⟩]))) ∧
    (∀ j bs, Reaches msg s → fragOf msg.params = some (j, bs) →
      let held := fun (a : Asm) => Completes i s (fun u => (u.m.cq q).asm = some a ∧ u.m.obj F.cqOUTSTANDING q = 1 ∧
        u.m.obj F.cqNEXT_SEQ q = (msg.seq + 1) % 2 ^ 32 ∧ u.m.sent = s.m.sent ∧ u.ram = s.ram)
      let dropped := fun ty => Completes i s (fun u => Replied u msg stBAD_PARAMETER [⟨0xF5, [ty]⟩] ∧ (u.m.cq q).asm = none ∧ u.ram = s.ram)
      ((s.m.cq q).asm = none → j = 0 → bit msg.flags 5 = true →
        held ⟨msg.opcode, msg.part, msg.deadline, 0, msg.seq, s.at_ msg.t, bit msg.flags 0, bs⟩) ∧
      ((s.m.cq q).asm = none → j ≠ 0 → dropped 0xF2) ∧
      ∀ a, (s.m.cq q).asm = some a →
        (msg.opcode = a.opcode → msg.part = a.part → msg.deadline = a.deadline → j = a.index + 1 → j ≤ 46 →
          a.bytes.length + bs.length ≤ 65536 → bit msg.flags 5 = true →
          held { a with index := j, lastSeq := msg.seq, lastAt := s.at_ msg.t, bytes := a.bytes ++ bs }) ∧
        (msg.opcode ≠ a.opcode ∨ msg.part ≠ a.part ∨ msg.deadline ≠ a.deadline → dropped 0) ∧
        (msg.opcode = a.opcode → msg.part = a.part → msg.deadline = a.deadline → j ≠ a.index + 1 → dropped 0xF2)) ∧
    (Framed msg s → attached → msg.seq = s.m.obj F.cqNEXT_SEQ q → msg.seq < 2 ^ 32 → s.m.obj F.cqOUTSTANDING q < 16 →
      freeOps.contains msg.opcode = true → (s.m.cq q).running.isSome = true →
      Completes i s (fun u => (u.m.cq q).waiting.map (·.msg) = (s.m.cq q).waiting.map (·.msg) ++ [msg] ∧ u.m.sent = s.m.sent ∧
        u.ram = s.ram ∧ u.m.obj F.cqNEXT_SEQ q = (msg.seq + 1) % 2 ^ 32))

/-- Connections, timers of queues and the supervisor's load (R191, R193, R206, R209, R220). -/
def Sys2Proof.Part.ConnectionEvents : Prop :=
  ∀ (t : Nat) (conn : Fin 32) (q : Fin 64) (s : State),
    (∀ (h : Hello) (c : Chain) (g : Nat × Nat), s.m.deaf = false → (s.m.upTo t).reaches h = true → (h.port.val ≤ 1 → s.m.macPass h.port h.secured = true) →
      (s.m.conn conn).state ≠ 2 → h.dtls13 = true → h.suite = true → h.curve = true → h.done = some c → s.m.grant h.port c = some g →
      Completes (.dtlsHandshake t conn h) s (fun u => (u.m.conn conn).state = 2 ∧ (u.m.conn conn).roleMask = g.1 ∧
        (u.m.conn conn).queues = g.2 ∧ (u.m.conn conn).tag = 0)) ∧
    ((s.m.conn conn).state = 1 → (s.m.conn conn).helloAt + 10 * 10 ^ 9 ≤ s.at_ t →
      Completes (.handshakeTimeout t conn) s (fun u => u.m.conn conn = {} ∧
        u.m.obj F.zcpAUTH_FAIL = min (s.m.obj F.zcpAUTH_FAIL + 1) (2 ^ 32 - 1) % 2 ^ F.zcpAUTH_FAIL.bits)) ∧
    ((s.m.conn conn).tag ≠ 0 → Completes (.dtlsConnectionClose t conn) s (fun u => u.m.conn conn = {} ∧
      ((s.m.cq q).conn = conn.val → (u.m.cq q).conn = 255))) ∧
    ((s.m.conn conn).tag ≠ 0 → (s.m.conn conn).lastAt + (s.m.conn conn).idleS * 10 ^ 9 ≤ s.at_ t →
      Completes (.sessionIdleTimeout t conn) s (fun u => (u.m.conn conn).tag = 0 ∧ (u.m.conn conn).state = (s.m.conn conn).state ∧
        ((s.m.cq q).conn = conn.val → (u.m.cq q).conn = 255))) ∧
    (∀ a, (s.m.cq q).asm = some a → a.lastAt + 10 ^ 9 ≤ s.at_ t → (s.m.cq q).running = none → (s.m.cq q).waiting = [] →
      Completes (.fragmentTimeout t q) s (fun u => (u.m.cq q).asm = none ∧ u.m.obj F.cqOUTSTANDING q = 0 ∧ ((u.m.cq q).cache.getLast?.map (fun e => (e.seq, e.status))) = some (a.lastSeq, stTIMEOUT))) ∧
    ((s.m.cq q).conn ≠ 255 → (s.m.cq q).resentAt + s.m.obj F.zcpEV_RETRY_MS * 10 ^ 6 ≤ s.at_ t →
      Completes (.eventResend t q) s (fun u => (u.m.cq q).resentAt = s.at_ t ∧ (u.m.cq q).held = (s.m.cq q).held ∧
        s.m.sent.length + (min (s.m.cq q).sentEv (s.m.cq q).held.length) ≤ u.m.sent.length)) ∧
    (∀ load, s.m.deaf = false → s.m.sys.loadAt + 10 ^ 8 ≤ s.at_ t → 90 ≤ load → load < 256 → 2 ≤ s.m.sys.hiLoads →
      s.m.obj F.zcpSHED_STAGE < 3 → Completes (.shedWindow t load) s (fun u => u.m.obj F.zcpSHED_STAGE = s.m.obj F.zcpSHED_STAGE + 1 ∧ u.m.obj F.zcpSUP_LOAD = load ∧
        u.m.sys.hiLoads = 0 ∧ u.m.sys.loadAt = s.at_ t))

/-- Sessions and queues (R193, R194, R196, R212): a session opens with a role its connection may have, a queue is attached afresh or
resumed, detached, an acknowledgement releases every event at or before UPTO. The session tag is a free value, never 0. -/
def Sys2Proof.Part.SessionCommands : Prop :=
  ∀ (msg : Msg) (s : State) (is : List Item),
    let c := cmdOf msg s is
    let k := s.m.conn msg.conn
    let q := msg.queue
    (Framed msg s → msg.opcode = 0x0001 → readParams cardSessionOpen msg.params = .ok is → k.tag = 0 → bit k.roleMask (c.num 1) = true →
      Completes (.sessionOpen msg) s (fun u => (u.m.conn msg.conn).tag ≠ 0 ∧ (u.m.conn msg.conn).tag < 2 ^ 32 ∧
        (u.m.conn msg.conn).role = c.num 1 ∧ (u.m.conn msg.conn).idleS = c.num 2 30)) ∧
    (Accepts sessionCloseCard msg s is → Completes (.sessionClose msg) s (fun u => Replied u msg stDONE [] ∧
      (u.m.conn msg.conn).tag = 0 ∧ (u.m.cq q).conn = 255)) ∧
    (Accepts sessionPingCard msg s is → Completes (.sessionPing msg) s (fun u => Replied u msg stDONE [] ∧
      (u.m.conn msg.conn).lastAt = s.at_ msg.t ∧ (u.m.conn msg.conn).tag = k.tag)) ∧
    (Framed msg s → k.tag ≠ 0 → msg.tag = k.tag → msg.opcode = 0x0004 → readParams cardQueueAttach msg.params = .ok is → q ≤ 63 →
      bit k.queues q = true → (s.m.cq q).conn = 255 →
      (c.num 1 = 0 → Completes (.queueAttach msg) s (fun u => (u.m.cq q).conn = msg.conn.val ∧ u.m.obj F.cqATTACHED q = 1 ∧
        u.m.obj F.cqNEXT_SEQ q = c.num 2 % 2 ^ 32 ∧ u.m.obj F.cqQUEUE_EPOCH q = (s.m.obj F.cqQUEUE_EPOCH q + 1) % 2 ^ 32 ∧
        (u.m.cq q).cache = [])) ∧
      (c.num 1 = 1 → (s.m.cq q).identity = k.identity → c.num 3 = s.m.obj F.cqQUEUE_EPOCH q →
        Completes (.queueAttach msg) s (fun u => (u.m.cq q).conn = msg.conn.val ∧ u.m.obj F.cqNEXT_SEQ q = s.m.obj F.cqNEXT_SEQ q ∧
          u.m.obj F.cqQUEUE_EPOCH q = s.m.obj F.cqQUEUE_EPOCH q ∧ (u.m.cq q).cache = (s.m.cq q).cache))) ∧
    (Accepts queueDetachCard msg s is → Completes (.queueDetach msg) s (fun u => Replied u msg stDONE [] ∧ (u.m.cq q).conn = 255 ∧
      u.m.obj F.cqATTACHED q = 0)) ∧
    (Accepts eventAckCard msg s is → serialLe (s.m.obj F.cqEV_NEXT q) (c.num 1) = false → serialLe (c.num 1) (s.m.obj F.cqEV_ACKED q) = false →
      Completes (.eventAck msg) s (fun u => Replied u msg stDONE [] ∧
        (u.m.cq q).held = (s.m.cq q).held.filter (fun e => !serialLe e.seq (c.num 1)) ∧ u.m.obj F.cqEV_ACKED q = c.num 1 % 2 ^ 32))

/-- Connections and sessions. The session tag is a free value (log 5), the identity and shedding measurements come with the command (log 9). -/
def Obligations.SessionsAndConnections : Prop := Sys2Proof.Part.ConnectionEvents ∧ Sys2Proof.Part.SessionCommands

/-! ### Objects and points -/

/-- What follows where a check passes, and where it fails. -/
def Sys2Proof.Part.verdict {α : Type} (x : Except Bad α) (ok : α → Prop) (bad : Bad → Prop) : Prop :=
  match x with
  | .ok m => ok m
  | .error b => bad b

/-- Object access (R215, R216): a read answers the value of the field and clears a field that reads clear; every write, by whichever row
it comes, is answered and stands as its checks left it. -/
def Sys2Proof.Part.ObjectAccess : Prop :=
  ∀ (msg : Msg) (s : State) (is : List Item),
    let c := cmdOf msg s is
    let m := s.m.intake msg
    (∀ k i d, Accepts getObjectCard msg s is → targetOf is = .ok (k, i, some d) → isSys c.owner = true →
      (s.m.isM4 = true ∨ (k.code ≠ 0x0903 ∧ ¬(k.code = 0x0B01 ∧ i = 2))) →
      c.num 4 1 = 1 → Completes (.getObject msg) s (fun u =>
        Replied u msg stDONE [⟨1, toBe (container (fdWidth d)) ((m.refresh s.ram k.code i).obj (fdFld k.code d) i)⟩, itm 2 2 k.size] ∧
        (d.acc = .rc → u.m.obj (fdFld k.code d) i = instInit k.code i d.num d.init % 2 ^ fdWidth d) ∧ u.ram = s.ram)) ∧
    (Accepts cardSetObject msg s is →
      (let x := setObject c s.ram m
       ∀ i ∈ ([.setObject msg, .moduleIdWrite msg, .cycleObjectWrite msg, .partitionObjectWrite msg, .taskObjectWrite msg, .placeObjectWrite msg,
          .segmentObjectWrite msg, .nodeSerialWrite msg, .portModeWrite msg, .effectLatchRelease msg, .maxShelveMinWrite msg, .lowOkWrite msg,
          .rideMsWrite msg] : List Instr),
        Completes i s (fun u => Replied u msg x.st x.out ∧ u.m.objs = x.m.objs ∧ u.ram = wr s.ram x.ws)) ∧
      (isSys c.owner = true → s.m.svc.load = none → ∀ k i f, targetOf is = .ok (k, i, f) →
        let fs := (writesOf is).map (·.1.num)
        let kept := fun (u : State) => Sys2Proof.Part.verdict (((m.putFields k.code i (writesOf is)).derive s.ram).recheck s.ram)
          (fun new => Replied u msg stDONE [] ∧ u.m.objs = new.objs)
          (fun b => Replied u msg b.1 (if b.1 = stBAD_PARAMETER then [⟨0xF5, [4]⟩] else b.2) ∧ u.m.objs = m.objs)
        (k.code = 0x0201 → Completes (.partitionObjectWrite msg) s kept) ∧
        (k.code = 0x0202 → Completes (.cycleObjectWrite msg) s kept ∧ Completes (.setObject msg) s kept) ∧
        (k.code = 0x0301 → fs.any (fun f => decide (f ≤ 3)) = true → Completes (.taskObjectWrite msg) s kept) ∧
        (k.code = 0x0502 → fs.any (fun f => f == 2 || decide (7 ≤ f)) = true → Completes (.placeObjectWrite msg) s kept) ∧
        (k.code = 0x0601 → fs.any (fun f => decide (f ≤ 12)) = true → 0 ∉ fs → Completes (.segmentObjectWrite msg) s kept)))

/-- The writes the opcode table names apart (R222, R281, R343, R421, R433, R569, R579), each of one field. -/
def Sys2Proof.Part.FieldWrites : Prop :=
  ∀ (msg : Msg) (s : State) (is : List Item), Accepts cardSetObject msg s is → isSys (cmdOf msg s is).owner = true → s.m.svc.load = none →
    let m := s.m.intake msg
    let v := itemNum is 4 0
    let one := fun (f : Fld) (i : Nat) => itemNum is 1 0 = f.cls ∧ itemNum is 2 0 = i ∧ is.find? (·.ty == 3) = some ⟨3, [f.num]⟩
    (one F.modMODULE_ID 0 → (v < 512 ∨ v = 0xFFFF) → v ≠ s.m.obj F.modMODULE_ID → s.m.typesBad = false →
      (∀ p ∈ s.m.usedParts, (s.m.part p).clapped = false) → Completes (.moduleIdWrite msg) s (fun u => Replied u msg stDONE [] ∧
        u.m.obj F.modMODULE_ID = v ∧ u.m.obj F.modID_CHANGES = min (s.m.obj F.modID_CHANGES + 1) (2 ^ 32 - 1))) ∧
    (∀ n : Fin 512, one F.nodeSERIAL n → n.val % 64 ≠ 0 → m.fieldBad = none → Completes (.nodeSerialWrite msg) s (fun u =>
      Replied u msg stDONE [] ∧ u.m.obj F.nodeSERIAL n = v % 2 ^ 64 ∧
      u.m.obj F.nodeASSIGN_EPOCH n = (s.m.obj F.nodeASSIGN_EPOCH n + 1) % 2 ^ F.nodeASSIGN_EPOCH.bits)) ∧
    (∀ n : Fin 8, one F.epMODE n → (m.setObj F.epMODE n v).portsBad s.ram = none → (m.setObj F.epMODE n v).motionBad s.ram = none →
      Completes (.portModeWrite msg) s (fun u => Replied u msg stDONE [] ∧ u.m.obj F.epMODE n = v % 2 ^ 8 ∧
        u.m.obj F.epSTATE n = if v % 2 ^ 8 = 0 then 0 else 1)) ∧
    (∀ (e : Fin 4096) b, one F.effLATCHED e → v = 1 → s.m.matrix.effects.find? (fun x => x.1 == e.val) = some (e.val, b) →
      (s.m.eff e).active = true → (s.m.eff e).since = none → Completes (.effectLatchRelease msg) s (fun u => Replied u msg stDONE [] ∧
        (u.m.eff e).active = false ∧ u.m.obj F.effLATCHED e = 0 ∧ u.m.obj F.effSTATE e = 1)) ∧
    (∀ a : Fin 65536, one F.alarmMAX_SHELVE_MIN a → Completes (.maxShelveMinWrite msg) s (fun u => Replied u msg stDONE [] ∧
      u.m.obj F.alarmMAX_SHELVE_MIN a = v % 2 ^ 16)) ∧
    (one F.pairLOW_OK 0 → Completes (.lowOkWrite msg) s (fun u => Replied u msg stDONE [] ∧ u.m.obj F.pairLOW_OK = v % 2 ∧
      (v = 0 → u.m.obj F.powPOWER_STATE ≠ 2))) ∧
    (one F.powRIDE_MS 0 → (m.setObj F.powRIDE_MS 0 v).wrapMj ≤ 19200 → Completes (.rideMsWrite msg) s (fun u => Replied u msg stDONE [] ∧
      u.m.obj F.powRIDE_MS = v % 2 ^ 16))

/-- Object access. -/
def Obligations.ObjectAccess : Prop := Sys2Proof.Part.ObjectAccess ∧ Sys2Proof.Part.FieldWrites

/-- Points (R217, R218): a read answers the slots' values and qualities and changes no memory; a commissioning write puts its values into
the slots' commissioning cells and into no other cell. -/
def Obligations.PointAccess : Prop :=
  ∀ (msg : Msg) (s : State) (is : List Item),
    let c := cmdOf msg s is
    let m := s.m.intake msg
    let pt := c.num 1
    (Accepts pointReadCard msg s is → (∀ i, i < c.num 2 1 → isSys c.owner = true ∨ mayRead (s.m.ownEnt s.ram (pt + i)) c.owner = true) →
      Completes (.pointRead msg) s (fun u => u.ram = s.ram ∧
        let vs := (List.range (c.num 2 1)).map (fun i => m.viewSlot s.ram c.owner (c.num 3) (pt + i))
        Replied u msg stDONE [itm 1 8 (s.m.part (m.viewPart s.ram c.owner pt)).pubCycle, ⟨2, vs.flatMap (fun v => toBe 2 v.1)⟩,
          ⟨3, (chunks 4 128 (vs.map (·.2))).map (fun q => q.reverse.foldl (fun a x => a * 4 + x) 0)⟩])) ∧
    (Accepts pointWriteCard msg s is → s.ramOk = true → pt + (wordsOf (c.bytes 2)).length ≤ 2 ^ 20 →
      let vs := wordsOf (c.bytes 2)
      let ent := fun (i : Nat) => s.m.ownEnt s.ram (pt + i)
      (∀ i, i < vs.length → entValid (ent i) = true ∧ (entKind (ent i) = 1 ∨ entKind (ent i) = 6) ∧
        (isSys c.owner = true ∨ entOwned (ent i) = false ∨ entOwner (ent i) = c.owner) ∧ s.m.wideCut s.ram pt vs.length (pt + i) = false) →
      Completes (.pointWrite msg) s (fun u => (∃ gz, Replied u msg stDONE [itm 1 8 gz]) ∧
        (∀ i, i < vs.length → commOf u.ram (pt + i) = vs[i]?) ∧
        (∀ a, (∀ i, i < vs.length → a ≠ pt + i) → a < 2 ^ 40 → rd u.ram .comm a = rd s.ram .comm a) ∧
        ∀ sp a, sp ≠ .comm → a < 2 ^ 40 → rd u.ram sp a = rd s.ram sp a))

/-! ### Rung instructions -/

/-- The accumulator instructions NOT, ONE, NEG, ABS, WNOT and NOP (R105, R113): ACC and WACC as the table says, the next instruction one
clock on, everything else in the machine as before. ABS of −2^63 stays −2^63. -/
def Sys2Proof.Part.AccumulatorInstructions : Prop :=
  ∀ (ce : Fin 8) (s : State), s.canRun ce →
    exec (.not ce 0#24) s = .next (s.withEng ce (fun e => { e with acc := !e.acc }.on 1)) ∧
    exec (.one ce 0#24) s = .next (s.withEng ce (fun e => { e with acc := true }.on 1)) ∧
    exec (.neg ce 0#24) s = .next (s.withEng ce (fun e => { e with wacc := BitVec.ofInt 64 (-e.wacc.toInt) }.on 1)) ∧
    exec (.abs ce 0#24) s = .next (s.withEng ce (fun e => { e with wacc := BitVec.ofInt 64 (e.wacc.toInt.natAbs : Nat) }.on 1)) ∧
    exec (.wnot ce 0#24) s = .next (s.withEng ce (fun e => { e with wacc := ~~~ e.wacc }.on 1)) ∧
    exec (.nop ce 0#24) s = .next (s.withEng ce (fun e => e.on 1))

/-- The branch stack (R105): BPUSH at a depth of 0 to 31, the pops at a depth of 1 or more. -/
def Sys2Proof.Part.BranchStack : Prop :=
  ∀ (ce : Fin 8) (s : State), s.canRun ce →
    ((s.m.eng ce.val).stack.length ≤ 31 →
      exec (.bpush ce 0#24) s = .next (s.withEng ce (fun e => { e with stack := e.acc :: e.stack }.on 1))) ∧
    ∀ (t : Bool) (r : List Bool), (s.m.eng ce.val).stack = t :: r →
      exec (.band ce 0#24) s = .next (s.withEng ce (fun e => { e with acc := t && e.acc, stack := r }.on 1)) ∧
      exec (.bor ce 0#24) s = .next (s.withEng ce (fun e => { e with acc := t || e.acc, stack := r }.on 1)) ∧
      exec (.bpeek ce 0#24) s = .next (s.withEng ce (fun e => { e with acc := t }.on 1)) ∧
      exec (.bpop ce 0#24) s = .next (s.withEng ce (fun e => { e with acc := t, stack := r }.on 1)) ∧
      exec (.bdrop ce 0#24) s = .next (s.withEng ce (fun e => { e with stack := r }.on 1))

/-- Accumulator and branch stack. -/
def Obligations.AccumulatorAndStack : Prop := Sys2Proof.Part.AccumulatorInstructions ∧ Sys2Proof.Part.BranchStack

/-- Immediate arithmetic and logic (R107, R108): results modulo 2^64, the immediate sign- or zero-extended, MUL in 3 clocks. -/
def Sys2Proof.Part.ImmediateArithmetic : Prop :=
  ∀ (ce : Fin 8) (op : Operand) (s : State), s.canRun ce →
    let w := (s.m.eng ce.val).wacc
    let put := fun (v : Word64) (clk : Nat) => Host.Outcome.next (s.withEng ce (fun e => { e with wacc := v }.on clk))
    exec (.ldk ce op) s = put (BitVec.ofInt 64 op.toInt) 1 ∧
    exec (.ldks ce op) s = put (BitVec.ofNat 64 (w.toNat * 2 ^ 24 + op.toNat)) 1 ∧
    exec (.addk ce op) s = put (BitVec.ofInt 64 (w.toInt + op.toInt)) 1 ∧
    exec (.subk ce op) s = put (BitVec.ofInt 64 (w.toInt - op.toInt)) 1 ∧
    exec (.mulk ce op) s = put (BitVec.ofInt 64 (w.toInt * op.toInt)) 3 ∧
    exec (.andk ce op) s = put (w &&& op.setWidth 64) 1 ∧
    exec (.ork ce op) s = put (w ||| op.setWidth 64) 1 ∧
    exec (.xork ce op) s = put (w ^^^ op.setWidth 64) 1 ∧
    exec (.maxk ce op) s = put (BitVec.ofInt 64 (max w.toInt op.toInt)) 1 ∧
    exec (.mink ce op) s = put (BitVec.ofInt 64 (min w.toInt op.toInt)) 1

/-- Division by an immediate other than 0 (R108): quotient truncated toward zero and remainder with the sign of WACC, ACC 1, 36 clocks; shifts
by a count of 0 to 63. -/
def Sys2Proof.Part.ImmediateShifts : Prop :=
  ∀ (ce : Fin 8) (op : Operand) (s : State), s.canRun ce →
    let w := (s.m.eng ce.val).wacc
    let put := fun (v : Word64) => Host.Outcome.next (s.withEng ce (fun e => { e with wacc := v }.on 1))
    let quot := fun (v : Word64) => Host.Outcome.next (s.withEng ce (fun e => { e with wacc := v, acc := true }.on 36))
    (op ≠ 0#24 → exec (.divk ce op) s = quot (BitVec.ofInt 64 (w.toInt.tdiv op.toInt)) ∧
      exec (.modk ce op) s = quot (BitVec.ofInt 64 (w.toInt.tmod op.toInt))) ∧
    (op.toNat < 64 → exec (.shlk ce op) s = put (BitVec.ofNat 64 (w.toNat * 2 ^ op.toNat)) ∧
      exec (.shrk ce op) s = put (BitVec.ofNat 64 (w.toNat / 2 ^ op.toNat)) ∧
      exec (.sark ce op) s = put (BitVec.ofInt 64 (w.toInt / 2 ^ op.toNat)))

/-- Immediate operands. -/
def Obligations.ImmediateInstructions : Prop := Sys2Proof.Part.ImmediateArithmetic ∧ Sys2Proof.Part.ImmediateShifts

/-- DIV and MOD, immediate and field forms (R109): by v = 0 WACC is 0 and ACC 0; −2^63 by −1 gives −2^63, remainder 0, ACC 1; neither is a fault; every division takes 36 clocks. -/
def Obligations.DivisionCorners : Prop :=
  ∀ (ce : Fin 8) (op : Operand) (s : State), s.canRun ce →
    let w := (s.m.eng ce.val).wacc
    let y := (s.rx ce).iword op 4
    let k := fun (r : Word64) (a : Bool) => Host.Outcome.next (s.withEng ce (fun e => { e with wacc := r, acc := a }.on 36))
    let f := fun (r : Word64) (a : Bool) => Host.Outcome.next (s.ends (y.2.endE (fun e => { e with wacc := r, acc := a }.on 36)))
    (op = 0#24 → exec (.divk ce op) s = k 0#64 false ∧ exec (.modk ce op) s = k 0#64 false) ∧
    (op = -1#24 → w = BitVec.ofInt 64 (-2 ^ 63) → exec (.divk ce op) s = k (BitVec.ofInt 64 (-2 ^ 63)) true ∧ exec (.modk ce op) s = k 0#64 true) ∧
    (op ≠ 0#24 → (∃ r, exec (.divk ce op) s = k r true) ∧ ∃ r, exec (.modk ce op) s = k r true) ∧
    (okIword op 4 = true → s.hasWord ce op 4 →
      (y.1.setWidth 32 = 0#32 → exec (.divi ce op) s = f 0#64 false ∧ exec (.modi ce op) s = f 0#64 false) ∧
      (y.1.setWidth 32 = -1#32 → w = BitVec.ofInt 64 (-2 ^ 63) → exec (.divi ce op) s = f (BitVec.ofInt 64 (-2 ^ 63)) true ∧ exec (.modi ce op) s = f 0#64 true) ∧
      (y.1.setWidth 32 ≠ 0#32 → (∃ r, exec (.divi ce op) s = f r true) ∧ ∃ r, exec (.modi ce op) s = f r true))

/-- WBIT n: ACC is bit n of WACC; WSETB n: bit n of WACC is ACC, every other bit as before; 1 clock each, the S-form operand 0 to 63 (R112). -/
def Obligations.SingleBits : Prop :=
  ∀ (ce : Fin 8) (op : Operand) (s : State), s.canRun ce → op.toNat < 64 →
    let w := (s.m.eng ce.val).wacc
    exec (.wbit ce op) s = .next (s.withEng ce (fun e => { e with acc := w.getLsbD op.toNat }.on 1)) ∧
    ∃ v : Word64, exec (.wsetb ce op) s = .next (s.withEng ce (fun e => { e with wacc := v }.on 1)) ∧
      ∀ n, n < 64 → v.getLsbD n = if n = op.toNat then (s.m.eng ce.val).acc else w.getLsbD n

/-- The compares (R110): ACC says whether the relation holds of the 64-bit WACC and v, the immediate or the 32-bit field, sign-extended for EQ, NE and the signed compares and zero-extended for GTU and LTU; WACC stays; 1 clock. EQ and NE compare WACC with what LDK or LIS.32 loads from the same operand. -/
def Obligations.Compares : Prop :=
  ∀ (ce : Fin 8) (op : Operand) (s : State), s.canRun ce →
    let w := (s.m.eng ce.val).wacc
    let tells := fun (b : Bool) => Host.Outcome.next (s.withEng ce (fun e => { e with acc := b }.on 1))
    let y := (s.rx ce).iword op 4
    let v := (y.1.setWidth 32).toInt
    let u := (y.1.setWidth 32).toNat
    let saysI := fun (b : Bool) => Host.Outcome.next (s.ends (y.2.endE (fun e => { e with acc := b }.on 1)))
    (exec (.eqk ce op) s = tells (decide (w.toInt = op.toInt)) ∧ exec (.nek ce op) s = tells (decide (w.toInt ≠ op.toInt)) ∧
      exec (.gtk ce op) s = tells (decide (w.toInt > op.toInt)) ∧ exec (.gek ce op) s = tells (decide (w.toInt ≥ op.toInt)) ∧
      exec (.ltk ce op) s = tells (decide (w.toInt < op.toInt)) ∧ exec (.lek ce op) s = tells (decide (w.toInt ≤ op.toInt)) ∧
      exec (.gtuk ce op) s = tells (decide (w.toNat > op.toNat)) ∧ exec (.ltuk ce op) s = tells (decide (w.toNat < op.toNat))) ∧
    (∃ x, exec (.ldk ce op) s = .next x ∧ exec (.eqk ce op) s = tells (decide (w = (x.m.eng ce.val).wacc)) ∧
      exec (.nek ce op) s = tells (decide (w ≠ (x.m.eng ce.val).wacc))) ∧
    (okIword op 4 = true → s.hasWord ce op 4 →
      (exec (.eqi ce op) s = saysI (decide (w.toInt = v)) ∧ exec (.nei ce op) s = saysI (decide (w.toInt ≠ v)) ∧
        exec (.gti ce op) s = saysI (decide (w.toInt > v)) ∧ exec (.gei ce op) s = saysI (decide (w.toInt ≥ v)) ∧
        exec (.lti ce op) s = saysI (decide (w.toInt < v)) ∧ exec (.lei ce op) s = saysI (decide (w.toInt ≤ v)) ∧
        exec (.gtui ce op) s = saysI (decide (w.toNat > u)) ∧ exec (.ltui ce op) s = saysI (decide (w.toNat < u))) ∧
      ∃ x, exec (.lis32 ce op) s = .next x ∧ exec (.eqi ce op) s = saysI (decide (w = (x.m.eng ce.val).wacc)) ∧
        exec (.nei ce op) s = saysI (decide (w ≠ (x.m.eng ce.val).wacc)))

/-- The 64-bit instance operand instructions (R111): v the 8-byte field, aligned to 8; ADDD and SUBD change WACC, the compares ACC; 1 clock. -/
def Obligations.WideOperands : Prop :=
  ∀ (ce : Fin 8) (op : Operand) (s : State), s.canRun ce → okIword op 8 = true → s.hasWord ce op 8 →
    let w := (s.m.eng ce.val).wacc
    let y := (s.rx ce).iword op 8
    let v := y.1
    let put := fun (r : Word64) => Host.Outcome.next (s.ends (y.2.endE (fun e => { e with wacc := r }.on 1)))
    let tells := fun (b : Bool) => Host.Outcome.next (s.ends (y.2.endE (fun e => { e with acc := b }.on 1)))
    exec (.addd ce op) s = put (w + v) ∧ exec (.subd ce op) s = put (w - v) ∧
    exec (.eqd ce op) s = tells (decide (w = v)) ∧ exec (.ned ce op) s = tells (decide (w ≠ v)) ∧
    exec (.gtd ce op) s = tells (decide (w.toInt > v.toInt)) ∧ exec (.ltd ce op) s = tells (decide (w.toInt < v.toInt)) ∧
    exec (.gtud ce op) s = tells (decide (w.toNat > v.toNat)) ∧ exec (.ltud ce op) s = tells (decide (w.toNat < v.toNat))

/-- Words of image points and instance fields into WACC (R106, R107), zero- or sign-extended, in 1 clock beside the waits of the load: for
every aligned point; for every aligned field that lies in the partition's region or in LOCALS. -/
def Sys2Proof.Part.WordLoads : Prop :=
  ∀ (ce : Fin 8) (op : Operand) (s : State), s.canRun ce →
    let put := fun (y : Word64 × Rx) (v : Word64) => Host.Outcome.next (s.ends (y.2.endE (fun e => { e with wacc := v }.on 1)))
    let p := fun n => (s.rx ce).pword op n
    let f := fun n => (s.rx ce).iword op n
    (okPword op 1 = true → exec (.lw16 ce op) s = put (p 1) (p 1).1 ∧ exec (.lws16 ce op) s = put (p 1) (((p 1).1.setWidth 16).signExtend 64)) ∧
    (okPword op 2 = true → exec (.lw32 ce op) s = put (p 2) (p 2).1 ∧ exec (.lws32 ce op) s = put (p 2) (((p 2).1.setWidth 32).signExtend 64)) ∧
    (okPword op 4 = true → exec (.lw64 ce op) s = put (p 4) (p 4).1) ∧
    (okIword op 1 = true → s.hasWord ce op 1 → exec (.li8 ce op) s = put (f 1) (f 1).1 ∧ exec (.lis8 ce op) s = put (f 1) (((f 1).1.setWidth 8).signExtend 64)) ∧
    (okIword op 2 = true → s.hasWord ce op 2 → exec (.li16 ce op) s = put (f 2) (f 2).1 ∧ exec (.lis16 ce op) s = put (f 2) (((f 2).1.setWidth 16).signExtend 64)) ∧
    (okIword op 4 = true → s.hasWord ce op 4 → exec (.li32 ce op) s = put (f 4) (f 4).1 ∧ exec (.lis32 ce op) s = put (f 4) (((f 4).1.setWidth 32).signExtend 64)) ∧
    (okIword op 8 = true → s.hasWord ce op 8 → exec (.li64 ce op) s = put (f 8) (f 8).1)

/-- Arithmetic, logic and shifts by a 32-bit instance field (R108, R109): v the field as 32 bits, sign- or zero-extended as for the K
form; a shift takes bits [5:0] of the field. The field is aligned and lies in the partition's region or in LOCALS. -/
def Sys2Proof.Part.FieldArithmetic : Prop :=
  ∀ (ce : Fin 8) (op : Operand) (s : State), s.canRun ce → okIword op 4 = true → s.hasWord ce op 4 →
    let w := (s.m.eng ce.val).wacc
    let y := (s.rx ce).iword op 4
    let v := (y.1.setWidth 32).toInt
    let n := y.1.toNat % 64
    let put := fun (r : Word64) (clk : Nat) => Host.Outcome.next (s.ends (y.2.endE (fun e => { e with wacc := r }.on clk)))
    let putA := fun (r : Word64) (a : Bool) => Host.Outcome.next (s.ends (y.2.endE (fun e => { e with wacc := r, acc := a }.on 36)))
    exec (.addi ce op) s = put (BitVec.ofInt 64 (w.toInt + v)) 1 ∧ exec (.subi ce op) s = put (BitVec.ofInt 64 (w.toInt - v)) 1 ∧
    exec (.muli ce op) s = put (BitVec.ofInt 64 (w.toInt * v)) 3 ∧
    (v ≠ 0 → exec (.divi ce op) s = putA (BitVec.ofInt 64 (w.toInt.tdiv v)) true ∧ exec (.modi ce op) s = putA (BitVec.ofInt 64 (w.toInt.tmod v)) true) ∧
    exec (.andiW ce op) s = put (w &&& y.1) 1 ∧ exec (.oriW ce op) s = put (w ||| y.1) 1 ∧ exec (.xoriW ce op) s = put (w ^^^ y.1) 1 ∧
    exec (.shli ce op) s = put (BitVec.ofNat 64 (w.toNat * 2 ^ n)) 1 ∧ exec (.shri ce op) s = put (BitVec.ofNat 64 (w.toNat / 2 ^ n)) 1 ∧
    exec (.sari ce op) s = put (BitVec.ofInt 64 (w.toInt / 2 ^ n)) 1 ∧
    exec (.maxi ce op) s = put (BitVec.ofInt 64 (max w.toInt v)) 1 ∧ exec (.mini ce op) s = put (BitVec.ofInt 64 (min w.toInt v)) 1

/-- Words. -/
def Obligations.LoadsAndFieldArithmetic : Prop := Sys2Proof.Part.WordLoads ∧ Sys2Proof.Part.FieldArithmetic

/-- Bits of image points into ACC (R103), the point's number moved by an index prefix (R116): the bit comes by the image load of R71 and
R77; the quality by the quality read. Everything but ACC, the next instruction and what the load itself does stays. -/
def Sys2Proof.Part.PointBitLoads : Prop :=
  ∀ (ce : Fin 8) (op : Operand) (s : State), s.canRun ce →
    let a := (s.m.eng ce.val).acc
    let y := (s.rx ce).pbit op
    let put := fun (b : Bool) => Host.Outcome.next (s.ends (y.2.endE (fun e => { e with acc := b }.on 1)))
    exec (.ld ce op) s = put y.1 ∧ exec (.ldn ce op) s = put (!y.1) ∧
    exec (.and ce op) s = put (a && y.1) ∧ exec (.andn ce op) s = put (a && !y.1) ∧
    exec (.or ce op) s = put (a || y.1) ∧ exec (.orn ce op) s = put (a || !y.1) ∧
    exec (.xor ce op) s = put (xor a y.1) ∧
    (op.toNat % 16 < 4 →
      let q := (s.rx ce).quality ((opP op + (s.rx ce).index) % 2 ^ 20)
      ∃ b : Bool, (b = true ↔ q.1 = op.toNat % 4) ∧ exec (.ldq ce op) s = .next (s.ends (q.2.endE (fun e => { e with acc := b }.on 1))))

/-- What a bit load of an image point reads while the engine's store buffer is empty (R71, R73, R176): its partition's own output or
internal point from the working output image, any other point it may read from its front input image, and 0 from a point it may not read. -/
def Sys2Proof.Part.PointReadsImage : Prop :=
  ∀ (ce : Fin 8) (op : Operand) (s : State), s.canRun ce → (s.m.eng ce.val).sb = [] →
    let p := s.m.obj F.cePARTITION ce.val
    let pt := (opP op + (s.rx ce).index) % 2 ^ 20
    let ent := s.m.ownEnt s.ram pt
    let bitOf := fun (v : Nat) => v % 2 ^ 16 / 2 ^ (op.toNat % 16) % 2 == 1
    ∃ t, exec (.ld ce op) s = .next t ∧
      (t.m.eng ce.val).acc = (if mayRead ent p then
        (if fromWork ent p then bitOf (rd s.ram .work pt) else bitOf (rd s.ram .front (frontAt p pt))) else false) ∧
      t.ram = s.ram ∧
      (mayRead ent p = false → t.m.obj F.partREADS_DENIED p = min (s.m.obj F.partREADS_DENIED p + 1) (2 ^ F.partREADS_DENIED.bits - 1))

/-- Point bits. -/
def Obligations.PointBits : Prop := Sys2Proof.Part.PointBitLoads ∧ Sys2Proof.Part.PointReadsImage

/-- Stores of bits and words of image points (R103, R106): ACC, its negation, or 1 or 0 where ACC is 1; the low 16, 32 or 64 bits of WACC.
The value enters by the image store (R73, R76); nothing is stored where the condition fails. -/
def Sys2Proof.Part.PointStores : Prop :=
  ∀ (ce : Fin 8) (op : Operand) (s : State), s.canRun ce →
    let x := s.rx ce
    let put := fun (y : Rx) => Host.Outcome.next (s.ends (y.endE (fun e => e.on 1)))
    exec (.st ce op) s = put (x.pbitSt op x.e.acc) ∧
    exec (.stn ce op) s = put (x.pbitSt op (!x.e.acc)) ∧
    exec (.set ce op) s = put (if x.e.acc then x.pbitSt op true else x) ∧
    exec (.rst ce op) s = put (if x.e.acc then x.pbitSt op false else x) ∧
    (okPword op 1 = true → exec (.sw16 ce op) s = put (x.pwordSt op 1) ∧ exec (.swc16 ce op) s = put (if x.e.acc then x.pwordSt op 1 else x)) ∧
    (okPword op 2 = true → exec (.sw32 ce op) s = put (x.pwordSt op 2) ∧ exec (.swc32 ce op) s = put (if x.e.acc then x.pwordSt op 2 else x)) ∧
    (okPword op 4 = true → exec (.sw64 ce op) s = put (x.pwordSt op 4) ∧ exec (.swc64 ce op) s = put (if x.e.acc then x.pwordSt op 4 else x))

/-- A bit stored to a point the partition owns enters the store buffer, and its drain writes exactly that bit of the working output image
(R76, R103): with an empty buffer, ST and the drain of its entry give a state in which the point's bit is ACC, the point's other bits and
every other slot of the working image are as before. -/
def Sys2Proof.Part.StoredBitReachesImage : Prop :=
  ∀ (ce : Fin 8) (op : Operand) (s : State), s.canRun ce → (s.m.eng ce.val).sb = [] → (s.m.eng ce.val).idx = none →
    mayWrite (s.m.ownEnt s.ram (opP op)) (s.m.obj F.cePARTITION ce.val) = true →
    ∃ t, exec (.st ce op) s = .next t ∧ t.ram = s.ram ∧ (t.m.eng ce.val).sb.length = 1 ∧
      ∀ u : State, u.ram = t.ram → u.m.eng ce.val = { t.m.eng ce.val with run := 3 } →
        ∃ v, exec (.storeBufferDrain ce) u = .next v ∧ (v.m.eng ce.val).sb = [] ∧
          (∀ n, n < 16 → (rd v.ram .work (opP op)).testBit n =
            if n = op.toNat % 16 then (s.m.eng ce.val).acc else (rd s.ram .work (opP op)).testBit n) ∧
          ∀ a, a < 2 ^ 20 → a ≠ opP op → rd v.ram .work a = rd s.ram .work a

/-- Point stores. -/
def Obligations.PointStores : Prop := Sys2Proof.Part.PointStores ∧ Sys2Proof.Part.StoredBitReachesImage

/-- Bits of instance data into ACC, and the edge instructions (R104): the bit lies in the present record or the LOCALS area. -/
def Sys2Proof.Part.InstanceBitLoads : Prop :=
  ∀ (ce : Fin 8) (op : Operand) (s : State), s.canRun ce → okIbit op = true → s.hasBit ce op →
    let a := (s.m.eng ce.val).acc
    let y := (s.rx ce).ibit op
    let put := fun (b : Bool) => Host.Outcome.next (s.ends (y.2.endE (fun e => { e with acc := b }.on 1)))
    let edge := fun (b : Bool) => Host.Outcome.next (s.ends ((y.2.ibitSt op a).endE (fun e => { e with acc := b }.on 1)))
    exec (.ldi ce op) s = put y.1 ∧ exec (.ldni ce op) s = put (!y.1) ∧
    exec (.andi ce op) s = put (a && y.1) ∧ exec (.andni ce op) s = put (a && !y.1) ∧
    exec (.ori ce op) s = put (a || y.1) ∧ exec (.orni ce op) s = put (a || !y.1) ∧
    exec (.xori ce op) s = put (xor a y.1) ∧
    exec (.pe ce op) s = edge (a && !y.1) ∧ exec (.ne ce op) s = edge (y.1 && !a)

/-- Stores of bits and fields of instance data (R104, R107), where the record lies in the partition's region. -/
def Sys2Proof.Part.InstanceStores : Prop :=
  ∀ (ce : Fin 8) (op : Operand) (s : State), s.canRun ce →
    let x := s.rx ce
    let put := fun (y : Rx) => Host.Outcome.next (s.ends (y.endE (fun e => e.on 1)))
    (okIbit op = true → s.hasBit ce op →
      exec (.sti ce op) s = put (x.ibitSt op x.e.acc) ∧ exec (.stni ce op) s = put (x.ibitSt op (!x.e.acc)) ∧
      exec (.seti ce op) s = put (if x.e.acc then x.ibitSt op true else x) ∧ exec (.rsti ce op) s = put (if x.e.acc then x.ibitSt op false else x)) ∧
    (okIword op 1 = true → s.hasWord ce op 1 → exec (.si8 ce op) s = put (x.iwordSt op 1)) ∧
    (okIword op 2 = true → s.hasWord ce op 2 → exec (.si16 ce op) s = put (x.iwordSt op 2) ∧ exec (.sic16 ce op) s = put (if x.e.acc then x.iwordSt op 2 else x)) ∧
    (okIword op 4 = true → s.hasWord ce op 4 → exec (.si32 ce op) s = put (x.iwordSt op 4) ∧ exec (.sic32 ce op) s = put (if x.e.acc then x.iwordSt op 4 else x)) ∧
    (okIword op 8 = true → s.hasWord ce op 8 → exec (.si64 ce op) s = put (x.iwordSt op 8) ∧ exec (.sic64 ce op) s = put (if x.e.acc then x.iwordSt op 8 else x))

/-- A byte stored to LOCALS reads back, and no other byte of any memory changes (R74, R99, R107). -/
def Sys2Proof.Part.LocalsStore : Prop :=
  ∀ (ce : Fin 8) (op : Operand) (s : State), s.canRun ce → okIword op 1 = true → opLocal op = true → (s.m.eng ce.val).idx = none →
    let a := winAt ce.val ((s.m.eng ce.val).frames - 1) + 64 + opIword op
    ∃ t, exec (.si8 ce op) s = .next t ∧ rd t.ram .frame a = (s.m.eng ce.val).wacc.toNat % 256 ∧
      ∀ (sp : Space) (b : Nat), sp.key b ≠ Space.key .frame a → rd t.ram sp b = rd s.ram sp b

/-- Instance data. -/
def Obligations.InstanceData : Prop := Sys2Proof.Part.InstanceBitLoads ∧ Sys2Proof.Part.InstanceStores ∧ Sys2Proof.Part.LocalsStore

/-- Jumps (R113): forward by the distance in 2 clocks; a conditional jump not taken goes on in 1. -/
def Sys2Proof.Part.Jumps : Prop :=
  ∀ (ce : Fin 8) (op : Operand) (s : State), s.canRun ce →
    let jump := Host.Outcome.next (s.withEng ce (fun e => { e with pc := e.pc + op.toNat, clk := e.clk + 2, idx := none }))
    let go := Host.Outcome.next (s.withEng ce (fun e => e.on 1))
    exec (.jmp ce op) s = jump ∧
    exec (.jmpc ce op) s = (if (s.m.eng ce.val).acc then jump else go) ∧
    exec (.jmpn ce op) s = (if (s.m.eng ce.val).acc then go else jump)

/-- Counted loops and the index prefix (R114, R116): LPI stores its count; LOOP takes its counter v down and back d instructions while v
is above 1, ends at 1 with the counter 0, and faults LOOP_COUNT at 0; IDX holds the field as an unsigned index, with its maximum, for the
next instruction. -/
def Sys2Proof.Part.LoopsAndIndex : Prop :=
  ∀ (ce : Fin 8) (op : Operand) (s : State), s.canRun ce →
    let x := s.rx ce
    let f := op.toNat % 2 ^ 12
    let hi := op.toNat / 2 ^ 12
    let y := x.fieldLoad f
    (s.hasField ce f → exec (.lpi ce op) s = .next (s.ends ((x.fieldStore f hi).endE (fun e => e.on 1)))) ∧
    (s.hasField ce f → 1 < y.1 →
      exec (.loop ce op) s = .next (s.ends ((y.2.fieldStore f (y.1 - 1)).endE (fun e => { e with
        pc := (s.m.eng ce.val).pc - hi
        clk := e.clk + 3
        idx := none })))) ∧
    (s.hasField ce f → y.1 = 1 →
      exec (.loop ce op) s = .next (s.ends ((y.2.fieldStore f 0).endE (fun e => e.on 2)))) ∧
    (s.hasField ce f → y.1 = 0 →
      exec (.loop ce op) s = .next { s with
        ram := wr s.ram (s.m.solveFault s.ram x.p 8 ce.val x.e.task x.e.pc).2
        m := { (s.m.solveFault s.ram x.p 8 ce.val x.e.task x.e.pc).1 with now := s.m.now } }) ∧
    (let z := x.fieldLoad hi
     s.hasField ce hi → exec (.idx ce op) s = .next (s.ends (z.2.endE (fun e => { e.on 1 with idx := some (z.1, f) }))))

/-- Control flow. -/
def Obligations.JumpsAndLoops : Prop := Sys2Proof.Part.Jumps ∧ Sys2Proof.Part.LoopsAndIndex

/-- A run-time fault (R91, R121): an instruction with an index above its declared maximum, or with non-zero reserved operand bits, has
none of its effect: the partition, RUNNING before, is in FAULT with the cause, the engine, the task and the program counter, every engine
of it stops and its store buffers are drained; only FETCH fences the engine. -/
def Obligations.RunTimeFaults : Prop :=
  ∀ (ce : Fin 8) (op : Operand) (s : State) (i mx p : Nat), (s.m.eng ce.val).run = 1 → (s.m.eng ce.val).stack.length ≤ 32 →
    s.m.obj F.cePARTITION ce.val = p → p < 8 → s.m.obj F.partSTATE p = 1 →
    let faulted := fun (t : State) (cause : Nat) =>
      t.m.obj F.partSTATE p = 3 ∧ t.m.obj F.partFAULT_CAUSE p = cause ∧ t.m.obj F.partFAULT_CE p = ce.val ∧
      t.m.obj F.partFAULT_TASK p = (s.m.eng ce.val).task % 2 ^ F.partFAULT_TASK.bits ∧
      t.m.obj F.partFAULT_PC p = (s.m.eng ce.val).pc % 2 ^ F.partFAULT_PC.bits ∧
      (t.m.eng ce.val).run = 0 ∧ (t.m.eng ce.val).sb = [] ∧
      (t.m.eng ce.val).acc = (s.m.eng ce.val).acc ∧ (t.m.eng ce.val).wacc = (s.m.eng ce.val).wacc
    ((s.m.eng ce.val).idx = some (i, mx) → mx < i → ∃ t, exec (.ld ce op) s = .next t ∧ faulted t 7 ∧
      t.m.obj F.ceSTATE ce.val = s.m.obj F.ceSTATE ce.val) ∧
    (op ≠ 0#24 → ∃ t, exec (.not ce op) s = .next t ∧ faulted t 9 ∧ t.m.obj F.ceSTATE ce.val = 2)

/-- END at a task root starts the next task of the Call sheet with ACC 0, WACC 0 and an empty branch stack, 13 clocks on (R90, R101, R113);
after the last task Solve ends: the store buffer is drained, and 8 clocks later the engine is done and has counted its Solve (R83, R90). -/
def Sys2Proof.Part.TaskEnd : Prop :=
  ∀ (ce : Fin 8) (s : State), s.canRun ce → (s.m.eng ce.val).frames ≤ 1 →
    (∀ k r, (s.m.eng ce.val).todo = k :: r → ∃ t, exec (.endTask ce 0#24) s = .next t ∧
      t.m.eng ce.val = { s.m.eng ce.val with
        acc := false
        wacc := 0#64
        stack := []
        idx := none
        task := k
        todo := r
        pc := s.m.taskEntry k ce.val
        frames := 1
        oldest := 0
        clk := (s.m.eng ce.val).clk + 13 } ∧
      ∀ (sp : Space) (a : Nat), (∀ i, i < 64 → sp.key a ≠ Space.key .frame (winAt ce.val 0 + i)) → rd t.ram sp a = rd s.ram sp a) ∧
    ((s.m.eng ce.val).todo = [] → ∃ t, exec (.endTask ce 0#24) s = .next t ∧
      (t.m.eng ce.val).run = 3 ∧ (t.m.eng ce.val).sb = [] ∧ (t.m.eng ce.val).frames = 0 ∧
      (s.m.eng ce.val).clk + 9 ≤ (t.m.eng ce.val).clk ∧ ((s.m.eng ce.val).sb = [] → (t.m.eng ce.val).clk = (s.m.eng ce.val).clk + 9) ∧
      t.m.obj F.ceSOLVES ce.val = (s.m.obj F.ceSOLVES ce.val + 1) % 2 ^ F.ceSOLVES.bits)

/-- CALL of a composed block (R119): 8 clocks, a new frame over the caller's, ACC and WACC unchanged, the branch stack empty, execution at
the descriptor's entry; its END restores the caller's branch stack and goes on after the CALL in 4 clocks, ACC and WACC as the block
left them. Stated where no window has to be spilled (R84). -/
def Sys2Proof.Part.CallAndReturn : Prop :=
  ∀ (ce : Fin 8) (op : Operand) (s : State) (id entry base : Nat), s.canRun ce →
    let e := s.m.eng ce.val
    (s.rx ce).descriptor op.toNat = some (id, entry, base) → entry ≠ 0xFFFFFFFF → e.pc + 1 < 2 ^ 32 →
    1 ≤ e.frames → e.oldest + 1 ≤ e.frames → e.frames < e.oldest + 15 →
    ∃ t, exec (.call ce op) s = .next t ∧
      t.m.eng ce.val = { e with pc := entry, clk := e.clk + 8, idx := none, frames := e.frames + 1, stack := [] } ∧
      ∀ u : State, u.ram = t.ram → u.m.eng ce.val = t.m.eng ce.val →
        ∃ v, exec (.endTask ce 0#24) u = .next v ∧
          v.m.eng ce.val = { e with pc := e.pc + 1, clk := e.clk + 12, idx := none } ∧ v.ram = u.ram

/-- CALL of a native block (R119, R128): 8 clocks, its frame, its body on the record at the descriptor's offset, its return; stated for a
record that lies in the partition's region, and where no window has to be spilled (R74, R84). -/
def Sys2Proof.Part.NativeCall : Prop :=
  ∀ (ce : Fin 8) (op : Operand) (s : State) (id base size clk : Nat), s.canRun ce →
    let e := s.m.eng ce.val
    (s.rx ce).descriptor op.toNat = some (id, 0xFFFFFFFF, base) → nativeSize id = some (size, clk) →
    base + size ≤ s.m.obj F.partINST_SIZE (s.m.obj F.cePARTITION ce.val) → 1 ≤ e.frames → e.oldest + 1 ≤ e.frames → e.frames < e.oldest + 15 →
    let x := ((((s.rx ce).wait 8).push 2 base id).native id base).ret
    exec (.call ce op) s = .next (s.ends x)

/-- Tasks and calls. -/
def Obligations.TasksAndCalls : Prop := Sys2Proof.Part.TaskEnd ∧ Sys2Proof.Part.CallAndReturn ∧ Sys2Proof.Part.NativeCall

/-- SYNC (R81): the buffer drains; the engine's first SYNC of a barrier in the cycle is its arrival, and it waits; after the release a
SYNC of that barrier costs 6 clocks more. ACC, WACC and the branch stack are unchanged. -/
def Sys2Proof.Part.BarrierArrival : Prop :=
  ∀ (ce : Fin 8) (op : Operand) (s : State), s.canRun ce → op.toNat < 64 →
    let e := s.m.eng ce.val
    let p := s.m.obj F.cePARTITION ce.val
    let drained := ((s.rx ce).drainAll).e.clk
    ∃ t, exec (.sync ce op) s = .next t ∧
      (t.m.eng ce.val).sb = [] ∧ (t.m.eng ce.val).acc = e.acc ∧ (t.m.eng ce.val).wacc = e.wacc ∧ (t.m.eng ce.val).stack = e.stack ∧
      (t.m.eng ce.val).pc = e.pc + 1 ∧
      (op.toNat ∈ (s.m.part p).released → (t.m.eng ce.val).run = 1 ∧ (t.m.eng ce.val).clk = drained + 6) ∧
      (op.toNat ∉ (s.m.part p).released → (t.m.eng ce.val).run = 2 ∧ (t.m.eng ce.val).waitAt = some (op.toNat, drained) ∧
        bit (alook 0 (t.m.part p).barriers op.toNat) ce.val = true)

/-- BARRIER_RELEASE (R81): when every participating engine has arrived, each engine waiting at the barrier goes on 6 clocks after the last
arrival; the barrier counts as released. -/
def Sys2Proof.Part.BarrierRelease : Prop :=
  ∀ (t : Nat) (p : Fin 8) (b : Fin 64) (s : State) (clk : Nat), (s.m.upTo t).releaseClk p.val b.val = some clk →
    ∃ u, exec (.barrierRelease t p b) s = .next u ∧ b.val ∈ (u.m.part p.val).released ∧ u.ram = s.ram ∧
      ∀ (c a : Nat), c ∈ s.m.enginesOf p.val → (s.m.eng c).waitAt = some (b.val, a) → (s.m.eng c).run = 2 →
        a + 6 ≤ clk ∧ (u.m.eng c).run = 1 ∧ (u.m.eng c).waitAt = none ∧ (u.m.eng c).clk = clk

/-- BARRIER_TIMEOUT (R91): a barrier of a solving RUNNING partition, not released by twice its loader release time, puts the partition into
FAULT with cause 5 and fences every participating engine that has not arrived. -/
def Sys2Proof.Part.BarrierTimeout : Prop :=
  ∀ (t : Nat) (p : Fin 8) (b : Fin 64) (s : State) (plan : FencePlan),
    let x := s.m.part p.val
    s.m.obj F.partSTATE p.val = 1 → x.solves = true → x.phase = 2 → b.val ∉ x.released → x.plan = some plan →
    x.solveAt * 4 + 2 * alook 0 plan.rel b.val * 5 ≤ max s.m.now t * 4 →
    ∀ c, c ∈ s.m.participants p.val b.val → bit (alook 0 x.barriers b.val) c = false →
      ∃ u, exec (.barrierTimeout t p b) s = .next u ∧ u.m.obj F.partSTATE p.val = 3 ∧ u.m.obj F.partFAULT_CAUSE p.val = 5 ∧
        u.m.obj F.ceSTATE c = 2 ∧ u.m.obj F.ceFENCE_CAUSE c = 4

/-- Engines (R92, R94, R97, R98): a passed self-test slice is counted, a failed one fences the engine with cause 1; CE_FENCE fences with
cause 5; CE_RETEST starts a retest of a fenced engine, and its pass brings the engine back with no fence cause, its failure leaves it
fenced. -/
def Sys2Proof.Part.EngineService : Prop :=
  ∀ (t : Nat) (ce : Fin 8) (msg : Msg) (s : State) (is : List Item),
    let n := ce.val
    let c := cmdOf msg s is
    (s.m.obj F.ceSTATE n = 1 → (s.m.eng n).slice ≠ 0 →
      Completes (.selfTestSliceEnd t ce true) s (fun u => u.m.obj F.ceSLICES n = (s.m.obj F.ceSLICES n + 1) % 2 ^ F.ceSLICES.bits ∧
        (u.m.eng n).slice = 0 ∧ u.m.obj F.ceSTATE n = 1) ∧
      Completes (.selfTestSliceEnd t ce false) s (fun u => u.m.obj F.ceSTATE n = 2 ∧ u.m.obj F.ceFENCE_CAUSE n = 1)) ∧
    (Accepts ceFenceCard msg s is → c.num 1 = n → (s.m.mayCe c.owner n) = true → s.m.obj F.ceSTATE n = 1 →
      s.m.obj F.cePARTITION n < 8 → s.m.fenceFaults (s.m.obj F.cePARTITION n) (setBit (s.m.fencedOf (s.m.obj F.cePARTITION n)) n true) = false →
      Completes (.ceFence msg) s (fun u => u.m.obj F.ceSTATE n = 2 ∧ u.m.obj F.ceFENCE_CAUSE n = 5 ∧
        ∃ out, out ≤ 1 ∧ Replied u msg stDONE [itm 1 1 out])) ∧
    (Accepts ceRetestCard msg s is → c.num 1 = n → (s.m.mayCe c.owner n) = true → s.m.obj F.ceSTATE n = 2 →
      Completes (.ceRetest msg) s (fun u => Replied u msg stSTARTED [] ∧ u.m.obj F.ceSTATE n = 3 ∧
        (u.m.eng n).retest = some (some (msg.queue, msg.seq)))) ∧
    (∀ q sq, (s.m.eng n).retest = some (some (q, sq)) → s.m.obj F.cePARTITION n < 8 →
      Completes (.ceRetestDone t ce true) s (fun u => u.m.obj F.ceSTATE n = 1 ∧ u.m.obj F.ceFENCE_CAUSE n = 0 ∧ (u.m.eng n).retest = none) ∧
      Completes (.ceRetestDone t ce false) s (fun u => u.m.obj F.ceSTATE n = 2 ∧ (u.m.eng n).retest = none))

/-- Barriers and the service of engines. -/
def Obligations.BarriersAndEngines : Prop := Sys2Proof.Part.BarrierArrival ∧ Sys2Proof.Part.BarrierRelease ∧ Sys2Proof.Part.BarrierTimeout ∧ Sys2Proof.Part.EngineService

/-! ### Time, cycle, partitions -/

/-- Network time (R28, R30, R33, R35, R54, R64): an offset within ±100 ns measured in the module's domain makes the module LOCKED and is
removed by a slew of 1 ns in 20 µs that leaves GZ time at the instant as it is; the best master clock algorithm picks this module where it
may lead and outranks every grandmaster heard, and the grandmaster announced where it outranks the others; the loss of the grandmaster and the
holdover limit move the time state and the validity; GZ time is saved every 60 s; the operating-second counter advances each whole second
and saturates, and with it the seconds in service of a cartridge; a step whose partitions have all re-phased is complete. -/
def Sys2Proof.Part.TimeEvents : Prop :=
  ∀ (t : Nat) (s : State),
    (∀ sync : SyncMsg, s.m.obj F.timeTIME_STATE = 1 ∨ s.m.obj F.timeTIME_STATE = 4 → sync.domain = s.m.obj F.timeDOMAIN →
      -7 ≤ sync.log → sync.log ≤ 0 → s.m.time.stepping = none → sync.offset.natAbs ≤ 100 →
      Completes (.gptpSync t sync) s (fun u => u.m.obj F.timeTIME_STATE = 1 ∧ u.m.obj F.timeGZ_VALID = 1 ∧
        (u.m.obj F.timeOFFSET_NS : Int) = sync.offset % 2 ^ 32 ∧ u.m.gzAt (s.at_ t) = s.m.gzAt (s.at_ t) ∧
        ∀ d, 20000 * sync.offset.natAbs ≤ d → u.m.time.gzOff + u.m.slewed (s.at_ t + d) = s.m.time.gzOff + s.m.slewed (s.at_ t) + sync.offset)) ∧
    (∀ a : Announce, a.domain = s.m.obj F.timeDOMAIN → a.identity ≠ s.m.obj F.modSERIAL →
      let heard := a :: s.m.time.heard.filter (fun b => b.identity != a.identity)
      (s.m.obj F.timeGM_CAPABLE = 1 → (∀ b ∈ heard, ranksBefore s.m.ownRank (rankOf b) = true) →
        Completes (.gptpAnnounce t a) s (fun u => u.m.time.heard = heard ∧ u.m.obj F.timeTIME_STATE = 3 ∧
          u.m.obj F.timeGM_IDENTITY = s.m.obj F.modSERIAL % 2 ^ 64 ∧ (s.m.time.received = true → u.m.obj F.timeGZ_VALID = 1))) ∧
      (s.m.obj F.timeGM_CAPABLE = 0 → (∀ b ∈ heard, ranksBefore (rankOf b) (rankOf a) = false) → a.identity < 2 ^ 64 →
        s.m.obj F.timeTIME_STATE = 0 → Completes (.gptpAnnounce t a) s (fun u => u.m.time.heard = heard ∧
          u.m.obj F.timeTIME_STATE = 4 ∧ u.m.obj F.timeGM_IDENTITY = a.identity))) ∧
    (s.m.obj F.timeTIME_STATE = 1 → (∀ b ∈ s.m.time.heard, b.identity = s.m.obj F.timeGM_IDENTITY) →
      Completes (.grandmasterLost t) s (fun u => u.m.time.heard = [] ∧ u.m.time.leftAt = some (s.at_ t) ∧
        (s.m.obj F.timeGM_CAPABLE = 0 → u.m.obj F.timeTIME_STATE = 2 ∧ u.m.obj F.timeGM_IDENTITY = 0) ∧
        (s.m.obj F.timeGM_CAPABLE = 1 → u.m.obj F.timeTIME_STATE = 3))) ∧
    (∀ a, s.m.obj F.timeTIME_STATE = 2 → s.m.time.leftAt = some a → a + s.m.obj F.timeHOLDOVER_LIMIT * 10 ^ 9 ≤ s.at_ t →
      Completes (.holdoverLimitExpiry t) s (fun u => u.m.obj F.timeGZ_VALID = 0 ∧ u.m.obj F.timeTIME_STATE = 2)) ∧
    (s.m.time.savedAt + 60 * 10 ^ 9 ≤ s.at_ t → Completes (.gzTimeSave t) s (fun u => u.m.time.saved = s.m.gzAt (s.at_ t) ∧
      u.m.time.savedAt = s.at_ t)) ∧
    (s.m.sys.off = false → s.m.time.secAt + 10 ^ 9 ≤ s.at_ t → Completes (.operatingSecond t) s (fun u =>
      u.m.time.opSeconds = min (s.m.time.opSeconds + 1) (2 ^ 32 - 1) ∧ u.m.time.secAt = s.m.time.secAt + 10 ^ 9 ∧
      (s.m.svc.cartIn = true → s.m.gauge.ageS = 3599 → s.m.obj F.gaugeAGE_H < 2 ^ 32 - 1 →
        u.m.obj F.gaugeAGE_H = s.m.obj F.gaugeAGE_H + 1 ∧ u.m.gauge.ageS = 0))) ∧
    (s.m.sys.off = true ∨ s.at_ t < s.m.time.secAt + 10 ^ 9 → exec (.operatingSecond t) s = .next { s with m := s.m.upTo t }) ∧
    (∀ x, s.m.time.stepping = some x → x.waiting = [] → Completes (.timeStepComplete t) s (fun u => u.m.time.stepping = none ∧
      u.m.time.gzOff = s.m.time.gzOff))

/-- Module identities (R25): a second device under this module's own ID raises ID_CONFLICT; it clears when no other has announced the ID
for 10 s. -/
def Sys2Proof.Part.ModuleIdentities : Prop :=
  ∀ (t device : Nat) (s : State), let id := s.m.obj F.modMODULE_ID
    (device ≠ s.m.obj F.modSERIAL → (device = s.m.obj F.pairPARTNER_SERIAL → s.m.obj F.pairROLE_HOME = 0) → s.m.idClash id = false →
      Completes (.moduleIdAnnounce t id device) s (fun u => u.m.obj F.modID_CONFLICT = 1 ∧ (id, device, s.at_ t) ∈ u.m.time.announcers)) ∧
    ((∀ a ∈ s.m.time.announcers, a.1 = id → a.2.2 + 10 * 10 ^ 9 ≤ s.at_ t) →
      Completes (.idConflictClear t id) s (fun u => u.m.obj F.modID_CONFLICT = 0 ∧ u.m.idClash id = false))

/-- TIME_GET, TIME_SET, MODULE_IDENTIFY and its expiry (R63, R64, R608): one capture of the counters; a step of GZ time by a GRANDMASTER,
DONE and by a slew up to 1 µs, STARTED and at once beyond; the identification display for SECONDS, 10 by default. -/
def Sys2Proof.Part.TimeCommands : Prop :=
  ∀ (msg : Msg) (s : State) (is : List Item), let c := cmdOf msg s is
    (Accepts timeGetCard msg s is → Completes (.timeGet msg) s (fun u => Replied u msg stDONE
      [itm 1 8 (s.m.gzAt (s.at_ msg.t)), itm 2 4 s.m.time.opSeconds, itm 3 4 s.m.time.powerCycles, itm 4 1 (s.m.obj F.timeTIME_STATE),
       itm 5 1 (s.m.obj F.timeGZ_VALID), itm 6 4 (s.m.obj F.timeOFFSET_NS)])) ∧
    (Accepts timeSetCard msg s is → s.m.obj F.timeTIME_STATE = 3 → s.m.time.stepping = none →
      let gz := s.m.gzAt (s.at_ msg.t)
      let size : Int := if c.has 1 then (c.num 1 : Int) - gz else sint 64 (c.num 2)
      0 ≤ gz + size → gz + size < 2 ^ 63 →
      let off := s.m.time.gzOff + s.m.slewed (s.at_ msg.t)
      Completes (.timeSet msg) s (fun u => u.m.obj F.timeGZ_VALID = 1 ∧
        (size.natAbs ≤ 1000 → Replied u msg stDONE [itm 1 8 (uint 64 size)] ∧ u.m.time.gzOff = off ∧ u.m.time.slew = size ∧
          u.m.time.slewAt = s.at_ msg.t) ∧
        (1000 < size.natAbs → Replied u msg stSTARTED [itm 1 8 (uint 64 size)] ∧ u.m.time.stepping.isSome = true ∧
          u.m.time.gzOff = off + size ∧ u.m.time.slew = 0 ∧ u.m.obj F.timeLAST_STEP_NS = uint 64 size))) ∧
    (Accepts moduleIdentifyCard msg s is → s.m.sys.window = none → c.num 1 10 ≠ 0 →
      Completes (.moduleIdentify msg) s (fun u => Replied u msg stDONE [] ∧ u.m.sys.identify = some (s.at_ msg.t + c.num 1 10 * 10 ^ 9))) ∧
    (∀ t e, s.m.sys.identify = some e → e ≤ s.at_ t → Completes (.identifyExpiry t) s (fun u => u.m.sys.identify = none))

/-- Time and identity. A slew counts in whole nanoseconds (log 8); the ranking of grandmasters is PRESUMED (log 44); the hours in service of a cartridge are counted in operating seconds (log 61). -/
def Obligations.TimeAndIdentity : Prop := Sys2Proof.Part.TimeEvents ∧ Sys2Proof.Part.ModuleIdentities ∧ Sys2Proof.Part.TimeCommands

/-- A due Clapper (R621), with every other partition whose Clapper falls on the same edge: the sequencers, the state commands and the
demotion due; then the outputs published for them are applied to the local units; then the cycles cut short; then every input and status slot
is latched; then what happens beside, the withheld Publish, the online change. Each step works on what the step before it left. A Clapper
advances CYCLE_NUMBER by one modulo 2^64, and the first one of a partition is number 0 (R39). -/
def Obligations.ClapperOrder : Prop :=
  ∀ (t : Nat) (p : Fin 8) (ci : ClapIn) (s : State), (s.m.upTo t).clapDue p.val = true → s.m.sys.changeAsk = none →
    let m := s.m.upTo t
    let ps := (List.range 8).filter m.clapDue
    let busy := fun q => m.stillSolving q
    let held := fun q => (m.part q).withheld.isSome
    p.val ∈ ps ∧
    (∀ q ∈ ps, ((m.clapSeq q).part q).clapAt = s.at_ t ∧ ((m.clapSeq q).part q).clapped = true ∧
      ((m.clapSeq q).part q).cycle = (if (s.m.part q).clapped then ((s.m.part q).cycle + 1) % 2 ^ 64 else 0)) ∧
    Completes (.clapper t p ci) s (fun u =>
      let a := chain (ps.flatMap (fun q => [onM (fun m => m.clapSeq q), fun r m => if busy q || held q then (m, []) else m.partDue r q]) ++
        [fun r m => m.clapDemote r]) s.ram m
      let r1 := wr s.ram a.2
      let b := chain (ps.flatMap (fun q => Mach.clapApply q ci) ++ [onRM (fun r m => m.startAdmission r)]) r1 a.1
      let r2 := wr r1 b.2
      let c := chain (ps.map (fun q r k => if busy q && held q then
        k.overrunCut r q (((m.part q).cycle + 2 ^ 64 - 1) % 2 ^ 64) (((m.part q).withheld).getD m.now) else (k, []))) r2 b.1
      let r3 := wr r2 c.2
      let d := chain (ps.flatMap (fun q => Mach.clapLatch q (m.part q).clapAt ci)) r3 c.1
      let r4 := wr r3 d.2
      let e := chain (ps.flatMap (fun q => [onM (fun k => k.clapRest q), onM (fun k => k.updPart q (fun x => { x with skipped := busy q || held q })),
        fun r k => if held q && !busy q && (k.part q).withheld.isSome then k.publish r q true else (k, []), fun r k => k.changeDue r])) r4 d.1
      (e.1.sys.changeAsk = none → u.m = { e.1 with now := s.at_ t } ∧ u.ram = wr r4 e.2) ∧ u.pending = s.pending)

/-- IMAGE_SWAP (R49, R50): at the gather deadline the cycle goes on to Solve, and for a partition that does not solve in this cycle the
front input image and its quality become what the back image holds. -/
def Sys2Proof.Part.ImageSwap : Prop :=
  ∀ (t : Nat) (p : Fin 8) (s : State),
    let x := s.m.part p.val
    s.ramOk = true → x.phase = 1 → x.clapAt + s.m.obj F.cycG_NS p.val ≤ s.at_ t + 2000 → s.m.obj F.partSTATE p.val ≠ 1 →
    Completes (.imageSwap t p) s (fun u => (u.m.part p.val).phase = 2 ∧ (u.m.part p.val).solveAt = max (s.at_ t) (x.clapAt + s.m.obj F.cycG_NS p.val) ∧
      ∀ a, a < 2 ^ 20 → rd u.ram .front (p.val * 2 ^ 20 + a) = rd u.ram .back (p.val * 2 ^ 20 + a) ∧
        rd u.ram .frontQ (p.val * 2 ^ 20 + a) = rd u.ram .backQ (p.val * 2 ^ 20 + a))

/-- The end of Solve (R50): Effects and Take, then Publish or the overrun, then the sequencer stands at the end of Take; an online change
due then takes place. A cycle whose engines still solve is left alone. The publish deadline of a withheld cycle (R51): Solve still unfinished is
a fault with cause 6. -/
def Sys2Proof.Part.SolveEnd : Prop :=
  ∀ (t : Nat) (p : Fin 8) (s : State),
    let m := s.m.upTo t
    let solved := s.m.obj F.partSTATE p.val == 1 && (s.m.part p.val).solves
    ((s.m.part p.val).phase = 2 → (solved && m.enginesBusy p.val) = false →
      Completes (.solveComplete t p) s (fun u =>
        let a := m.effectsTake s.ram p.val solved
        let r1 := wr s.ram a.2
        let b := if a.1.mode = 0xFF then (a.1, []) else a.1.publishOrHold r1 p.val solved
        let c := b.1.updPart p.val (fun y => { y with phase := 3 })
        let d := c.changeDue (wr r1 b.2)
        u.m = { d.1 with now := s.at_ t } ∧ u.ram = wr (wr r1 b.2) d.2 ∧ (c.part p.val).phase = 3)) ∧
    ((s.m.part p.val).phase = 2 → (solved && m.enginesBusy p.val) = true →
      Completes (.solveComplete t p) s (fun u => u.m.parts = s.m.parts ∧ u.ram = s.ram)) ∧
    (∀ d, (s.m.part p.val).withheld = some d → d ≤ s.at_ t → s.m.obj F.partSTATE p.val = 1 →
      Completes (.overrunPublishDeadline t p) s (fun u => u.m.obj F.partSTATE p.val = 3 ∧ u.m.obj F.partFAULT_CAUSE p.val = 6 ∧
        (u.m.part p.val).withheld = none))

/-- Swap and end of Solve. Solve, Effects and Take end at the instant of SOLVE_COMPLETE (log 50). -/
def Obligations.SwapAndSolveEnd : Prop := Sys2Proof.Part.ImageSwap ∧ Sys2Proof.Part.SolveEnd

/-- State commands of a partition (R183, R185 to R187): an accepted PART_START, PART_HALT or PART_STOP that changes the state is held until
the partition's Clapper, and answered DONE; violations not yet reported are summed up in a record once a second (R177). -/
def Obligations.PartitionCommands : Prop :=
  ∀ (msg : Msg) (s : State) (is : List Item),
    let c := cmdOf msg s is
    let p := c.num 1
    let st := s.m.obj F.partSTATE p
    let mine := (isSys c.owner || c.owner == p) = true
    let held := fun (u : State) (kind : Nat) => (u.m.part p).cmd = some ⟨kind⟩ ∧ u.m.obj F.partSTATE p = st ∧ ∃ v, Replied u msg stDONE [itm 1 8 v]
    (Accepts partStartCard msg s is → mine → (s.m.part p).cmd = none → s.m.hasEngine p = true → c.num 2 ≤ 1 →
      (st = 0 ∧ c.num 2 = 0 ∨ st = 2) → Completes (.partStart msg) s (fun u => held u (c.num 2))) ∧
    (Accepts partHaltCard msg s is → mine → (s.m.part p).cmd = none → st = 1 → Completes (.partHalt msg) s (fun u => held u 2)) ∧
    (Accepts partStopCard msg s is → mine → (s.m.part p).cmd = none → st ≠ 0 → Completes (.partStop msg) s (fun u => held u 3)) ∧
    ∀ (t : Nat) (k : Fin 8), (s.m.part k.val).vioWrites + (s.m.part k.val).vioReads ≠ 0 →
      ((s.m.part k.val).vioAt.all (fun a => decide (a + 10 ^ 9 ≤ s.at_ t))) = true →
      Completes (.violationSummary t k) s (fun u => (u.m.part k.val).vioWrites = 0 ∧ (u.m.part k.val).vioReads = 0 ∧
        (u.m.part k.val).vioAt = some (s.at_ t))

/-- Plant publications (R57, R59): a complete single-fragment set of a subscribed list, the first one heard, stands ready for its reader's
Clapper; a list of which nothing has been latched for 3 × P_A is marked, so that its points read BAD. -/
def Obligations.PlantPublications : Prop :=
  ∀ (t : Nat) (s : State) (k : Pkg) (l : SubList), s.m.cfg = some k → k.subs = [l] →
    (∀ f : PubFrame, s.m.sys.off = false → (s.m.upTo t).plantPorts.contains f.port.val = true → s.m.macPass f.port f.secured = true →
      f.etherType = s.m.sys.pubType → f.version = 1 → 1 ≤ f.entryCount → f.entryCount ≤ 640 → f.values.length = f.entryCount →
      f.quality.length = f.entryCount → f.index = 0 → f.last = true → f.moduleId = l.moduleId → f.partition = l.partition →
      f.listHash = l.hash → (ug {} s.m.subs 0).asm = none → (ug {} s.m.subs 0).ready = [] → (ug {} s.m.subs 0).last = none →
      Completes (.publicationFrame t f) s (fun u => (ug {} u.m.subs 0).asm = none ∧ (ug {} u.m.subs 0).mismatch = false ∧
        (ug {} u.m.subs 0).ready = [⟨f.startCount % 256, f.cycle, f.validFrom, s.at_ t,
          ((f.values.zip f.quality).zip (List.range f.values.length)).map (fun e => (f.firstEntry + e.2, e.1.1 % 2 ^ 16, e.1.2 % 4))⟩])) ∧
    (((ug {} s.m.subs 0).last.all (fun x => decide (x.2 + 3 * (l.periodM * 125000) ≤ s.at_ t))) = true →
      Completes (.publicationAbsent t 0) s (fun u => (ug {} u.m.subs 0).bad = true ∧ (ug {} u.m.subs 0).last = (ug {} s.m.subs 0).last))

/-- Modes and resets by command (R540, R548 to R550, R561): MODE_SET out of RUN under PRESENCE_REQ opens a presence window of 30 s; a MODULE
reset is due after the delay of R549; a PARTITION reset and a quiescing are STARTED; a quiescing that ends in time holds for 10 s, a block
reset is answered when the block has restarted, and both end. -/
def Sys2Proof.Part.ModeCommands : Prop :=
  ∀ (msg : Msg) (s : State) (is : List Item),
    let c := cmdOf msg s is
    (Accepts modeSetCard msg s is → s.m.mode = 1 → (c.num 1 = 0 ∨ c.num 1 = 5) → s.m.obj F.powPOWER_STATE ≠ 1 →
      s.m.obj F.secLIFECYCLE = 2 → s.m.obj F.secTAINTED = 0 → s.m.sys.window = none → s.m.svc.load = none → s.m.obj F.modePRESENCE_REQ ≠ 0 →
      s.m.windowOpen = false →
      Completes (.modeSet msg) s (fun u => Replied u msg stSTARTED [] ∧ u.m.mode = 1 ∧
        u.m.sys.window = some ⟨.mode (c.num 1), msg.queue, msg.seq, s.at_ msg.t + 30 * 10 ^ 9⟩)) ∧
    (Accepts resetCard msg s is → c.num 1 = 0 → isSys c.owner = true →
      Completes (.reset msg) s (fun u => Replied u msg stDONE [] ∧
        u.m.sys.resetDue = some (s.at_ msg.t + (s.m.intake msg).resetDelay, 5))) ∧
    (Accepts blockQuiesceCard msg s is → c.num 1 ∉ s.m.sys.hung →
      Completes (.blockQuiesce msg) s (fun u => Replied u msg stSTARTED [] ∧
        u.m.sys.quiescing = s.m.sys.quiescing ++ [(c.num 1, s.at_ msg.t, msg.queue, msg.seq)])) ∧
    ∀ (t b : Nat),
      (∀ e, s.m.sys.quiescing.find? (fun e => e.1 == b) = some e →
        Completes (.quiesceDone t b false) s (fun u => u.m.sys.quiescing = s.m.sys.quiescing.erase e ∧
          alook 0 u.m.sys.quiesced b = s.at_ t + 10 * 10 ^ 9)) ∧
      Completes (.quiesceExpiry t b) s (fun u => u.m.sys.quiesced = s.m.sys.quiesced.filter (fun e => !(e.1 == b && decide (e.2 ≤ s.at_ t)))) ∧
      (∀ e, s.m.sys.resetting.find? (fun e => e.1 == b) = some e → 0x30 ≤ b → b ≤ 0x37 →
        (s.m.cq e.2.2.queue).running = some (e.2.2, s.m.obj F.cqQUEUE_EPOCH e.2.2.queue) → (s.m.cq e.2.2.queue).waiting = [] →
        Completes (.blockReset t b false) s (fun u => (u.m.sys.resetting.any (fun y => y.1 == b)) = false ∧ Replied u e.2.2 stDONE [])) ∧
      (∀ (p : Fin 8) (by_ : Nat × Nat) (passed : Nat), (s.m.part p.val).resetBy = some by_ →
        Completes (.partitionResetDone t p passed) s (fun u => (u.m.part p.val).resetBy = none ∧ u.m.obj F.partFAULT_CAUSE p.val = 0 ∧
          u.m.obj F.partFAULT_PC p.val = 0))

/-- Keys, pages, presence (R561, R607, R615): CONFIRM lets the waiting command proceed, SELECT and the end of the window cancel it; the
pages; a digital input. -/
def Sys2Proof.Part.FrontPanel : Prop :=
  ∀ (t : Nat) (s : State),
    (∀ w : Window, s.m.sys.window = some w → s.m.deaf = false →
      (w.what = .slate → Completes (.confirmKey t) s (fun u => u.m.sys.window = none ∧ u.m.isl.switch = some (w.queue, w.seq))) ∧
      (∀ g, w.what = .mode g → g ≠ 1 → s.m.modeGuard g = 0 → Completes (.confirmKey t) s (fun u => u.m.sys.window = none ∧ u.m.mode = g)) ∧
      (∀ l, w.what = .life l → Completes (.confirmKey t) s (fun u => u.m.sys.window = none ∧ u.m.sys.lifeNext = some l ∧
        u.m.sys.resetDue = some (s.at_ t + s.m.resetDelay, 5))) ∧
      (∀ slot d use roles qs, w.what = .cert 3 slot d use roles qs → Completes (.confirmKey t) s (fun u => u.m.sys.window = none ∧
        (alook [] u.m.sec.caks slot) = d ∧ (s.roomy 0 → Raised u 0 0x0F82 0 []))) ∧
      (∀ conn, w.what = .debug conn → 2 ≤ debugMax (s.m.obj F.secLIFECYCLE) s.m.mode → Completes (.confirmKey t) s (fun u =>
        u.m.sys.window = none ∧ u.m.obj F.secDEBUG_LEVEL = 2 ∧ u.m.isl.debugHold = true ∧ u.m.sec.debugConn = conn))) ∧
    (s.m.sys.window = none → Completes (.selectKey t) s (fun u => u.m.sys.page = s.m.sys.page % 10 + 1 ∧ u.m.sys.keyAt = s.at_ t)) ∧
    (∀ w : Window, s.m.sys.window = some w →
      let gone := fun (slateSt otherSt : Nat) (u : State) => u.m.sys.window = none ∧
        (w.what = .slate → s.roomy w.queue → Raised u w.queue 0x0C11 slateSt [⟨0xF0, toBe 4 w.seq⟩]) ∧
        ∀ l, w.what = .life l → s.roomy w.queue → Raised u w.queue 0x0F14 otherSt [⟨0xF0, toBe 4 w.seq⟩]
      Completes (.selectKey t) s (gone 0x1C04 0x1102) ∧
      (w.ends ≤ s.at_ t → Completes (.presenceTimeout t) s (gone 0x1C01 0x1101))) ∧
    (s.m.sys.keyAt + 60 * 10 ^ 9 ≤ s.at_ t → Completes (.displayPageTimeout t) s (fun u => u.m.sys.page = 1)) ∧
    ∀ (n : Fin 32) (level : Bool), bit s.m.di n ≠ level → Completes (.digitalInputChange t n level) s (fun u => bit u.m.di n = level ∧
      u.m.obj F.diEDGES n = min (s.m.obj F.diEDGES n + 1) (2 ^ 32 - 1))

/-- What the front panel shows (R606, R607): the LEDs of power, mode, safety, time, the cartridge and faults; the display by precedence. -/
def Sys2Proof.Part.PanelShows : Prop :=
  ∀ s : State, let m := s.m
    let time := m.timeState
    let pf := m.obj F.gaugePF_STATE
    (m.sys.off = true → m.screen = .dark ∧ m.ledSafe = {} ∧ m.ledCart = {} ∧ ∀ l ∈ [m.ledPwr, m.ledMode, m.ledPair, m.ledTime, m.ledSegments, m.ledFm,
      m.ledFault], l = ⟨.dark, .steady⟩) ∧
    (m.sys.off = false →
      (∀ e ∈ ([(0, .green, .steady), (1, .amber, .steady), (2, .green, .one)] : List (Nat × Colour × Blink)), m.obj F.powPOWER_STATE = e.1 →
        m.ledPwr = ⟨e.2.1, e.2.2⟩) ∧
      (m.sys.bootFailed = true → m.ledMode = ⟨.red, .one⟩) ∧
      (m.sys.bootFailed = false → m.sys.bringup ≠ 0 → m.ledMode = ⟨.amber, .four⟩) ∧
      (m.sys.bootFailed = false → m.sys.bringup = 0 → ∀ e ∈ ([(0, .green, .two), (1, .green, .steady), (2, .amber, .steady), (3, .green, .half),
        (4, .red, .steady), (5, .amber, .one)] : List (Nat × Colour × Blink)), m.mode = e.1 → m.ledMode = ⟨e.2.1, e.2.2⟩) ∧
      (m.obj F.islSTATE = 0 → m.ledSafe.colour = .dark) ∧
      (m.obj F.islSTATE = 1 → m.ledSafe = ⟨if (List.range 64).any (fun f => decide (2 ≤ m.obj F.sfSTATE f)) then .amber else .green, .steady⟩) ∧
      (m.obj F.islSTATE = 2 → m.ledSafe = ⟨.amber, .one⟩) ∧ (m.obj F.islSTATE = 3 → m.ledSafe = ⟨.red, .steady⟩) ∧
      (time = 1 ∨ time = 3 → m.ledTime = ⟨.green, .steady⟩) ∧ (time = 2 ∨ time = 4 → m.ledTime = ⟨.amber, .steady⟩) ∧
      (time = 0 → m.ledTime.colour = .dark) ∧
      (pf = 2 → m.ledCart = ⟨.red, .steady⟩) ∧ (pf = 0 → m.gauge.eol = false → m.ledCart = ⟨.green, .steady⟩) ∧
      (pf = 1 → m.gauge.eol = false → m.ledCart = ⟨.amber, .steady⟩) ∧ (pf ≠ 2 → m.gauge.eol = true → m.ledCart = ⟨.amber, .one⟩) ∧
      (m.ledFault = (if (∃ p : Fin 8, m.obj F.partSTATE p = 3) ∨ m.sys.unitFault.isSome = true then ⟨.red, .steady⟩ else ⟨.dark, .steady⟩)) ∧
      (∀ w, m.sys.window = some w → ∃ left, m.screen = .window w.what left ∧ (m.now ≤ w.ends → w.ends ≤ m.now + left * 10 ^ 9)) ∧
      (m.sys.window = none →
        (∀ e, m.sys.identify = some e → m.now < e →
          m.screen = .identify (if m.obj F.modMODULE_ID = 0xFFFF then m.obj F.secSERIAL else m.obj F.modMODULE_ID)) ∧
        (m.sys.identify = none → m.sys.bootFailed = true → m.screen = .bootFailed) ∧
        (m.sys.identify = none → m.sys.bootFailed = false → m.sys.bringup ≠ 0 → m.screen = .bringup m.sys.bringup (m.obj F.modeLAST_RESET)) ∧
        (m.sys.identify = none → m.sys.bootFailed = false → m.sys.bringup = 0 → m.mode = 4 → m.screen = .safeHalt (m.obj F.modeSAFE_HALT_CAUSE)) ∧
        (m.sys.identify = none → m.sys.bootFailed = false → m.sys.bringup = 0 → m.mode ≠ 4 →
          m.screen = .page m.sys.page (m.pageLines m.sys.page).1 (m.pageLines m.sys.page).2)))

/-- Modes and the front panel. The item layouts of events whose values the manual gives in prose are the model's choice (log 12). -/
def Obligations.ModesAndPanel : Prop := Sys2Proof.Part.ModeCommands ∧ Sys2Proof.Part.FrontPanel ∧ Sys2Proof.Part.PanelShows

/-! ### Field networks -/

/-- Input frames (R245, R248): a frame that meets every condition is latched: its slots with their quality in the back input image, the
place running; a frame under an older assignment epoch is counted and its sender disowned, and the images stay as they are. -/
def Obligations.TrunkInputs : Prop :=
  ∀ (t : Nat) (f : GfpIn) (s : State),
    let n := f.trunkField % 4 * 256 + f.place % 256
    let p := s.m.obj F.placePARTITION n
    let base := s.m.obj F.placeIN_BASE n
    let vs := slotsOf (s.m.ownEnt s.ram) base 738 f.data
    s.m.sys.off = false → (s.m.upTo t).blockOut f.trunk.val = false → f.etherType ≠ 0x88F7 →
    f.etherType = s.m.obj F.trunkETHERTYPE f.trunk.val → f.kind = 2 → f.data.length ≤ 1476 →
    f.fcs = true → f.version = 1 → f.moduleId = s.m.obj F.modMODULE_ID → 1 ≤ s.m.obj F.placeSTATE n →
    (f.assignEpoch < s.m.obj F.placeASSIGN_EPOCH n →
      Completes (.gfpInputFrame t f) s (fun u => u.ram = s.ram ∧ (u.m.place n).stale = true ∧ (u.m.place n).got = (s.m.place n).got ∧
        f.mac ∈ (u.m.trunk f.trunk.val).disown ∧
        u.m.obj F.trunkSTALE_ASSIGN f.trunk.val = min (s.m.obj F.trunkSTALE_ASSIGN f.trunk.val + 1) (2 ^ 32 - 1) ∧
        (s.roomy (s.m.chanOf p) → Raised u (s.m.chanOf p) 0x0584 0 []))) ∧
    (f.assignEpoch = s.m.obj F.placeASSIGN_EPOCH n → f.trunkField = f.trunk.val → 2 ≤ s.m.obj F.placeSTATE n → p < 8 →
      f.time = s.m.gzAt (s.m.part p).clapAt → s.at_ t + 2000 ≤ (s.m.part p).clapAt + s.m.obj F.cycG_NS p →
      f.mac = (s.m.place n).mac → f.length = 2 * s.m.obj F.placeIN_SLOTS n → (s.m.place n).got = false → (s.m.part p).phase = 1 →
      Completes (.gfpInputFrame t f) s (fun u => u.m.obj F.placeSTATE n = 4 ∧ (u.m.place n).got = true ∧ (u.m.place n).viaB = f.viaB ∧
        (u.m.place n).flags = f.flags ∧
        (∀ i, i < vs.length → base + i < 2 ^ 20 → rd u.ram .back (frontAt p (base + i)) = vs[i]?.getD 0 % 2 ^ 16 ∧
          rd u.ram .backQ (frontAt p (base + i)) = if bit f.flags 5 || bit f.flags 4 then 2 else 0) ∧
        ∀ sp a, sp ≠ .back → sp ≠ .backQ → rd u.ram sp a = rd s.ram sp a))

/-- A trunk's ring, its nodes and the answers of its nodes (R228, R229, R235, R248, R251, R252): a broken and a closed ring, the disown
requests repeated, a node heard, a confirmed assignment or none within 1 s, the end of a discovery. -/
def Sys2Proof.Part.TrunkEvents : Prop :=
  ∀ (t : Nat) (k : Fin 4) (s : State),
    (∀ la lb ra rb iso, s.m.obj F.trunkTOPOLOGY k ≠ 0 → s.m.obj F.trunkRING_STATE k ≤ 1 →
      Completes (.trunkLinkLoss t k la lb ra rb iso) s (fun u => u.m.obj F.trunkRING_STATE k = (if iso = 0 then 2 else 3) ∧
        u.m.obj F.trunkREACH_A k = ra % 2 ^ 16 ∧ u.m.obj F.trunkREACH_B k = rb % 2 ^ 16 ∧
        u.m.obj F.trunkBREAKS k = min (s.m.obj F.trunkBREAKS k + 1) (2 ^ 32 - 1) ∧ (s.roomy 0 → Raised u 0 0x0582 0 []))) ∧
    (∀ ra rb, s.m.obj F.trunkTOPOLOGY k ≠ 0 → 2 ≤ s.m.obj F.trunkRING_STATE k →
      (placeNums.filter (fun n => n / 256 == k.val && decide (2 ≤ s.m.obj F.placeSTATE n))).length ≤ min ra rb →
      Completes (.trunkLinkUp t k 1 1 ra rb) s (fun u => u.m.obj F.trunkRING_STATE k = 1 ∧ (s.roomy 0 → Raised u 0 0x0583 0 []))) ∧
    (let ask : Nat → Nat → Wire := fun port mac => ⟨⟨port, 0xA, mac, s.m.gfpHead 0xA k (s.m.obj F.modMODULE_ID) 0 0 0 1 1 ++ [2]⟩, s.m.obj F.trunkETHERTYPE k, []⟩;
      s.m.sends = true → (s.m.upTo t).blockOut k = false → Completes (.disownRepeat t k) s (fun u => u.m.trunks = s.m.trunks ∧
        u.m.wire = ((s.m.trunk k).disown.flatMap (fun mac =>
          if s.m.obj F.trunkTOPOLOGY k = 0 then [ask k mac] else [ask k mac, ask (4 + k) mac])).reverse ++ s.m.wire)) ∧
    (∀ id : NodeId, s.m.sys.off = false → (s.m.upTo t).blockOut k = false → Completes (.gfpIdentityFrame t k id) s (fun u => id ∈ (u.m.trunk k).heard ∧
      u.m.obj F.trunkNODES_SEEN k = (u.m.trunk k).heard.length % 2 ^ 16 ∧ u.m.places = s.m.places)) ∧
    (∀ q sq a, (s.m.trunk k).disc = some (q, sq, a) → Completes (.discoveryComplete t k) s (fun u => (u.m.trunk k).disc = none ∧
      (s.roomy q → Raised u q 0x0510 stDONE
        (⟨0xF0, toBe 4 sq⟩ :: ((s.m.trunk k).heard.foldr insHops []).map (fun d => ⟨1, nodeBytes d⟩))))) ∧
    (∀ (n : Fin 1024) q sq op a, (s.m.place n).confirm = some (q, sq, op, a) → a + 10 ^ 9 ≤ s.at_ t →
      Completes (.nodeConfirmTimeout t n) s (fun u => (u.m.place n).confirm = none ∧
        (s.roomy q → Raised u q op 0x1501 [⟨0xF0, toBe 4 sq⟩, itm 1 4 (s.m.obj F.placeASSIGN_EPOCH n)]))) ∧
    ∀ mac place, s.m.sys.off = false → (s.m.upTo t).blockOut k = false → let n := k.val * 256 + place % 256
      (∀ q sq op a, (s.m.place n).confirm = some (q, sq, op, a) →
        Completes (.manageReply t k mac place (.confirm (s.m.obj F.placeASSIGN_EPOCH n))) s (fun u => (u.m.place n).confirm = none ∧
          (u.m.place n).mac = mac ∧
          (s.roomy q → Raised u q op stDONE [⟨0xF0, toBe 4 sq⟩, itm 1 4 (s.m.obj F.placeASSIGN_EPOCH n)]))) ∧
      (∀ bs, Completes (.manageReply t k mac place (.diag bs)) s (fun u => (u.m.place n).diag = bs)) ∧
      (∀ a b, Completes (.manageReply t k mac place (.reach a b)) s (fun u => u.m.obj F.placeHOPS n = min a 255 * 256 + min b 255)) ∧
      Completes (.manageReply t k mac place .disowned) s (fun u => (u.m.trunk k).disown = (s.m.trunk k).disown.filter (· != mac))

/-- Discovery and the node commands (R247, R251, R252): a discovery is started; an assignment, a replacement and an unassignment raise the
epoch by 1 and bind or clear the serial number; a diagnostic block is read. -/
def Sys2Proof.Part.NodeCommands : Prop :=
  ∀ (msg : Msg) (s : State) (is : List Item),
    let c := cmdOf msg s is
    let n := c.num 1 * 256 + c.num 2
    let serial := c.num 3
    let e := s.m.obj F.placeASSIGN_EPOCH n
    let mine := s.m.obj F.placeSTATE n ≠ 0 ∧ (isSys c.owner = true ∨ s.m.obj F.placePARTITION n = c.owner)
    let fits := ∀ d, s.m.heardNode serial = some d → d.vendor = s.m.obj F.placeVENDOR n ∧ d.product = s.m.obj F.placePRODUCT n ∧
      (d.moduleId = 0xFFFF ∨ d.moduleId = s.m.obj F.modMODULE_ID ∧ d.place = n % 256 ∧ s.m.obj F.placeSERIAL n = serial)
    let bound := fun (u : State) (op : Nat) => Replied u msg stSTARTED [] ∧ u.m.obj F.placeASSIGN_EPOCH n = e + 1 ∧
      u.m.obj F.placeSERIAL n = serial % 2 ^ 64 ∧ u.m.obj F.placeSTATE n = 2 ∧
      (u.m.place n).confirm = some (msg.queue, msg.seq, op, s.at_ msg.t)
    (Accepts trunkDiscoverCard msg s is → (s.m.trunk (c.num 1)).disc = none →
      Completes (.trunkDiscover msg) s (fun u => Replied u msg stSTARTED [] ∧
        (u.m.trunk (c.num 1)).disc = some (msg.queue, msg.seq, s.at_ msg.t) ∧ (u.m.trunk (c.num 1)).heard = [])) ∧
    (Accepts nodeAssignCard msg s is → mine → e < 2 ^ 32 - 1 → fits → (s.m.obj F.placeSERIAL n = 0 ∨ s.m.obj F.placeSERIAL n = serial) →
      Completes (.nodeAssign msg) s (fun u => bound u 0x0511)) ∧
    (Accepts nodeReplaceCard msg s is → mine → e < 2 ^ 32 - 1 → fits → (c.num 4 ≠ 0 ∨ s.m.obj F.placeSTATE n ≠ 4) →
      Completes (.nodeReplace msg) s (fun u => bound u 0x0513)) ∧
    (Accepts nodeUnassignCard msg s is → mine → e < 2 ^ 32 - 1 →
      Completes (.nodeUnassign msg) s (fun u => Replied u msg stSTARTED [] ∧ u.m.obj F.placeASSIGN_EPOCH n = e + 1 ∧
        u.m.obj F.placeSERIAL n = 0 ∧ u.m.obj F.placeSTATE n = 1 ∧
        (s.roomy msg.queue → Raised u msg.queue 0x0512 stDONE [⟨0xF0, toBe 4 msg.seq⟩, itm 1 4 (e + 1)]))) ∧
    (Accepts nodeDiagReadCard msg s is → mine → (s.m.place n).diag ≠ [] →
      Completes (.nodeDiagRead msg) s (fun u => Replied u msg stDONE [⟨1, (s.m.place n).diag.take 1024⟩] ∧ u.m.places = s.m.places))

/-- Trunk nodes. The item layouts of events whose values the manual gives in prose are the model's choice (log 12). -/
def Obligations.TrunkNodes : Prop := Sys2Proof.Part.TrunkEvents ∧ Sys2Proof.Part.NodeCommands

/-- Cyclic, reference and joining frames (R258, R261, R263, R268, R269): a node's input frame that passes every step is latched with its
quality; a reference frame carries its own GZ time; a JOIN that matches the node object is admitted and any other disowned; a new identity
is reported; a destroyed frame is counted. The item layouts of events whose values the manual gives in prose are the model's choice (log 12). -/
def Obligations.SegmentCyclic : Prop :=
  ∀ (t : Nat) (f : SegIn) (s : State),
    let k := f.seg.val
    (s.m.gzAt (s.at_ t) % 125000 = 0 → (s.m.sg k).refAt + 10000000 < s.at_ t + 125000 → s.m.segTimed k = true → (s.m.upTo t).segSends k = true →
      Completes (.extraReferenceFrame t f.seg) s (fun u => (u.m.sg k).refAt = s.at_ t ∧
        u.m.wire = ⟨⟨8 + k, s.m.obj F.pairEPOCH % 2, 0, toBe 8 (s.m.gzAt (s.at_ t))⟩, 0, s.m.busHead k (s.m.segXl k)⟩ :: s.m.wire)) ∧
    (let n := k * 64 + (f.ident - 0x03F)
     let p := s.m.obj F.nodePARTITION n
     let base := s.m.obj F.nodeIN_BASE n % 2 ^ 20
     let vs := slotsOf (s.m.ownEnt s.ram) base 1023 (f.data.drop 2)
     (s.m.upTo t).blockOut (0x10 + k) = false → s.m.segTimed k = true → (s.m.obj F.segSTATE k = 1 ∨ s.m.obj F.segSTATE k = 2) →
     f.ok = true → f.ext = false → 0x040 ≤ f.ident →
     f.ident ≤ 0x07E → 2 ≤ s.m.obj F.nodeSTATE n → p < 8 → (f.fmt.val = 0 ↔ s.m.obj F.nodeFORMAT n = 0) → f.fmt.val ≠ 3 →
     s.m.segAddr f (f.ident - 0x03F) = true → (s.m.part p).clapAt < f.sof → s.at_ t + 2000 ≤ (s.m.part p).clapAt + s.m.obj F.cycG_NS p →
     (s.m.part p).phase = 1 → f.data.length = 2 + 2 * s.m.obj F.nodeIN_SLOTS n → (s.m.node n).toggle ≠ some (field (segHead f) 15 14) →
     (s.m.node n).got = false →
      Completes (.segInputFrame t f) s (fun u => u.m.obj F.nodeSTATE n = 4 ∧ (u.m.node n).got = true ∧
        (u.m.node n).toggle = some (field (segHead f) 15 14) ∧
        (∀ i, i < vs.length → base + i < 2 ^ 20 → rd u.ram .back (frontAt p (base + i)) = vs[i]?.getD 0 % 2 ^ 16 ∧
          rd u.ram .backQ (frontAt p (base + i)) = if bit (segHead f) 3 || bit (segHead f) 2 then 2 else 0) ∧
        ∀ sp a, sp ≠ .back → sp ≠ .backQ → rd u.ram sp a = rd s.ram sp a)) ∧
    (let n := k * 64 + (f.ident - 0x700)
     let same := beNat (f.data.take 8) = s.m.obj F.nodeSERIAL n ∧ s.m.obj F.nodeSERIAL n ≠ 0 ∧
       beNat ((f.data.drop 8).take 4) = s.m.obj F.nodeASSIGN_EPOCH n
     (s.m.upTo t).segSends k = true → s.m.segTimed k = true → f.ok = true → f.ext = false → s.m.segAddr f (f.ident - 0x700) = true →
     0x701 ≤ f.ident → f.ident ≤ 0x73F → f.data.length = 16 →
      (1 ≤ s.m.obj F.nodeSTATE n → same → Completes (.join t f) s (fun u =>
        u.m.obj F.nodeSTATE n = max 2 (s.m.obj F.nodeSTATE n) % 2 ^ 8 ∧ u.m.nodes = s.m.nodes)) ∧
      (¬same → Completes (.join t f) s (fun u => (u.m.node n).refused = true ∧ (u.m.sg k).staleHeard = (s.m.sg k).staleHeard + 1 ∧
        u.m.obj F.nodeSTATE n = s.m.obj F.nodeSTATE n ∧
        (s.roomy (s.m.chanOf (s.m.nodePart n)) → Raised u (s.m.chanOf (s.m.nodePart n)) 0x0685 0 [])))) ∧
    ((s.m.upTo t).blockOut (0x10 + k) = false → s.m.segTimed k = true → (s.m.obj F.segSTATE k = 1 ∨ s.m.obj F.segSTATE k = 2) →
      f.ok = true → f.ext = false → f.ident = 0x7E0 → f.data.length = 24 →
      (s.m.sg k).found.contains (beNat ((f.data.drop 8).take 8)) = false →
      Completes (.segIdentity t f) s (fun u => beNat ((f.data.drop 8).take 8) ∈ (u.m.sg k).found ∧
        ((s.m.cq 0).held.length < 254 → Raised u 0 0x0684 0 [itm 1 1 k, ⟨2, f.data⟩]))) ∧
    ∀ ident tec rec, Completes (.segFrameError t f.seg ident tec rec) s (fun u => u.m.obj F.segTEC k = min tec 255 ∧
      u.m.obj F.segREC k = min rec 255 ∧ u.m.obj F.segERR_FRAMES k = min (s.m.obj F.segERR_FRAMES k + 1) (2 ^ 32 - 1) ∧
      (s.m.segTimed k = true → 0x010 ≤ ident → ident ≤ 0x07E →
        u.m.obj F.segLOST_CYCLIC k = min (s.m.obj F.segLOST_CYCLIC k + 1) (2 ^ 32 - 1)))

/-- Frames for the host (R271 to R274, R285): the lowest-numbered match filter that takes a frame has it in an HP_FRAME event on its own
channel; a frame no match filter takes goes through the filter program, whose ACCEPT puts it in its route's batch and which discards it
where the route has no channel; a batch leaves as one event; a valid program is loaded and stands from the next frame on. -/
def Obligations.SegmentReceive : Prop :=
  ∀ (t : Nat) (f : SegIn) (s : State),
    let k := f.seg.val
    ((s.m.upTo t).blockOut (0x10 + k) = false → (s.m.obj F.segSTATE k = 1 ∨ s.m.obj F.segSTATE k = 2) → s.m.foreign f = true → f.ok = true →
      (∀ n, s.m.hpMatch f = some n → s.m.obj F.mfCHANNEL n < 64 → alook [] s.m.hpBufs n = [] → s.m.sys.restarting = none →
        Completes (.matchFilterFrame t f) s (fun u => u.m.obj F.mfMATCHES n = min (s.m.obj F.mfMATCHES n + 1) (2 ^ 32 - 1) ∧
          u.m.obj F.mfFILL n = 0 ∧ u.ram = s.ram ∧
          ((s.m.cq (s.m.obj F.mfCHANNEL n)).held.length < 254 →
            Raised u (s.m.obj F.mfCHANNEL n) 0x0681 0 [frameItem s.m f]))) ∧
      (∀ w v x, s.m.hpMatch f = none → (s.m.sg k).progAt < f.sof → (s.m.sg k).prog.head? = some (w, v, x) → field w 31 27 = 3 →
        let route := field w 22 12 % 8
        (s.m.route k route < 64 → Completes (.filterProgramFrame t f) s (fun u => u.ram = s.ram ∧
          (u.m.sg k).batches.find? (fun b => b.1 == route) = some (route,
            (((s.m.sg k).batches.find? (fun b => b.1 == route)).getD (route, s.m.route k route, [])).2.1,
            (((s.m.sg k).batches.find? (fun b => b.1 == route)).getD (route, s.m.route k route, [])).2.2 ++ [frameItem s.m f]))) ∧
        (64 ≤ s.m.route k route → Completes (.filterProgramFrame t f) s (fun u => (u.m.sg k).batches = (s.m.sg k).batches ∧
          u.m.obj F.segRX_DROPPED k = min (s.m.obj F.segRX_DROPPED k + 1) (2 ^ 32 - 1))))) ∧
      (∀ (route : Fin 8) ch its, (s.m.sg k).batches.find? (fun b => b.1 == route.val) = some (route.val, ch, its) →
        Completes (.segFrame t f.seg route) s (fun u => (u.m.sg k).batches.find? (fun b => b.1 == route.val) = none ∧
          (s.roomy ch → Raised u ch 0x0680 0 its))) ∧
      ∀ (msg : Msg) (is : List Item), let c := cmdOf msg s is
        Accepts filterLoadCard msg s is → s.m.filterFault s.ram (c.num 1) (progOf (c.bytes 2)) = none →
        Completes (.filterLoad msg) s (fun u => (u.m.sg (c.num 1)).prog = progOf (c.bytes 2) ∧ (u.m.sg (c.num 1)).progAt = s.at_ msg.t ∧
          Replied u msg stDONE [itm 1 4 (Config.sha256 (c.bytes 2) / 2 ^ 224)])

/-- Host frames (R275, R276, R283, R284): SEG_TX queues a frame under a fresh handle; the gate's opening starts the frame next in turn; a
frame sent leaves the queue and completes with the time of its SOF, one that lost arbitration waits, one destroyed counts a retry or fails;
SEG_TX_CANCEL takes a frame not in flight out of the queue. -/
def Sys2Proof.Part.SegmentHostFrames : Prop :=
  ∀ (t : Nat) (k : Fin 8) (s : State),
    (∀ g, (s.m.sg k).flying = none → s.m.txHead k = some g → (s.m.upTo t).txReady k g = true →
      Completes (.segmentGateOpen t k) s (fun u => (u.m.sg k).flying = some g.handle ∧ (u.m.sg k).tx = (s.m.sg k).tx ∧
        u.m.wire = ⟨⟨8 + k.val, g.ident, 0, g.data⟩, 0,
          if g.fmt = 0 then [0] ++ toBe 4 g.af ++ [s.m.obj F.segSDT k, g.vcid] else [g.fmt]⟩ :: s.m.wire)) ∧
    (∀ g sof, (s.m.sg k).flying = some g.handle → (s.m.sg k).tx.find? (fun x => x.handle == g.handle) = some g →
      Completes (.segTxEnd t k g.handle sof 0) s (fun u => (u.m.sg k).tx = (s.m.sg k).tx.filter (fun x => x.handle != g.handle) ∧
        (s.roomy g.queue → Raised u g.queue 0x0611 stDONE [⟨0xF0, toBe 4 g.seq⟩, itm 2 8 (s.m.gzAt sof)])) ∧
      Completes (.segTxEnd t k g.handle sof 1) s (fun u => (u.m.sg k).flying = none ∧ (u.m.sg k).tx = (s.m.sg k).tx) ∧
      (s.m.obj F.segTX_RETRIES k ≤ g.retries → Completes (.segTxEnd t k g.handle sof 2) s (fun u =>
        (u.m.sg k).tx = (s.m.sg k).tx.filter (fun x => x.handle != g.handle) ∧
        (s.roomy g.queue → Raised u g.queue 0x0611 0x1606 [⟨0xF0, toBe 4 g.seq⟩]))) ∧
      (g.retries < s.m.obj F.segTX_RETRIES k → Completes (.segTxEnd t k g.handle sof 2) s (fun u => (u.m.sg k).flying = none ∧
        (u.m.sg k).tx = (s.m.sg k).tx.map (fun x => if x.handle = g.handle then { x with retries := x.retries + 1 } else x)))) ∧
    ∀ (msg : Msg) (is : List Item), let c := cmdOf msg s is
      let i := c.num 1
      let x := s.m.sg i
      let h := x.issued.length + 1
      let mode := s.m.obj F.segMODE i
      (Accepts segTxCard msg s is → mode ≠ 0 → mode ≠ 5 → fmtSent mode (c.num 3) = true → (bit (c.num 2) 31 = true → mode = 4) →
        (c.bytes 6).length ≤ s.m.obj F.segAPER_MAX i → (c.bytes 6).length ≤ fmtMax (c.num 3) →
        (mode ≠ 4 → 0x100 ≤ c.num 2 % 2 ^ 29 ∧ c.num 2 % 2 ^ 29 ≤ 0x6FF ∧
          (nodesOf i).any (fun n => s.m.obj F.nodeEVT_BYTES n != 0 && s.m.obj F.nodeEVT_ID n == c.num 2 % 2 ^ 29) = false) →
        x.tx.length < 32 → (c.owner < 8 → (x.tx.filter (fun f => f.owner == c.owner)).length < 8) →
        Completes (.segTx msg) s (fun u => Replied u msg stSTARTED [itm 1 4 h] ∧ (u.m.sg i).issued = (h, msg.queue) :: x.issued ∧
          (u.m.sg i).tx = txInsert ⟨h, msg.queue, msg.seq, c.owner, c.num 2 % 2 ^ 29, bit (c.num 2) 31, c.num 3, c.num 4, c.num 5, c.bytes 6, 0⟩
            x.tx)) ∧
      (Accepts segTxCancelCard msg s is → x.issued.any (fun e => e.1 == c.num 2 && e.2 == msg.queue) = true → x.flying ≠ some (c.num 2) →
        x.tx.any (fun f => f.handle == c.num 2) = true →
        Completes (.segTxCancel msg) s (fun u => Replied u msg stDONE [itm 1 1 0] ∧
          (u.m.sg i).tx = x.tx.filter (fun f => f.handle != c.num 2)))

/-- A segment's bus (R255, R266, R277, R278): bus-off and its recovery, a transceiver fault and its end, the load measured, and the listening
for a segment's rates. -/
def Sys2Proof.Part.SegmentBus : Prop :=
  ∀ (t : Nat) (k : Fin 8) (s : State),
    (s.m.obj F.segSTATE k = 2 → Completes (.segBusOff t k) s (fun u => u.m.obj F.segSTATE k = 3 ∧ (u.m.sg k).flying = none ∧
      u.m.obj F.segBUS_OFFS k = min (s.m.obj F.segBUS_OFFS k + 1) (2 ^ 32 - 1) ∧ (s.roomy 0 → Raised u 0 0x0686 0 []))) ∧
    (s.m.obj F.segSTATE k = 3 → Completes (.busOffRecovery t k) s (fun u => u.m.obj F.segSTATE k = s.m.segIdle k ∧
      u.m.obj F.segTEC k = 0 ∧ u.m.obj F.segREC k = 0)) ∧
    (s.m.obj F.segMODE k ≠ 0 → Completes (.transceiverFault t k true) s (fun u => u.m.obj F.segSTATE k = 4 ∧ (u.m.sg k).flying = none) ∧
      (s.m.obj F.segSTATE k = 4 → Completes (.transceiverFault t k false) s (fun u => u.m.obj F.segSTATE k = s.m.segIdle k))) ∧
    ((s.m.sg k).loadAt + 10 ^ 9 ≤ s.at_ t → ∀ pct, Completes (.segLoadMeasure t k pct) s (fun u => u.m.obj F.segLOAD_PCT k = min pct 255 ∧
      (u.m.sg k).overload = decide (70 < pct))) ∧
    (∀ q sq st, (s.m.sg k).listen = some (q, sq, st) →
      (∀ r : ListenRes, Completes (.segListenComplete t k (some r)) s (fun u => (u.m.sg k).listen = none ∧ u.m.obj F.segMODE k = 5 ∧
        u.m.obj F.segSTATE k = 1 ∧ u.m.obj F.segARB_RATE k = r.arb.val)) ∧
      Completes (.segListenComplete t k none) s (fun u => (u.m.sg k).listen = none ∧ u.m.obj F.segMODE k = s.m.obj F.segMODE k ∧
        u.m.obj F.segSTATE k = st % 2 ^ 8 ∧ (s.roomy q → Raised u q 0x0610 0x1607 [⟨0xF0, toBe 4 sq⟩]))) ∧
    ∀ (msg : Msg) (is : List Item), let i := (cmdOf msg s is).num 1
      Accepts segListenCard msg s is → (s.m.obj F.segMODE i = 0 ∨ s.m.obj F.segMODE i = 5) → (s.m.sg i).listen = none →
      Completes (.segListen msg) s (fun u => Replied u msg stSTARTED [] ∧ u.m.obj F.segSTATE i = 1 ∧
        (u.m.sg i).listen = some (msg.queue, msg.seq, s.m.obj F.segSTATE i))

/-- Host frames and the bus. -/
def Obligations.SegmentHostAndBus : Prop := Sys2Proof.Part.SegmentHostFrames ∧ Sys2Proof.Part.SegmentBus

/-! ### Field units -/

/-- A channel's protections (R293, R294, R297 to R301): a trip switches the output stage off, sets its cause and latches where RESTART says
so; causes clear by their own rules; a profile segment ends; a clamp is taken from the bucket and an empty bucket locks; an off-state
result counts. -/
def Obligations.LoadProtection : Prop :=
  ∀ (t : Nat) (n : Fin 32) (s : State),
    let x := s.m.lc n
    let trips := fun (u : State) (i : Nat) => (u.m.lc n).on = false ∧ u.m.lcCause n i = true ∧ u.m.obj F.lcPRIMARY n = i + 1 ∧
      u.m.obj F.lcTRIPS n = min (s.m.obj F.lcTRIPS n + 1) (2 ^ 16 - 1) ∧ (u.m.lc n).tripAt = some (s.at_ t) ∧
      (s.m.obj F.lcRESTART n = 1 → u.m.lcCause n 5 = true) ∧ (s.m.lcCause n 3 = u.m.lcCause n 3 ∧ s.m.lcCause n 4 = u.m.lcCause n 4)
    (x.on = true → x.tripAt ≠ some (s.at_ t) →
      (s.m.lcCause n 0 = false → Completes (.lcShort t n) s (fun u => trips u 0)) ∧
      (s.m.lcCause n 1 = false → Completes (.thermal t n) s (fun u => trips u 1 ∧ (u.m.lc n).hot = true)) ∧
      (s.m.lcCause n 2 = false → x.segs.length ≤ x.seg → x.onAt + s.m.obj F.lcLIM_TIME_MS n * 10 ^ 6 ≤ s.at_ t →
        Completes (.limitTimeout t n) s (fun u => trips u 2))) ∧
    Completes (.lcCooled t n) s (fun u => u.m.lcCause n 1 = false ∧ (u.m.lc n).hot = false ∧ u.m.lcCause n 5 = s.m.lcCause n 5) ∧
    (∀ a, x.tripAt = some a → a + 100 * 10 ^ 6 ≤ s.at_ t →
      Completes (.lcRestartDelay t n) s (fun u => u.m.lcCause n 0 = false ∧ u.m.lcCause n 2 = false ∧ u.m.lcCause n 5 = s.m.lcCause n 5)) ∧
    (∀ g early, x.on = true → x.segs[x.seg]? = some g → x.onAt + g.1 * 1000 ≤ s.at_ t →
      Completes (.inrushSegmentEnd t n early) s (fun u => (u.m.lc n).seg = x.seg + 1 ∧ (u.m.lc n).segs = x.segs ∧ (u.m.lc n).on = true)) ∧
    (∀ uj, (s.m.ctl (railOf n)).powered = true →
      let used := min (bucketCap n) ((s.m.upTo t).bucketUsed n + uj * 1000)
      Completes (.clampEnd t n uj) s (fun u => (u.m.lc n).used = used ∧ (u.m.lc n).usedAt = s.at_ t ∧ (u.m.lc n).on = x.on ∧
        (used = bucketCap n → u.m.lcCause n 4 = true) ∧ (used < bucketCap n → u.m.lcCause n 4 = s.m.lcCause n 4))) ∧
    Completes (.bucketFull t n) s (fun u => (u.m.lc n).used = (s.m.upTo t).bucketUsed n ∧ (u.m.lc n).usedAt = s.at_ t ∧
      u.m.lcCause n 4 = s.m.lcCause n 4) ∧
    (∀ r : Fin 3, x.on = false → s.m.obj F.lcOL_DETECT n ≠ 0 → (s.m.ctl (railOf n)).powered = true → x.diag ≠ r.val →
      Completes (.lcOpenLoad t n r) s (fun u => (u.m.lc n).diag = r.val ∧
        u.m.obj F.lcOPEN_LOADS n = if r.val = 0 then s.m.obj F.lcOPEN_LOADS n else min (s.m.obj F.lcOPEN_LOADS n + 1) (2 ^ 16 - 1)))

/-- Rails, controllers and limp-home (R291, R298, R308, R310 to R313): undervoltage switches every channel of a rail off and holds it, its
end releases the cause; an unpowered controller's channels are off; the loss of the alive signal freezes or engages limp-home, its return
and LIMP_FORCE release it; a mapped channel follows its input at once; a converter's visit is summed. The item layouts of events whose values the manual gives in prose are the model's choice (log 12). -/
def Obligations.LoadRails : Prop :=
  ∀ (t : Nat) (k : Fin 2) (j : Fin 32) (s : State),
    let x := s.m.lc j
    let mine := railOf j = k.val
    (mine → (s.m.ctl k).uv = false → Completes (.railUndervoltage t k) s (fun u => (u.m.ctl k).uv = true ∧ (u.m.lc j).on = false ∧
      u.m.lcCause j 3 = true ∧ (s.roomy 0 → Raised u 0 0x0786 0 [itm 1 1 k.val, itm 2 1 1]))) ∧
    (mine → (s.m.ctl k).uv = true → Completes (.railRecovered t k) s (fun u => (u.m.ctl k).uv = false ∧ u.m.lcCause j 3 = false)) ∧
    (x.limp ≠ 0 → x.isl = false → s.m.limpValue j = true → (s.m.upTo t).lcHeld j = false → x.on = false →
      Completes (.railUvStaggeredReturn t j) s (fun u => (u.m.lc j).on = true ∧ (u.m.lc j).onAt = s.at_ t)) ∧
    (mine → (s.m.ctl k).powered = true → Completes (.lcControllerPower t k false) s (fun u => (u.m.ctl k).powered = false ∧
      (u.m.lc j).on = false ∧ (u.m.lc j).limp = 0)) ∧
    ((s.m.ctl k).powered = false → Completes (.lcControllerPower t k true) s (fun u => (u.m.ctl k).powered = true ∧
      (u.m.ctl k).alive = 1)) ∧
    (mine → x.limp = 0 → Completes (.aliveLost2ms t k) s (fun u => 1 ≤ (u.m.ctl k).alive ∧
      (s.m.mapped j = false → (u.m.lc j).on = false) ∧
      (s.m.mapped j = true → x.isl = false → (s.m.upTo t).lcHeld j = false → (u.m.lc j).on = x.on))) ∧
    (mine → s.m.mapped j = true → (s.m.ctl k).powered = true →
      (((s.m.ctl k).map[0]?).getD 0 % 2 = 1 → Completes (.aliveLost50ms t k) s (fun u => (u.m.ctl k).alive = 2 ∧ (u.m.lc j).limp = max x.limp 2)) ∧
      (((s.m.ctl k).map[0]?).getD 0 % 2 = 0 → s.m.limpForce = false → Completes (.aliveLost50ms t k) s (fun u => (u.m.ctl k).alive = 2 ∧
        (u.m.lc j).on = false ∧ (u.m.lc j).limp = x.limp)) ∧
      Completes (.limpForceChange t true) s (fun u => u.m.limpForce = true ∧ 1 ≤ (u.m.lc j).limp)) ∧
    (mine → (s.m.ctl k).alive = 0 → x.limp = 1 → Completes (.limpForceChange t false) s (fun u => u.m.limpForce = false ∧
      (u.m.lc j).limp = 0)) ∧
    ((s.m.ctl k).alive ≠ 0 → Completes (.aliveReturn t k) s (fun u => (u.m.ctl k).alive = 0 ∧ (u.m.ctl k).trips = 0)) ∧
    (∀ (i : Fin 8) (level : Bool), Completes (.lhInputChange t i level) s (fun u => u.m.lh = setBit s.m.lh i level ∧
      (x.limp ≠ 0 → s.m.limpEntry j % 8 = i.val → level = bit (s.m.limpEntry j) 6 → (u.m.lc j).on = false))) ∧
    (∀ (c : Fin 4) cur vout temp limiting clean, let a := alook (0, 0) s.m.senses c
      let y := s.m.lc (8 * c.val + a.1)
      Completes (.senseVisit t c cur vout temp limiting clean) s (fun u => let z := u.m.lc (8 * c.val + a.1)
        (alook (0, 0) u.m.senses c).1 = (a.1 + 1) % 8 ∧ z.num = y.num + 1 ∧ z.sumI = y.sumI + cur ∧ z.sumV = y.sumV + vout ∧
        z.sumT = y.sumT + temp ∧ z.on = y.on))

/-- Commands of load channels and loop outputs, and the loop outputs' events (R305, R306, R309, R315, R318, R320): an unlock with the bucket
full, a cleared latch, a limp map taken by both controllers, a trim within its range, a loop break and its end, the rail low. -/
def Obligations.LoadCommands : Prop :=
  ∀ (t : Nat) (msg : Msg) (s : State) (is : List Item),
    let c := cmdOf msg s is
    let n := c.num 1
    let mine := isSys c.owner = true ∨ s.m.lcOwner s.ram n = some c.owner
    (Accepts lcUnlockCard msg s is → mine → s.m.lcCause n 4 = true → (s.m.upTo msg.t).bucketUsed n = 0 →
      Completes (.lcUnlock msg) s (fun u => Replied u msg stDONE [] ∧ u.m.lcCause n 4 = false)) ∧
    (Accepts lcClearLatchCard msg s is → mine → s.m.lcCause n 5 = true → s.m.lcHot n = false →
      Completes (.lcClearLatch msg) s (fun u => Replied u msg stDONE [] ∧ u.m.lcCause n 5 = false ∧ (u.m.lc n).owed = false)) ∧
    (Accepts limpMapWriteCard msg s is → (s.m.ctl 0).powered = true → (s.m.ctl 1).powered = true →
      (∀ j, j < 32 → bit (((c.bytes 1 ++ c.bytes 2)[j + 1]?).getD 0) 7 = true → gatedOf s.m.isl.set j = false ∧
        ∀ y, s.m.isl.staged = some y → gatedOf y j = false) →
      Completes (.limpMapWrite msg) s (fun u => Replied u msg stDONE [itm 1 4 (crc32c (c.bytes 1 ++ c.bytes 2))] ∧
        (u.m.ctl 0).map = c.bytes 1 ++ c.bytes 2 ∧ (u.m.ctl 1).map = c.bytes 1 ++ c.bytes 2 ∧ u.m.obj F.limpLIMP_AUTO = c.num 1 % 2)) ∧
    (let z := if c.has 2 then sint 16 (c.num 2) else sint 16 (s.m.obj F.loZERO_TRIM n)
     let sp := if c.has 3 then sint 32 (c.num 3) else sint 32 (s.m.obj F.loSPAN_TRIM n)
     Accepts loTrimCard msg s is → (isSys c.owner = true ∨ s.m.loOwner s.ram n = some c.owner) → z.natAbs ≤ 4000 → sp.natAbs ≤ 20000 →
      Completes (.loTrim msg) s (fun u => u.m.obj F.loZERO_TRIM n = uint 16 z ∧ u.m.obj F.loSPAN_TRIM n = uint 32 sp ∧
        u.m.obj F.loTRIM_COUNT n = min (s.m.obj F.loTRIM_COUNT n + 1) (2 ^ 32 - 1) ∧ (u.m.lo n).target = (s.m.lo n).target ∧
        ∃ v, Replied u msg stDONE [itm 1 8 v])) ∧
    ∀ k : Fin 8,
      (s.m.loDriving k = true → (s.m.lo k).brk = false → (s.m.upTo t).calUncertain 1 k = false →
        Completes (.loLoopBreak t k) s (fun u => (u.m.lo k).brk = true ∧ u.m.obj F.loSTATE k = 2 ∧
          u.m.obj F.loBREAKS k = min (s.m.obj F.loBREAKS k + 1) (2 ^ 32 - 1))) ∧
      Completes (.loopBreakClear t k) s (fun u => (u.m.lo k).brk = false ∧ (u.m.lo k).target = (s.m.lo k).target) ∧
      ∀ low, Completes (.loRailLow t low) s (fun u => u.m.faLow = low ∧ u.m.los = s.m.los ∧
        (s.m.obj F.loMODE k = 1 → (s.m.lo k).target ≠ 0 →
          u.m.obj F.loSTATE k = if low then 3 else if (s.m.lo k).brk then 2 else 1))

/-- What a port counts and reads (R325, R326, R329, R333, R341, R342): quadrature, step and direction, up and down, Hall states, an index, a
standstill, an absolute reading, a fence. INVERT reverses the sign of every count. -/
def Obligations.PortCounting : Prop :=
  ∀ (t : Nat) (n : Fin 8) (s : State),
    let x := s.m.ep n
    let by1 := fun (up : Bool) (u : State) => (u.m.ep n).c = x.c + (if (if s.m.obj F.epINVERT n = 1 then !up else up) then 1 else -1) ∧
      (u.m.ep n).edgeAt = some (s.at_ t)
    let err := fun (u : State) => (u.m.ep n).c = x.c ∧ (u.m.ep n).speedVoid = true ∧ (u.m.ep n).errors = (x.errors + 1) % 65536
    (s.m.epLive n = true →
      (s.m.obj F.epMODE n = 1 →
        (∀ a, a ≠ x.a → s.m.obj F.epMULT n ≠ 0 ∨ a = true → Completes (.epEdge t n a x.b) s (by1 (a != x.b))) ∧
        (∀ b, b ≠ x.b → s.m.obj F.epMULT n = 2 → Completes (.epEdge t n x.a b) s (by1 (x.a == b))) ∧
        (Completes (.epEdge t n (!x.a) (!x.b)) s (fun u => err u ∧ (u.m.ep n).countErr = true ∧
          u.m.obj F.epCOUNT_ERRORS n = min (s.m.obj F.epCOUNT_ERRORS n + 1) (2 ^ 32 - 1)))) ∧
      (s.m.obj F.epMODE n = 3 → x.a = false → x.bAt + 25 ≤ s.at_ t → Completes (.epEdge t n true x.b) s (by1 (!x.b))) ∧
      (s.m.obj F.epMODE n = 4 → (x.a = false → Completes (.epEdge t n true x.b) s (by1 true)) ∧
        (x.b = false → Completes (.epEdge t n x.a true) s (by1 false))) ∧
      (∀ (code : Fin 8) i, s.m.obj F.epMODE n = 2 → code.val ≠ x.hall → hallPlace x.hallValid = some i →
        (hallPlace code = some ((i + 1) % 6) → Completes (.hallTransition t n code) s (by1 true)) ∧
        (∀ j, hallPlace code = some j → i = (j + 1) % 6 → Completes (.hallTransition t n code) s (by1 false)) ∧
        (hallPlace code = none → Completes (.hallTransition t n code) s (fun u => err u ∧ (u.m.ep n).hallBadAt.isSome = true))) ∧
      (s.m.obj F.epMODE n = 1 → x.z = false →
        (x.preset = none → Completes (.zEdge t n true) s (fun u => (u.m.ep n).indexSeen = true ∧
          (u.m.ep n).indexPos = posOf x.c (s.m.cpr n) ∧ (u.m.ep n).c = x.c)) ∧
        (∀ v q sq, x.preset = some (1, v, q, sq) → Completes (.zEdge t n true) s (fun u => (u.m.ep n).c = v ∧ (u.m.ep n).refLost = false ∧
          (u.m.ep n).preset = none ∧ (s.roomy q → ∃ at_, Raised u q 0x0810 stDONE [⟨0xF0, toBe 4 sq⟩, itm 1 8 at_])))) ∧
      (∀ r y w, 5 ≤ s.m.obj F.epMODE n → s.m.absPos n r = some (y, w) →
        (x.reading = none → Completes (.absoluteRead t n r) s (fun u => (u.m.ep n).c = (y : Int) + sint 32 (s.m.obj F.epOFFSET n) ∧
          (u.m.ep n).reading = some y ∧ (u.m.ep n).fails = 0)) ∧
        (∀ p, x.reading = some p →
          let width := s.m.obj F.epPOS_WIDTH n
          let d := sint width ((y + 2 ^ width - p % 2 ^ width) % 2 ^ width)
          let jump := if s.m.obj F.epJUMP_MAX n = 0 then 2 ^ width / 4 else s.m.obj F.epJUMP_MAX n
          (d.natAbs ≤ jump → Completes (.absoluteRead t n r) s (fun u =>
            (u.m.ep n).c = x.c + (if s.m.obj F.epINVERT n = 1 then -d else d) ∧ (u.m.ep n).reading = some y ∧ (u.m.ep n).fails = 0)) ∧
          (jump < d.natAbs → Completes (.absoluteRead t n r) s (fun u => (u.m.ep n).c = x.c ∧ (u.m.ep n).fails = x.fails + 1)))) ∧
      (∀ cause : Fin 5, (s.m.upTo t).fenceDue n (cause.val + 1) = true → Completes (.epFenced t n cause) s (fun u =>
        u.m.obj F.epSTATE n = 2 ∧ u.m.obj F.epFENCE_CAUSE n = cause.val + 1 ∧ (u.m.ep n).c = x.c ∧ (u.m.ep n).preset = none))) ∧
    (∀ a, x.edgeAt = some a → a + s.m.obj F.epZERO_TIMEOUT_MS n * 10 ^ 6 ≤ s.at_ t →
      Completes (.epStandstill t n) s (fun u => (u.m.ep n).standstill = true ∧ (u.m.ep n).c = x.c))

/-- Probes, emulation outputs and the ports' commands (R335 to R339, R346, R347): a qualifying edge of an armed probe latches its source's
count, and without a source latches nothing; an emulation output follows its source one edge at a time; a preset at once, at the next
index or at the owner's Clapper; a fenced port returns to service, or its cause is still present. -/
def Obligations.PortUnits : Prop :=
  ∀ (t : Nat) (s : State),
    (∀ (k : Fin 8) (level : Bool), let x := s.m.pr k
      let edge := field x.ctrl 2 1
      level ≠ x.level → (edge = 2 ∨ edge = 0 ∧ level = true ∨ edge = 1 ∧ level = false) → x.armed = true →
        (∀ c, (s.m.upTo t).sourceCount (s.m.obj F.prSOURCE k) = some c → Completes (.probeLatch t k level) s (fun u =>
          (u.m.pr k).latch = some (c, s.at_ t) ∧ (u.m.pr k).since = x.since + 1 ∧ (u.m.pr k).count = (x.count + 1) % 256 ∧
          (u.m.pr k).armed = bit x.ctrl 3)) ∧
        ((s.m.upTo t).sourceCount (s.m.obj F.prSOURCE k) = none → Completes (.probeLatch t k level) s (fun u =>
          (u.m.pr k).latch = x.latch ∧ (u.m.pr k).armed = true ∧ (u.m.pr k).level = level))) ∧
    (∀ (k : Fin 4) (c : Int), let x := s.m.em k
      let d := s.m.emTarget k c - x.e
      (s.m.upTo t).sourceCount (s.m.obj F.emSOURCE k) = some c → x.lost = false → d ≠ 0 → d.natAbs ≤ 4 * s.m.obj F.emLINES k →
        x.edgeAt.any (fun a => decide (s.at_ t < a + 200)) = false →
        Completes (.emEdge t k) s (fun u => (u.m.em k).e = x.e + (if 0 < d then 1 else -1) ∧ (u.m.em k).edgeAt = some (s.at_ t))) ∧
    ∀ (msg : Msg) (is : List Item), let c := cmdOf msg s is
      let n := c.num 1
      let x := s.m.ep n
      let own := s.m.epOwner s.ram n
      let mine := isSys c.owner = true ∨ own = some c.owner
      let v : Int := sint 32 (c.num 3) * (s.m.cpr n : Nat) + (c.num 2 : Nat)
      (Accepts epSetPositionCard msg s is → mine → s.m.obj F.epSTATE n ≠ 2 → s.m.obj F.epMODE n ≠ 0 → c.num 2 < s.m.cpr n →
        (c.num 4 = 0 → Completes (.epSetPosition msg) s (fun u => (u.m.ep n).c = v ∧ (u.m.ep n).refLost = false ∧
          (u.m.ep n).preset = none ∧ ∃ a, Replied u msg stDONE [itm 1 8 a])) ∧
        (c.num 4 = 1 → s.m.obj F.epMODE n = 1 → Completes (.epSetPosition msg) s (fun u => Replied u msg stSTARTED [] ∧
          (u.m.ep n).c = x.c ∧ (u.m.ep n).preset = some (1, v, msg.queue, msg.seq))) ∧
        (c.num 4 = 2 → own.isSome = true → Completes (.epSetPosition msg) s (fun u => (u.m.ep n).c = x.c ∧
          (u.m.ep n).preset = some (2, v, msg.queue, msg.seq) ∧ ∃ a, Replied u msg stDONE [itm 1 8 a]))) ∧
      (Accepts epSetPositionCard msg s is → mine → s.m.obj F.epSTATE n = 2 →
        Completes (.epSetPosition msg) s (fun u => Replied u msg 0x1801 [] ∧ u.m.eps = s.m.eps)) ∧
      ∀ present, Accepts epUnfenceCard msg s is → mine → s.m.obj F.epSTATE n = 2 →
        let cause := s.m.obj F.epFENCE_CAUSE n
        let still := cause = 4 ∧ hallPlace x.hall = none ∨ cause ≠ 3 ∧ cause ≠ 4 ∧ present = true
        (¬still → Completes (.epUnfence msg present) s (fun u => Replied u msg stDONE [] ∧ u.m.obj F.epSTATE n = 1 ∧
          u.m.obj F.epFENCE_CAUSE n = 0 ∧ (u.m.ep n).c = x.c ∧ (u.m.ep n).refLost = decide (s.m.obj F.epMODE n < 5))) ∧
        (still → Completes (.epUnfence msg present) s (fun u => Replied u msg 0x1802 [] ∧ u.m.obj F.epSTATE n = 2))

/-- What happens to an axis (R351, R352, R357, R359 to R362): a completed move, a step edge, a limit input, a stall, a following error (of a stepper
stage: a stall), a stage fault and its end, the holding current. The axis is in no gear group. -/
def Obligations.AxisEvents : Prop :=
  ∀ (t : Nat) (n : Fin 16) (s : State),
    let x := s.m.ax n
    let y := (s.m.upTo t).planNow n
    s.m.groupOf n = none →
    (x.plan ≠ [] → y.2.2.2.1 = true → Completes (.moveDone t n) s (fun u => (u.m.ax n).plan = [] ∧ (u.m.ax n).pos = y.2.1 ∧
      (u.m.ax n).kind = 0 ∧ (x.busy = true → (u.m.ax n).busy = false ∧ (u.m.ax n).done = true))) ∧
    (x.plan ≠ [] → y.2.2.2.1 = false → y.2.2.1 ≠ 0 → (s.m.upTo t).dirWaits n (decide (0 < y.2.2.1)) = false →
      Completes (.axisStepEdge t n) s (fun u => (u.m.ax n).stepAt = s.at_ t ∧
      (u.m.ax n).dirUp = decide (0 < y.2.2.1) ∧ u.m.obj F.axCMD_POS n = uint 64 y.2.1 ∧ (u.m.ax n).plan = x.plan)) ∧
    (∀ positive, Completes (.axLimit t n positive false) s (fun u =>
        (if positive then (u.m.ax n).limPos else (u.m.ax n).limNeg) = false ∧ (u.m.ax n).plan = x.plan) ∧
      ((if positive then x.limPos else x.limNeg) = false → x.plan ≠ [] → y.2.2.2.1 = false → y.2.2.1 ≠ 0 → x.kind = 1 → x.busy = true →
        Completes (.axLimit t n positive true) s (fun u => (if positive then (u.m.ax n).limPos else (u.m.ax n).limNeg) = true ∧
          (u.m.ax n).kind = 5 ∧ (u.m.ax n).busy = false ∧ (u.m.ax n).aborted = true ∧ u.m.obj F.axLAST_CAUSE n = 6))) ∧
    (s.m.obj F.axDRIVE n = 2 → x.stall = false → x.kind ≤ 5 → Completes (.axStall t n) s (fun u => (u.m.ax n).stall = true ∧
      (u.m.ax n).refLost = true ∧ (u.m.ax n).plan = [] ∧ u.m.obj F.axLAST_CAUSE n = 3)) ∧
    (s.m.obj F.axFE_MAX n ≠ 0 → s.m.obj F.axFB_PORT n < 8 → s.m.obj F.axDRIVE n ≠ 0 →
      s.m.obj F.axFE_MAX n < ((s.m.upTo t).followErr n).natAbs →
      let stepper := (s.m.stageOf n).any (fun j => s.m.obj F.msSTAGE_MODE j == 1)
      (stepper = false → x.kind ≤ 4 →
        Completes (.followingError t n) s (fun u => (u.m.ax n).following = true ∧ u.m.obj F.axLAST_CAUSE n = 7)) ∧
      (stepper = true → x.stall = false → x.kind ≤ 5 →
        Completes (.followingError t n) s (fun u => (u.m.ax n).stall = true ∧ (u.m.ax n).plan = [] ∧ u.m.obj F.axLAST_CAUSE n = 3))) ∧
    ∀ k : Fin 4, n.val = k.val → s.m.obj F.axDRIVE n = 2 →
      (∀ f : Fin 6, s.m.isM4 = true → s.m.obj F.msSTAGE_MODE k ≠ 0 → s.m.obj F.msFAULT k = 0 → Completes (.msFault t k f) s (fun u =>
        u.m.obj F.msFAULT k = f.val + 1 ∧ u.m.obj F.msSTATE k = 3 ∧ (u.m.ax n).refLost = true)) ∧
      ((s.m.obj F.msFAULT k = 3 ∨ s.m.obj F.msFAULT k = 4) → Completes (.msFaultClear t k) s (fun u => u.m.obj F.msFAULT k = 0)) ∧
      ((s.m.obj F.msFAULT k = 2 ∨ s.m.obj F.msFAULT k = 5) → Completes (.msFaultClear t k) s (fun u => u.m.obj F.msFAULT k = s.m.obj F.msFAULT k ∧
        (ug {} u.m.mss k.val : MsSt).clearable = true)) ∧
      (s.m.obj F.msSTAGE_MODE k = 1 → s.m.obj F.msSTATE k = 1 → s.m.obj F.msFAULT k = 0 → x.plan = [] → x.isl = false → x.off = false →
        (x.fell = false ∨ s.m.obj F.msFALLBACK_STAGE k ≠ 1) → x.stepAt + s.m.obj F.msHOLD_DELAY_MS k * 10 ^ 6 ≤ s.at_ t →
        Completes (.holdDelayExpiry t k) s (fun u => u.m.obj F.msSTATE k = 2))

/-- Gear groups and the commands of axes (R364, R366, R367, R372 to R374): a matched group engages, a Splice reached changes the ratio, a
run-down ends idle; AXIS_JOG writes the commissioning values of an admissible request, AXIS_STOP stops at once, AXIS_HOME sets the position
of an axis at rest. -/
def Obligations.GroupsAndAxisCommands : Prop :=
  ∀ (t : Nat) (g : Fin 8) (s : State),
    let x := s.m.gg g
    (x.state = 1 → (∀ n ∈ s.m.membersOf g, (s.m.ax n).speedAt ≤ s.at_ t) →
      Completes (.gearSyncMatched t g) s (fun u => (u.m.gg g).state = 2 ∧ (u.m.gg g).left = 0 ∧ u.m.obj F.ggSTATE g = 2 ∧
        (u.m.gg g).m0 = ((s.m.upTo t).masterNow g).1)) ∧
    (∀ num den pos below, x.splice = some (num, den, pos, below) →
      (if below then pos ≤ ((s.m.upTo t).masterNow g).1 else ((s.m.upTo t).masterNow g).1 ≤ pos) →
      Completes (.splice t g) s (fun u => (u.m.gg g).num = num ∧ (u.m.gg g).den = den ∧ (u.m.gg g).splice = none ∧
        (u.m.gg g).spliceDone = true ∧ (x.state = 2 → (u.m.gg g).m0 = pos))) ∧
    (x.state = 3 → x.downAt + x.downT ≤ s.at_ t → Completes (.rundownEnd t g) s (fun u => (u.m.gg g).state = 0 ∧ u.m.obj F.ggSTATE g = 0)) ∧
    ∀ (msg : Msg) (is : List Item), let c := cmdOf msg s is
      let n := c.num 1
      let a := s.m.ax n
      let y := (s.m.upTo msg.t).planNow n
      let mine := isSys c.owner = true ∨ s.m.axOwner s.ram n = some c.owner
      let b := 0x00400 + 32 * n
      (Accepts axisJogCard msg s is → mine → (s.m.intake msg).refusal n (c.num 2) (c.num 4) (sint 64 (c.num 3)) = 0 →
        Completes (.axisJog msg) s (fun u => (∃ v, Replied u msg stDONE [itm 1 8 v]) ∧
          commOf u.ram b = some ((((commOf s.ram b).map (· % 256)).getD a.seq + 1) % 256 + c.num 2 * 256) ∧
          commOf u.ram (b + 4) = some (c.num 3 % 2 ^ 16))) ∧
      (Accepts axisStopCard msg s is → mine → s.m.groupOf n = none → a.plan ≠ [] → y.2.2.2.1 = false → y.2.2.1 ≠ 0 → a.kind ≤ 2 →
        Completes (.axisStop msg) s (fun u => (∃ v, Replied u msg stDONE [itm 1 8 v]) ∧ (u.m.ax n).busy = false ∧
          (u.m.ax n).kind = if c.num 2 = 1 then 5 else 3)) ∧
      (Accepts axisHomeCard msg s is → mine → s.m.groupOf n = none → a.plan = [] →
        Completes (.axisHome msg) s (fun u => Replied u msg stDONE [] ∧ (u.m.ax n).pos = sint 64 (c.num 2) ∧ (u.m.ax n).refLost = false))

/-- The tick, the timers of rows and steps (R381, R384, R390, R395): a tick runs every door in turn and then the bindings; the one door in
use, its drive two load channels, whose timed row is over goes on to the row's NEXT_OK, or at the end of a sequence to none; in STAND-IN
nothing moves; a row out of time goes to its NEXT_TO; a step that does not arrive in STEP_TIME_MS is in FAULT, its outputs off. -/
def Obligations.DoorTicks : Prop :=
  ∀ (t : Nat) (d : Fin 256) (mas : List (Nat × Nat)) (s : State),
    let x := s.m.door d
    let k := s.m.obj F.doorROW d
    let awake := s.m.mode ≠ 3 ∧ s.m.mode ≠ 0xFF
    (s.m.mode = 3 → Completes (.doorTick t mas) s (fun u => u.m.doors = s.m.doors ∧ u.m.objs = s.m.objs ∧ u.ram = s.ram)) ∧
    (awake → Completes (.doorTick t mas) s (fun u => u.ram = s.ram ∧ u.m =
      { ((s.m.upTo t).each s.m.doorsOn (fun m d => m.tickDoor s.ram mas d)).bindTick s.ram with now := s.at_ t })) ∧
    (awake → s.m.doorsOn = [d.val] → s.m.bindsOn = [] → s.m.obj F.doorDRIVE_KIND d = 2 → 8 ≤ s.m.obj F.doorFB_PORT d →
      s.m.obj F.doorOBST_METHODS d = 0 → s.m.obj F.doorSTEP_PRESENT d = 0 → s.m.obj F.doorHOLD d = 0 →
      (bit (s.m.dinNow d) 0 && bit (s.m.dinNow d) 1) = false → x.pend = none → x.fallAt = none → x.learn = none →
      x.cmdAt ≠ some (s.at_ t) → s.m.doorOwner s.ram d = none → k ≠ 0xFF → x.rowAt < s.at_ t → rowB x.board k 10 = 3 →
      x.rowAt + rowH x.board k 12 * 10 ^ 6 ≤ s.at_ t →
      (∀ ok, rowB x.board k 14 = ok → ok < 0xFF → rowB x.board ok 0 = 0xFF → rowB x.board ok 1 = 0 →
        Completes (.doorTick t mas) s (fun u => u.m.obj F.doorROW d = ok ∧ (u.m.door d).rowAt = s.at_ t ∧ (u.m.door d).run = 0)) ∧
      (rowB x.board k 14 = 0xFF → x.next_ = none → Completes (.doorTick t mas) s (fun u => u.m.obj F.doorROW d = 0xFF ∧
        u.m.obj F.doorDOOR_STATE d = s.m.obj F.doorDOOR_STATE d ∧ (u.m.door d).run = 0))) ∧
    (awake → s.m.obj F.doorDRIVE_KIND d ≠ 1 → (s.m.upTo t).waitMet d = false → (s.m.upTo t).rowLate d = true → k ≠ 0xFF →
      x.rowAt < s.at_ t → ∀ to_, rowB x.board k 15 = to_ → to_ < 0xFF → rowB x.board to_ 0 = 0xFF → rowB x.board to_ 1 = 0 →
      Completes (.rowTimeout t d) s (fun u => u.m.obj F.doorROW d = to_ ∧ (u.m.door d).rowAt = s.at_ t)) ∧
    (awake → s.m.obj F.doorSTEP_PRESENT d ≠ 0 → x.stepFault = false → ∀ a,
      (bit x.outs 0 = true ∧ bit x.din 5 = false ∧ x.depAt = some a ∨ bit x.outs 1 = true ∧ bit x.din 4 = false ∧ x.stowAt = some a) →
      a + s.m.obj F.doorSTEP_TIME_MS d * 10 ^ 6 ≤ s.at_ t →
      Completes (.stepTimeExpiry t d) s (fun u => u.m.obj F.doorSTEP_STATE d = 6 ∧ (u.m.door d).stepFault = true ∧
        bit (u.m.door d).outs 0 = false ∧ bit (u.m.door d).outs 1 = false))

/-- Commands of doors (R387, R399 to R401): a command that no reason refuses is written as the commissioning value, one that is refused
names its reason; a learn starts on a door closed at standstill and ends with its profile or its failure; a sound storyboard is in force. The item of a refused command's REASON is R399's; a failed learn's is R400's (log 73). -/
def Obligations.DoorCommands : Prop :=
  ∀ (msg : Msg) (s : State) (is : List Item),
    let c := cmdOf msg s is
    let d := c.num 1
    let x := s.m.door d
    let mine := s.m.obj F.doorSTORYBOARD d ≠ 0xFF ∧ (isSys c.owner = true ∨ s.m.doorOwner s.ram d = some c.owner)
    let b := 0x00600 + 8 * d
    (Accepts doorCommandCard msg s is → mine → d ≤ 255 → (s.m.intake msg).doorRefusal d (c.num 2) = 0 →
      Completes (.doorCommand msg) s (fun u => (∃ v, Replied u msg stDONE [itm 1 8 v]) ∧
        commOf u.ram b = some (c.num 2 + (((commOf s.ram b).map (· / 256)).getD x.seq + 1) % 256 * 256))) ∧
    (∀ why, Accepts doorCommandCard msg s is → mine → x.learn = none → (s.m.intake msg).doorRefusal d (c.num 2) = why → why ≠ 0 →
      Completes (.doorCommand msg) s (fun u => Replied u msg 0x1A03 [itm 2 1 why] ∧ u.ram = s.ram ∧ u.m.doors = s.m.doors)) ∧
    (Accepts doorLearnCard msg s is → mine → x.learn = none → (s.m.upTo msg.t).doorHeld d = false → s.m.obj F.doorDOOR_STATE d = 1 →
      (s.m.upTo msg.t).doorStill d = true → s.m.obj F.doorREF_LOST d = 0 → s.m.obj F.doorDRIVE_KIND d ≠ 1 →
      tb (s.m.board (s.m.obj F.doorSTORYBOARD d)) 0 ≠ 0xFF → tb (s.m.board (s.m.obj F.doorSTORYBOARD d)) 1 ≠ 0xFF →
      Completes (.doorLearn msg) s (fun u => Replied u msg stSTARTED [] ∧ u.m.obj F.doorDOOR_STATE d = 9 ∧
        (u.m.door d).learn = some ⟨msg.queue, msg.seq, c.num 2 3 - 1, true, [], [], [], none⟩)) ∧
    (∀ (t : Nat) (n : Fin 256) (l : LearnSt), (s.m.door n).learn = some l →
      (l.result = some 0 → Completes (.doorLearned t n) s (fun u => (u.m.door n).learn = none ∧ (u.m.door n).profile = learnedBins (l.opens.headD 0) l.samples ∧
        u.m.obj F.doorPROFILE_VALID n = 1 ∧ u.m.obj F.doorDOOR_STATE n = 1 ∧ u.m.obj F.doorOPEN_POS n = uint 32 (l.opens.headD 0) ∧
        ((s.m.cq l.queue).held.length < 254 → Raised u l.queue 0x0A11 stDONE [⟨0xF0, toBe 4 l.seq⟩, itm 1 4 (uint 32 (l.opens.headD 0))]))) ∧
      (∀ why, l.result = some (why + 1) → Completes (.doorLearned t n) s (fun u => (u.m.door n).learn = none ∧
        (u.m.door n).profile = (s.m.door n).profile ∧ u.m.obj F.doorPROFILE_VALID n = s.m.obj F.doorPROFILE_VALID n ∧
        (s.roomy l.queue → Raised u l.queue 0x0A11 0x1A02 [⟨0xF0, toBe 4 l.seq⟩, itm 2 1 (why + 1)])))) ∧
    (Accepts storyboardLoadCard msg s is → (c.bytes 2).length = 16 + 16 * tb (c.bytes 2) 8 → boardFault (c.bytes 2) = none →
      (∀ n ∈ s.m.doorsOn, s.m.obj F.doorSTORYBOARD n = c.num 1 → s.m.boardMisfits (c.bytes 2) n = false) →
      Completes (.storyboardLoad msg) s (fun u => u.m.board (c.num 1) = c.bytes 2 ∧ u.m.doors = s.m.doors ∧
        Replied u msg stDONE [itm 1 4 (Config.sha256 (c.bytes 2) / 2 ^ 224)]))

/-- Load shedding and the gauge (R408 to R412, R416): the stage of a rail overdrawn for SHED_MS rises and holds the channels it
covers, and falls after RESTORE_S; estimates that disagree, agree, are validated; the capacity learned; the end of life; a test asked for. The item layouts of events whose values the manual gives in prose are the model's choice (log 12). When a rail is seen overdrawn and what counts as the end of life are the model's (log 61). -/
def Obligations.PowerEvents : Prop :=
  ∀ (t : Nat) (k : Fin 2) (ma mv cc v : Nat) (s : State),
    let stage := s.m.obj F.railSHED_STAGE k
    let full := s.m.obj F.powPOWER_STATE = 0
    let x := s.m.rail k
    let shedNs := s.m.obj F.railSHED_MS k * 10 ^ 6
    ((s.m.upTo t).overdrawn k ma mv = true → x.trig = true → x.since + shedNs ≤ s.at_ t → x.riseAt + shedNs ≤ s.at_ t → stage < 15 →
      Completes (.shedStageRise t k ma mv) s (fun u => u.m.obj F.railSHED_STAGE k = stage + 1 ∧ (u.m.rail k).riseAt = s.at_ t ∧
      (∀ j : Fin 32, railOf j = k.val → 1 ≤ s.m.obj F.chanSHED_RANK j → s.m.obj F.chanSHED_RANK j ≤ stage + 1 → (u.m.lc j).shed = true) ∧
      ∃ mask, s.roomy 0 → Raised u 0 0x0B82 0 [itm 1 1 k.val, itm 2 1 (stage + 1), itm 3 4 mask])) ∧
    ((s.m.upTo t).overdrawn k ma mv = false → x.trig = false ∨ s.at_ t < x.since + shedNs →
      max x.ended x.fallAt + s.m.obj F.railRESTORE_S k * 10 ^ 9 ≤ s.at_ t → 0 < stage → stage ≤ 15 →
      Completes (.shedStageFall t k ma mv) s (fun u => u.m.obj F.railSHED_STAGE k = stage - 1 ∧ (u.m.rail k).fallAt = s.at_ t ∧ u.m.lcs = s.m.lcs)) ∧
    (cc < 2 ^ 32 → v < 2 ^ 32 →
      (4000 < ((cc : Int) - v).natAbs → s.m.obj F.gaugeGAUGE_STATE ≠ 1 → Completes (.gaugeDisagree t cc v) s (fun u =>
        u.m.obj F.gaugeGAUGE_STATE = 1 ∧ u.m.obj F.gaugeE_USED_MJ = min cc v ∧ u.m.gauge.hourAt = s.at_ t ∧ (full → u.m.gauge.testing = true) ∧
        u.m.obj F.gaugeDISAGREEMENTS = min (s.m.obj F.gaugeDISAGREEMENTS + 1) (2 ^ 32 - 1))) ∧
      (((cc : Int) - v).natAbs ≤ 2000 → Completes (.gaugeAgree t cc v) s (fun u => u.m.obj F.gaugeGAUGE_STATE = 0 ∧
        u.m.obj F.gaugeE_USED_MJ = min cc v))) ∧
    (∀ esr, s.m.gauge.testing = true → esr * 2 ≤ s.m.obj F.gaugeESR_MOHM * 3 → s.m.obj F.gaugeE_V_MJ < 2 ^ 32 →
      Completes (.impedanceTestDone t esr true) s (fun u => u.m.gauge.testing = false ∧ u.m.obj F.gaugeGAUGE_STATE = 2 ∧
        u.m.obj F.gaugeE_USED_MJ = s.m.obj F.gaugeE_V_MJ ∧ u.m.obj F.gaugeE_CC_MJ = s.m.obj F.gaugeE_V_MJ) ∧
      Completes (.impedanceTestDone t esr false) s (fun u => u.m.gauge.testing = false ∧
        u.m.obj F.gaugeE_USED_MJ = s.m.obj F.gaugeE_USED_MJ ∧ (∀ q sq, s.m.gauge.by_ = some (q, sq) → s.roomy q →
          Raised u q 0x0B14 0 [⟨0xF0, toBe 4 sq⟩, itm 1 1 1]))) ∧
    (s.m.obj F.gaugeGAUGE_STATE = 1 → full → s.m.gauge.hourAt + 3600 * 10 ^ 9 ≤ s.at_ t →
      Completes (.impedanceTestPeriod t) s (fun u => u.m.gauge.testing = true)) ∧
    (∀ esr, cc < 2 ^ 32 → Completes (.capacityLearn t cc esr) s (fun u => u.m.obj F.gaugeCAPACITY_MJ = cc ∧ u.m.obj F.gaugeE_CC_MJ = cc ∧
      u.m.obj F.gaugeESR_MOHM = esr % 2 ^ 16)) ∧
    Completes (.cartridgeEndOfLife t) s (fun u => u.m.gauge.eol = true ∧ u.m.obj F.gaugePF_STATE = s.m.obj F.gaugePF_STATE) ∧
    ∀ (msg : Msg) (is : List Item), Accepts gaugeTestCard msg s is → full → s.m.gauge.testing = false →
      (∀ a, s.m.gauge.testAt = some a → a + 60 * 10 ^ 9 ≤ s.at_ msg.t) →
      Completes (.gaugeTest msg) s (fun u => Replied u msg stSTARTED [] ∧ u.m.gauge.testing = true ∧ u.m.gauge.by_ = some (msg.queue, msg.seq) ∧
        u.m.gauge.testAt = some (s.at_ msg.t))

/-- Alarms (R417 to R420, R424): a condition that has stood for its delay is active and the alarm unacknowledged, one that has cleared
returns; a shelve ends; a flood ends; acknowledgement, shelving and unshelving of an alarm its queue reaches. -/
def Sys2Proof.Part.AlarmStates : Prop :=
  ∀ (t : Nat) (a : Fin 65536) (s : State),
    let x := s.m.alarm a
    let plain := s.m.isSet F.alarmIN_SERVICE a = true ∧ x.sup = false ∧ x.flood = false ∧ x.ack = false ∧
      s.m.inFlood (s.m.obj F.alarmFLOOD_GROUP a) = false
    (s.m.obj F.alarmOWNER a ≠ 0xFF → plain → x.shelf = none →
      (x.cond = true → x.active = false → x.condAt + s.m.obj F.alarmON_DELAY_MS a * 10 ^ 6 ≤ s.at_ t →
        s.m.obj F.alarmSTATE a ∈ [0, 3, 4] → Completes (.alarmDelayExpiry t a) s (fun u => (u.m.alarm a).active = true ∧
          u.m.obj F.alarmSTATE a = 1)) ∧
      (x.cond = false → x.active = true → x.condAt + s.m.obj F.alarmOFF_DELAY_MS a * 10 ^ 6 ≤ s.at_ t →
        (s.m.obj F.alarmSTATE a = 1 → Completes (.alarmDelayExpiry t a) s (fun u => (u.m.alarm a).active = false ∧
          u.m.obj F.alarmSTATE a = if s.m.obj F.alarmLATCHING a = 0 then 3 else 4)) ∧
        (s.m.obj F.alarmSTATE a = 2 → Completes (.alarmDelayExpiry t a) s (fun u => (u.m.alarm a).active = false ∧
          u.m.obj F.alarmSTATE a = if s.m.obj F.alarmLATCHING a = 0 then 0 else 4)))) ∧
    (∀ b e, plain → x.shelf = some (b, e) → s.m.shelfEnd a ≤ s.at_ t → s.m.obj F.alarmSTATE a = 5 →
      Completes (.shelveExpiry t a) s (fun u => (u.m.alarm a).shelf = none ∧ u.m.obj F.alarmSTATE a = x.active.toNat)) ∧
    (∀ g : Fin 256, s.m.inFlood g = true → 2 * (s.m.upTo t).floodCount g < s.m.obj F.floodFLOOD_COUNT g →
      (s.m.floodG g).began + s.m.obj F.floodFLOOD_HOLD_S g * 10 ^ 9 ≤ s.at_ t →
      (∀ a' ∈ s.m.listed F.alarmOWNER [], (s.m.alarm a').flood = false ∨ s.m.obj F.alarmFLOOD_GROUP a' ≠ g.val) →
      Completes (.floodEnd t g) s (fun u => u.m.obj F.floodSTATE g = 0)) ∧
    ∀ (msg : Msg) (is : List Item), let c := cmdOf msg s is
      let mine := c.num 1 = a.val ∧ c.num 2 1 = 1 ∧ s.m.obj F.alarmOWNER a ≠ 0xFF ∧ (isSys c.owner = true ∨ s.m.obj F.alarmOWNER a = c.owner)
      (Accepts alarmAckCard msg s is → mine → s.m.obj F.alarmSTATE a ∈ [1, 3, 4] → Completes (.alarmAck msg) s (fun u =>
        (u.m.alarm a).ack = true ∧ u.m.obj F.alarmSTATE a = s.m.obj F.alarmSTATE a ∧ Replied u msg stDONE [itm 1 2 1])) ∧
      (Accepts alarmShelveCard msg s is → mine → plain → c.num 3 ≤ s.m.obj F.alarmMAX_SHELVE_MIN a →
        Completes (.alarmShelve msg) s (fun u => (u.m.alarm a).shelf = some (s.at_ msg.t, s.at_ msg.t + c.num 3 * 60 * 10 ^ 9) ∧
          u.m.obj F.alarmSTATE a = 5 ∧ Replied u msg stDONE [itm 1 2 1])) ∧
      (Accepts alarmUnshelveCard msg s is → mine → plain → x.shelf.isSome = true → s.m.obj F.alarmSTATE a = 5 →
        Completes (.alarmUnshelve msg) s (fun u => (u.m.alarm a).shelf = none ∧ u.m.obj F.alarmSTATE a = x.active.toNat ∧
          Replied u msg stDONE [itm 1 2 1]))

/-- The matrix (R426, R431): an effect whose vote has held for its delay is active; a part of a new matrix is staged for its connection's
session. -/
def Sys2Proof.Part.MatrixCommands : Prop :=
  ∀ (s : State),
    (∀ (t : Nat) (e : Fin 4096) (b : List Nat) (p a : Nat), s.m.matrix.effects.find? (fun x => x.1 == e.val) = some (e.val, b) →
      s.m.effOwner s.ram b = some p → s.m.mode ≠ 3 → s.m.mode ≠ 4 → (s.m.eff e).since = some a → 1 ≤ enB b 1 →
      enB b 1 ≤ s.m.votesOf (s.m.matrixOf p) e → a + enH b 12 * 10 ^ 6 ≤ s.at_ t →
      Completes (.effectDelayExpiry t e) s (fun u => (u.m.eff e).active = true ∧ (u.m.eff e).since = some a ∧ u.m.obj F.effSTATE e = 3)) ∧
    ∀ (msg : Msg) (is : List Item), let c := cmdOf msg s is
      let own := (s.m.matrixStage.filter (fun x => x.1 == msg.conn.val && x.2.1 == (s.m.conn msg.conn).tag)).map (·.2.2)
      Accepts causeMatrixLoadCard msg s is → s.m.stageTaken msg.conn = false → c.has 3 = true →
      (c.bytes 3).length % sectionSize (c.num 1) = 0 → c.num 2 + (c.bytes 3).length / sectionSize (c.num 1) ≤ sectionMax (c.num 1) →
      c.num 4 ≠ 1 →
      Completes (.causeMatrixLoad msg) s (fun u => Replied u msg stDONE [] ∧ u.m.matrix = s.m.matrix ∧
        u.m.matrixStage = some (msg.conn.val, (s.m.conn msg.conn).tag, stageSection (own.getD {}) (c.num 1) (c.num 2) (c.bytes 3)))

/-- Alarms and the cause-and-effect matrix. -/
def Obligations.AlarmsAndMatrix : Prop := Sys2Proof.Part.AlarmStates ∧ Sys2Proof.Part.MatrixCommands

/-! ### Frames -/

/-- The state of engines, partitions, the configuration and its sheet, publications is as before. -/
def Sys2Proof.Part.sameComputing (s u : State) : Prop :=
  u.m.engines = s.m.engines ∧ u.m.parts = s.m.parts ∧ u.m.plans = s.m.plans ∧ u.m.subs = s.m.subs ∧ u.m.published = s.m.published ∧
  u.m.cfg = s.m.cfg ∧ u.m.sheet = s.m.sheet

/-- The state of axes, groups, doors, storyboards is as before. -/
def Sys2Proof.Part.sameMotion (s u : State) : Prop :=
  u.m.axs = s.m.axs ∧ u.m.ggs = s.m.ggs ∧ u.m.mss = s.m.mss ∧ u.m.ceAxes = s.m.ceAxes ∧ u.m.ceGroups = s.m.ceGroups ∧ u.m.doors = s.m.doors ∧
  u.m.boards = s.m.boards

/-- The state of load channels, controllers, limp-home, sense and loop outputs is as before. -/
def Sys2Proof.Part.sameLoads (s u : State) : Prop :=
  u.m.lcs = s.m.lcs ∧ u.m.ctls = s.m.ctls ∧ u.m.lh = s.m.lh ∧ u.m.limpForce = s.m.limpForce ∧ u.m.senses = s.m.senses ∧ u.m.rails = s.m.rails ∧
  u.m.los = s.m.los ∧ u.m.faLow = s.m.faLow

/-- The state of feedback ports, probes, emulation outputs is as before. -/
def Sys2Proof.Part.samePorts (s u : State) : Prop :=
  u.m.eps = s.m.eps ∧ u.m.prs = s.m.prs ∧ u.m.ems = s.m.ems

/-- The state of trunk places and trunks is as before. -/
def Sys2Proof.Part.sameTrunks (s u : State) : Prop :=
  u.m.places = s.m.places ∧ u.m.trunks = s.m.trunks

/-- The state of segments and their nodes is as before. -/
def Sys2Proof.Part.sameSegments (s u : State) : Prop :=
  u.m.segs = s.m.segs ∧ u.m.nodes = s.m.nodes ∧ u.m.hpBufs = s.m.hpBufs

/-- The state of alarms, the matrix, effects, the gauge, the digital inputs is as before. -/
def Sys2Proof.Part.sameAlarms (s u : State) : Prop :=
  u.m.alarms = s.m.alarms ∧ u.m.floods = s.m.floods ∧ u.m.matrix = s.m.matrix ∧ u.m.matrixOld = s.m.matrixOld ∧ u.m.matrixWait = s.m.matrixWait ∧
  u.m.matrixStage = s.m.matrixStage ∧ u.m.effs = s.m.effs ∧ u.m.gauge = s.m.gauge ∧ u.m.di = s.m.di

/-- The state of the Safety Island is as before. -/
def Sys2Proof.Part.sameIsland (s u : State) : Prop :=
  u.m.isl = s.m.isl

/-- The state of the pair is as before. -/
def Sys2Proof.Part.samePair (s u : State) : Prop :=
  u.m.pm = s.m.pm

/-- The state of security and service is as before. -/
def Sys2Proof.Part.sameService (s u : State) : Prop :=
  u.m.sec = s.m.sec ∧ u.m.svc = s.m.svc

/-- The state of the clocks is as before. -/
def Sys2Proof.Part.sameTime (s u : State) : Prop :=
  u.m.time = s.m.time

/-- The state of connections and credits is as before. -/
def Sys2Proof.Part.sameSessions (s u : State) : Prop :=
  u.m.conns = s.m.conns ∧ u.m.pools = s.m.pools

/-- No object field outside these classes has changed. -/
def Sys2Proof.Part.within (classes : List Nat) (s u : State) : Prop := ∀ (f : Fld) (k : Nat), f.cls ∉ classes → u.m.obj f k = s.m.obj f k

/-- Events of load channels, rails, controllers, limp-home and loop outputs. -/
def Sys2Proof.Part.loadEvent : Instr → Bool
  | .lcShort _ _ | .limitTimeout _ _ | .thermal _ _ | .lcCooled _ _ | .lcRestartDelay _ _ | .inrushSegmentEnd _ _ _ | .railUndervoltage _ _
  | .railRecovered _ _ | .railUvStaggeredReturn _ _ | .clampEnd _ _ _ | .bucketFull _ _ | .lcOpenLoad _ _ _ | .senseVisit _ _ _ _ _ _ _
  | .aliveLost2ms _ _ | .aliveLost50ms _ _ | .aliveReturn _ _ | .limpForceChange _ _ | .lhInputChange _ _ _ | .lcControllerPower _ _ _
  | .loLoopBreak _ _ | .loopBreakClear _ _ | .loRailLow _ _ => true
  | _ => false

/-- Events of load channels, rails, controllers, limp-home and loop outputs: what they leave as it was. -/
def Sys2Proof.Part.LoadEventFrame : Prop :=
  ∀ (i : Instr) (s u : State), exec i s = .next u → Sys2Proof.Part.loadEvent i = true →
    Sys2Proof.Part.sameComputing s u ∧ Sys2Proof.Part.sameMotion s u ∧ Sys2Proof.Part.samePorts s u ∧ Sys2Proof.Part.sameTrunks s u ∧
    Sys2Proof.Part.sameSegments s u ∧ Sys2Proof.Part.sameAlarms s u ∧ Sys2Proof.Part.sameIsland s u ∧ Sys2Proof.Part.samePair s u ∧
    Sys2Proof.Part.sameService s u ∧ Sys2Proof.Part.sameTime s u ∧ Sys2Proof.Part.sameSessions s u ∧ u.m.sys = s.m.sys ∧ u.m.wire = s.m.wire ∧
    u.m.fresh = s.m.fresh ∧ Sys2Proof.Part.within [0x0003, 0x0701, 0x0703, 0x0704, 0x0B01, 0x0B02, 0x0E01, 0x0E02] s u ∧ u.ram = s.ram

/-- Events of feedback ports, probes and emulation outputs. -/
def Sys2Proof.Part.portEvent : Instr → Bool
  | .epEdge _ _ _ _ | .hallTransition _ _ _ | .zEdge _ _ _ | .epStandstill _ _ | .absoluteRead _ _ _ | .probeLatch _ _ _ | .emEdge _ _ => true
  | _ => false

/-- Events of feedback ports, probes and emulation outputs: what they leave as it was. -/
def Sys2Proof.Part.PortEventFrame : Prop :=
  ∀ (i : Instr) (s u : State), exec i s = .next u → Sys2Proof.Part.portEvent i = true →
    Sys2Proof.Part.sameComputing s u ∧ Sys2Proof.Part.sameLoads s u ∧ Sys2Proof.Part.sameTrunks s u ∧ Sys2Proof.Part.sameSegments s u ∧
    Sys2Proof.Part.sameAlarms s u ∧ Sys2Proof.Part.samePair s u ∧ Sys2Proof.Part.sameService s u ∧ Sys2Proof.Part.sameTime s u ∧
    Sys2Proof.Part.sameSessions s u ∧ u.m.ceAxes = s.m.ceAxes ∧ u.m.ceGroups = s.m.ceGroups ∧ u.m.doors = s.m.doors ∧ u.m.boards = s.m.boards ∧
    u.m.sys = s.m.sys ∧ u.m.wire = s.m.wire ∧ u.m.fresh = s.m.fresh ∧
    Sys2Proof.Part.within [0x0003, 0x0801, 0x0802, 0x0803, 0x0901, 0x0902, 0x0903, 0x0E01, 0x0E02] s u ∧ u.ram = s.ram

/-- Events of field trunks and their nodes. -/
def Sys2Proof.Part.trunkEvent : Instr → Bool
  | .discoveryComplete _ _ | .nodeConfirmTimeout _ _ | .gfpInputFrame _ _ | .disownRepeat _ _ | .gfpIdentityFrame _ _ _ | .manageReply _ _ _ _ _
  | .trunkLinkLoss _ _ _ _ _ _ _ | .trunkLinkUp _ _ _ _ _ _ => true
  | _ => false

/-- Events of field trunks and their nodes: what they leave as it was. -/
def Sys2Proof.Part.TrunkEventFrame : Prop :=
  ∀ (i : Instr) (s u : State), exec i s = .next u → Sys2Proof.Part.trunkEvent i = true →
    Sys2Proof.Part.sameComputing s u ∧ Sys2Proof.Part.sameMotion s u ∧ Sys2Proof.Part.sameLoads s u ∧ Sys2Proof.Part.samePorts s u ∧
    Sys2Proof.Part.sameSegments s u ∧ Sys2Proof.Part.sameAlarms s u ∧ Sys2Proof.Part.sameIsland s u ∧ Sys2Proof.Part.samePair s u ∧
    Sys2Proof.Part.sameService s u ∧ Sys2Proof.Part.sameTime s u ∧ Sys2Proof.Part.sameSessions s u ∧ u.m.fresh = s.m.fresh ∧
    Sys2Proof.Part.within [0x0003, 0x0202, 0x0501, 0x0502, 0x0E01, 0x0E02] s u ∧ ((∀ x0 x1, i ≠ .gfpInputFrame x0 x1) → u.ram = s.ram)

/-- Events of segments and their nodes. -/
def Sys2Proof.Part.segmentEvent : Instr → Bool
  | .extraReferenceFrame _ _ | .segInputFrame _ _ | .join _ _ | .segIdentity _ _ | .matchFilterFrame _ _ | .filterProgramFrame _ _
  | .segFrame _ _ _ | .segTxEnd _ _ _ _ _ | .segBusOff _ _ | .busOffRecovery _ _ | .transceiverFault _ _ _ | .segLoadMeasure _ _ _
  | .segListenComplete _ _ _ | .segFrameError _ _ _ _ _ | .segmentGateOpen _ _ => true
  | _ => false

/-- Events of segments and their nodes: what they leave as it was. -/
def Sys2Proof.Part.SegmentEventFrame : Prop :=
  ∀ (i : Instr) (s u : State), exec i s = .next u → Sys2Proof.Part.segmentEvent i = true →
    Sys2Proof.Part.sameComputing s u ∧ Sys2Proof.Part.sameMotion s u ∧ Sys2Proof.Part.sameLoads s u ∧ Sys2Proof.Part.samePorts s u ∧
    Sys2Proof.Part.sameTrunks s u ∧ Sys2Proof.Part.sameAlarms s u ∧ Sys2Proof.Part.sameIsland s u ∧ Sys2Proof.Part.samePair s u ∧
    Sys2Proof.Part.sameService s u ∧ Sys2Proof.Part.sameTime s u ∧ Sys2Proof.Part.sameSessions s u ∧
    Sys2Proof.Part.within [0x0003, 0x0202, 0x0601, 0x0602, 0x0603, 0x0E01, 0x0E02] s u ∧ ((∀ x0 x1, i ≠ .segInputFrame x0 x1) → u.ram = s.ram)

/-- Events of axes, groups and motion stages. -/
def Sys2Proof.Part.axisEvent : Instr → Bool
  | .moveDone _ _ | .axLimit _ _ _ _ | .axStall _ _ | .followingError _ _ | .msFault _ _ _ | .msFaultClear _ _ | .holdDelayExpiry _ _
  | .gearSyncMatched _ _ | .splice _ _ | .rundownEnd _ _ | .axisStepEdge _ _ => true
  | _ => false

/-- Events of axes, groups and motion stages: what they leave as it was. -/
def Sys2Proof.Part.AxisEventFrame : Prop :=
  ∀ (i : Instr) (s u : State), exec i s = .next u → Sys2Proof.Part.axisEvent i = true →
    Sys2Proof.Part.sameComputing s u ∧ Sys2Proof.Part.sameLoads s u ∧ Sys2Proof.Part.samePorts s u ∧ Sys2Proof.Part.sameTrunks s u ∧
    Sys2Proof.Part.sameSegments s u ∧ Sys2Proof.Part.sameAlarms s u ∧ Sys2Proof.Part.samePair s u ∧ Sys2Proof.Part.sameService s u ∧
    Sys2Proof.Part.sameTime s u ∧ Sys2Proof.Part.sameSessions s u ∧ u.m.ceAxes = s.m.ceAxes ∧ u.m.ceGroups = s.m.ceGroups ∧ u.m.doors = s.m.doors ∧
    u.m.boards = s.m.boards ∧ u.m.sys = s.m.sys ∧ u.m.wire = s.m.wire ∧ u.m.fresh = s.m.fresh ∧
    Sys2Proof.Part.within [0x0003, 0x0901, 0x0902, 0x0903, 0x0E01, 0x0E02] s u ∧ u.ram = s.ram

/-- Door ticks and timers. -/
def Sys2Proof.Part.doorEvent : Instr → Bool
  | .doorTick _ _ | .rowTimeout _ _ | .stepTimeExpiry _ _ | .doorLearned _ _ => true
  | _ => false

/-- Door ticks and timers: what they leave as it was. -/
def Sys2Proof.Part.DoorEventFrame : Prop :=
  ∀ (i : Instr) (s u : State), exec i s = .next u → Sys2Proof.Part.doorEvent i = true →
    Sys2Proof.Part.sameComputing s u ∧ Sys2Proof.Part.sameTrunks s u ∧ Sys2Proof.Part.sameSegments s u ∧ Sys2Proof.Part.sameAlarms s u ∧
    Sys2Proof.Part.samePair s u ∧ Sys2Proof.Part.sameService s u ∧ Sys2Proof.Part.sameTime s u ∧ Sys2Proof.Part.sameSessions s u ∧
    u.m.mss = s.m.mss ∧ u.m.ceAxes = s.m.ceAxes ∧ u.m.ceGroups = s.m.ceGroups ∧ u.m.boards = s.m.boards ∧ u.m.ctls = s.m.ctls ∧ u.m.lh = s.m.lh ∧
    u.m.limpForce = s.m.limpForce ∧ u.m.senses = s.m.senses ∧ u.m.rails = s.m.rails ∧ u.m.los = s.m.los ∧ u.m.faLow = s.m.faLow ∧
    u.m.prs = s.m.prs ∧ u.m.sys = s.m.sys ∧ u.m.wire = s.m.wire ∧ u.m.fresh = s.m.fresh ∧
    Sys2Proof.Part.within [0x0003, 0x0701, 0x0801, 0x0803, 0x0901, 0x0902, 0x0903, 0x0A01, 0x0A02, 0x0B01, 0x0B02, 0x0E01, 0x0E02] s u ∧
    u.ram = s.ram

/-- Events of load shedding and the gauge. -/
def Sys2Proof.Part.powerEvent : Instr → Bool
  | .shedStageRise _ _ _ _ | .shedStageFall _ _ _ _ | .gaugeDisagree _ _ _ | .gaugeAgree _ _ _ | .impedanceTestDone _ _ _ | .impedanceTestPeriod _
  | .capacityLearn _ _ _ | .cartridgeEndOfLife _ => true
  | _ => false

/-- Events of load shedding and the gauge: what they leave as it was. -/
def Sys2Proof.Part.PowerEventFrame : Prop :=
  ∀ (i : Instr) (s u : State), exec i s = .next u → Sys2Proof.Part.powerEvent i = true →
    Sys2Proof.Part.sameComputing s u ∧ Sys2Proof.Part.sameMotion s u ∧ Sys2Proof.Part.samePorts s u ∧ Sys2Proof.Part.sameTrunks s u ∧
    Sys2Proof.Part.sameSegments s u ∧ Sys2Proof.Part.sameIsland s u ∧ Sys2Proof.Part.samePair s u ∧ Sys2Proof.Part.sameService s u ∧
    Sys2Proof.Part.sameTime s u ∧ Sys2Proof.Part.sameSessions s u ∧ u.m.ctls = s.m.ctls ∧ u.m.lh = s.m.lh ∧ u.m.limpForce = s.m.limpForce ∧
    u.m.senses = s.m.senses ∧ u.m.los = s.m.los ∧ u.m.faLow = s.m.faLow ∧ u.m.alarms = s.m.alarms ∧ u.m.floods = s.m.floods ∧
    u.m.matrix = s.m.matrix ∧ u.m.matrixOld = s.m.matrixOld ∧ u.m.matrixWait = s.m.matrixWait ∧ u.m.matrixStage = s.m.matrixStage ∧
    u.m.effs = s.m.effs ∧ u.m.di = s.m.di ∧ u.m.sys = s.m.sys ∧ u.m.wire = s.m.wire ∧ u.m.fresh = s.m.fresh ∧
    Sys2Proof.Part.within [0x0003, 0x0701, 0x0B01, 0x0B02, 0x0B05, 0x0B09, 0x0E01, 0x0E02] s u ∧ u.ram = s.ram

/-- Timers of alarms, floods and effects. -/
def Sys2Proof.Part.alarmEvent : Instr → Bool
  | .alarmDelayExpiry _ _ | .shelveExpiry _ _ | .floodEnd _ _ | .effectDelayExpiry _ _ => true
  | _ => false

/-- Timers of alarms, floods and effects: what they leave as it was. -/
def Sys2Proof.Part.AlarmEventFrame : Prop :=
  ∀ (i : Instr) (s u : State), exec i s = .next u → Sys2Proof.Part.alarmEvent i = true →
    Sys2Proof.Part.sameComputing s u ∧ Sys2Proof.Part.sameMotion s u ∧ Sys2Proof.Part.sameLoads s u ∧ Sys2Proof.Part.samePorts s u ∧
    Sys2Proof.Part.sameTrunks s u ∧ Sys2Proof.Part.sameSegments s u ∧ Sys2Proof.Part.sameIsland s u ∧ Sys2Proof.Part.samePair s u ∧
    Sys2Proof.Part.sameService s u ∧ Sys2Proof.Part.sameTime s u ∧ Sys2Proof.Part.sameSessions s u ∧ u.m.matrix = s.m.matrix ∧
    u.m.matrixOld = s.m.matrixOld ∧ u.m.matrixWait = s.m.matrixWait ∧ u.m.matrixStage = s.m.matrixStage ∧ u.m.gauge = s.m.gauge ∧ u.m.di = s.m.di ∧
    u.m.sys = s.m.sys ∧ u.m.wire = s.m.wire ∧ u.m.fresh = s.m.fresh ∧ Sys2Proof.Part.within [0x0003, 0x0B04, 0x0B06, 0x0B08, 0x0E01, 0x0E02] s u ∧
    u.ram = s.ram

/-- Events of the Safety Island. -/
def Sys2Proof.Part.islandEvent : Instr → Bool
  | .safetyCycle _ _ | .contactSample _ _ _ _ | .testPulse _ _ _ | .discrepancy _ _ | .connLoss _ _ | .resetPulse _ _ _ | .autoRearm _ _
  | .sqDelayExpiry _ _ | .darkTest _ _ _ | .sqReadbackFault _ _ | .sqFaultClear _ _ | .safetyFault _ _ | .brakeReleaseDelay _ _
  | .brakeTestOverdue _ _ | .brakeTestStep _ _ _ _ | .safetyIn _ _ _ _ _ _ => true
  | _ => false

/-- Events of the Safety Island: what they leave as it was. -/
def Sys2Proof.Part.IslandEventFrame : Prop :=
  ∀ (i : Instr) (s u : State), exec i s = .next u → Sys2Proof.Part.islandEvent i = true →
    Sys2Proof.Part.sameComputing s u ∧ Sys2Proof.Part.samePorts s u ∧ Sys2Proof.Part.sameTrunks s u ∧ Sys2Proof.Part.sameSegments s u ∧
    Sys2Proof.Part.sameAlarms s u ∧ Sys2Proof.Part.samePair s u ∧ Sys2Proof.Part.sameService s u ∧ Sys2Proof.Part.sameTime s u ∧
    Sys2Proof.Part.sameSessions s u ∧ u.m.mss = s.m.mss ∧ u.m.ceAxes = s.m.ceAxes ∧ u.m.ceGroups = s.m.ceGroups ∧ u.m.doors = s.m.doors ∧
    u.m.boards = s.m.boards ∧ u.m.ctls = s.m.ctls ∧ u.m.lh = s.m.lh ∧ u.m.limpForce = s.m.limpForce ∧ u.m.senses = s.m.senses ∧
    u.m.rails = s.m.rails ∧ u.m.los = s.m.los ∧ u.m.faLow = s.m.faLow ∧ u.m.wire = s.m.wire ∧ u.m.fresh = s.m.fresh ∧
    Sys2Proof.Part.within [0x0003, 0x0701, 0x0901, 0x0902, 0x0903, 0x0B01, 0x0B02, 0x0C01, 0x0C02, 0x0E01, 0x0E02] s u ∧ u.ram = s.ram

/-- Events of the recorder. -/
def Sys2Proof.Part.recorderEvent : Instr → Bool
  | .recordCommit _ | .flashPageProgram _ _ | .flashBlockFail _ _ | .windowIdleExpiry _ _ => true
  | _ => false

/-- Events of the recorder: what they leave as it was. -/
def Sys2Proof.Part.RecorderEventFrame : Prop :=
  ∀ (i : Instr) (s u : State), exec i s = .next u → Sys2Proof.Part.recorderEvent i = true →
    Sys2Proof.Part.sameComputing s u ∧ Sys2Proof.Part.sameMotion s u ∧ Sys2Proof.Part.sameLoads s u ∧ Sys2Proof.Part.samePorts s u ∧
    Sys2Proof.Part.sameTrunks s u ∧ Sys2Proof.Part.sameSegments s u ∧ Sys2Proof.Part.sameAlarms s u ∧ Sys2Proof.Part.sameIsland s u ∧
    Sys2Proof.Part.samePair s u ∧ Sys2Proof.Part.sameService s u ∧ Sys2Proof.Part.sameTime s u ∧ Sys2Proof.Part.sameSessions s u ∧
    u.m.sys = s.m.sys ∧ u.m.wire = s.m.wire ∧ u.m.fresh = s.m.fresh ∧ Sys2Proof.Part.within [0x0003, 0x0E01, 0x0E02] s u ∧ u.ram = s.ram

/-- Events of the clocks and the module identity. -/
def Sys2Proof.Part.timeEvent : Instr → Bool
  | .gptpSync _ _ | .timeStepComplete _ | .gptpAnnounce _ _ | .grandmasterLost _ | .holdoverLimitExpiry _ | .gzTimeSave _
  | .moduleIdAnnounce _ _ _ | .idConflictClear _ _ | .operatingSecond _ => true
  | _ => false

/-- Events of the clocks and the module identity: what they leave as it was. -/
def Sys2Proof.Part.TimeEventFrame : Prop :=
  ∀ (i : Instr) (s u : State), exec i s = .next u → Sys2Proof.Part.timeEvent i = true →
    Sys2Proof.Part.sameMotion s u ∧ Sys2Proof.Part.sameLoads s u ∧ Sys2Proof.Part.samePorts s u ∧ Sys2Proof.Part.sameTrunks s u ∧
    Sys2Proof.Part.sameSegments s u ∧ Sys2Proof.Part.sameIsland s u ∧ Sys2Proof.Part.samePair s u ∧ Sys2Proof.Part.sameService s u ∧
    Sys2Proof.Part.sameSessions s u ∧ u.m.engines = s.m.engines ∧ u.m.plans = s.m.plans ∧ u.m.subs = s.m.subs ∧ u.m.published = s.m.published ∧
    u.m.cfg = s.m.cfg ∧ u.m.sheet = s.m.sheet ∧ u.m.alarms = s.m.alarms ∧ u.m.floods = s.m.floods ∧ u.m.matrix = s.m.matrix ∧
    u.m.matrixOld = s.m.matrixOld ∧ u.m.matrixWait = s.m.matrixWait ∧ u.m.matrixStage = s.m.matrixStage ∧ u.m.effs = s.m.effs ∧ u.m.di = s.m.di ∧
    u.m.sys = s.m.sys ∧ u.m.wire = s.m.wire ∧ u.m.fresh = s.m.fresh ∧
    Sys2Proof.Part.within [0x0001, 0x0002, 0x0003, 0x0B05, 0x0B09, 0x0E01, 0x0E02] s u ∧ u.ram = s.ram

/-- Events of the cartridge, calibrations, updates and transfers. -/
def Sys2Proof.Part.cartridgeEvent : Instr → Bool
  | .calibrated _ _ _ | .cartridgeRemoved _ | .cartridgeInserted _ _ | .prechargeDone _ | .cartridgeWindowExpiry _ | .cartridgeLevelChange _ _
  | .imageVerified _ _ | .trialEnd _ | .updateIdleExpiry _ | .loadIdleExpiry _ => true
  | _ => false

/-- Events of the cartridge, calibrations, updates and transfers: what they leave as it was. -/
def Sys2Proof.Part.CartridgeEventFrame : Prop :=
  ∀ (i : Instr) (s u : State), exec i s = .next u → Sys2Proof.Part.cartridgeEvent i = true →
    Sys2Proof.Part.sameComputing s u ∧ Sys2Proof.Part.sameMotion s u ∧ Sys2Proof.Part.sameLoads s u ∧ Sys2Proof.Part.samePorts s u ∧
    Sys2Proof.Part.sameTrunks s u ∧ Sys2Proof.Part.sameSegments s u ∧ Sys2Proof.Part.sameIsland s u ∧ Sys2Proof.Part.samePair s u ∧
    Sys2Proof.Part.sameTime s u ∧ Sys2Proof.Part.sameSessions s u ∧ u.m.alarms = s.m.alarms ∧ u.m.floods = s.m.floods ∧ u.m.matrix = s.m.matrix ∧
    u.m.matrixOld = s.m.matrixOld ∧ u.m.matrixWait = s.m.matrixWait ∧ u.m.matrixStage = s.m.matrixStage ∧ u.m.effs = s.m.effs ∧ u.m.di = s.m.di ∧
    u.m.sec = s.m.sec ∧ u.m.sys = s.m.sys ∧ u.m.wire = s.m.wire ∧ u.m.fresh = s.m.fresh ∧
    Sys2Proof.Part.within [0x0003, 0x0B05, 0x0B09, 0x0E01, 0x0E02, 0x1001] s u ∧ u.ram = s.ram

/-- Events of the pair that leave the role as it is. -/
def Sys2Proof.Part.pairEvent : Instr → Bool
  | .fullTakePeriod _ _ | .heartbeat _ _ _ | .heartbeatMissed _ _ | .partnerLost _ | .drySolve _ _ _ | .standinHealth _ | .pairListenEnd _
  | .cleanPeriodElapsed _ | .standinHubTest _ _ | .memoryScrub _ _ _ _ _ => true
  | _ => false

/-- Events of the pair that leave the role as it is: what they leave as it was. -/
def Sys2Proof.Part.PairEventFrame : Prop :=
  ∀ (i : Instr) (s u : State), exec i s = .next u → Sys2Proof.Part.pairEvent i = true →
    Sys2Proof.Part.sameMotion s u ∧ Sys2Proof.Part.sameLoads s u ∧ Sys2Proof.Part.samePorts s u ∧ Sys2Proof.Part.sameTrunks s u ∧
    Sys2Proof.Part.sameSegments s u ∧ Sys2Proof.Part.sameAlarms s u ∧ Sys2Proof.Part.sameService s u ∧ Sys2Proof.Part.sameTime s u ∧
    Sys2Proof.Part.sameSessions s u ∧ u.m.plans = s.m.plans ∧ u.m.subs = s.m.subs ∧ u.m.published = s.m.published ∧ u.m.cfg = s.m.cfg ∧
    u.m.sheet = s.m.sheet ∧ u.m.fresh = s.m.fresh ∧
    Sys2Proof.Part.within [0x0003, 0x0101, 0x0201, 0x0302, 0x0303, 0x0B09, 0x0D01, 0x0D02, 0x0E01, 0x0E02, 0x0F03] s u ∧
    ((∀ x0 x1 x2 x3 x4, i ≠ .memoryScrub x0 x1 x2 x3 x4) → u.ram = s.ram)

/-- Barriers, self-test, violations and publications. -/
def Sys2Proof.Part.computingEvent : Instr → Bool
  | .barrierRelease _ _ _ | .barrierTimeout _ _ _ | .overrunPublishDeadline _ _ | .selfTestSliceEnd _ _ _ | .ceRetestDone _ _ _
  | .violationSummary _ _ | .publicationFrame _ _ | .publicationAbsent _ _ => true
  | _ => false

/-- Barriers, self-test, violations and publications: what they leave as it was. -/
def Sys2Proof.Part.ComputingEventFrame : Prop :=
  ∀ (i : Instr) (s u : State), exec i s = .next u → Sys2Proof.Part.computingEvent i = true →
    Sys2Proof.Part.sameMotion s u ∧ Sys2Proof.Part.sameLoads s u ∧ Sys2Proof.Part.samePorts s u ∧ Sys2Proof.Part.sameTrunks s u ∧
    Sys2Proof.Part.sameSegments s u ∧ Sys2Proof.Part.sameAlarms s u ∧ Sys2Proof.Part.sameIsland s u ∧ Sys2Proof.Part.sameService s u ∧
    Sys2Proof.Part.sameTime s u ∧ Sys2Proof.Part.sameSessions s u ∧ u.m.plans = s.m.plans ∧ u.m.published = s.m.published ∧ u.m.cfg = s.m.cfg ∧
    u.m.sheet = s.m.sheet ∧ u.m.sys = s.m.sys ∧ u.m.wire = s.m.wire ∧ u.m.fresh = s.m.fresh ∧
    Sys2Proof.Part.within [0x0003, 0x0101, 0x0201, 0x0202, 0x0302, 0x0303, 0x0E01, 0x0E02, 0x0F03] s u ∧
    ((∀ x0 x1 x2, i ≠ .barrierTimeout x0 x1 x2) → (∀ x0 x1, i ≠ .overrunPublishDeadline x0 x1) → (∀ x0 x1 x2, i ≠ .selfTestSliceEnd x0 x1 x2) → u.ram = s.ram)

/-- Links, presence, pages, mains back. -/
def Sys2Proof.Part.securityEvent : Instr → Bool
  | .authBlockExpiry _ | .mkaSecured _ _ _ _ | .sakRenewal _ _ _ | .identifyExpiry _ | .quiesceExpiry _ _ | .quiesceDone _ _ _
  | .displayPageTimeout _ | .selectKey _ | .presenceTimeout _ | .mainsReturn _ | .shedWindow _ _ | .supervisorRestartDone _ => true
  | _ => false

/-- Links, presence, pages, mains back: what they leave as it was. -/
def Sys2Proof.Part.SecurityEventFrame : Prop :=
  ∀ (i : Instr) (s u : State), exec i s = .next u → Sys2Proof.Part.securityEvent i = true →
    Sys2Proof.Part.sameComputing s u ∧ Sys2Proof.Part.sameMotion s u ∧ Sys2Proof.Part.sameLoads s u ∧ Sys2Proof.Part.samePorts s u ∧
    Sys2Proof.Part.sameTrunks s u ∧ Sys2Proof.Part.sameSegments s u ∧ Sys2Proof.Part.sameAlarms s u ∧ Sys2Proof.Part.sameTime s u ∧
    Sys2Proof.Part.sameSessions s u ∧ u.m.svc = s.m.svc ∧ u.m.wire = s.m.wire ∧ u.m.fresh = s.m.fresh ∧
    Sys2Proof.Part.within [0x0003, 0x0004, 0x0101, 0x0B09, 0x0E01, 0x0E02, 0x0F03] s u ∧ u.ram = s.ram

/-- Events of connections and queues. -/
def Sys2Proof.Part.sessionEvent : Instr → Bool
  | .dtlsHandshake _ _ _ | .handshakeTimeout _ _ | .dtlsConnectionClose _ _ | .sessionIdleTimeout _ _ | .fragmentTimeout _ _ | .eventResend _ _ => true
  | _ => false

/-- Events of connections and queues: what they leave as it was. -/
def Sys2Proof.Part.SessionEventFrame : Prop :=
  ∀ (i : Instr) (s u : State), exec i s = .next u → Sys2Proof.Part.sessionEvent i = true →
    Sys2Proof.Part.sameComputing s u ∧ Sys2Proof.Part.sameMotion s u ∧ Sys2Proof.Part.sameLoads s u ∧ Sys2Proof.Part.samePorts s u ∧
    Sys2Proof.Part.sameTrunks s u ∧ Sys2Proof.Part.sameSegments s u ∧ Sys2Proof.Part.sameAlarms s u ∧ Sys2Proof.Part.samePair s u ∧
    Sys2Proof.Part.sameTime s u ∧ u.m.svc = s.m.svc ∧ u.m.pools = s.m.pools ∧ u.m.sys = s.m.sys ∧ u.m.wire = s.m.wire ∧ u.m.fresh = s.m.fresh ∧
    Sys2Proof.Part.within [0x0003, 0x0004, 0x0E01, 0x0E02, 0x0F01, 0x0F03] s u ∧ u.ram = s.ram

/-- Whenever an event of a unit answers a next state, what belongs to the other units is as before: for the events of load channels, feedback ports, trunks, segments, axes, doors, load shedding and the gauge, alarms and effects, the Safety Island, the recorder, the clocks, the cartridge and transfers, the pair, the engines, links and presence, connections, the statement names the groups of state that stay, the classes outside which no object field changes, and, but for the frames that are latched and the events that write images, the memories. -/
def Obligations.UnitFrames : Prop :=
  Sys2Proof.Part.LoadEventFrame ∧ Sys2Proof.Part.PortEventFrame ∧ Sys2Proof.Part.TrunkEventFrame ∧ Sys2Proof.Part.SegmentEventFrame ∧
  Sys2Proof.Part.AxisEventFrame ∧ Sys2Proof.Part.DoorEventFrame ∧ Sys2Proof.Part.PowerEventFrame ∧ Sys2Proof.Part.AlarmEventFrame ∧
  Sys2Proof.Part.IslandEventFrame ∧ Sys2Proof.Part.RecorderEventFrame ∧ Sys2Proof.Part.TimeEventFrame ∧ Sys2Proof.Part.CartridgeEventFrame ∧
  Sys2Proof.Part.PairEventFrame ∧ Sys2Proof.Part.ComputingEventFrame ∧ Sys2Proof.Part.SecurityEventFrame ∧ Sys2Proof.Part.SessionEventFrame

/-- Requests that read, acknowledge and detach. -/
def Sys2Proof.Part.readingRequest : Instr → Bool
  | .sessionPing _ | .eventAck _ | .timeGet _ | .pointRead _ | .certGet _ | .openWindow _ | .readWindow _ | .closeWindow _ | .queueDetach _ => true
  | _ => false

/-- Requests that read, acknowledge and detach: what they leave as it was. -/
def Sys2Proof.Part.ReadingRequestFrame : Prop :=
  ∀ (i : Instr) (s u : State), exec i s = .next u → Sys2Proof.Part.readingRequest i = true →
    Sys2Proof.Part.sameComputing s u ∧ Sys2Proof.Part.sameMotion s u ∧ Sys2Proof.Part.sameLoads s u ∧ Sys2Proof.Part.samePorts s u ∧
    Sys2Proof.Part.sameTrunks s u ∧ Sys2Proof.Part.sameSegments s u ∧ Sys2Proof.Part.sameAlarms s u ∧ Sys2Proof.Part.sameIsland s u ∧
    Sys2Proof.Part.samePair s u ∧ Sys2Proof.Part.sameService s u ∧ Sys2Proof.Part.sameTime s u ∧
    { u.m.sys with client := [] } = { s.m.sys with client := [] } ∧ u.m.wire = s.m.wire ∧ u.m.fresh = s.m.fresh ∧
    Sys2Proof.Part.within [0x0003, 0x0004, 0x0E01] s u ∧ u.ram = s.ram

/-- Sessions and queue attachment. -/
def Sys2Proof.Part.sessionRequest : Instr → Bool
  | .sessionOpen _ | .sessionClose _ | .queueAttach _ => true
  | _ => false

/-- Sessions and queue attachment: what they leave as it was. -/
def Sys2Proof.Part.SessionRequestFrame : Prop :=
  ∀ (i : Instr) (s u : State), exec i s = .next u → Sys2Proof.Part.sessionRequest i = true →
    Sys2Proof.Part.sameComputing s u ∧ Sys2Proof.Part.sameMotion s u ∧ Sys2Proof.Part.sameLoads s u ∧ Sys2Proof.Part.samePorts s u ∧
    Sys2Proof.Part.sameTrunks s u ∧ Sys2Proof.Part.sameSegments s u ∧ Sys2Proof.Part.sameAlarms s u ∧ Sys2Proof.Part.samePair s u ∧
    Sys2Proof.Part.sameTime s u ∧ u.m.svc = s.m.svc ∧ { u.m.sys with client := [] } = { s.m.sys with client := [] } ∧ u.m.wire = s.m.wire ∧
    Sys2Proof.Part.within [0x0003, 0x0004, 0x0E01, 0x0E02, 0x0F01] s u ∧ u.ram = s.ram

/-- Object and point writes. -/
def Sys2Proof.Part.objectRequest : Instr → Bool
  | .setObject _ | .moduleIdWrite _ | .cycleObjectWrite _ | .partitionObjectWrite _ | .taskObjectWrite _ | .placeObjectWrite _
  | .segmentObjectWrite _ | .nodeSerialWrite _ | .portModeWrite _ | .effectLatchRelease _ | .maxShelveMinWrite _ | .lowOkWrite _ | .rideMsWrite _
  | .pointWrite _ => true
  | _ => false

/-- Object and point writes: what they leave as it was. -/
def Sys2Proof.Part.ObjectRequestFrame : Prop :=
  ∀ (i : Instr) (s u : State), exec i s = .next u → Sys2Proof.Part.objectRequest i = true →
    Sys2Proof.Part.sameTrunks s u ∧ Sys2Proof.Part.samePair s u ∧ Sys2Proof.Part.sameService s u ∧ Sys2Proof.Part.sameTime s u ∧
    u.m.engines = s.m.engines ∧ u.m.subs = s.m.subs ∧ u.m.published = s.m.published ∧ u.m.cfg = s.m.cfg ∧ u.m.mss = s.m.mss ∧
    u.m.ceAxes = s.m.ceAxes ∧ u.m.ceGroups = s.m.ceGroups ∧ u.m.doors = s.m.doors ∧ u.m.boards = s.m.boards ∧ u.m.ctls = s.m.ctls ∧
    u.m.lh = s.m.lh ∧ u.m.limpForce = s.m.limpForce ∧ u.m.senses = s.m.senses ∧ u.m.rails = s.m.rails ∧ u.m.los = s.m.los ∧ u.m.faLow = s.m.faLow ∧
    u.m.prs = s.m.prs ∧ u.m.segs = s.m.segs ∧ u.m.hpBufs = s.m.hpBufs ∧ u.m.matrix = s.m.matrix ∧ u.m.matrixOld = s.m.matrixOld ∧
    u.m.matrixWait = s.m.matrixWait ∧ u.m.matrixStage = s.m.matrixStage ∧ u.m.gauge = s.m.gauge ∧ u.m.di = s.m.di ∧ u.m.fresh = s.m.fresh

/-- Commands of partitions, engines and time. -/
def Sys2Proof.Part.computingRequest : Instr → Bool
  | .partStart _ | .partHalt _ | .partStop _ | .ceFence _ | .ceRetest _ | .timeSet _ => true
  | _ => false

/-- Commands of partitions, engines and time: what they leave as it was. -/
def Sys2Proof.Part.ComputingRequestFrame : Prop :=
  ∀ (i : Instr) (s u : State), exec i s = .next u → Sys2Proof.Part.computingRequest i = true →
    Sys2Proof.Part.sameMotion s u ∧ Sys2Proof.Part.sameLoads s u ∧ Sys2Proof.Part.samePorts s u ∧ Sys2Proof.Part.sameTrunks s u ∧
    Sys2Proof.Part.sameSegments s u ∧ Sys2Proof.Part.sameAlarms s u ∧ Sys2Proof.Part.sameIsland s u ∧ Sys2Proof.Part.samePair s u ∧
    Sys2Proof.Part.sameService s u ∧ u.m.plans = s.m.plans ∧ u.m.subs = s.m.subs ∧ u.m.published = s.m.published ∧ u.m.cfg = s.m.cfg ∧
    u.m.sheet = s.m.sheet ∧ { u.m.sys with client := [] } = { s.m.sys with client := [] } ∧ u.m.wire = s.m.wire ∧ u.m.fresh = s.m.fresh ∧
    Sys2Proof.Part.within [0x0002, 0x0003, 0x0004, 0x0101, 0x0201, 0x0302, 0x0303, 0x0E01, 0x0E02] s u ∧ ((∀ x0, i ≠ .ceFence x0) → u.ram = s.ram)

/-- Commands of axes and doors. -/
def Sys2Proof.Part.motionRequest : Instr → Bool
  | .axisJog _ | .axisStop _ | .axisHome _ | .doorCommand _ | .doorLearn _ | .storyboardLoad _ => true
  | _ => false

/-- Commands of axes and doors: what they leave as it was. -/
def Sys2Proof.Part.MotionRequestFrame : Prop :=
  ∀ (i : Instr) (s u : State), exec i s = .next u → Sys2Proof.Part.motionRequest i = true →
    Sys2Proof.Part.sameComputing s u ∧ Sys2Proof.Part.sameLoads s u ∧ Sys2Proof.Part.sameTrunks s u ∧ Sys2Proof.Part.sameSegments s u ∧
    Sys2Proof.Part.sameAlarms s u ∧ Sys2Proof.Part.samePair s u ∧ Sys2Proof.Part.sameService s u ∧ Sys2Proof.Part.sameTime s u ∧ u.m.mss = s.m.mss ∧
    u.m.ceAxes = s.m.ceAxes ∧ u.m.ceGroups = s.m.ceGroups ∧ u.m.prs = s.m.prs ∧ { u.m.sys with client := [] } = { s.m.sys with client := [] } ∧
    u.m.wire = s.m.wire ∧ u.m.fresh = s.m.fresh ∧
    Sys2Proof.Part.within [0x0003, 0x0004, 0x0801, 0x0803, 0x0901, 0x0902, 0x0903, 0x0A01, 0x0E01, 0x0E02] s u ∧
    ((∀ x0, i ≠ .axisJog x0) → (∀ x0, i ≠ .doorCommand x0) → u.ram = s.ram)

/-- Commands of load channels and loop outputs. -/
def Sys2Proof.Part.loadRequest : Instr → Bool
  | .lcUnlock _ | .lcClearLatch _ | .limpMapWrite _ | .loTrim _ => true
  | _ => false

/-- Commands of load channels and loop outputs: what they leave as it was. -/
def Sys2Proof.Part.LoadRequestFrame : Prop :=
  ∀ (i : Instr) (s u : State), exec i s = .next u → Sys2Proof.Part.loadRequest i = true →
    Sys2Proof.Part.sameComputing s u ∧ Sys2Proof.Part.sameMotion s u ∧ Sys2Proof.Part.samePorts s u ∧ Sys2Proof.Part.sameTrunks s u ∧
    Sys2Proof.Part.sameSegments s u ∧ Sys2Proof.Part.sameAlarms s u ∧ Sys2Proof.Part.sameIsland s u ∧ Sys2Proof.Part.samePair s u ∧
    Sys2Proof.Part.sameService s u ∧ Sys2Proof.Part.sameTime s u ∧ u.m.lh = s.m.lh ∧ u.m.limpForce = s.m.limpForce ∧ u.m.senses = s.m.senses ∧
    u.m.rails = s.m.rails ∧ u.m.faLow = s.m.faLow ∧ { u.m.sys with client := [] } = { s.m.sys with client := [] } ∧ u.m.wire = s.m.wire ∧
    u.m.fresh = s.m.fresh ∧ Sys2Proof.Part.within [0x0003, 0x0004, 0x0701, 0x0703, 0x0704, 0x0B01, 0x0B02, 0x0E01, 0x0E02] s u ∧ u.ram = s.ram

/-- Commands of ports. -/
def Sys2Proof.Part.portRequest : Instr → Bool
  | .epSetPosition _ | .epUnfence _ _ => true
  | _ => false

/-- Commands of ports: what they leave as it was. -/
def Sys2Proof.Part.PortRequestFrame : Prop :=
  ∀ (i : Instr) (s u : State), exec i s = .next u → Sys2Proof.Part.portRequest i = true →
    Sys2Proof.Part.sameComputing s u ∧ Sys2Proof.Part.sameMotion s u ∧ Sys2Proof.Part.sameLoads s u ∧ Sys2Proof.Part.sameTrunks s u ∧
    Sys2Proof.Part.sameSegments s u ∧ Sys2Proof.Part.sameAlarms s u ∧ Sys2Proof.Part.sameIsland s u ∧ Sys2Proof.Part.samePair s u ∧
    Sys2Proof.Part.sameService s u ∧ Sys2Proof.Part.sameTime s u ∧ u.m.prs = s.m.prs ∧
    { u.m.sys with client := [] } = { s.m.sys with client := [] } ∧ u.m.wire = s.m.wire ∧ u.m.fresh = s.m.fresh ∧
    Sys2Proof.Part.within [0x0003, 0x0004, 0x0101, 0x0801, 0x0803, 0x0E01, 0x0E02] s u ∧ u.ram = s.ram

/-- Commands of alarms, the gauge, the matrix. -/
def Sys2Proof.Part.alarmRequest : Instr → Bool
  | .alarmAck _ | .alarmShelve _ | .alarmUnshelve _ | .gaugeTest _ | .causeMatrixLoad _ => true
  | _ => false

/-- Commands of alarms, the gauge, the matrix: what they leave as it was. -/
def Sys2Proof.Part.AlarmRequestFrame : Prop :=
  ∀ (i : Instr) (s u : State), exec i s = .next u → Sys2Proof.Part.alarmRequest i = true →
    Sys2Proof.Part.sameMotion s u ∧ Sys2Proof.Part.sameLoads s u ∧ Sys2Proof.Part.samePorts s u ∧ Sys2Proof.Part.sameTrunks s u ∧
    Sys2Proof.Part.sameSegments s u ∧ Sys2Proof.Part.sameIsland s u ∧ Sys2Proof.Part.samePair s u ∧ Sys2Proof.Part.sameService s u ∧
    Sys2Proof.Part.sameTime s u ∧ u.m.engines = s.m.engines ∧ u.m.subs = s.m.subs ∧ u.m.published = s.m.published ∧ u.m.cfg = s.m.cfg ∧
    u.m.sheet = s.m.sheet ∧ u.m.di = s.m.di ∧ { u.m.sys with client := [] } = { s.m.sys with client := [] } ∧ u.m.wire = s.m.wire ∧
    u.m.fresh = s.m.fresh ∧ Sys2Proof.Part.within [0x0003, 0x0004, 0x0202, 0x0301, 0x0302, 0x0303, 0x0B04, 0x0B06, 0x0B08, 0x0E01, 0x0E02] s u ∧
    u.ram = s.ram

/-- Commands of trunks and segments. -/
def Sys2Proof.Part.fieldRequest : Instr → Bool
  | .trunkDiscover _ | .nodeAssign _ | .nodeUnassign _ | .nodeReplace _ | .nodeDiagRead _ | .segListen _ | .segTx _ | .segTxCancel _ | .filterLoad _ => true
  | _ => false

/-- Commands of trunks and segments: what they leave as it was. -/
def Sys2Proof.Part.FieldRequestFrame : Prop :=
  ∀ (i : Instr) (s u : State), exec i s = .next u → Sys2Proof.Part.fieldRequest i = true →
    Sys2Proof.Part.sameComputing s u ∧ Sys2Proof.Part.sameMotion s u ∧ Sys2Proof.Part.sameLoads s u ∧ Sys2Proof.Part.samePorts s u ∧
    Sys2Proof.Part.sameAlarms s u ∧ Sys2Proof.Part.sameIsland s u ∧ Sys2Proof.Part.samePair s u ∧ Sys2Proof.Part.sameService s u ∧
    Sys2Proof.Part.sameTime s u ∧ u.m.nodes = s.m.nodes ∧ u.m.hpBufs = s.m.hpBufs ∧ { u.m.sys with client := [] } = { s.m.sys with client := [] } ∧
    u.m.fresh = s.m.fresh ∧ Sys2Proof.Part.within [0x0003, 0x0004, 0x0502, 0x0601, 0x0D01] s u ∧ u.ram = s.ram

/-- Transfers, updates, calibration, the cartridge, identification, certificates. -/
def Sys2Proof.Part.serviceRequest : Instr → Bool
  | .loadBegin _ | .loadData _ | .loadAbort _ | .updateBegin _ | .updateData _ | .calibrate _ | .cartridgeReplace _ | .moduleIdentify _
  | .certInstall _ => true
  | _ => false

/-- Transfers, updates, calibration, the cartridge, identification, certificates: what they leave as it was. -/
def Sys2Proof.Part.ServiceRequestFrame : Prop :=
  ∀ (i : Instr) (s u : State), exec i s = .next u → Sys2Proof.Part.serviceRequest i = true →
    Sys2Proof.Part.sameComputing s u ∧ Sys2Proof.Part.sameMotion s u ∧ Sys2Proof.Part.sameLoads s u ∧ Sys2Proof.Part.samePorts s u ∧
    Sys2Proof.Part.sameTrunks s u ∧ Sys2Proof.Part.sameSegments s u ∧ Sys2Proof.Part.sameAlarms s u ∧ Sys2Proof.Part.sameIsland s u ∧
    Sys2Proof.Part.samePair s u ∧ Sys2Proof.Part.sameTime s u ∧ u.m.sec = s.m.sec ∧ u.m.wire = s.m.wire ∧ u.m.fresh = s.m.fresh ∧
    Sys2Proof.Part.within [0x0003, 0x0004, 0x0B05, 0x0B09, 0x0E01, 0x0E02, 0x1001] s u ∧ u.ram = s.ram

/-- Commands of safety sets. -/
def Sys2Proof.Part.safetyRequest : Instr → Bool
  | .safetyParamWrite _ | .slateConfirm _ => true
  | _ => false

/-- Commands of safety sets: what they leave as it was. -/
def Sys2Proof.Part.SafetyRequestFrame : Prop :=
  ∀ (i : Instr) (s u : State), exec i s = .next u → Sys2Proof.Part.safetyRequest i = true →
    Sys2Proof.Part.sameComputing s u ∧ Sys2Proof.Part.sameMotion s u ∧ Sys2Proof.Part.sameLoads s u ∧ Sys2Proof.Part.samePorts s u ∧
    Sys2Proof.Part.sameTrunks s u ∧ Sys2Proof.Part.sameSegments s u ∧ Sys2Proof.Part.sameAlarms s u ∧ Sys2Proof.Part.samePair s u ∧
    Sys2Proof.Part.sameService s u ∧ Sys2Proof.Part.sameTime s u ∧ u.m.wire = s.m.wire ∧ u.m.fresh = s.m.fresh ∧
    Sys2Proof.Part.within [0x0003, 0x0004, 0x0C01] s u ∧ u.ram = s.ram

/-- Commands of the pair. -/
def Sys2Proof.Part.pairRequest : Instr → Bool
  | .pairSet _ | .switchover _ | .handback _ | .fullTake _ => true
  | _ => false

/-- Commands of the pair: what they leave as it was. -/
def Sys2Proof.Part.PairRequestFrame : Prop :=
  ∀ (i : Instr) (s u : State), exec i s = .next u → Sys2Proof.Part.pairRequest i = true →
    Sys2Proof.Part.sameComputing s u ∧ Sys2Proof.Part.sameMotion s u ∧ Sys2Proof.Part.sameLoads s u ∧ Sys2Proof.Part.samePorts s u ∧
    Sys2Proof.Part.sameTrunks s u ∧ Sys2Proof.Part.sameSegments s u ∧ Sys2Proof.Part.sameAlarms s u ∧ Sys2Proof.Part.sameIsland s u ∧
    Sys2Proof.Part.sameService s u ∧ Sys2Proof.Part.sameTime s u ∧ { u.m.sys with client := [] } = { s.m.sys with client := [] } ∧
    u.m.fresh = s.m.fresh ∧ Sys2Proof.Part.within [0x0003, 0x0004, 0x0D01, 0x0E01, 0x0E02] s u ∧ u.ram = s.ram

/-- Debug authentication, lifecycle, quiesce. -/
def Sys2Proof.Part.securityRequest : Instr → Bool
  | .debugAuth _ | .lifecycleSet _ | .blockQuiesce _ => true
  | _ => false

/-- Debug authentication, lifecycle, quiesce: what they leave as it was. -/
def Sys2Proof.Part.SecurityRequestFrame : Prop :=
  ∀ (i : Instr) (s u : State), exec i s = .next u → Sys2Proof.Part.securityRequest i = true →
    Sys2Proof.Part.sameComputing s u ∧ Sys2Proof.Part.sameMotion s u ∧ Sys2Proof.Part.sameLoads s u ∧ Sys2Proof.Part.samePorts s u ∧
    Sys2Proof.Part.sameTrunks s u ∧ Sys2Proof.Part.sameSegments s u ∧ Sys2Proof.Part.sameAlarms s u ∧ Sys2Proof.Part.samePair s u ∧
    Sys2Proof.Part.sameTime s u ∧ u.m.svc = s.m.svc ∧ u.m.wire = s.m.wire ∧
    Sys2Proof.Part.within [0x0003, 0x0004, 0x0B09, 0x0E01, 0x0E02, 0x0F01] s u ∧ u.ram = s.ram

/-- Whenever a request answers a next state, what belongs to the other units is as before, by family: requests that read, sessions, object and point writes, partitions and engines, axes and doors, load channels, ports, alarms, trunks and segments, transfers and service, safety sets, the pair, debug and lifecycle. But for object and point writes the statement also names the classes outside which no object field changes; but for the requests that write a point, an image or a command cell, the memories stay. -/
def Obligations.RequestFrames : Prop :=
  Sys2Proof.Part.ReadingRequestFrame ∧ Sys2Proof.Part.SessionRequestFrame ∧ Sys2Proof.Part.ObjectRequestFrame ∧
  Sys2Proof.Part.ComputingRequestFrame ∧ Sys2Proof.Part.MotionRequestFrame ∧ Sys2Proof.Part.LoadRequestFrame ∧ Sys2Proof.Part.PortRequestFrame ∧
  Sys2Proof.Part.AlarmRequestFrame ∧ Sys2Proof.Part.FieldRequestFrame ∧ Sys2Proof.Part.ServiceRequestFrame ∧ Sys2Proof.Part.SafetyRequestFrame ∧
  Sys2Proof.Part.PairRequestFrame ∧ Sys2Proof.Part.SecurityRequestFrame

/-- The rung instructions but CALL. -/
def Sys2Proof.Part.rungInstr : Instr → Bool
  | .ld _ _ | .ldn _ _ | .and _ _ | .andn _ _ | .or _ _ | .orn _ _ | .xor _ _ | .st _ _ | .stn _ _ | .set _ _ | .rst _ _ | .ldq _ _ | .ldi _ _
  | .ldni _ _ | .andi _ _ | .andni _ _ | .ori _ _ | .orni _ _ | .xori _ _ | .sti _ _ | .stni _ _ | .seti _ _ | .rsti _ _ | .pe _ _ | .ne _ _
  | .bpush _ _ | .band _ _ | .bor _ _ | .bpeek _ _ | .bpop _ _ | .bdrop _ _ | .not _ _ | .one _ _ | .neg _ _ | .abs _ _ | .wnot _ _ | .lw16 _ _
  | .lw32 _ _ | .lw64 _ _ | .lws16 _ _ | .lws32 _ _ | .sw16 _ _ | .sw32 _ _ | .sw64 _ _ | .swc16 _ _ | .swc32 _ _ | .swc64 _ _ | .li8 _ _
  | .li16 _ _ | .li32 _ _ | .li64 _ _ | .lis8 _ _ | .lis16 _ _ | .lis32 _ _ | .si8 _ _ | .si16 _ _ | .si32 _ _ | .si64 _ _ | .sic16 _ _
  | .sic32 _ _ | .sic64 _ _ | .ldk _ _ | .ldks _ _ | .addk _ _ | .subk _ _ | .mulk _ _ | .divk _ _ | .modk _ _ | .andk _ _ | .ork _ _ | .xork _ _
  | .shlk _ _ | .shrk _ _ | .sark _ _ | .maxk _ _ | .mink _ _ | .addi _ _ | .subi _ _ | .muli _ _ | .divi _ _ | .modi _ _ | .andiW _ _ | .oriW _ _
  | .xoriW _ _ | .shli _ _ | .shri _ _ | .sari _ _ | .maxi _ _ | .mini _ _ | .eqk _ _ | .nek _ _ | .gtk _ _ | .gek _ _ | .ltk _ _ | .lek _ _
  | .gtuk _ _ | .ltuk _ _ | .eqi _ _ | .nei _ _ | .gti _ _ | .gei _ _ | .lti _ _ | .lei _ _ | .gtui _ _ | .ltui _ _ | .addd _ _ | .subd _ _
  | .eqd _ _ | .ned _ _ | .gtd _ _ | .ltd _ _ | .gtud _ _ | .ltud _ _ | .wbit _ _ | .wsetb _ _ | .nop _ _ | .endTask _ _ | .jmp _ _ | .jmpc _ _
  | .jmpn _ _ | .lpi _ _ | .loop _ _ | .idx _ _ | .sync _ _ | .storeBufferDrain _ => true
  | _ => false

/-- The rung instructions but CALL: what they leave as it was. -/
def Sys2Proof.Part.RungInstrFrame : Prop :=
  ∀ (i : Instr) (s u : State), exec i s = .next u → Sys2Proof.Part.rungInstr i = true →
    Sys2Proof.Part.sameMotion s u ∧ Sys2Proof.Part.sameLoads s u ∧ Sys2Proof.Part.samePorts s u ∧ Sys2Proof.Part.sameTrunks s u ∧
    Sys2Proof.Part.sameSegments s u ∧ Sys2Proof.Part.sameAlarms s u ∧ Sys2Proof.Part.sameIsland s u ∧ Sys2Proof.Part.samePair s u ∧
    Sys2Proof.Part.sameService s u ∧ Sys2Proof.Part.sameTime s u ∧ Sys2Proof.Part.sameSessions s u ∧ u.m.plans = s.m.plans ∧ u.m.subs = s.m.subs ∧
    u.m.published = s.m.published ∧ u.m.cfg = s.m.cfg ∧ u.m.sheet = s.m.sheet ∧ u.m.sys = s.m.sys ∧ u.m.wire = s.m.wire ∧ u.m.fresh = s.m.fresh ∧
    Sys2Proof.Part.within [0x0003, 0x0101, 0x0201, 0x0302, 0x0303, 0x0E01, 0x0E02] s u

/-- Whenever a rung instruction other than CALL, or the drain of a store buffer, answers a next state, only engines, partitions, memory, their object classes, queues of events and the recorder may have changed: every unit, session, clock, the configuration and every field of other classes is as before. -/
def Obligations.RungFrames : Prop := Sys2Proof.Part.RungInstrFrame

/-! ### Safety, redundancy, recorder -/

/-- Safety inputs (R440 to R445): a level held for its filter is accepted, and a pair that leaves its healthy levels is no longer healthy;
a contact that does not follow two test pulses, a lone contact after DISC_MS; a telegram that meets R444 and one that does not; the loss of
a connection. The item layouts of events whose values the manual gives in prose are the model's choice (log 12). -/
def Obligations.SafetyInputs : Prop :=
  ∀ (t : Nat) (s : State),
    (∀ (n : Fin 16) (isB level : Bool) (a : Nat),
      let c := if isB then (s.m.pair n).b else (s.m.pair n).a
      s.m.pairMode n ≠ 0 → level ≠ c.closed → c.hold ≤ s.at_ t → c.cand = some a →
      a + (setB s.m.isl.set (pairAt n + 2) + (if setB s.m.isl.set (pairAt n + 1) = 1 then 1 else 0)) * 10 ^ 6 ≤ s.at_ t →
      Completes (.contactSample t n isB level) s (fun u => (if isB then (u.m.pair n).b else (u.m.pair n).a).closed = level ∧
        ((s.m.pair n).phase = 0 → level ≠ (if isB then s.m.pairMode n == 1 else true) → u.m.pairHealthy n = false))) ∧
    (∀ (k : Fin 8) (followed : Nat),
      let at_ := fun (m : Mach) (n : Nat) => if 4 ≤ k.val then (m.pair n).b else (m.pair n).a
      Completes (.testPulse t k followed) s (fun u => ∀ n ∈ s.m.fedBy k,
        (bit followed n = true → (at_ u.m n).miss = 0) ∧
        (bit followed n = false → (at_ u.m n).miss = (at_ s.m n).miss + 1 ∧
          ((at_ s.m n).miss = 1 → (u.m.pair n).test = true ∧ (u.m.pair n).phase = 4 ∧ u.m.pairHealthy n = false)))) ∧
    (∀ n : Fin 16, s.m.pairMode n ≠ 0 → (s.m.pair n).phase = 1 ∨ (s.m.pair n).phase = 3 →
      (s.m.pair n).at_ + setH s.m.isl.set (pairAt n + 4) * 10 ^ 6 ≤ s.at_ t →
      Completes (.discrepancy t n) s (fun u => (u.m.pair n).disc = true ∧ u.m.pairHealthy n = false ∧
        u.m.obj F.islINPUT_FAULTS = min (s.m.obj F.islINPUT_FAULTS + 1) (2 ^ 32 - 1) ∧
        (s.roomy 0 → Raised u 0 0x0C82 0 [itm 1 1 0, itm 2 2 n, itm 3 1 1]))) ∧
    (∀ (place : Fin 1024) (conn counter data crc : Nat),
      let set := s.m.isl.set
      let c := (List.range 256).find? (fun c => conn != 0 && setH set (linkAt c) == conn && setB set (linkAt c + 2) == place.val / 256 &&
        setB set (linkAt c + 3) == place.val % 256)
      let right := crc32c (telegramBytes (s.m.obj F.modMODULE_ID) place conn counter data) = crc
      (∀ c' l, c = some c' → right → 1 ≤ counter → counter ≤ 65535 → (s.m.link c').last = some l →
        1 ≤ (counter + 65535 - l) % 65535 → (counter + 65535 - l) % 65535 ≤ 32 → data < 2 ^ 64 →
        Completes (.safetyIn t place conn counter data crc) s (fun u => (u.m.link c').last = some counter ∧ (u.m.link c').data = data ∧
          (u.m.link c').got = true ∧ (u.m.link c').one = decide ((counter + 65535 - l) % 65535 = 1) ∧
          u.m.obj F.islTELEGRAMS_REFUSED = s.m.obj F.islTELEGRAMS_REFUSED)) ∧
      (c = none ∨ ¬right ∨ counter = 0 → Completes (.safetyIn t place conn counter data crc) s (fun u => u.m.isl = s.m.isl ∧
        u.m.obj F.islTELEGRAMS_REFUSED = min (s.m.obj F.islTELEGRAMS_REFUSED + 1) (2 ^ 32 - 1)))) ∧
    ∀ c : Fin 256, linkOn s.m.isl.set c = true → setH s.m.isl.set (linkAt c + 4) ≤ (s.m.link c).quiet → (s.m.link c).healthy = true →
      Completes (.connLoss t c) s (fun u => (u.m.link c).healthy = false ∧ (u.m.link c).data = 0 ∧
        u.m.obj F.islCONN_LOSSES = min (s.m.obj F.islCONN_LOSSES + 1) (2 ^ 32 - 1) ∧
        (s.roomy 0 → Raised u 0 0x0C82 0 [itm 1 1 0, itm 2 2 c, itm 3 1 3]))

/-- Trips, resets and outputs (R438, R439, R447 to R452, R461): a safety cycle trips every function of a partition's stop request and puts
a confirmed set in force; SAFE_FAULT, a stuck output and a failed dark test switch every output off, a
passed dark test counts; an output that reads off trips its functions;
the delayed outputs, automatic re-arming, a reset pulse; every output stands as R451 says after the outputs are written. The item layouts of events whose values the manual gives in prose are the model's choice (log 12). -/
def Obligations.SafetyFunctions : Prop :=
  ∀ (t : Nat) (s : State),
    let set := s.m.isl.set
    let names := fun (f n : Nat) => bit ((fnNow set f).lor (fnDelayed set f)) n = true
    (∀ ppm, s.m.obj F.islSTATE ≠ 3 → ppm.natAbs ≤ 10000 → Completes (.safetyCycle t ppm) s (fun u =>
      u.m.obj F.islSAFETY_CYCLES = min (s.m.obj F.islSAFETY_CYCLES + 1) (2 ^ 64 - 1) ∧ (∀ n : Fin 8, bit u.m.isl.sqOn n = u.m.sqWant n) ∧
      (s.m.isl.switch = none → ∀ f ∈ fnsOn set, ∀ c ∈ fnSources set f, 0x5000 ≤ c → c ≤ 0x507F →
        bit (s.m.stopRequest s.ram ((c - 0x5000) / 16)) (c % 16) = true → 2 ≤ u.m.obj F.sfSTATE f ∧ u.m.armedFn f = false) ∧
      (∀ x st, s.m.isl.switch = some x → s.m.isl.staged = some st → u.m.isl.set = st ∧ u.m.isl.staged = none ∧ u.m.isl.switch = none ∧
        u.m.obj F.islSLATE = slateOf st % 2 ^ 32 ∧ ∀ f ∈ fnsOn st, u.m.armedFn f = false))) ∧
    (∀ cause : Fin 9, s.m.obj F.islSTATE ≠ 3 → Completes (.safetyFault t cause) s (fun u => u.m.obj F.islSTATE = 3 ∧
      u.m.obj F.islFAULT_CAUSE = cause.val + 1 ∧ u.m.isl.sqOn = 0 ∧ ∀ f, u.m.armedFn f = false)) ∧
    (∀ n : Fin 8,
      (bit s.m.isl.sqOn n = true → Completes (.sqReadbackFault t n) s (fun u => bit u.m.isl.sqFault n = true ∧ bit u.m.isl.sqOn n = false ∧
        (∀ f ∈ fnsOn set, names f n → 2 ≤ u.m.obj F.sfSTATE f) ∧ (s.roomy 0 → Raised u 0 0x0C82 0 [itm 1 1 0, itm 2 2 n, itm 3 1 4]))) ∧
      (bit s.m.isl.sqOn n = false → Completes (.sqReadbackFault t n) s (fun u => u.m.obj F.islSTATE = 3 ∧ bit u.m.isl.groups (n / 4) = false ∧
        (s.m.obj F.islSTATE ≠ 3 → u.m.obj F.islFAULT_CAUSE = 8 ∧ u.m.isl.sqOn = 0))) ∧
      (∀ stuck groups, s.m.isl.darkAt + setH set 16 * 10 ^ 9 ≤ s.at_ t → bit stuck n = true → bit s.m.isl.sqOn n = true → Completes (.darkTest t stuck groups) s (fun u =>
        u.m.obj F.islSTATE = 3 ∧ bit u.m.isl.groups (n / 4) = false ∧ (s.m.obj F.islSTATE ≠ 3 → u.m.isl.sqOn = 0))) ∧
      (∀ stuck groups, s.m.isl.darkAt + setH set 16 * 10 ^ 9 ≤ s.at_ t → stuck.land s.m.isl.sqOn = 0 → s.m.isl.darks % 8 ≠ 7 →
        Completes (.darkTest t stuck groups) s (fun u => u.m.isl.darks = s.m.isl.darks + 1 ∧ u.m.isl.darkAt = s.at_ t ∧
          u.m.isl.sqOn = s.m.isl.sqOn ∧ u.m.obj F.islSTATE = s.m.obj F.islSTATE)) ∧
      Completes (.sqFaultClear t n) s (fun u => bit u.m.isl.sqFault n = false ∧ u.m.isl.sqOn = s.m.isl.sqOn)) ∧
    (∀ (f : Fin 64) (e : Nat), fnOn set f = true → s.m.obj F.sfSTATE f = 4 → (s.m.sfn f).delayEnd = some e → e ≤ s.at_ t →
      Completes (.sqDelayExpiry t f) s (fun u => u.m.obj F.sfSTATE f = (if (s.m.upTo t).sfReady s.ram f then 3 else 2) ∧
        ∀ n : Fin 8, names f n → bit u.m.isl.sqOn n = false)) ∧
    (∀ (f : Fin 64) (a : Nat), fnOn set f = true → s.m.obj F.sfSTATE f = 2 ∨ s.m.obj F.sfSTATE f = 3 → fnManual set f = false →
      (s.m.sfn f).need = false → (s.m.upTo t).sfReady s.ram f = true → (s.m.sfn f).since = some a → a + 100000000 ≤ s.at_ t →
      Completes (.autoRearm t f) s (fun u => u.m.obj F.sfSTATE f = 1 ∧ u.m.obj F.sfLAST_RESET f = (s.m.upTo t).gzStamp ∧
        (s.roomy 0 → Raised u 0 0x0C81 0 [itm 1 1 f]))) ∧
    ∀ (src : Fin 32) (f : Nat),
      let x : RstSt := ug {} s.m.isl.rsts src
      f ∈ fnsOn set → fnReset set f = src.val → fnManual set f = true → x.level = true →
      (∀ a, x.riseAt = some a → a + setH set 12 * 10 ^ 6 ≤ s.at_ t → s.at_ t ≤ a + setH set 14 * 10 ^ 6 → 2 ≤ s.m.obj F.sfSTATE f →
        (s.m.sfn f).tripAt < a → (s.m.upTo t).sfReady s.ram f = true →
        Completes (.resetPulse t src false) s (fun u => (u.m.sfn f).pulse = true)) ∧
      (x.riseAt = none → Completes (.resetPulse t src false) s (fun u => u.m.isl.fns = s.m.isl.fns ∧
        u.m.obj F.islRESETS_REFUSED = min (s.m.obj F.islRESETS_REFUSED + 1) (2 ^ 32 - 1)))

/-- Brakes (R452, R453): the release delay runs from the enabling of the drive and every output stands as R451 and R452 say; an overdue
test; a test started, its steps, its result. -/
def Sys2Proof.Part.Brakes : Prop :=
  ∀ (t : Nat) (k : Fin 4) (s : State),
    let set := s.m.isl.set
    let a := setB set (brakeAt k)
    let T := setH set (brakeAt k + 4) * 10 ^ 6
    Completes (.brakeReleaseDelay t k) s (fun u => (∀ n : Fin 8, bit u.m.isl.sqOn n = u.m.sqWant n) ∧
      (a = 0xFF ∨ s.m.driveOn a = false → (u.m.brake k).enAt = none) ∧
      (a ≠ 0xFF → s.m.groupOf a = none → s.m.driveOn a = true → u.m.driveOn a = true →
        (u.m.brake k).enAt = some ((s.m.brake k).enAt.getD (s.at_ t)))) ∧
    (a ≠ 0xFF → setH set (brakeAt k + 8) ≠ 0 → (s.m.brake k).passedAt + setH set (brakeAt k + 8) * 3600 ≤ s.m.time.opSeconds →
      Completes (.brakeTestOverdue t k) s (fun u => (u.m.brake k).due = true)) ∧
    (∀ b moved, (s.m.brake k).test = some b →
      b.start + 50000000 + (b.step - 2) * T + (if b.step = 5 then setH set (brakeAt k + 10) * 10 ^ 6 - T else 0) ≤ s.at_ t →
      s.m.obj F.epSTATE (s.m.obj F.axFB_PORT a) ≠ 2 →
      (b.step = 2 → Completes (.brakeTestStep t k moved false) s (fun u => (u.m.brake k).test = some { b with step := 3 })) ∧
      (b.step = 3 → Completes (.brakeTestStep t k moved false) s (fun u => (u.m.brake k).test = some { b with step := 4, pos := moved })) ∧
      (b.step = 4 → Completes (.brakeTestStep t k moved false) s (fun u => (u.m.brake k).test = some { b with step := 5, neg := moved })) ∧
      (b.step = 5 → b.pos ≤ setH set (brakeAt k + 6) → b.neg ≤ setH set (brakeAt k + 6) →
        Completes (.brakeTestStep t k moved false) s (fun u => (u.m.brake k).test = none ∧ (u.m.brake k).failed = false ∧
          (u.m.brake k).due = false ∧ (u.m.brake k).passedAt = s.m.time.opSeconds ∧
          (s.roomy b.queue → Raised u b.queue 0x0C12 0 [⟨0xF0, toBe 4 b.seq⟩, itm 1 4 b.pos, itm 2 4 b.neg]))) ∧
      Completes (.brakeTestStep t k moved true) s (fun u => (u.m.brake k).test = none ∧ (u.m.brake k).failed = true ∧
        (s.roomy b.queue → Raised u b.queue 0x0C12 0x1C07 [⟨0xF0, toBe 4 b.seq⟩, itm 1 4 b.pos, itm 2 4 b.neg, itm 3 1 3]))) ∧
    ∀ (msg : Msg) (is : List Item), let c := cmdOf msg s is
      Accepts brakeTestCard msg s is → c.num 1 = 4 + k.val → isSys c.owner = true → a < 4 → s.m.obj F.axDRIVE a = 2 → s.m.obj F.axFB_PORT a < 8 →
      (s.m.brake k).test = none → (s.m.intake msg).cmdVel a = 0 → (s.m.ax a).plan = [] → s.m.groupOf a = none → s.m.axHeld a = false →
      (∀ f ∈ fnsOn set, bit ((fnNow set f).lor (fnDelayed set f)) (4 + k) = true → s.m.obj F.sfSTATE f = 1) →
      Completes (.brakeTest msg) s (fun u => Replied u msg stSTARTED [] ∧ (u.m.ax a).test = true ∧
        (u.m.brake k).test = some { queue := msg.queue, seq := msg.seq, start := s.at_ msg.t, step := 2 })

/-- The set commands (R460 to R463): a set that meets every condition is staged with its Slate; the confirmation of that Slate opens a
presence window of 30 s. -/
def Sys2Proof.Part.SafetySets : Prop :=
  ∀ (msg : Msg) (s : State) (is : List Item),
    let c := cmdOf msg s is
    let set := setOf (c.bytes 1)
    (Accepts safetyParamWriteCard msg s is → s.m.sys.window = none → s.m.setInvalid set = [] → s.m.setRefused set = [] →
      Completes (.safetyParamWrite msg) s (fun u => Replied u msg stDONE [itm 1 4 (slateOf set)] ∧ u.m.isl.staged = some set ∧
        u.m.isl.set = s.m.isl.set ∧ u.m.obj F.islSTAGED = 1 ∧ u.m.obj F.islSTAGED_SLATE = slateOf set % 2 ^ 32)) ∧
    ∀ st, Accepts slateConfirmCard msg s is → s.m.sys.window = none → s.m.isl.staged = some st → c.num 1 = s.m.obj F.islSTAGED_SLATE →
      Completes (.slateConfirm msg) s (fun u => Replied u msg stSTARTED [] ∧ u.m.isl.set = s.m.isl.set ∧
        u.m.sys.window = some ⟨.slate, msg.queue, msg.seq, s.at_ msg.t + 30 * 10 ^ 9⟩ ∧ u.m.sys.identify = none)

/-- Brakes and sets. -/
def Obligations.BrakesAndSafetySets : Prop := Sys2Proof.Part.Brakes ∧ Sys2Proof.Part.SafetySets

/-- Takes and checks on a stand-in (R478, R479, R496 to R498): a take in one frame that follows the last is put into the Larder, one that
does not loses synchronisation; the next full take of an active module; dry solves, the health report, the hub test; the reads of memory words: corrected ones counted, others a fault or the stand-in's own. The item layouts of events whose values the manual gives in prose are the model's choice (log 12). -/
def Obligations.StandinTakes : Prop :=
  ∀ (t : Nat) (p : Fin 8) (s : State), s.m.paired = true →
    let stand := s.m.mode = 3
    let next := (s.m.redundants.find? (fun q => decide (s.m.pm.dryPart < q))).orElse (fun _ => s.m.redundants.head?)
    let dry := stand ∧ s.m.obj F.powPOWER_STATE ≠ 2 ∧ next = some p.val ∧ s.m.pm.dryAt + s.m.obj F.pairDRY_S * 10 ^ 9 ≤ s.at_ t
    let up := fun (f : Fld) (i : Nat) => min (s.m.obj f i + 1) (2 ^ 32 - 1)
    (∀ f : TakeIn, stand → (s.m.upTo t).pairUp = true → s.m.macPass 2 f.secured = true → f.etherType = s.m.sys.pairType →
      f.moduleId = s.m.obj F.modMODULE_ID → f.part = p → p.val ∈ s.m.redundants →
      f.slice = false → f.index = 0 → f.last = true → f.crc = crc32c f.payload → f.gen < 2 ^ 32 → (s.m.take p).seen = true →
      let d := (f.gen + 2 ^ 32 - s.m.obj F.takeLAST_GEN p) % 2 ^ 32
      (d = 1 → f.migrate = false → f.restart = false → Completes (.takeFrame t f) s (fun u => u.m.obj F.takeLAST_GEN p = f.gen ∧
        u.m.obj F.takeSYNC p = s.m.obj F.takeSYNC p ∧ u.m.obj F.pairTAKES_LOST = s.m.obj F.pairTAKES_LOST ∧
        u.ram = wr s.ram (larderWs p f.payload))) ∧
      (2 ≤ d → d < 2 ^ 31 → Completes (.takeFrame t f) s (fun u => u.m.obj F.takeSYNC p = 1 ∧ u.ram = s.ram ∧
        u.m.obj F.pairTAKES_LOST = up F.pairTAKES_LOST 0))) ∧
    (s.m.running = true → s.m.obj F.partREDUNDANT p ≠ 0 → 1000 ≤ (s.m.take p).claps → Completes (.fullTakePeriod t p) s (fun u =>
      if (s.m.take p).full then (u.m.take p).ask = true
      else (u.m.take p).full = true ∧ (u.m.take p).cursor = 0 ∧ (u.m.take p).fullAt = s.at_ t)) ∧
    (dry → Completes (.drySolve t p .same) s (fun u => u.m.obj F.takeDRY_SOLVES p = up F.takeDRY_SOLVES p ∧ u.m.pm.dryPart = p.val ∧
        u.m.pm.dryAt = s.at_ t) ∧
      Completes (.drySolve t p .skipped) s (fun u => u.m.obj F.takeDRY_SKIPPED p = up F.takeDRY_SKIPPED p ∧
        u.m.obj F.takeDRY_SOLVES p = s.m.obj F.takeDRY_SOLVES p ∧ u.m.pm.dryPart = p.val) ∧
      ∀ l, Completes (.drySolve t p (.differs l)) s (fun u => u.m.obj F.takeDRY_SOLVES p = up F.takeDRY_SOLVES p ∧
        u.m.obj F.takeDRY_MISMATCHES p = up F.takeDRY_MISMATCHES p ∧
        ((s.m.upTo t).blockOut 0x22 = false → u.m.wire = ⟨⟨20, 4, p, [1]⟩, s.m.sys.pairType, []⟩ :: s.m.wire) ∧
        (s.roomy 0 → Raised u 0 0x0D84 0 [itm 1 1 p, itm 2 4 l]))) ∧
    (stand → s.m.pm.healthAt + 10 ^ 9 ≤ s.at_ t → Completes (.standinHealth t) s (fun u => u.m.pm.healthAt = s.at_ t ∧ u.m.pm.drySaid = 0 ∧
      u.m.pm.dryDiff = 0 ∧ (s.roomy 0 → ∃ fs, fs.take 2 = [itm 1 1 (s.m.obj F.pairSTATE), itm 2 2 (s.m.obj F.pairNOT_READY_CAUSE)] ∧
        Raised u 0 0x0D83 0 fs))) ∧
    (s.m.sys.off = false → ∀ (k : Fin 8) (fetch : Bool), let owner := s.m.obj F.cePARTITION k
      (stand →
        Completes (.memoryScrub t .larder k 0 true) s (fun u => u.m.pm.scrubAt = s.at_ t ∧ u.m.pm.larderBad = s.m.pm.larderBad) ∧
        Completes (.memoryScrub t .larder k 2 false) s (fun u => u.m.pm.larderBad = true ∧ u.m.pm.ready = false) ∧
        Completes (.memoryScrub t (.bank fetch) k 2 false) s (fun u => u.m.pm.testFail = true ∧ u.m.pm.ready = false)) ∧
      Completes (.memoryScrub t (.bank fetch) k 1 false) s (fun u => u.m.obj F.ceECC_CORRECTED k = up F.ceECC_CORRECTED k ∧ u.ram = s.ram ∧
        (u.m.eng k).clk = (s.m.eng k).clk + if fetch && (s.m.eng k).run == 1 then 2 else 0) ∧
      Completes (.memoryScrub t .data k 1 false) s (fun u => u.m.obj F.ceECC_CORRECTED k = up F.ceECC_CORRECTED k ∧ u.ram = s.ram) ∧
      (owner < 8 → s.m.obj F.partSTATE owner = 1 → ∀ e ∈ [(MemWord.bank fetch, 2), (MemWord.data, 3), (MemWord.frame, 1)],
        Completes (.memoryScrub t e.1 k 2 false) s (fun u => u.m.obj F.partSTATE owner = 3 ∧ u.m.obj F.partFAULT_CAUSE owner = e.2 ∧
          u.m.obj F.partFAULT_CE owner = k ∧ (e.2 ≠ 3 → u.m.obj F.ceSTATE k = 2)))) ∧
    (stand → s.m.pm.hubAt + 24 * 3600 * 10 ^ 9 ≤ s.at_ t → ∀ pass, Completes (.standinHubTest t pass) s (fun u => u.m.pm.hubAt = s.at_ t ∧
      u.m.pm.testFail = (s.m.pm.testFail || !pass)))

/-- The partner and the roles (R472, R484 to R487, R494): a heartbeat of a fitting and of a mismatched partner, a heartbeat of a later
epoch; heartbeats missed, the partner lost, the takeover's steps; the role at bring-up; a lone stand-in; the self-test after a demotion. The item layouts of events whose values the manual gives in prose are the model's choice (log 12). -/
def Obligations.PartnerAndRoles : Prop :=
  ∀ (t : Nat) (s : State), s.m.paired = true → s.m.obj F.pairEPOCH < 2 ^ 32 →
    let x := s.m.pm.peer
    let mine := s.m.obj F.pairEPOCH
    let raised := if mine = 2 ^ 32 - 1 then mine else mine + 1
    (∀ (net : Bool) (h : HbIn), let port := if net then h.port.val else 2
      let fits := s.m.meets (s.m.obj F.pairPARTNER_SERIAL) (({} : Peer).note h) && bit h.flags 1 != (s.m.obj F.pairROLE_HOME == 1)
      let timely := (s.m.upTo t).gz % s.m.hbPeriod ≤ s.m.obj F.timeTRANSIT_US * 1000
      s.m.sys.off = false → h.etherType = s.m.sys.pairType → (s.m.upTo t).blockOut (0x20 + port) = false → s.m.macPass port h.secured = true →
      (fits = true → h.epoch < 2 ^ 32 → Completes (.heartbeat t net h) s (fun u =>
        u.m.pm.peer.role = some h.role ∧ u.m.pm.peer.epoch = h.epoch ∧ u.m.pm.peer.flags = h.flags ∧ u.m.pm.peer.gens = h.gens ∧
        u.m.pm.peer.fits = true ∧ (timely → (if net then u.m.pm.peer.missNet else u.m.pm.peer.missPair) = 0 ∧
          (if net then u.m.pm.peer.downNet else u.m.pm.peer.downPair) = false) ∧
        (h.role = 1 → mine < h.epoch → (s.m.running = true → u.m.sys.demoting = true) ∧ (s.m.mode = 3 → u.m.obj F.pairEPOCH = h.epoch)))) ∧
      (fits = false → Completes (.heartbeat t net h) s (fun u => u.m.pm.peer.fits = false ∧ u.m.sys.demoting = s.m.sys.demoting ∧
        (s.m.mode = 3 ∨ (s.m.running = true ∧ timely) → u.m.obj F.pairSTATE = 5)))) ∧
    (∀ net : Bool, let n := if net then x.missNet else x.missPair
      x.clap + (n + 1) * s.m.hbPeriod + s.m.obj F.timeTRANSIT_US * 1000 ≤ s.at_ t → Completes (.heartbeatMissed t net) s (fun u =>
        (if net then u.m.pm.peer.missNet else u.m.pm.peer.missPair) = n + 1 ∧
        (n = 2 → (if net then u.m.pm.peer.downNet else u.m.pm.peer.downPair) = true))) ∧
    (s.m.pm.takeover = none → 3 ≤ x.missPair → 3 ≤ x.missNet → x.clap + 3 * s.m.hbPeriod + s.m.obj F.timeTRANSIT_US * 1000 ≤ s.at_ t →
      (x.role.isSome = true → s.m.running = true → s.m.pm.switch = none → Completes (.partnerLost t) s (fun u => u.m.pm.peer.role = none ∧
        u.m.pm.peer.lostAt = some (s.at_ t) ∧ u.m.mode = s.m.mode ∧ (s.roomy 0 → Raised u 0 0x0D82 0 [itm 1 1 0]))) ∧
      (x.role = some 1 → s.m.mode = 3 → x.slate = s.m.obj F.islSLATE → (∀ p ∈ s.m.redundants, s.m.partHolds p = true) → (s.m.upTo t).readyAtLoss = true →
        Completes (.partnerLost t) s (fun u => u.m.obj F.pairEPOCH = raised ∧
          u.m.pm.takeover = some ⟨s.at_ t, (s.m.upTo t).gzStamp, false, none⟩))) ∧
    (∀ k, s.m.pm.takeover = some k →
      (k.restored = none → k.at_ + s.m.restoreNs ≤ s.at_ t → Completes (.larderRestored t) s (fun u =>
        u.m.pm.takeover = some { k with restored := some (s.at_ t) } ∧
        u.ram = wr s.ram (s.m.redundants.flatMap ((s.m.upTo t).restoreWs s.ram)))) ∧
      (∀ a, k.restored = some a → a + 1000000 ≤ s.at_ t → Completes (.takeoverReady t) s (fun u => (u.m.mode = 1 ∨ u.m.mode = 2) ∧
        u.m.pm.takeover = none ∧ u.m.pm.ready = false ∧ u.m.obj F.pairTAKEOVERS = min (s.m.obj F.pairTAKEOVERS + 1) (2 ^ 32 - 1) ∧
        u.m.obj F.pairLAST_TAKEOVER = k.gz % 2 ^ 64 ∧ ∀ p ∈ s.m.redundants, u.m.obj F.takeSYNC p = 1))) ∧
    (s.m.sys.bringup = 8 → s.m.pm.standin = none → s.m.sys.stepAt + 2 * 10 ^ 9 ≤ s.at_ t → Completes (.pairListenEnd t) s (fun u =>
      let primary := s.m.obj F.pairROLE_HOME == 1
      u.m.pm.standin = some (if !x.fits then false else match x.role with
        | some 1 => true
        | some _ => if mine = x.epoch then !primary else decide (mine < x.epoch)
        | none => !primary) ∧
      (x.fits = true → x.role = some 1 → x.epoch < 2 ^ 32 → mine < 2 ^ 32 → u.m.obj F.pairEPOCH = max mine x.epoch) ∧
      (x.fits = true → x.role = none → primary = false → u.m.pm.aloneAt = some (s.at_ t)))) ∧
    (∀ a, s.m.pm.aloneAt = some a → s.m.mode = 3 → a + s.m.obj F.pairALONE_WAIT_S * 10 ^ 9 ≤ s.at_ t →
      (∀ n ∈ s.m.placesOf (fun _ => true), (s.m.place n).missed ≠ 0 ∨ bit (s.m.place n).flags 7 = true ∨ bit (s.m.place n).flags 6 = true) →
      (∀ n ∈ s.m.nodesOfAny (fun _ => true), (s.m.node n).missed ≠ 0 ∨ bit (s.m.node n).header 5 = true ∨ bit (s.m.node n).header 4 = true) →
      Completes (.aloneWaitExpiry t) s (fun u => (u.m.mode = 1 ∨ u.m.mode = 2) ∧ u.m.pm.aloneAt = none ∧ u.m.obj F.pairEPOCH = mine)) ∧
    (s.m.pm.testing = true →
      Completes (.demotionSelfTestDone t true) s (fun u => u.m.pm.testing = false ∧ u.m.mode = s.m.mode ∧
        ∀ p ∈ s.m.redundants, u.m.obj F.takeSYNC p = 1) ∧
      Completes (.demotionSelfTestDone t false) s (fun u => u.m.pm.testing = false ∧ u.m.mode = 4))

/-- Planned switches and the pair's commands (R499 to R501, R504 to R507): control leaves and comes at C_s, and after MAX_WAIT_MS; a clean
home primary asks; PAIR_SET, SWITCHOVER, HANDBACK, FULL_TAKE; the control frames of the pair. -/
def Obligations.PlannedSwitches : Prop :=
  ∀ (t : Nat) (s : State),
    let mine := s.m.obj F.pairEPOCH
    let out := fun (u : State) => u.m.mode = 3 ∧ u.m.pm.switch = none ∧ (∀ p ∈ s.m.redundants, u.m.obj F.takeSYNC p = 3) ∧
      u.m.obj F.pairEPOCH = mine ∧ u.ram = wr s.ram (s.m.redundants.flatMap ((s.m.upTo t).keepWs s.ram))
    let in_ := fun (u : State) => (u.m.mode = 1 ∨ u.m.mode = 2) ∧ u.m.pm.switch = none ∧
      u.m.obj F.pairEPOCH = (if mine = 2 ^ 32 - 1 then mine else mine + 1) ∧
      u.ram = wr s.ram (s.m.redundants.flatMap ((s.m.upTo t).restoreWs s.ram))
    (∀ w, s.m.pm.switch = some w → w.at_ ≤ s.at_ t → mine < 2 ^ 32 →
      (w.incoming = false → s.m.running = true → s.m.partnerReady = true → Completes (.switchInstant t) s out ∧
        (w.start + w.maxMs * 10 ^ 6 ≤ s.at_ t → Completes (.switchMaxWait t) s out)) ∧
      (w.incoming = true → s.m.mode = 3 → Completes (.switchInstant t) s in_ ∧
        (w.start + w.maxMs * 10 ^ 6 ≤ s.at_ t → Completes (.switchMaxWait t) s (fun u => in_ u ∧
          ∀ p ∈ s.m.redundants, (u.m.part p).noGather = true)))) ∧
    (∀ a, s.m.mode = 3 → s.m.obj F.pairREVERTIVE ≠ 0 → s.m.cleanNow = true → s.m.pm.cleanAt = some a →
      a + s.m.obj F.pairCLEAN_S * 10 ^ 9 ≤ s.at_ t → s.m.pm.switch = none →
      Completes (.cleanPeriodElapsed t) s (fun u => u.m.pm = s.m.pm ∧
        ((s.m.upTo t).blockOut 0x22 = false → u.m.wire = ⟨⟨20, 4, 0, [6]⟩, s.m.sys.pairType, []⟩ :: s.m.wire))) ∧
    (∀ (msg : Msg) (is : List Item), let c := cmdOf msg s is
      let cs := s.m.commonClap (s.at_ msg.t + s.m.restoreNs)
      let started := fun (op : Nat) (u : State) => Replied u msg stSTARTED [] ∧
        u.m.pm.switch = some ⟨some (op, msg.queue, msg.seq), s.at_ msg.t, c.num 1 10000, cs, false⟩
      (Accepts pairSetCard msg s is → s.m.obj F.secLIFECYCLE = 2 → c.num 1 ≤ 2 →
        (c.num 1 ≠ 0 → (s.m.intake msg).hearsPair = false ∨ s.m.meets (c.num 2) s.m.pm.peer = true) →
        Completes (.pairSet msg) s (fun u => Replied u msg stDONE [] ∧ u.m.obj F.pairROLE_HOME = c.num 1 ∧
          u.m.obj F.pairPARTNER_SERIAL = c.num 2 % 2 ^ 64 ∧ (c.num 1 = 0 → u.m.pm = {} ∧ u.m.obj F.pairSTATE = 0))) ∧
      (Accepts switchoverCard msg s is → s.m.switchRefused = none → Completes (.switchover msg) s (started 0x0D11)) ∧
      (Accepts handbackCard msg s is → s.m.obj F.pairROLE_HOME = 2 → s.m.switchRefused = none →
        (c.num 2 ≠ 0 ∨ ∃ a, s.m.pm.cleanAt = some a ∧ a + s.m.obj F.pairCLEAN_S * 10 ^ 9 ≤ s.at_ msg.t) →
        Completes (.handback msg) s (started 0x0D12)) ∧
      (Accepts fullTakeCard msg s is → s.m.heard = true → s.m.pm.peer.role = some 2 → (c.num 1 = 0xFF ∨ c.num 1 ∈ s.m.redundants) →
        Completes (.fullTake msg) s (fun u => Replied u msg stSTARTED [] ∧ ∀ p ∈ (if c.num 1 = 0xFF then s.m.redundants else [c.num 1]),
          (u.m.take p).full = true ∧ (u.m.take p).cursor = 0))) ∧
    (s.m.paired = true → (s.m.upTo t).pairUp = true →
      (∀ parts, s.m.running = true → Completes (.pairControlFrame t (.fullTake parts)) s (fun u => ∀ p ∈ s.m.redundants, bit parts p = true →
        (u.m.take p).full = true ∧ (u.m.take p).cursor = 0)) ∧
      (∀ k, s.m.mode = 3 → Completes (.pairControlFrame t (.config k)) s (fun u =>
        let x := (s.m.upTo t).pairLoad s.ram k
        u.m = { x.1 with now := s.at_ t } ∧ u.ram = wr s.ram x.2)) ∧
      (∀ k, s.m.mode = 3 → Completes (.pairControlFrame t (.change k)) s (fun u =>
        let told := fun (ok : Nat) => u.ram = s.ram ∧ u.m.wire = ⟨⟨20, 4, 0, 2 :: ok :: toBe 4 k.programId⟩, s.m.sys.pairType, []⟩ :: s.m.wire
        Sys2Proof.Part.verdict ((s.m.upTo t).changeCheck s.ram k) (fun _ => u.m.sys.change = some k ∧ told 1)
          (fun _ => u.m.sys.change = s.m.sys.change ∧ told 0))) ∧
      (∀ (k : Pkg) (q id : Nat) (ok : Bool), s.m.sys.changeAsk = some (k, q) →
        (ok = false ∨ id ≠ k.programId → Completes (.pairControlFrame t (.changeTold id ok)) s (fun u => u.m.sys.changeAsk = none ∧
          u.m.cfg = s.m.cfg ∧ u.ram = s.ram)) ∧
        (∀ o, s.m.cfg = some o → Completes (.pairControlFrame t (.changeTold k.programId true)) s (fun u =>
          let y := (s.m.upTo t).changeSet s.ram k
          u.m = { y.1.endRunning q stDONE (changeItems o k) with now := s.at_ t } ∧ u.ram = wr s.ram y.2))) ∧
      (∀ at_, s.m.mode = 3 → Completes (.pairControlFrame t (.switchTo at_)) s (fun u =>
        u.m.pm.switch = some ⟨none, s.at_ t, 0, at_, true⟩)) ∧
      (s.m.running = true → s.m.obj F.pairROLE_HOME = 2 → s.m.switchRefused = none →
        Completes (.pairControlFrame t .handback) s (fun u =>
          u.m.pm.switch = some ⟨none, s.at_ t, 10000, s.m.commonClap (s.at_ t + s.m.restoreNs), false⟩)) ∧
      Completes (.pairControlFrame t .abandon) s (fun u => u.m.pm.switch = s.m.pm.switch.filter (fun w => !w.incoming)))

/-- The recorder (R509, R511, R517, R520, R523 to R527): the head of Rushes is committed with the next number of its class, sealed and
noticed; a page of 256 staged records is programmed and released; a failed block, a failed device; read windows opened, read, closed,
left idle. -/
def Obligations.RecorderCommands : Prop :=
  ∀ (t : Nat) (s : State),
    (∀ (x : Rush) (rest : List Rush), s.m.recd.rushes = x :: rest → x.cls = 1 ∨ x.cls = 2 → s.m.recd.staging.length < 65536 →
      let seq := s.m.obj (nextFld x.cls)
      Completes (.recordCommit t) s (fun u =>
        u.m.recd.staging = s.m.recd.staging ++ [(x.cls, seq, sealRec x.bytes seq)] ∧ u.m.obj (nextFld x.cls) = (seq + 1) % 2 ^ 64 ∧
        u.m.recd.committed = s.m.recd.committed + 1 ∧
        (∃ l, u.m.recd.rushes = rest ++ l ∧ (s.m.recd.losses = [] → l = [])) ∧
        (∀ ch, x.last = true → x.notice = [ch] → s.m.recd.chain = [] → s.roomy ch → Raised u ch 0x0E80 0 [⟨1, sealRec x.bytes seq⟩]))) ∧
    (∀ cls : Fin 2,
      let c := cls.val + 1
      let page := (s.m.recd.staging.filter (fun e => e.1 == c)).take 256
      let hi := ((page.getLast?).map (fun e => e.2.1)).getD 0
      page.length = 256 → s.m.obj F.recSTATE ≠ 1 → Completes (.flashPageProgram t cls) s (fun u =>
        u.m.recd.staging = s.m.recd.staging.filter (fun e => !(e.1 == c && decide (e.2.1 ≤ hi))) ∧
        (∀ e ∈ page, e.2.1 ≤ cellarSize c → (c * 2 ^ 64 + e.2.1, e.2.2) ∈ u.m.recd.cellar) ∧
        ((∀ e ∈ page, cellarSize c < e.2.1 ∧ (e.2.1 - cellarSize c - 1) % 65536 ≠ 0) →
          ∀ e ∈ page, (c * 2 ^ 64 + e.2.1, e.2.2) ∈ u.m.recd.attic))) ∧
    (s.m.obj F.recSTATE ≠ 1 →
      (s.m.obj F.recSPARE_BLOCKS ≠ 0 → s.m.obj F.recSPARE_BLOCKS < 2 ^ 32 → Completes (.flashBlockFail t false) s (fun u =>
        u.m.obj F.recSPARE_BLOCKS = s.m.obj F.recSPARE_BLOCKS - 1 ∧ u.m.obj F.recSTATE = s.m.obj F.recSTATE)) ∧
      (s.m.obj F.recSTATE = 0 → Completes (.flashBlockFail t true) s (fun u => u.m.obj F.recSTATE = 1 ∧
        (s.roomy 0 → Raised u 0 0x0E82 0 [])))) ∧
    (∀ w : Fin 8, Completes (.windowIdleExpiry t w) s (fun u =>
      u.m.recd.wins = s.m.recd.wins.filter (fun x => !(x.1 == w.val && decide (x.2.lastAt + 300 * 10 ^ 9 ≤ s.at_ t))))) ∧
    ∀ (msg : Msg) (is : List Item), let c := cmdOf msg s is
      (∀ h, Accepts openWindowCard msg s is →
        let next := s.m.obj (nextFld (c.num 1))
        let owners := if c.has 4 then c.num 4 else reachMask c.owner
        let cur := if c.has 3 then s.m.fromTime (c.num 3)
          else if c.num 2 = 0 then s.m.oldestAll (c.num 1)
          else if c.num 2 = 2 ^ 64 - 1 then next else c.num 2
        owners &&& reachMask c.owner = owners → (c.num 2 ≤ next ∨ c.num 2 = 2 ^ 64 - 1) →
        (List.range 8).find? (fun h => !(s.m.recd.wins.any (fun w => w.1 == h))) = some h →
        Completes (.openWindow msg) s (fun u => u.m.recd.wins = s.m.recd.wins ++ [(h, ⟨msg.queue, c.num 1, cur, owners, s.at_ msg.t⟩)] ∧
          Replied u msg stDONE [itm 1 1 h, itm 2 8 cur, itm 3 8 (s.m.obj (oldestFld (c.num 1))), itm 4 8 next, itm 5 8 (s.m.cellarLast (c.num 1))])) ∧
      (∀ w, Accepts readWindowCard msg s is → s.m.recd.wins.find? (fun w => w.1 == c.num 1 && w.2.queue == msg.queue) = some w →
        let x := s.m.scanRecs w.2.cls w.2.owners (if c.has 2 then c.num 2 else 64) 4096 { cur := w.2.cursor }
        let next := s.m.obj (nextFld w.2.cls)
        Completes (.readWindow msg) s (fun u =>
          u.m.recd.wins = s.m.recd.wins.map (fun y => if y.1 = w.1 then (y.1, { y.2 with cursor := x.cur, lastAt := s.at_ msg.t }) else y) ∧
          u.m.recd.staging = s.m.recd.staging ∧
          Replied u msg stDONE [⟨1, x.recs.reverse.flatten⟩, itm 2 1 (x.over_.toNat + (if next ≤ x.cur then 2 else 0) + (if x.torn ≠ 0 then 4 else 0)),
            itm 3 8 x.skipped, itm 4 8 x.cur] ∧
          (next ≤ w.2.cursor → s.m.obj (oldestFld w.2.cls) ≤ w.2.cursor →
            Replied u msg stDONE [⟨1, []⟩, itm 2 1 2, itm 3 8 0, itm 4 8 w.2.cursor]))) ∧
      (Accepts closeWindowCard msg s is → Completes (.closeWindow msg) s (fun u => Replied u msg stDONE [] ∧
        u.m.recd.wins = s.m.recd.wins.filter (fun w => !(w.1 == c.num 1 && w.2.queue == msg.queue))))

/-! ### Resets, security, service -/

/-- What a MODULE-scope reset leaves (R535 to R537): LAST_RESET, the bring-up step, no mode, no session, no pending command of a partition,
empty images and instance data, each output at the fallback the configuration and the parameter set give; the configuration, MODULE_ID, the
controller epoch and the parameter set stay. -/
def Reset (s u : State) (cause step : Nat) : Prop :=
  u.m.obj F.modeLAST_RESET = cause ∧ u.m.obj F.modeRESETS = min (s.m.obj F.modeRESETS + 1) (2 ^ 32 - 1) ∧ u.m.sys.bringup = step ∧
  u.m.mode = 0xFF ∧ u.m.conns = [] ∧ (∀ p, (u.m.part p).cmd = none) ∧ u.m.cfg = s.m.cfg ∧ u.m.isl.set = s.m.isl.set ∧
  u.m.obj F.modMODULE_ID = s.m.obj F.modMODULE_ID ∧ u.m.obj F.pairEPOCH = s.m.obj F.pairEPOCH ∧ u.m.obj F.secDEBUG_LEVEL = 0 ∧
  (∀ sp ∈ ([.back, .backQ, .front, .frontQ, .work, .comm, .inst, .frame, .larder] : List Space), ∀ a, rd u.ram sp a = rd [] sp a) ∧
  ∀ sp ∈ ([.pub, .next, .applied] : List Space), ∀ a, rd u.ram sp a = rd (wr [] s.m.restWs) sp a

/-- The reset sources (R535, R536, R549, R564): power-on, brown-out, RESET_N, the supervisor's watchdog and its escalation, a commanded
reset when it is due, a lifecycle change with it, DEBUG_RESET. -/
def Obligations.ResetSources : Prop :=
  ∀ (t : Nat) (s : State),
    (s.m.sys.off = true → Completes (.mainsPowerOn t) s (fun u => Reset s u 1 1 ∧ u.m.sys.off = false ∧ u.m.sys.mains = true ∧
      u.m.obj F.islSTATE = 0)) ∧
    (s.m.sys.off = false →
      (∀ island, Completes (.brownOut t island) s (fun u => Reset s u 2 1 ∧ (island = false → u.m.isl.fns = s.m.isl.fns ∧
        u.m.obj F.islSTATE = s.m.obj F.islSTATE))) ∧
      (∀ low acts, s.m.obj F.powPOWER_STATE ≠ 1 → (50000 ≤ low ∨ 10000 ≤ low ∧ acts = true) → Completes (.resetN t low acts) s (fun u =>
        Reset s u 3 4 ∧ u.m.isl.fns = s.m.isl.fns)) ∧
      (∀ low acts, low < 10000 → Completes (.resetN t low acts) s (fun u => u.ram = s.ram ∧ u.m = s.m.upTo t))) ∧
    (s.m.sys.off = false → (s.m.sys.bringup = 0 ∨ 5 ≤ s.m.sys.bringup) →
      (s.m.sys.wdAt = none → Completes (.watchdogExpiry t) s (fun u => u.m.sys.restarting = some (s.at_ t) ∧ u.m.sys.wdAt = some (s.at_ t) ∧
        u.m.conns = [] ∧ u.m.mode = s.m.mode ∧ u.ram = s.ram)) ∧
      (∀ a, s.m.sys.wdAt = some a → s.at_ t ≤ a + 60 * 10 ^ 9 → Completes (.watchdogExpiry t) s (fun u => Reset s u 4 4))) ∧
    (∀ a, s.m.sys.restarting = some a →
      Completes (.supervisorRestartDone t) s (fun u => u.m.sys.restarting = none ∧
        u.m.obj F.modeSUP_RESTARTS = min (s.m.obj F.modeSUP_RESTARTS + 1) (2 ^ 32 - 1)) ∧
      (a + 3 * 10 ^ 9 ≤ s.at_ t → Completes (.supervisorRestartTimeout t) s (fun u => Reset s u 4 4))) ∧
    (∀ due cause, s.m.sys.resetDue = some (due, cause) → due ≤ s.at_ t → cause < 256 →
      (s.m.sys.lifeNext = none → Completes (.resetTakesEffect t) s (fun u => Reset s u cause 4 ∧ u.m.sys.resetDue = none)) ∧
      (∀ l, s.m.sys.lifeNext = some l → l < 4 → Completes (.resetTakesEffect t) s (fun u => u.m.obj F.secLIFECYCLE = l ∧
        u.m.obj F.modeLAST_RESET = cause ∧ u.m.sys.lifeNext = none ∧ (l = 3 → u.m.obj F.modeMODE_ON_START = 1 ∧ u.m.sec.ownerCert = [])))) ∧
    (s.m.obj F.secDEBUG_LEVEL = 2 → s.m.mode = 5 → Completes (.debugReset t) s (fun u => Reset s u 6 4))

/-- Bring-up and module-level faults (R532, R543): each step that ends well leads to the next; the last enters the mode R533 names, with
ingest open; time acquisition that runs out; a module-level fault enters SAFE-HALT. -/
def Obligations.BringUpSteps : Prop :=
  ∀ (t : Nat) (s : State), s.m.sys.off = false →
    (∀ (b : BringUp) (k : Nat), s.m.sys.bootFailed = false → s.m.sys.bringup = k → 1 ≤ k → k ≤ 7 → (k = 1 → b.ok = true ∧ s.m.sys.stepAt + 10 ^ 7 ≤ s.at_ t) →
      (k = 2 → (s.m.upTo t).precharged = true) → (k = 4 → b.bootFail = false) →
      (k = 6 → s.m.timeState = 1 ∨ (s.m.upTo t).acqOver = true) → (k = 7 → (s.m.upTo t).discovered = true) →
      Completes (.bringupStepComplete t b) s (fun u => u.m.sys.bringup = k + 1 ∧ u.m.sys.stepAt = s.at_ t ∧
        (s.m.mode = 0xFF → u.m.mode = 0xFF) ∧ (k = 1 → u.m.obj F.powPOWER_STATE = 0))) ∧
    (∀ b : BringUp, s.m.sys.bootFailed = false → s.m.sys.bringup = 4 → b.bootFail = true →
      Completes (.bringupStepComplete t b) s (fun u => u.m.sys.bringup = 4 ∧ u.m.sys.bootFailed = true)) ∧
    (∀ b : BringUp, s.m.sys.bootFailed = false → s.m.sys.bringup = 8 → (s.m.paired = false ∨ s.m.pm.standin.isSome = true) →
      Completes (.bringupStepComplete t b) s (fun u => u.m.sys.bringup = 0 ∧ u.m.recd.isOpen = true ∧
        (u.m.mode = (s.m.upTo t).entryMode.1 ∨ (s.m.upTo t).entryMode.1 = 1 ∧ u.m.mode = 2))) ∧
    (∀ silent : List Nat, s.m.sys.bringup = 6 → s.m.sys.stepAt + s.m.obj F.timeACQ_TIMEOUT * 10 ^ 9 ≤ s.at_ t →
      Completes (.acqTimeout t silent) s (fun u => u.m.sys.bringup = 7 ∧ u.m.sys.stepAt = s.at_ t)) ∧
    ∀ unit : Fin 5, s.m.mode ≠ 0xFF → s.m.mode ≠ 4 → Completes (.moduleLevelFault t unit) s (fun u => u.m.mode = 4 ∧
      u.m.obj F.modeSAFE_HALT_CAUSE = 3 ∧ u.m.sys.unitFault = some unit.val)

/-- Certificates, lifecycle, MACsec (R552, R557, R558, R562, R563, R580, R581): a chain, the owner certificate, an anchor read; an
installation and a lifecycle change that meet their conditions wait for presence; a link secured or failed, a key renewed. -/
def Sys2Proof.Part.CertificatesAndLinks : Prop :=
  ∀ (t : Nat) (msg : Msg) (s : State) (is : List Item),
    let c := cmdOf msg s is
    let window := fun (u : State) (w : Presence) => Replied u msg stSTARTED [] ∧
      u.m.sys.window = some ⟨w, msg.queue, msg.seq, s.at_ msg.t + 30 * 10 ^ 9⟩
    (Accepts certGetCard msg s is →
      (c.num 1 = 0 → Completes (.certGet msg) s (fun u =>
        Config.deviceChain ≠ [] → Replied u msg stDONE (Config.deviceChain.map (fun b => ⟨1, b⟩)))) ∧
      (c.num 1 = 1 → s.m.sec.ownerCert ≠ [] → Completes (.certGet msg) s (fun u => Replied u msg stDONE [⟨1, s.m.sec.ownerCert⟩])) ∧
      (∀ a, c.num 1 = 2 → s.m.sec.anchors.find? (fun a => a.1 == c.num 2) = some a →
        Completes (.certGet msg) s (fun u => Replied u msg stDONE [⟨1, a.2⟩]))) ∧
    (Accepts certInstallCard msg s is → s.m.sys.window = none →
      (c.num 1 ≤ 1 → s.m.obj F.secLIFECYCLE = 2 → s.m.securityAnchors ≠ [c.num 2]) →
      Completes (.certInstall msg) s (fun u => u.m.sec.anchors = s.m.sec.anchors ∧
        ((c.num 1 = 0 → Config.certP384 (c.bytes 3) = true ∧ Config.certIsCa (c.bytes 3) = true) →
          (c.num 1 = 2 → Config.certP384 (c.bytes 3) = true ∧ Config.certForDevice (c.bytes 3) = true) →
          window u (.cert (c.num 1) (c.num 2) (c.bytes 3) (c.num 4) (c.num 5) (c.num 6))))) ∧
    (∀ a, Accepts lifecycleSetCard msg s is → s.m.obj F.powPOWER_STATE ≠ 1 → s.m.sys.window = none →
      lifeStep (s.m.obj F.secLIFECYCLE) (c.num 1) = some a → (c.num 1 = 2 → s.m.securityAnchors ≠ []) →
      Completes (.lifecycleSet msg) s (fun u => u.m.obj F.secLIFECYCLE = s.m.obj F.secLIFECYCLE ∧
        ((let token := c.has 2 = true ∧ s.m.tokenOk (c.num 1) (if a = 1 then Config.factoryAnchor else Config.serviceAnchor) (c.bytes 2) = true
          if a = 1 ∨ a = 2 then token else (s.m.conn msg.conn).role = 4 ∨ a = 3 ∧ token) → window u (.life (c.num 1))))) ∧
    ∀ port : Fin 3, 
      (∀ cipher, s.m.obj F.psecMACSEC_MODE port ≠ 0 → (cipher = 2 ∨ cipher = 1 ∧ port ≠ 2) → Completes (.mkaSecured t port true cipher) s (fun u =>
        u.m.obj F.psecSTATE port = 2 ∧ u.m.obj F.psecCIPHER port = cipher ∧ alook 0 u.m.sec.sakAt port = s.at_ t)) ∧
      (∀ cipher, s.m.obj F.psecMACSEC_MODE port ≠ 0 → Completes (.mkaSecured t port false cipher) s (fun u =>
        u.m.obj F.psecSTATE port = 3 ∧ u.m.obj F.psecCIPHER port = 0 ∧ (port = 2 → u.m.pm.peer.downPair = true))) ∧
      (∀ ex, s.m.obj F.psecSTATE port = 2 → (ex = true ∨ alook 0 s.m.sec.sakAt port + 24 * 3600 * 10 ^ 9 ≤ s.at_ t) →
        Completes (.sakRenewal t port ex) s (fun u => alook 0 u.m.sec.sakAt port = s.at_ t ∧
          u.m.obj F.psecREKEYS port = min (s.m.obj F.psecREKEYS port + 1) (2 ^ 32 - 1)))

/-- Debug (R564 to R567): a nonce asked for, a chain and signature that verify at INSPECT and at INTRUSIVE, the close, the lease's end, the
block's end, a write of memory. -/
def Sys2Proof.Part.DebugAccess : Prop :=
  ∀ (t : Nat) (msg : Msg) (s : State) (is : List Item),
    let c := cmdOf msg s is
    let open_ := (∀ e, s.m.sec.blocked = some e → e ≤ s.at_ msg.t) ∧ 2 ≤ (s.m.conn msg.conn).port ∧ s.m.obj F.powPOWER_STATE = 0 ∧
      c.num 2 ≤ debugMax (s.m.obj F.secLIFECYCLE) s.m.mode
    (Accepts debugAuthCard msg s is → open_ →
      (c.num 1 = 0 → Completes (.debugAuth msg) s (fun u => ∃ n, u.m.sec.nonce = some (n, s.at_ msg.t) ∧
        Replied u msg stDONE [itm 1 32 n])) ∧
      (∀ n a, c.num 1 = 1 → s.m.sec.nonce = some (n, a) → s.at_ msg.t ≤ a + 60 * 10 ^ 9 → (c.all 3).length ≤ 4 →
        let proved := (c.all 3).all Config.certP384 = true ∧ s.m.debugAnchor (Config.chainAnchor (c.all 3)) = true ∧
          Config.ecdsaOk (toBe 32 n ++ toBe 8 (s.m.obj F.secSERIAL) ++ [c.num 2]) (c.bytes 4) (Config.certPrint ((c.all 3).headD [])) = true
        (c.num 2 = 1 → Completes (.debugAuth msg) s (fun u => u.m.sec.nonce = none ∧ (proved → u.m.obj F.secDEBUG_LEVEL = 1 ∧
          u.m.sec.leaseEnd = some (s.at_ msg.t + s.m.obj F.secDEBUG_LEASE_S * 10 ^ 9) ∧
          Replied u msg stDONE [itm 2 4 (s.m.obj F.secDEBUG_LEASE_S)]) ∧
          (¬proved → u.m.obj F.secDEBUG_LEVEL = s.m.obj F.secDEBUG_LEVEL))) ∧
        (c.num 2 = 2 → s.m.sys.window = none → Completes (.debugAuth msg) s (fun u => u.m.sec.nonce = none ∧
          (proved → Replied u msg stSTARTED [] ∧
            u.m.sys.window = some ⟨.debug msg.conn, msg.queue, msg.seq, s.at_ msg.t + 30 * 10 ^ 9⟩) ∧
          (¬proved → u.m.sys.window = none))))) ∧
    (Accepts debugCloseCard msg s is → Completes (.debugClose msg) s (fun u => u.m.obj F.secDEBUG_LEVEL = 0 ∧ Replied u msg stDONE [] ∧
      (s.m.obj F.secDEBUG_LEVEL ≠ 0 → u.m.sec.leaseEnd = none))) ∧
    (∀ e, s.m.sec.leaseEnd = some e → e ≤ s.at_ t → s.m.obj F.secDEBUG_LEVEL ≠ 0 → Completes (.debugLeaseExpiry t) s (fun u =>
      u.m.obj F.secDEBUG_LEVEL = 0 ∧ u.m.sec.leaseEnd = none ∧ u.m.isl.debugHold = false)) ∧
    (∀ e, s.m.sec.blocked = some e → e ≤ s.at_ t → Completes (.authBlockExpiry t) s (fun u => u.m.sec.blocked = none)) ∧
    (s.m.obj F.secDEBUG_LEVEL = 2 → ∀ a v,
      (∀ sp, sp = 0 ∨ sp = 2 ∨ (sp = 1 ∧ a < 2 ^ 24) → Completes (.debugMemoryWrite t sp a v) s (fun u => u.m.obj F.secTAINTED = 1 ∧
        u.ram = wr s.ram (if sp = 1 then [.put .bank a (v % 2 ^ 32)] else []))) ∧
      (a < 48 * 2 ^ 20 → Completes (.debugMemoryWrite t 3 a v) s (fun u => u.ram = wr s.ram [.put .inst a (v % 2 ^ 8)] ∧
        u.m.obj F.secTAINTED = s.m.obj F.secTAINTED)) ∧
      (a < 2 ^ 20 → Completes (.debugMemoryWrite t 4 a v) s (fun u => u.ram = wr s.ram [.put .work a (v % 2 ^ 16)] ∧
        u.m.obj F.secTAINTED = s.m.obj F.secTAINTED)) ∧
      (a < 2 ^ 16 → Completes (.debugMemoryWrite t 5 a v) s (fun u => u.ram = wr s.ram [.put .frame a (v % 2 ^ 8)] ∧
        u.m.obj F.secTAINTED = s.m.obj F.secTAINTED)))

/-- Security. The results of signature and certificate checks are free constants (log 6); the nonce is a free value (log 5). -/
def Obligations.CertificatesAndDebug : Prop := Sys2Proof.Part.CertificatesAndLinks ∧ Sys2Proof.Part.DebugAccess

/-- Loss of mains and LOW (R568 to R573): HOLDUP with a cartridge; mains back before and in the wrap; the wrap's start and its steps; the
entry to LOW. -/
def Obligations.PowerDown : Prop :=
  ∀ (t : Nat) (s : State), s.m.sys.off = false →
    (s.m.sys.mains = true → s.m.svc.cartIn = true → s.m.svc.cartFault = false → ∀ island, Completes (.mainsLost t island) s (fun u =>
      u.m.obj F.powPOWER_STATE = 1 ∧ u.m.sys.mains = false ∧ u.m.sys.lostAt = some (s.at_ t) ∧ u.m.obj F.secDEBUG_LEVEL = 0 ∧
      u.m.svc.update = none ∧ u.m.sys.window = none ∧ u.m.obj F.powHOLDUPS = min (s.m.obj F.powHOLDUPS + 1) (2 ^ 32 - 1))) ∧
    (s.m.obj F.powPOWER_STATE = 1 → s.m.sys.wrap = none → Completes (.mainsReturn t) s (fun u => u.m.obj F.powPOWER_STATE = 0 ∧
      u.m.sys.mains = true ∧ u.m.sys.lostAt = none)) ∧
    (s.m.sys.wrap.isSome = true → Completes (.mainsReturn t) s (fun u => u.m.sys.mains = true ∧ u.m.sys.wrap = s.m.sys.wrap ∧
      u.m.obj F.powPOWER_STATE = s.m.obj F.powPOWER_STATE)) ∧
    (∀ a, s.m.obj F.powPOWER_STATE = 1 → s.m.sys.wrap = none → s.m.sys.lostAt = some a → a + s.m.obj F.powRIDE_MS * 10 ^ 6 ≤ s.at_ t →
      Completes (.wrapStart t) s (fun u => ∃ due, u.m.sys.wrap = some ⟨s.at_ t, if s.m.mode = 3 then 3 else 1, due⟩)) ∧
    (∀ w, s.m.sys.wrap = some w → w.due ≤ s.at_ t →
      (w.step = 1 → Completes (.wrapStepComplete t) s (fun u => u.m.sys.wrap = some ⟨w.start, 2, s.at_ t + s.m.tTake⟩)) ∧
      (w.step = 2 → Completes (.wrapStepComplete t) s (fun u => u.m.sys.wrap = some ⟨w.start, 3, s.at_ t⟩ ∧ u.m.sys.imageOk = true ∧
        u.m.time.saved = (s.m.upTo t).gz)) ∧
      (w.step = 3 → Completes (.wrapStepComplete t) s (fun u => u.m.sys.wrap = some ⟨w.start, 4, s.at_ t⟩ ∧ u.m.obj F.recSTATE = 2 ∧
        u.m.recd.isOpen = false)) ∧
      (w.step = 4 → s.m.sys.mains = false → Completes (.wrapStepComplete t) s (fun u => u.m.sys.wrap = none ∧ u.m.sys.off = true ∧
        u.m.isl.wrapHold = true ∧ u.m.obj F.powWRAPS = min (s.m.obj F.powWRAPS + 1) (2 ^ 32 - 1))) ∧
      (w.step = 4 → s.m.sys.mains = true → Completes (.wrapStepComplete t) s (fun u => u.m.sys.off = false ∧ u.m.sys.bringup = 1 ∧
        u.m.obj F.modeLAST_RESET = 7))) ∧
    (∀ a, s.m.mode = 3 → s.m.sys.standSince = some a → a + 10 * 10 ^ 9 ≤ s.at_ t → s.m.obj F.pairLOW_OK ≠ 0 → s.m.sys.mains = true →
      s.m.obj F.gaugePF_STATE = 0 → s.m.obj F.secDEBUG_LEVEL = 0 → s.m.obj F.powPOWER_STATE = 0 →
      Completes (.lowEntry t) s (fun u => u.m.obj F.powPOWER_STATE = 2 ∧ u.m.sys.lowSince = some (s.at_ t) ∧ u.m.mode = 3))

/-- Firmware (R582 to R587): an update begun, its data, its verification passed and failed, its activation, a node's activation done, the
trial's end, an idle update. The item layouts of events whose values the manual gives in prose are the model's choice (log 12). -/
def Obligations.FirmwareUpdates : Prop :=
  ∀ (t : Nat) (msg : Msg) (s : State) (is : List Item),
    let c := cmdOf msg s is
    (Accepts updateBeginCard msg s is → s.m.svc.update = none → (c.num 1 = 4 ∨ c.num 1 = 5 → s.m.nodeUp (c.num 1) (c.num 2) = true) →
      (c.num 1 = 6 → (s.m.intake msg).partnerGone = true) → Completes (.updateBegin msg) s (fun u => Replied u msg stDONE [] ∧
        u.m.svc.update = some ⟨c.num 1, c.num 2, c.num 3, c.num 4, [], decide (c.num 1 = 6), 0, 0, 0, 0, msg.queue,
          (s.m.conn msg.conn).tag, s.at_ msg.t⟩ ∧
        u.m.obj F.updTARGET = c.num 1 % 2 ^ 8 ∧ u.m.obj F.updRECEIVED = 0)) ∧
    (∀ x, s.m.svc.update = some x →
      (Accepts updateDataCard msg s is → c.num 1 = x.data.length → x.data.length + (c.bytes 2).length ≤ x.size →
        Completes (.updateData msg) s (fun u => Replied u msg stDONE [] ∧
          u.m.svc.update = some { x with data := x.data ++ c.bytes 2, lastAt := s.at_ msg.t } ∧
          u.m.obj F.updRECEIVED = (x.data.length + (c.bytes 2).length) % 2 ^ 32)) ∧
      (∀ v : Verdict, x.verified = false → x.data.length = x.size →
        (v.ok = false → Completes (.imageVerified t v) s (fun u => u.m.svc.update = none ∧ u.m.obj F.updTARGET = 0xFF ∧
          (s.roomy x.queue → Raised u x.queue 0x1080 0x2001 [itm 1 1 (u.m.obj F.updSTATE), itm 2 1 x.target]))) ∧
        (v.ok = true → x.target ≤ 3 → s.m.floorOf x.target ≤ v.version → Completes (.imageVerified t v) s (fun u =>
          u.m.svc.update = some ⟨x.target, x.index, x.size, x.serial, x.data, true, v.version, v.restartMs, v.vendor, v.product, x.queue, x.tag,
            x.lastAt⟩ ∧
          (s.roomy x.queue → Raised u x.queue 0x1080 0 [itm 1 1 (u.m.obj F.updSTATE), itm 2 1 x.target]))) ∧
        (v.ok = true → x.target ≤ 3 → v.version < s.m.floorOf x.target → Completes (.imageVerified t v) s (fun u => u.m.svc.update = none ∧
          (s.roomy x.queue → Raised u x.queue 0x1080 0x2005 [itm 1 1 (u.m.obj F.updSTATE), itm 2 1 x.target])))) ∧
      (Accepts updateActivateCard msg s is → s.m.obj F.powPOWER_STATE = 0 → x.verified = true → s.m.svc.activation = none →
        (s.m.activatePresence x = true → s.m.sys.window = none → Completes (.updateActivate msg) s (fun u => Replied u msg stSTARTED [] ∧
          u.m.svc.update = some x ∧
          u.m.sys.window = some ⟨.activate (c.num 1 == 1) (c.num 2 == 1), msg.queue, msg.seq, s.at_ msg.t + 30 * 10 ^ 9⟩)) ∧
        (s.m.activatePresence x = false → x.target ≤ 3 → Completes (.updateActivate msg) s (fun u => Replied u msg stSTARTED [] ∧
          u.m.svc.update = none ∧
          u.m.svc.activation = some ⟨x.target, x.index, msg.queue, msg.seq, s.at_ msg.t, c.num 1 == 1, x.version, false⟩ ∧
          (x.target = 0 → u.m.obj F.secIMAGE_ACTIVE = (1 - s.m.obj F.secIMAGE_ACTIVE) % 2 ^ F.secIMAGE_ACTIVE.bits)))) ∧
      (x.lastAt + 600 * 10 ^ 9 ≤ s.at_ t → Completes (.updateIdleExpiry t) s (fun u => u.m.svc.update = none ∧ u.m.obj F.updTARGET = 0xFF))) ∧
    (∀ a, s.m.svc.activation = some a → 4 ≤ a.target → a.sent = true →
      Completes (.activationDone t true) s (fun u => u.m.svc.activation = none ∧
        u.m.obj F.updACTIVATIONS = min (s.m.obj F.updACTIVATIONS + 1) (2 ^ 32 - 1) ∧
        (s.roomy a.queue → Raised u a.queue 0x1012 0 [⟨0xF0, toBe 4 a.seq⟩, itm 1 4 a.version])) ∧
      Completes (.activationDone t false) s (fun u => u.m.svc.activation = none ∧ u.m.obj F.updACTIVATIONS = s.m.obj F.updACTIVATIONS ∧
        (s.roomy a.queue → Raised u a.queue 0x1012 0x2006 [⟨0xF0, toBe 4 a.seq⟩]))) ∧
    ∀ x, s.m.svc.trial = some x → x.ends ≤ s.at_ t → Completes (.trialEnd t) s (fun u => u.m.svc.trial = none ∧
      (x.raise = true → s.m.svc.raises < 64 → u.m.floorOf 0 = x.version ∧ u.m.svc.raises = s.m.svc.raises + 1) ∧
      (x.raise = false → u.m.svc.floors = s.m.svc.floors))

/-- Configuration transfers (R588): a load begun, its data, its abort, its idle end; the commit of a package that passes the loader's checks
puts it in force with every partition STOPPED, one that fails them is answered with what failed and changes nothing; a change that passes
them waits for a cycle boundary, or for the stand-in's word, one that fails them is refused. -/
def Obligations.ConfigurationLoads : Prop :=
  ∀ (t : Nat) (msg : Msg) (pkg : Pkg) (s : State) (is : List Item),
    let c := cmdOf msg s is
    let m := s.m.intake msg
    (Accepts loadBeginCard msg s is → s.m.svc.load = none → Completes (.loadBegin msg) s (fun u => Replied u msg stDONE [] ∧
      u.m.svc.load = some (c.num 1, c.num 2, [], msg.queue, s.at_ msg.t))) ∧
    (Accepts loadAbortCard msg s is → Completes (.loadAbort msg) s (fun u => Replied u msg stDONE [] ∧ u.m.svc.load = none ∧
      u.m.cfg = s.m.cfg)) ∧
    (∀ kind size data q a, s.m.svc.load = some (kind, size, data, q, a) →
      (Accepts loadDataCard msg s is → c.num 1 = data.length → data.length + (c.bytes 2).length ≤ size →
        Completes (.loadData msg) s (fun u => Replied u msg stDONE [] ∧
          u.m.svc.load = some (kind, size, data ++ c.bytes 2, q, s.at_ msg.t))) ∧
      (a + 600 * 10 ^ 9 ≤ s.at_ t → Completes (.loadIdleExpiry t) s (fun u => u.m.svc.load = none ∧ u.m.cfg = s.m.cfg)) ∧
      (Accepts loadCommitCard msg s is → kind = 0 → size ≤ data.length →
        Completes (.loadCommit msg pkg) s (fun u =>
          Sys2Proof.Part.verdict ((m.withPkg s.ram pkg true).1.loaderCheck (wr s.ram (m.withPkg s.ram pkg true).2) pkg false)
            (fun _ => Replied u msg stDONE [itm 1 4 pkg.programId] ∧ u.m.svc.load = none ∧ ∀ p : Fin 8, u.m.obj F.partSTATE p = 0)
            (fun b => Replied u msg b.1 b.2 ∧ u.m.cfg = s.m.cfg ∧ u.m.svc.load = s.m.svc.load ∧ u.ram = s.ram))) ∧
      (∀ o, Accepts changeCommitCard msg s is → kind = 1 → size ≤ data.length → s.m.cfg = some o → s.m.sys.change = none →
        s.m.sys.changeAsk = none → Completes (.changeCommit msg pkg) s (fun u =>
          Sys2Proof.Part.verdict (m.changeCheck s.ram pkg)
            (fun _ =>
              (s.m.partnerReady = true → u.m.sys.changeAsk = some (pkg, msg.queue) ∧ u.m.sys.change = none ∧ u.m.svc.load = s.m.svc.load ∧
                u.m.cfg = some o ∧ u.ram = s.ram ∧ ((u.m.cq msg.queue).running.map (·.1)) = some msg) ∧
              (s.m.partnerReady = false → Replied u msg stDONE (itm 1 4 pkg.programId ::
                  ((migCounts o.insts pkg.insts).zip [2, 3, 4, 5, 6]).map (fun e => itm e.2 4 e.1) ++
                  [itm 7 8 (((List.range 8).map (fun p => tMig (migBytes o.insts pkg.insts p))).foldl max 0)]) ∧
                (m.atBoundary = false → u.m.sys.change = some pkg ∧ u.m.svc.load = none ∧ u.m.cfg = some o ∧
                  ∀ sp a, sp ≠ .bank → rd u.ram sp a = rd s.ram sp a)))
            (fun b => Replied u msg b.1 b.2 ∧ u.m.sys.change = none ∧ u.m.cfg = some o ∧ u.ram = s.ram))))

/-- Calibration and the cartridge (R412, R589, R590): a calibration started and its references taken, in and beyond the limits; the
replacement window, the cartridge out and in, precharged, its window's end, its level. The item layouts of events whose values the manual gives in prose are the model's choice (log 12). -/
def Obligations.CalibrationAndCartridge : Prop :=
  ∀ (t : Nat) (msg : Msg) (s : State) (is : List Item),
    let c := cmdOf msg s is
    (Accepts calibrateCard msg s is → isSys c.owner = true → s.m.svc.calib = none → Completes (.calibrate msg) s (fun u =>
      Replied u msg stSTARTED [] ∧
      u.m.svc.calib = some (c.num 1, c.num 2, msg.queue, msg.seq, s.at_ msg.t + (if c.num 1 = 0 then 2 else 50) * 10 ^ 6))) ∧
    (∀ kind unit q sq e offset gain, s.m.svc.calib = some (kind, unit, q, sq, e) →
      let old : Int × Int := alook (0, 0) s.m.svc.corr (kind * 16 + unit)
      (offset.natAbs ≤ 500 → gain.natAbs ≤ 10000 → Completes (.calibrated t offset gain) s (fun u => u.m.svc.calib = none ∧
        alook (0, 0) u.m.svc.corr (kind * 16 + unit) = (offset, gain) ∧
        (kind = 0 → q ≠ 0 → s.roomy q → Raised u q 0x1013 0
          [⟨0xF0, toBe 4 sq⟩, itm 1 4 (uint 32 (offset - old.1)), itm 2 4 (uint 32 (gain - old.2))]))) ∧
      (500 < offset.natAbs ∨ 10000 < gain.natAbs → Completes (.calibrated t offset gain) s (fun u => u.m.svc.calib = none ∧
        u.m.svc.corr = s.m.svc.corr ∧ (s.roomy q → Raised u q 0x1013 0x2007 [⟨0xF0, toBe 4 sq⟩])))) ∧
    (Accepts cartridgeReplaceCard msg s is → s.m.obj F.powPOWER_STATE = 0 → s.m.svc.cartWin = none → Completes (.cartridgeReplace msg) s (fun u =>
      u.m.svc.cartWin = some (some (msg.queue, msg.seq), s.at_ msg.t + 600 * 10 ^ 9) ∧ u.m.obj F.gaugePF_STATE = 2 ∧
      Replied u msg stSTARTED [itm 1 8 (if s.m.gzValid then s.m.gzAt (s.at_ msg.t + 600 * 10 ^ 9) else 0)])) ∧
    (s.m.svc.cartIn = true → Completes (.cartridgeRemoved t) s (fun u => u.m.svc.cartIn = false ∧ u.m.obj F.gaugeE_USED_MJ = 0 ∧
      u.m.obj F.gaugePF_STATE = 2 ∧ u.m.svc.cartWin = some (s.m.svc.cartWin.getD (none, s.at_ t + 600 * 10 ^ 9)))) ∧
    (s.m.svc.cartIn = false → ∀ serial, Completes (.cartridgeInserted t serial) s (fun u => u.m.svc.cartIn = true ∧
      u.m.svc.cartSerial = serial ∧ (serial ≠ s.m.svc.cartSerial → u.m.obj F.gaugeCAPACITY_MJ = 36000 ∧ u.m.gauge.eol = false) ∧
      (serial = s.m.svc.cartSerial → u.m.obj F.gaugeCAPACITY_MJ = s.m.obj F.gaugeCAPACITY_MJ))) ∧
    (s.m.svc.cartIn = true → s.m.obj F.gaugeWRAP_MJ < 2 ^ 32 → s.m.obj F.gaugeE_CC_MJ < 2 ^ 32 → s.m.obj F.gaugeE_V_MJ < 2 ^ 32 →
      Completes (.prechargeDone t) s (fun u => u.m.svc.cartWin = none ∧ s.m.obj F.gaugeWRAP_MJ ≤ u.m.obj F.gaugeE_USED_MJ ∧
      ∀ q sq e, s.m.svc.cartWin = some (some (q, sq), e) → q ≠ 0 → s.roomy q → Raised u q 0x1014 0 [⟨0xF0, toBe 4 sq⟩])) ∧
    (∀ w e, s.m.svc.cartWin = some (w, e) → e ≤ s.at_ t → s.m.svc.cartIn = false → Completes (.cartridgeWindowExpiry t) s (fun u =>
      u.m.svc.cartWin = none ∧ ∀ q sq, w = some (q, sq) → q ≠ 0 → s.roomy q → Raised u q 0x1014 stTIMEOUT [⟨0xF0, toBe 4 sq⟩])) ∧
    (s.m.svc.cartIn = true → ∀ l : CartLevel, l.cc < 2 ^ 32 → l.v < 2 ^ 32 → let e := min l.cc l.v
      Completes (.cartridgeLevelChange t l) s (fun u => u.m.obj F.gaugeE_USED_MJ = e ∧ u.m.svc.cartFault = l.fault ∧
      u.m.obj F.gaugeCART_MV = min l.mv 65535 ∧ u.m.obj F.gaugeTEMP = uint 16 l.temp ∧
      (s.m.svc.cartWin = none → u.m.obj F.gaugePF_STATE = if l.fault = true ∨ e < s.m.obj F.gaugeWRAP_MJ then 2
        else if s.m.obj F.gaugeGAUGE_STATE = 1 ∨ e * 4 < s.m.obj F.gaugeWRAP_MJ * 5 then 1 else 0)))
end

