-- ==== Sys2Proof/Laws/Accept.lean ====
section
/-! SUPPORT. Tests that compute whether a request reaches its execution and is accepted. -/
namespace Sys2Proof.Machine

/-- What `Reaches` asks, computed. -/
def reachesB (msg : Msg) (s : State) : Bool :=
  decide ((s.m.deaf = false ∧ (s.m.conn msg.conn).state = 2) ∧
    (msg.size = 32 + msg.plen ∧ msg.plen ≤ 1400 ∧ msg.params.length = msg.plen ∧ msg.magic = 0x5A43 ∧ msg.version = 1 ∧
      bit msg.flags 7 = false ∧ bit msg.flags 6 = false) ∧
    ((s.m.conn msg.conn).tag ≠ 0 ∧ msg.tag = (s.m.conn msg.conn).tag) ∧
    (msg.queue ≤ 63 ∧ (s.m.cq msg.queue).conn = msg.conn) ∧
    (msg.seq = s.m.obj F.cqNEXT_SEQ msg.queue ∧ msg.seq < 2 ^ 32) ∧
    (s.m.obj F.cqOUTSTANDING msg.queue < 16) ∧
    ((s.m.cq msg.queue).running = none ∧ (s.m.cq msg.queue).waiting = []) ∧
    (freeOps.contains msg.opcode = true ∨
      10 ^ 9 ≤ (s.m.upTo msg.t).poolLevel (s.m.poolOf msg.queue) ∧
      ¬(3 ≤ s.m.obj F.zcpSHED_STAGE ∧ s.m.obj F.cqCLASS msg.queue = 1) ∧
      ¬(2 ≤ s.m.obj F.zcpSHED_STAGE ∧ (msg.opcode = 0x0E10 ∨ msg.opcode = 0x0E11))))

theorem reaches_of {msg : Msg} {s : State} (h : reachesB msg s = true) : Reaches msg s := by
  obtain ⟨a, b, c, d, e, f, g, k⟩ := of_decide_eq_true h
  exact ⟨a, b, c, d, e, f, g, k⟩

/-- What `Accepts` asks, computed. -/
def acceptsB (card : Card) (msg : Msg) (s : State) (is : List Item) : Bool :=
  reachesB msg s && msg.opcode == card.op && (!card.bulk || (s.m.intake msg).obj F.cqCLASS msg.queue != 0) &&
  (msg.status == 0 && msg.resv == 0 && field msg.flags 4 1 == 0) &&
  (isSys (cmdOf msg s is).owner || msg.part == 0xFF || msg.part == (cmdOf msg s is).owner) &&
  (msg.deadline == 0 || ((s.m.intake msg).gzValid && decide ((s.m.intake msg).gz ≤ msg.deadline))) &&
  ((streamOf msg s).map (fun bs => (match readParams card bs with | .ok l => l == is | .error _ => false))).getD false &&
  !(card.partTy.any (fun ty => msg.part ≠ 0xFF && (cmdOf msg s is).has ty && (cmdOf msg s is).num ty ≠ msg.part)) &&
  (if (s.m.intake msg).mode = 0xFF then card.boot else (card.modesBy (s.m.intake msg) is).contains (s.m.intake msg).mode) &&
  (match card.roleBy with
    | some f => f (s.m.conn msg.conn).role is
    | none => roleReaches (s.m.conn msg.conn).role card.op) &&
  (!(card.sysBy is) || isSys (cmdOf msg s is).owner)

theorem accepts_of {card : Card} {msg : Msg} {s : State} {is : List Item} (h : acceptsB card msg s is = true) : Accepts card msg s is := by
  simp only [acceptsB, Bool.and_eq_true, decide_eq_true_eq, Bool.or_eq_true, beq_iff_eq, Bool.not_eq_true', bne_iff_ne] at h
  obtain ⟨⟨⟨⟨⟨⟨⟨⟨⟨⟨a, b⟩, c⟩, ⟨d1, d2⟩, d3⟩, e⟩, f⟩, g⟩, h1⟩, h2⟩, h3⟩, h4⟩ := h
  refine ⟨reaches_of a, b, ?_, ⟨d1, d2, d3⟩, or_assoc.mp e, f, ?_, h1, h2, h3, ?_⟩
  · intro hb
    exact c.resolve_left (by rw [hb]; decide)
  · cases hs : streamOf msg s with
    | none => rw [hs] at g; cases g
    | some bs =>
      rw [hs] at g
      refine ⟨bs, rfl, ?_⟩
      simp only [Option.map_some, Option.getD_some] at g
      cases hr : readParams card bs with
      | ok l =>
        rw [hr] at g
        rw [beq_iff_eq.mp g]
      | error _ => rw [hr] at g; cases g
  · intro hb
    exact h4.resolve_left (by rw [hb]; decide)

end Sys2Proof.Machine
end

