-- ==== Sys2Proof/Laws/Table.lean ====
section
/-! SUPPORT. Laws of the sparse tables: a read after a write, and the canonical form every write keeps. -/
namespace Sys2Proof.Machine

variable {α : Type} (d : Nat → α)

theorem tget_tdel_same (m : Table α) (k : Nat) : tget d (tdel m k) k = d k := by
  induction m with
  | nil => rfl
  | cons e r ih =>
    obtain ⟨a, v⟩ := e
    by_cases h : a = k <;> simp [tdel, tget, h, ih]

theorem tget_tdel_other (m : Table α) {j k : Nat} (h : j ≠ k) : tget d (tdel m k) j = tget d m j := by
  induction m with
  | nil => rfl
  | cons e r ih =>
    obtain ⟨a, v⟩ := e
    by_cases hk : a = k
    · have : a ≠ j := fun c => h (c.symm.trans hk)
      simp [tdel, tget, hk, ih, Ne.symm h]
    · simp [tdel, tget, hk, ih]

theorem tget_tins_same (m : Table α) (k : Nat) (w : α) : tget d (tins m k w) k = w := by
  induction m with
  | nil => simp [tins, tget]
  | cons e r ih =>
    obtain ⟨a, v⟩ := e
    by_cases h1 : k < a
    · simp [tins, tget, h1]
    · by_cases h2 : a = k <;> simp [tins, tget, h1, h2, ih]

theorem tget_tins_other (m : Table α) {j k : Nat} (w : α) (h : j ≠ k) : tget d (tins m k w) j = tget d m j := by
  induction m with
  | nil => simp [tins, tget, Ne.symm h]
  | cons e r ih =>
    obtain ⟨a, v⟩ := e
    by_cases h1 : k < a
    · simp [tins, tget, h1, Ne.symm h]
    · by_cases h2 : a = k
      · subst h2; simp [tins, tget, Ne.symm h]
      · simp [tins, tget, h1, h2, ih]

variable [DecidableEq α]

/-- A read after a write to the same key gives the value written. -/
@[simp] theorem tget_tput_same (m : Table α) (k : Nat) (w : α) : tget d (tput d m k w) k = w := by
  unfold tput
  split
  · next h => rw [tget_tdel_same, h]
  · exact tget_tins_same d m k w

/-- A write leaves every other key alone. -/
theorem tget_tput_other (m : Table α) {j k : Nat} (w : α) (h : j ≠ k) : tget d (tput d m k w) j = tget d m j := by
  unfold tput
  split
  · exact tget_tdel_other d m h
  · exact tget_tins_other d m w h

theorem tget_tput (m : Table α) (j k : Nat) (w : α) : tget d (tput d m k w) j = if j = k then w else tget d m j := by
  split
  · next h => subst h; exact tget_tput_same d m j w
  · next h => exact tget_tput_other d m w h

/-- A unit after its own change. -/
@[simp] theorem ug_uset_same (u : α) (m : Table α) (k : Nat) (f : α → α) : ug u (uset u m k f) k = f (ug u m k) := by
  simp [ug, uset]

/-- A unit after the change of another. -/
theorem ug_uset_other (u : α) (m : Table α) {j k : Nat} (f : α → α) (h : j ≠ k) : ug u (uset u m k f) j = ug u m j := by
  simp [ug, uset, tget_tput_other _ _ _ h]

/-! ### The canonical form -/

theorem twfFrom_le {b c : Nat} (h : b ≤ c) : ∀ m : Table α, twfFrom d c m = true → twfFrom d b m = true
  | [], _ => rfl
  | (a, v) :: r, hm => by
    simp only [twfFrom, Bool.and_eq_true, decide_eq_true_eq] at hm ⊢
    exact ⟨⟨Nat.le_trans h hm.1.1, hm.1.2⟩, hm.2⟩

theorem twfFrom_tdel (k : Nat) : ∀ (m : Table α) (b : Nat), twfFrom d b m = true → twfFrom d b (tdel m k) = true
  | [], _, _ => rfl
  | (a, v) :: r, b, hm => by
    simp only [twfFrom, Bool.and_eq_true, decide_eq_true_eq] at hm
    have ih := twfFrom_tdel k r (a + 1) hm.2
    by_cases hk : a = k
    · rw [tdel, if_pos hk]
      exact twfFrom_le d (Nat.le_trans hm.1.1 (Nat.le_succ a)) _ ih
    · rw [tdel, if_neg hk]
      simp only [twfFrom, Bool.and_eq_true, decide_eq_true_eq]
      exact ⟨hm.1, ih⟩

theorem twfFrom_tins {k : Nat} {w : α} (hw : w ≠ d k) :
    ∀ (m : Table α) (b : Nat), b ≤ k → twfFrom d b m = true → twfFrom d b (tins m k w) = true
  | [], b, hb, _ => by simp [tins, twfFrom, hb, hw]
  | (a, v) :: r, b, hb, hm => by
    simp only [twfFrom, Bool.and_eq_true, decide_eq_true_eq] at hm
    by_cases h1 : k < a
    · simp only [tins, if_pos h1, twfFrom, Bool.and_eq_true, decide_eq_true_eq]
      exact ⟨⟨hb, hw⟩, ⟨h1, hm.1.2⟩, hm.2⟩
    · by_cases h2 : a = k
      · subst h2
        simp only [tins, if_neg h1, if_true, twfFrom, Bool.and_eq_true, decide_eq_true_eq]
        exact ⟨⟨hb, hw⟩, hm.2⟩
      · have h3 : a + 1 ≤ k := by omega
        simp only [tins, if_neg h1, if_neg h2, twfFrom, Bool.and_eq_true, decide_eq_true_eq]
        exact ⟨hm.1, twfFrom_tins hw r (a + 1) h3 hm.2⟩

/-- A write keeps the canonical form. -/
theorem tput_wf (m : Table α) (k : Nat) (w : α) (h : twf d m = true) : twf d (tput d m k w) = true := by
  unfold tput
  split
  · exact twfFrom_tdel d k m 0 h
  · next hw => exact twfFrom_tins d hw m 0 (Nat.zero_le k) h

/-- Dropping entries keeps the canonical form. -/
theorem twfFrom_filter (p : Nat × α → Bool) : ∀ (m : Table α) (b : Nat), twfFrom d b m = true → twfFrom d b (m.filter p) = true
  | [], _, _ => rfl
  | (a, v) :: r, b, hm => by
    simp only [twfFrom, Bool.and_eq_true, decide_eq_true_eq] at hm
    have ih := twfFrom_filter p r (a + 1) hm.2
    by_cases hp : p (a, v) = true
    · rw [List.filter_cons_of_pos hp]
      simp only [twfFrom, Bool.and_eq_true, decide_eq_true_eq]
      exact ⟨hm.1, ih⟩
    · rw [List.filter_cons_of_neg hp]
      exact twfFrom_le d (Nat.le_trans hm.1.1 (Nat.le_succ a)) _ ih

end Sys2Proof.Machine
end

