-- ==== Sys2Proof/Laws/State.lean ====
section
/-! SUPPORT. What each update of the machine record leaves in each field: an object field after a write, a unit after its change, and
everything a write does not touch. -/
namespace Sys2Proof.Machine

/-! ### An object field after a write -/

/-- The parts of a field's key. -/
theorem objInit_key (c i f : Nat) : objInit (objKey c i f) = fieldStart c (i % 2 ^ 24) (f % 2 ^ 8) := by
  have h1 : i % 2 ^ 24 < 2 ^ 24 := Nat.mod_lt _ (by decide)
  have h2 : f % 2 ^ 8 < 2 ^ 8 := Nat.mod_lt _ (by decide)
  unfold objInit objKey
  congr 1 <;> omega

/-- What an unwritten key reads as counts at that key alone. -/
theorem tget_at {α : Type} (d : Nat → α) (t : Table α) (k : Nat) : tget (fun _ => d k) t k = tget d t k := by
  induction t with
  | nil => rfl
  | cons e r ih => simp only [tget, ih]

/-- An object field, by its key. -/
theorem Mach.obj_eq (m : Mach) (f : Fld) (i : Nat) : m.obj f i = tget objInit m.objs (objKey f.cls i f.num) := by
  rw [Mach.obj, ← objInit_key, tget_at]

theorem Mach.obj_setObj (m : Mach) (f g : Fld) (i j v : Nat) :
    (m.setObj f i v).obj g j = if objKey g.cls j g.num = objKey f.cls i f.num then v % 2 ^ f.bits else m.obj g j := by
  simp only [Mach.obj_eq, Mach.setObj, tget_tput]

@[simp] theorem Mach.obj_setObj_same (m : Mach) (f : Fld) (i v : Nat) : (m.setObj f i v).obj f i = v % 2 ^ f.bits := by
  rw [Mach.obj_setObj, if_pos rfl]

theorem Mach.obj_setObj_other (m : Mach) (f g : Fld) (i j v : Nat) (h : objKey g.cls j g.num ≠ objKey f.cls i f.num) :
    (m.setObj f i v).obj g j = m.obj g j := by
  rw [Mach.obj_setObj, if_neg h]

/-! ### What a write of an object field leaves alone -/

@[simp] theorem Mach.setObj_now (m : Mach) (f : Fld) (i v : Nat) : (m.setObj f i v).now = m.now := rfl
@[simp] theorem Mach.setObj_fresh (m : Mach) (f : Fld) (i v : Nat) : (m.setObj f i v).fresh = m.fresh := rfl
@[simp] theorem Mach.setObj_sent (m : Mach) (f : Fld) (i v : Nat) : (m.setObj f i v).sent = m.sent := rfl
@[simp] theorem Mach.setObj_conns (m : Mach) (f : Fld) (i v : Nat) : (m.setObj f i v).conns = m.conns := rfl
@[simp] theorem Mach.setObj_cqs (m : Mach) (f : Fld) (i v : Nat) : (m.setObj f i v).cqs = m.cqs := rfl
@[simp] theorem Mach.setObj_pools (m : Mach) (f : Fld) (i v : Nat) : (m.setObj f i v).pools = m.pools := rfl
@[simp] theorem Mach.setObj_time (m : Mach) (f : Fld) (i v : Nat) : (m.setObj f i v).time = m.time := rfl
@[simp] theorem Mach.setObj_parts (m : Mach) (f : Fld) (i v : Nat) : (m.setObj f i v).parts = m.parts := rfl
@[simp] theorem Mach.setObj_engines (m : Mach) (f : Fld) (i v : Nat) : (m.setObj f i v).engines = m.engines := rfl
@[simp] theorem Mach.setObj_recd (m : Mach) (f : Fld) (i v : Nat) : (m.setObj f i v).recd = m.recd := rfl
@[simp] theorem Mach.setObj_sys (m : Mach) (f : Fld) (i v : Nat) : (m.setObj f i v).sys = m.sys := rfl
@[simp] theorem Mach.setObj_sec (m : Mach) (f : Fld) (i v : Nat) : (m.setObj f i v).sec = m.sec := rfl
@[simp] theorem Mach.setObj_svc (m : Mach) (f : Fld) (i v : Nat) : (m.setObj f i v).svc = m.svc := rfl
@[simp] theorem Mach.setObj_cfg (m : Mach) (f : Fld) (i v : Nat) : (m.setObj f i v).cfg = m.cfg := rfl
@[simp] theorem Mach.setObj_sheet (m : Mach) (f : Fld) (i v : Nat) : (m.setObj f i v).sheet = m.sheet := rfl
@[simp] theorem Mach.setObj_plans (m : Mach) (f : Fld) (i v : Nat) : (m.setObj f i v).plans = m.plans := rfl
@[simp] theorem Mach.setObj_subs (m : Mach) (f : Fld) (i v : Nat) : (m.setObj f i v).subs = m.subs := rfl
@[simp] theorem Mach.setObj_published (m : Mach) (f : Fld) (i v : Nat) : (m.setObj f i v).published = m.published := rfl
@[simp] theorem Mach.setObj_places (m : Mach) (f : Fld) (i v : Nat) : (m.setObj f i v).places = m.places := rfl
@[simp] theorem Mach.setObj_trunks (m : Mach) (f : Fld) (i v : Nat) : (m.setObj f i v).trunks = m.trunks := rfl
@[simp] theorem Mach.setObj_wire (m : Mach) (f : Fld) (i v : Nat) : (m.setObj f i v).wire = m.wire := rfl
@[simp] theorem Mach.setObj_segs (m : Mach) (f : Fld) (i v : Nat) : (m.setObj f i v).segs = m.segs := rfl
@[simp] theorem Mach.setObj_nodes (m : Mach) (f : Fld) (i v : Nat) : (m.setObj f i v).nodes = m.nodes := rfl
@[simp] theorem Mach.setObj_hpBufs (m : Mach) (f : Fld) (i v : Nat) : (m.setObj f i v).hpBufs = m.hpBufs := rfl
@[simp] theorem Mach.setObj_lcs (m : Mach) (f : Fld) (i v : Nat) : (m.setObj f i v).lcs = m.lcs := rfl
@[simp] theorem Mach.setObj_ctls (m : Mach) (f : Fld) (i v : Nat) : (m.setObj f i v).ctls = m.ctls := rfl
@[simp] theorem Mach.setObj_lh (m : Mach) (f : Fld) (i v : Nat) : (m.setObj f i v).lh = m.lh := rfl
@[simp] theorem Mach.setObj_limpForce (m : Mach) (f : Fld) (i v : Nat) : (m.setObj f i v).limpForce = m.limpForce := rfl
@[simp] theorem Mach.setObj_senses (m : Mach) (f : Fld) (i v : Nat) : (m.setObj f i v).senses = m.senses := rfl
@[simp] theorem Mach.setObj_los (m : Mach) (f : Fld) (i v : Nat) : (m.setObj f i v).los = m.los := rfl
@[simp] theorem Mach.setObj_faLow (m : Mach) (f : Fld) (i v : Nat) : (m.setObj f i v).faLow = m.faLow := rfl
@[simp] theorem Mach.setObj_eps (m : Mach) (f : Fld) (i v : Nat) : (m.setObj f i v).eps = m.eps := rfl
@[simp] theorem Mach.setObj_prs (m : Mach) (f : Fld) (i v : Nat) : (m.setObj f i v).prs = m.prs := rfl
@[simp] theorem Mach.setObj_ems (m : Mach) (f : Fld) (i v : Nat) : (m.setObj f i v).ems = m.ems := rfl
@[simp] theorem Mach.setObj_axs (m : Mach) (f : Fld) (i v : Nat) : (m.setObj f i v).axs = m.axs := rfl
@[simp] theorem Mach.setObj_ggs (m : Mach) (f : Fld) (i v : Nat) : (m.setObj f i v).ggs = m.ggs := rfl
@[simp] theorem Mach.setObj_mss (m : Mach) (f : Fld) (i v : Nat) : (m.setObj f i v).mss = m.mss := rfl
@[simp] theorem Mach.setObj_ceAxes (m : Mach) (f : Fld) (i v : Nat) : (m.setObj f i v).ceAxes = m.ceAxes := rfl
@[simp] theorem Mach.setObj_ceGroups (m : Mach) (f : Fld) (i v : Nat) : (m.setObj f i v).ceGroups = m.ceGroups := rfl
@[simp] theorem Mach.setObj_doors (m : Mach) (f : Fld) (i v : Nat) : (m.setObj f i v).doors = m.doors := rfl
@[simp] theorem Mach.setObj_boards (m : Mach) (f : Fld) (i v : Nat) : (m.setObj f i v).boards = m.boards := rfl
@[simp] theorem Mach.setObj_di (m : Mach) (f : Fld) (i v : Nat) : (m.setObj f i v).di = m.di := rfl
@[simp] theorem Mach.setObj_alarms (m : Mach) (f : Fld) (i v : Nat) : (m.setObj f i v).alarms = m.alarms := rfl
@[simp] theorem Mach.setObj_floods (m : Mach) (f : Fld) (i v : Nat) : (m.setObj f i v).floods = m.floods := rfl
@[simp] theorem Mach.setObj_matrix (m : Mach) (f : Fld) (i v : Nat) : (m.setObj f i v).matrix = m.matrix := rfl
@[simp] theorem Mach.setObj_matrixOld (m : Mach) (f : Fld) (i v : Nat) : (m.setObj f i v).matrixOld = m.matrixOld := rfl
@[simp] theorem Mach.setObj_matrixWait (m : Mach) (f : Fld) (i v : Nat) : (m.setObj f i v).matrixWait = m.matrixWait := rfl
@[simp] theorem Mach.setObj_matrixStage (m : Mach) (f : Fld) (i v : Nat) : (m.setObj f i v).matrixStage = m.matrixStage := rfl
@[simp] theorem Mach.setObj_effs (m : Mach) (f : Fld) (i v : Nat) : (m.setObj f i v).effs = m.effs := rfl
@[simp] theorem Mach.setObj_gauge (m : Mach) (f : Fld) (i v : Nat) : (m.setObj f i v).gauge = m.gauge := rfl
@[simp] theorem Mach.setObj_rails (m : Mach) (f : Fld) (i v : Nat) : (m.setObj f i v).rails = m.rails := rfl
@[simp] theorem Mach.setObj_isl (m : Mach) (f : Fld) (i v : Nat) : (m.setObj f i v).isl = m.isl := rfl
@[simp] theorem Mach.setObj_pm (m : Mach) (f : Fld) (i v : Nat) : (m.setObj f i v).pm = m.pm := rfl

@[simp] theorem Mach.bump_now (m : Mach) (f : Fld) (i n : Nat) : (m.bump f i n).now = m.now := rfl
@[simp] theorem Mach.bump_fresh (m : Mach) (f : Fld) (i n : Nat) : (m.bump f i n).fresh = m.fresh := rfl
@[simp] theorem Mach.bump_sent (m : Mach) (f : Fld) (i n : Nat) : (m.bump f i n).sent = m.sent := rfl
@[simp] theorem Mach.bump_conns (m : Mach) (f : Fld) (i n : Nat) : (m.bump f i n).conns = m.conns := rfl
@[simp] theorem Mach.bump_cqs (m : Mach) (f : Fld) (i n : Nat) : (m.bump f i n).cqs = m.cqs := rfl
@[simp] theorem Mach.bump_pools (m : Mach) (f : Fld) (i n : Nat) : (m.bump f i n).pools = m.pools := rfl
@[simp] theorem Mach.bump_time (m : Mach) (f : Fld) (i n : Nat) : (m.bump f i n).time = m.time := rfl
@[simp] theorem Mach.bump_parts (m : Mach) (f : Fld) (i n : Nat) : (m.bump f i n).parts = m.parts := rfl
@[simp] theorem Mach.bump_engines (m : Mach) (f : Fld) (i n : Nat) : (m.bump f i n).engines = m.engines := rfl
@[simp] theorem Mach.bump_recd (m : Mach) (f : Fld) (i n : Nat) : (m.bump f i n).recd = m.recd := rfl
@[simp] theorem Mach.bump_sys (m : Mach) (f : Fld) (i n : Nat) : (m.bump f i n).sys = m.sys := rfl
@[simp] theorem Mach.bump_sec (m : Mach) (f : Fld) (i n : Nat) : (m.bump f i n).sec = m.sec := rfl
@[simp] theorem Mach.bump_svc (m : Mach) (f : Fld) (i n : Nat) : (m.bump f i n).svc = m.svc := rfl
@[simp] theorem Mach.bump_cfg (m : Mach) (f : Fld) (i n : Nat) : (m.bump f i n).cfg = m.cfg := rfl
@[simp] theorem Mach.bump_sheet (m : Mach) (f : Fld) (i n : Nat) : (m.bump f i n).sheet = m.sheet := rfl
@[simp] theorem Mach.bump_plans (m : Mach) (f : Fld) (i n : Nat) : (m.bump f i n).plans = m.plans := rfl
@[simp] theorem Mach.bump_subs (m : Mach) (f : Fld) (i n : Nat) : (m.bump f i n).subs = m.subs := rfl
@[simp] theorem Mach.bump_published (m : Mach) (f : Fld) (i n : Nat) : (m.bump f i n).published = m.published := rfl
@[simp] theorem Mach.bump_places (m : Mach) (f : Fld) (i n : Nat) : (m.bump f i n).places = m.places := rfl
@[simp] theorem Mach.bump_trunks (m : Mach) (f : Fld) (i n : Nat) : (m.bump f i n).trunks = m.trunks := rfl
@[simp] theorem Mach.bump_wire (m : Mach) (f : Fld) (i n : Nat) : (m.bump f i n).wire = m.wire := rfl
@[simp] theorem Mach.bump_segs (m : Mach) (f : Fld) (i n : Nat) : (m.bump f i n).segs = m.segs := rfl
@[simp] theorem Mach.bump_nodes (m : Mach) (f : Fld) (i n : Nat) : (m.bump f i n).nodes = m.nodes := rfl
@[simp] theorem Mach.bump_hpBufs (m : Mach) (f : Fld) (i n : Nat) : (m.bump f i n).hpBufs = m.hpBufs := rfl
@[simp] theorem Mach.bump_lcs (m : Mach) (f : Fld) (i n : Nat) : (m.bump f i n).lcs = m.lcs := rfl
@[simp] theorem Mach.bump_ctls (m : Mach) (f : Fld) (i n : Nat) : (m.bump f i n).ctls = m.ctls := rfl
@[simp] theorem Mach.bump_lh (m : Mach) (f : Fld) (i n : Nat) : (m.bump f i n).lh = m.lh := rfl
@[simp] theorem Mach.bump_limpForce (m : Mach) (f : Fld) (i n : Nat) : (m.bump f i n).limpForce = m.limpForce := rfl
@[simp] theorem Mach.bump_senses (m : Mach) (f : Fld) (i n : Nat) : (m.bump f i n).senses = m.senses := rfl
@[simp] theorem Mach.bump_los (m : Mach) (f : Fld) (i n : Nat) : (m.bump f i n).los = m.los := rfl
@[simp] theorem Mach.bump_faLow (m : Mach) (f : Fld) (i n : Nat) : (m.bump f i n).faLow = m.faLow := rfl
@[simp] theorem Mach.bump_eps (m : Mach) (f : Fld) (i n : Nat) : (m.bump f i n).eps = m.eps := rfl
@[simp] theorem Mach.bump_prs (m : Mach) (f : Fld) (i n : Nat) : (m.bump f i n).prs = m.prs := rfl
@[simp] theorem Mach.bump_ems (m : Mach) (f : Fld) (i n : Nat) : (m.bump f i n).ems = m.ems := rfl
@[simp] theorem Mach.bump_axs (m : Mach) (f : Fld) (i n : Nat) : (m.bump f i n).axs = m.axs := rfl
@[simp] theorem Mach.bump_ggs (m : Mach) (f : Fld) (i n : Nat) : (m.bump f i n).ggs = m.ggs := rfl
@[simp] theorem Mach.bump_mss (m : Mach) (f : Fld) (i n : Nat) : (m.bump f i n).mss = m.mss := rfl
@[simp] theorem Mach.bump_ceAxes (m : Mach) (f : Fld) (i n : Nat) : (m.bump f i n).ceAxes = m.ceAxes := rfl
@[simp] theorem Mach.bump_ceGroups (m : Mach) (f : Fld) (i n : Nat) : (m.bump f i n).ceGroups = m.ceGroups := rfl
@[simp] theorem Mach.bump_doors (m : Mach) (f : Fld) (i n : Nat) : (m.bump f i n).doors = m.doors := rfl
@[simp] theorem Mach.bump_boards (m : Mach) (f : Fld) (i n : Nat) : (m.bump f i n).boards = m.boards := rfl
@[simp] theorem Mach.bump_di (m : Mach) (f : Fld) (i n : Nat) : (m.bump f i n).di = m.di := rfl
@[simp] theorem Mach.bump_alarms (m : Mach) (f : Fld) (i n : Nat) : (m.bump f i n).alarms = m.alarms := rfl
@[simp] theorem Mach.bump_floods (m : Mach) (f : Fld) (i n : Nat) : (m.bump f i n).floods = m.floods := rfl
@[simp] theorem Mach.bump_matrix (m : Mach) (f : Fld) (i n : Nat) : (m.bump f i n).matrix = m.matrix := rfl
@[simp] theorem Mach.bump_matrixOld (m : Mach) (f : Fld) (i n : Nat) : (m.bump f i n).matrixOld = m.matrixOld := rfl
@[simp] theorem Mach.bump_matrixWait (m : Mach) (f : Fld) (i n : Nat) : (m.bump f i n).matrixWait = m.matrixWait := rfl
@[simp] theorem Mach.bump_matrixStage (m : Mach) (f : Fld) (i n : Nat) : (m.bump f i n).matrixStage = m.matrixStage := rfl
@[simp] theorem Mach.bump_effs (m : Mach) (f : Fld) (i n : Nat) : (m.bump f i n).effs = m.effs := rfl
@[simp] theorem Mach.bump_gauge (m : Mach) (f : Fld) (i n : Nat) : (m.bump f i n).gauge = m.gauge := rfl
@[simp] theorem Mach.bump_rails (m : Mach) (f : Fld) (i n : Nat) : (m.bump f i n).rails = m.rails := rfl
@[simp] theorem Mach.bump_isl (m : Mach) (f : Fld) (i n : Nat) : (m.bump f i n).isl = m.isl := rfl
@[simp] theorem Mach.bump_pm (m : Mach) (f : Fld) (i n : Nat) : (m.bump f i n).pm = m.pm := rfl

@[simp] theorem Mach.flag_now (m : Mach) (f : Fld) (i : Nat) (b : Bool) : (m.flag f i b).now = m.now := rfl
@[simp] theorem Mach.flag_fresh (m : Mach) (f : Fld) (i : Nat) (b : Bool) : (m.flag f i b).fresh = m.fresh := rfl
@[simp] theorem Mach.flag_sent (m : Mach) (f : Fld) (i : Nat) (b : Bool) : (m.flag f i b).sent = m.sent := rfl
@[simp] theorem Mach.flag_conns (m : Mach) (f : Fld) (i : Nat) (b : Bool) : (m.flag f i b).conns = m.conns := rfl
@[simp] theorem Mach.flag_cqs (m : Mach) (f : Fld) (i : Nat) (b : Bool) : (m.flag f i b).cqs = m.cqs := rfl
@[simp] theorem Mach.flag_pools (m : Mach) (f : Fld) (i : Nat) (b : Bool) : (m.flag f i b).pools = m.pools := rfl
@[simp] theorem Mach.flag_time (m : Mach) (f : Fld) (i : Nat) (b : Bool) : (m.flag f i b).time = m.time := rfl
@[simp] theorem Mach.flag_parts (m : Mach) (f : Fld) (i : Nat) (b : Bool) : (m.flag f i b).parts = m.parts := rfl
@[simp] theorem Mach.flag_engines (m : Mach) (f : Fld) (i : Nat) (b : Bool) : (m.flag f i b).engines = m.engines := rfl
@[simp] theorem Mach.flag_recd (m : Mach) (f : Fld) (i : Nat) (b : Bool) : (m.flag f i b).recd = m.recd := rfl
@[simp] theorem Mach.flag_sys (m : Mach) (f : Fld) (i : Nat) (b : Bool) : (m.flag f i b).sys = m.sys := rfl
@[simp] theorem Mach.flag_sec (m : Mach) (f : Fld) (i : Nat) (b : Bool) : (m.flag f i b).sec = m.sec := rfl
@[simp] theorem Mach.flag_svc (m : Mach) (f : Fld) (i : Nat) (b : Bool) : (m.flag f i b).svc = m.svc := rfl
@[simp] theorem Mach.flag_cfg (m : Mach) (f : Fld) (i : Nat) (b : Bool) : (m.flag f i b).cfg = m.cfg := rfl
@[simp] theorem Mach.flag_sheet (m : Mach) (f : Fld) (i : Nat) (b : Bool) : (m.flag f i b).sheet = m.sheet := rfl
@[simp] theorem Mach.flag_plans (m : Mach) (f : Fld) (i : Nat) (b : Bool) : (m.flag f i b).plans = m.plans := rfl
@[simp] theorem Mach.flag_subs (m : Mach) (f : Fld) (i : Nat) (b : Bool) : (m.flag f i b).subs = m.subs := rfl
@[simp] theorem Mach.flag_published (m : Mach) (f : Fld) (i : Nat) (b : Bool) : (m.flag f i b).published = m.published := rfl
@[simp] theorem Mach.flag_places (m : Mach) (f : Fld) (i : Nat) (b : Bool) : (m.flag f i b).places = m.places := rfl
@[simp] theorem Mach.flag_trunks (m : Mach) (f : Fld) (i : Nat) (b : Bool) : (m.flag f i b).trunks = m.trunks := rfl
@[simp] theorem Mach.flag_wire (m : Mach) (f : Fld) (i : Nat) (b : Bool) : (m.flag f i b).wire = m.wire := rfl
@[simp] theorem Mach.flag_segs (m : Mach) (f : Fld) (i : Nat) (b : Bool) : (m.flag f i b).segs = m.segs := rfl
@[simp] theorem Mach.flag_nodes (m : Mach) (f : Fld) (i : Nat) (b : Bool) : (m.flag f i b).nodes = m.nodes := rfl
@[simp] theorem Mach.flag_hpBufs (m : Mach) (f : Fld) (i : Nat) (b : Bool) : (m.flag f i b).hpBufs = m.hpBufs := rfl
@[simp] theorem Mach.flag_lcs (m : Mach) (f : Fld) (i : Nat) (b : Bool) : (m.flag f i b).lcs = m.lcs := rfl
@[simp] theorem Mach.flag_ctls (m : Mach) (f : Fld) (i : Nat) (b : Bool) : (m.flag f i b).ctls = m.ctls := rfl
@[simp] theorem Mach.flag_lh (m : Mach) (f : Fld) (i : Nat) (b : Bool) : (m.flag f i b).lh = m.lh := rfl
@[simp] theorem Mach.flag_limpForce (m : Mach) (f : Fld) (i : Nat) (b : Bool) : (m.flag f i b).limpForce = m.limpForce := rfl
@[simp] theorem Mach.flag_senses (m : Mach) (f : Fld) (i : Nat) (b : Bool) : (m.flag f i b).senses = m.senses := rfl
@[simp] theorem Mach.flag_los (m : Mach) (f : Fld) (i : Nat) (b : Bool) : (m.flag f i b).los = m.los := rfl
@[simp] theorem Mach.flag_faLow (m : Mach) (f : Fld) (i : Nat) (b : Bool) : (m.flag f i b).faLow = m.faLow := rfl
@[simp] theorem Mach.flag_eps (m : Mach) (f : Fld) (i : Nat) (b : Bool) : (m.flag f i b).eps = m.eps := rfl
@[simp] theorem Mach.flag_prs (m : Mach) (f : Fld) (i : Nat) (b : Bool) : (m.flag f i b).prs = m.prs := rfl
@[simp] theorem Mach.flag_ems (m : Mach) (f : Fld) (i : Nat) (b : Bool) : (m.flag f i b).ems = m.ems := rfl
@[simp] theorem Mach.flag_axs (m : Mach) (f : Fld) (i : Nat) (b : Bool) : (m.flag f i b).axs = m.axs := rfl
@[simp] theorem Mach.flag_ggs (m : Mach) (f : Fld) (i : Nat) (b : Bool) : (m.flag f i b).ggs = m.ggs := rfl
@[simp] theorem Mach.flag_mss (m : Mach) (f : Fld) (i : Nat) (b : Bool) : (m.flag f i b).mss = m.mss := rfl
@[simp] theorem Mach.flag_ceAxes (m : Mach) (f : Fld) (i : Nat) (b : Bool) : (m.flag f i b).ceAxes = m.ceAxes := rfl
@[simp] theorem Mach.flag_ceGroups (m : Mach) (f : Fld) (i : Nat) (b : Bool) : (m.flag f i b).ceGroups = m.ceGroups := rfl
@[simp] theorem Mach.flag_doors (m : Mach) (f : Fld) (i : Nat) (b : Bool) : (m.flag f i b).doors = m.doors := rfl
@[simp] theorem Mach.flag_boards (m : Mach) (f : Fld) (i : Nat) (b : Bool) : (m.flag f i b).boards = m.boards := rfl
@[simp] theorem Mach.flag_di (m : Mach) (f : Fld) (i : Nat) (b : Bool) : (m.flag f i b).di = m.di := rfl
@[simp] theorem Mach.flag_alarms (m : Mach) (f : Fld) (i : Nat) (b : Bool) : (m.flag f i b).alarms = m.alarms := rfl
@[simp] theorem Mach.flag_floods (m : Mach) (f : Fld) (i : Nat) (b : Bool) : (m.flag f i b).floods = m.floods := rfl
@[simp] theorem Mach.flag_matrix (m : Mach) (f : Fld) (i : Nat) (b : Bool) : (m.flag f i b).matrix = m.matrix := rfl
@[simp] theorem Mach.flag_matrixOld (m : Mach) (f : Fld) (i : Nat) (b : Bool) : (m.flag f i b).matrixOld = m.matrixOld := rfl
@[simp] theorem Mach.flag_matrixWait (m : Mach) (f : Fld) (i : Nat) (b : Bool) : (m.flag f i b).matrixWait = m.matrixWait := rfl
@[simp] theorem Mach.flag_matrixStage (m : Mach) (f : Fld) (i : Nat) (b : Bool) : (m.flag f i b).matrixStage = m.matrixStage := rfl
@[simp] theorem Mach.flag_effs (m : Mach) (f : Fld) (i : Nat) (b : Bool) : (m.flag f i b).effs = m.effs := rfl
@[simp] theorem Mach.flag_gauge (m : Mach) (f : Fld) (i : Nat) (b : Bool) : (m.flag f i b).gauge = m.gauge := rfl
@[simp] theorem Mach.flag_rails (m : Mach) (f : Fld) (i : Nat) (b : Bool) : (m.flag f i b).rails = m.rails := rfl
@[simp] theorem Mach.flag_isl (m : Mach) (f : Fld) (i : Nat) (b : Bool) : (m.flag f i b).isl = m.isl := rfl
@[simp] theorem Mach.flag_pm (m : Mach) (f : Fld) (i : Nat) (b : Bool) : (m.flag f i b).pm = m.pm := rfl

@[simp] theorem Mach.peak_now (m : Mach) (f : Fld) (i v : Nat) : (m.peak f i v).now = m.now := by unfold Mach.peak; split <;> rfl
@[simp] theorem Mach.peak_fresh (m : Mach) (f : Fld) (i v : Nat) : (m.peak f i v).fresh = m.fresh := by unfold Mach.peak; split <;> rfl
@[simp] theorem Mach.peak_sent (m : Mach) (f : Fld) (i v : Nat) : (m.peak f i v).sent = m.sent := by unfold Mach.peak; split <;> rfl
@[simp] theorem Mach.peak_conns (m : Mach) (f : Fld) (i v : Nat) : (m.peak f i v).conns = m.conns := by unfold Mach.peak; split <;> rfl
@[simp] theorem Mach.peak_cqs (m : Mach) (f : Fld) (i v : Nat) : (m.peak f i v).cqs = m.cqs := by unfold Mach.peak; split <;> rfl
@[simp] theorem Mach.peak_pools (m : Mach) (f : Fld) (i v : Nat) : (m.peak f i v).pools = m.pools := by unfold Mach.peak; split <;> rfl
@[simp] theorem Mach.peak_time (m : Mach) (f : Fld) (i v : Nat) : (m.peak f i v).time = m.time := by unfold Mach.peak; split <;> rfl
@[simp] theorem Mach.peak_parts (m : Mach) (f : Fld) (i v : Nat) : (m.peak f i v).parts = m.parts := by unfold Mach.peak; split <;> rfl
@[simp] theorem Mach.peak_engines (m : Mach) (f : Fld) (i v : Nat) : (m.peak f i v).engines = m.engines := by unfold Mach.peak; split <;> rfl
@[simp] theorem Mach.peak_recd (m : Mach) (f : Fld) (i v : Nat) : (m.peak f i v).recd = m.recd := by unfold Mach.peak; split <;> rfl
@[simp] theorem Mach.peak_sys (m : Mach) (f : Fld) (i v : Nat) : (m.peak f i v).sys = m.sys := by unfold Mach.peak; split <;> rfl
@[simp] theorem Mach.peak_sec (m : Mach) (f : Fld) (i v : Nat) : (m.peak f i v).sec = m.sec := by unfold Mach.peak; split <;> rfl
@[simp] theorem Mach.peak_svc (m : Mach) (f : Fld) (i v : Nat) : (m.peak f i v).svc = m.svc := by unfold Mach.peak; split <;> rfl
@[simp] theorem Mach.peak_cfg (m : Mach) (f : Fld) (i v : Nat) : (m.peak f i v).cfg = m.cfg := by unfold Mach.peak; split <;> rfl
@[simp] theorem Mach.peak_sheet (m : Mach) (f : Fld) (i v : Nat) : (m.peak f i v).sheet = m.sheet := by unfold Mach.peak; split <;> rfl
@[simp] theorem Mach.peak_plans (m : Mach) (f : Fld) (i v : Nat) : (m.peak f i v).plans = m.plans := by unfold Mach.peak; split <;> rfl
@[simp] theorem Mach.peak_subs (m : Mach) (f : Fld) (i v : Nat) : (m.peak f i v).subs = m.subs := by unfold Mach.peak; split <;> rfl
@[simp] theorem Mach.peak_published (m : Mach) (f : Fld) (i v : Nat) : (m.peak f i v).published = m.published := by unfold Mach.peak; split <;> rfl
@[simp] theorem Mach.peak_places (m : Mach) (f : Fld) (i v : Nat) : (m.peak f i v).places = m.places := by unfold Mach.peak; split <;> rfl
@[simp] theorem Mach.peak_trunks (m : Mach) (f : Fld) (i v : Nat) : (m.peak f i v).trunks = m.trunks := by unfold Mach.peak; split <;> rfl
@[simp] theorem Mach.peak_wire (m : Mach) (f : Fld) (i v : Nat) : (m.peak f i v).wire = m.wire := by unfold Mach.peak; split <;> rfl
@[simp] theorem Mach.peak_segs (m : Mach) (f : Fld) (i v : Nat) : (m.peak f i v).segs = m.segs := by unfold Mach.peak; split <;> rfl
@[simp] theorem Mach.peak_nodes (m : Mach) (f : Fld) (i v : Nat) : (m.peak f i v).nodes = m.nodes := by unfold Mach.peak; split <;> rfl
@[simp] theorem Mach.peak_hpBufs (m : Mach) (f : Fld) (i v : Nat) : (m.peak f i v).hpBufs = m.hpBufs := by unfold Mach.peak; split <;> rfl
@[simp] theorem Mach.peak_lcs (m : Mach) (f : Fld) (i v : Nat) : (m.peak f i v).lcs = m.lcs := by unfold Mach.peak; split <;> rfl
@[simp] theorem Mach.peak_ctls (m : Mach) (f : Fld) (i v : Nat) : (m.peak f i v).ctls = m.ctls := by unfold Mach.peak; split <;> rfl
@[simp] theorem Mach.peak_lh (m : Mach) (f : Fld) (i v : Nat) : (m.peak f i v).lh = m.lh := by unfold Mach.peak; split <;> rfl
@[simp] theorem Mach.peak_limpForce (m : Mach) (f : Fld) (i v : Nat) : (m.peak f i v).limpForce = m.limpForce := by unfold Mach.peak; split <;> rfl
@[simp] theorem Mach.peak_senses (m : Mach) (f : Fld) (i v : Nat) : (m.peak f i v).senses = m.senses := by unfold Mach.peak; split <;> rfl
@[simp] theorem Mach.peak_los (m : Mach) (f : Fld) (i v : Nat) : (m.peak f i v).los = m.los := by unfold Mach.peak; split <;> rfl
@[simp] theorem Mach.peak_faLow (m : Mach) (f : Fld) (i v : Nat) : (m.peak f i v).faLow = m.faLow := by unfold Mach.peak; split <;> rfl
@[simp] theorem Mach.peak_eps (m : Mach) (f : Fld) (i v : Nat) : (m.peak f i v).eps = m.eps := by unfold Mach.peak; split <;> rfl
@[simp] theorem Mach.peak_prs (m : Mach) (f : Fld) (i v : Nat) : (m.peak f i v).prs = m.prs := by unfold Mach.peak; split <;> rfl
@[simp] theorem Mach.peak_ems (m : Mach) (f : Fld) (i v : Nat) : (m.peak f i v).ems = m.ems := by unfold Mach.peak; split <;> rfl
@[simp] theorem Mach.peak_axs (m : Mach) (f : Fld) (i v : Nat) : (m.peak f i v).axs = m.axs := by unfold Mach.peak; split <;> rfl
@[simp] theorem Mach.peak_ggs (m : Mach) (f : Fld) (i v : Nat) : (m.peak f i v).ggs = m.ggs := by unfold Mach.peak; split <;> rfl
@[simp] theorem Mach.peak_mss (m : Mach) (f : Fld) (i v : Nat) : (m.peak f i v).mss = m.mss := by unfold Mach.peak; split <;> rfl
@[simp] theorem Mach.peak_ceAxes (m : Mach) (f : Fld) (i v : Nat) : (m.peak f i v).ceAxes = m.ceAxes := by unfold Mach.peak; split <;> rfl
@[simp] theorem Mach.peak_ceGroups (m : Mach) (f : Fld) (i v : Nat) : (m.peak f i v).ceGroups = m.ceGroups := by unfold Mach.peak; split <;> rfl
@[simp] theorem Mach.peak_doors (m : Mach) (f : Fld) (i v : Nat) : (m.peak f i v).doors = m.doors := by unfold Mach.peak; split <;> rfl
@[simp] theorem Mach.peak_boards (m : Mach) (f : Fld) (i v : Nat) : (m.peak f i v).boards = m.boards := by unfold Mach.peak; split <;> rfl
@[simp] theorem Mach.peak_di (m : Mach) (f : Fld) (i v : Nat) : (m.peak f i v).di = m.di := by unfold Mach.peak; split <;> rfl
@[simp] theorem Mach.peak_alarms (m : Mach) (f : Fld) (i v : Nat) : (m.peak f i v).alarms = m.alarms := by unfold Mach.peak; split <;> rfl
@[simp] theorem Mach.peak_floods (m : Mach) (f : Fld) (i v : Nat) : (m.peak f i v).floods = m.floods := by unfold Mach.peak; split <;> rfl
@[simp] theorem Mach.peak_matrix (m : Mach) (f : Fld) (i v : Nat) : (m.peak f i v).matrix = m.matrix := by unfold Mach.peak; split <;> rfl
@[simp] theorem Mach.peak_matrixOld (m : Mach) (f : Fld) (i v : Nat) : (m.peak f i v).matrixOld = m.matrixOld := by unfold Mach.peak; split <;> rfl
@[simp] theorem Mach.peak_matrixWait (m : Mach) (f : Fld) (i v : Nat) : (m.peak f i v).matrixWait = m.matrixWait := by unfold Mach.peak; split <;> rfl
@[simp] theorem Mach.peak_matrixStage (m : Mach) (f : Fld) (i v : Nat) : (m.peak f i v).matrixStage = m.matrixStage := by unfold Mach.peak; split <;> rfl
@[simp] theorem Mach.peak_effs (m : Mach) (f : Fld) (i v : Nat) : (m.peak f i v).effs = m.effs := by unfold Mach.peak; split <;> rfl
@[simp] theorem Mach.peak_gauge (m : Mach) (f : Fld) (i v : Nat) : (m.peak f i v).gauge = m.gauge := by unfold Mach.peak; split <;> rfl
@[simp] theorem Mach.peak_rails (m : Mach) (f : Fld) (i v : Nat) : (m.peak f i v).rails = m.rails := by unfold Mach.peak; split <;> rfl
@[simp] theorem Mach.peak_isl (m : Mach) (f : Fld) (i v : Nat) : (m.peak f i v).isl = m.isl := by unfold Mach.peak; split <;> rfl
@[simp] theorem Mach.peak_pm (m : Mach) (f : Fld) (i v : Nat) : (m.peak f i v).pm = m.pm := by unfold Mach.peak; split <;> rfl

/-! ### What the change of a unit leaves: object fields, the present instant, the unit itself, other units of its kind -/

@[simp] theorem Mach.updAlarm_obj (m : Mach) (a : Nat) (f : AlSt → AlSt) (x : Fld) (y : Nat) : (m.updAlarm a f).obj x y = m.obj x y := rfl
@[simp] theorem Mach.updAlarm_now (m : Mach) (a : Nat) (f : AlSt → AlSt) : (m.updAlarm a f).now = m.now := rfl
@[simp] theorem Mach.updAlarm_alarm (m : Mach) (a : Nat) (f : AlSt → AlSt) : (m.updAlarm a f).alarm a = f (m.alarm a) := by
  simp [Mach.alarm, Mach.updAlarm]
theorem Mach.updAlarm_alarm_other (m : Mach) (a : Nat) {j : Nat} (f : AlSt → AlSt) (h : j ≠ a) : (m.updAlarm a f).alarm j = m.alarm j := by
  simp [Mach.alarm, Mach.updAlarm, ug_uset_other _ _ _ h]
@[simp] theorem Mach.setObj_alarm (m : Mach) (x : Fld) (y v n : Nat) : (m.setObj x y v).alarm n = m.alarm n := rfl
@[simp] theorem Mach.updFlood_obj (m : Mach) (g : Nat) (f : FloodSt → FloodSt) (x : Fld) (y : Nat) : (m.updFlood g f).obj x y = m.obj x y := rfl
@[simp] theorem Mach.updFlood_now (m : Mach) (g : Nat) (f : FloodSt → FloodSt) : (m.updFlood g f).now = m.now := rfl
@[simp] theorem Mach.updFlood_floodG (m : Mach) (g : Nat) (f : FloodSt → FloodSt) : (m.updFlood g f).floodG g = f (m.floodG g) := by
  simp [Mach.floodG, Mach.updFlood]
theorem Mach.updFlood_floodG_other (m : Mach) (g : Nat) {j : Nat} (f : FloodSt → FloodSt) (h : j ≠ g) : (m.updFlood g f).floodG j = m.floodG j := by
  simp [Mach.floodG, Mach.updFlood, ug_uset_other _ _ _ h]
@[simp] theorem Mach.setObj_floodG (m : Mach) (x : Fld) (y v n : Nat) : (m.setObj x y v).floodG n = m.floodG n := rfl
@[simp] theorem Mach.updSub_obj (m : Mach) (i : Nat) (f : SubSet → SubSet) (x : Fld) (y : Nat) : (m.updSub i f).obj x y = m.obj x y := rfl
@[simp] theorem Mach.updSub_now (m : Mach) (i : Nat) (f : SubSet → SubSet) : (m.updSub i f).now = m.now := rfl
@[simp] theorem Mach.updDoor_obj (m : Mach) (d : Nat) (f : DoorSt → DoorSt) (x : Fld) (y : Nat) : (m.updDoor d f).obj x y = m.obj x y := rfl
@[simp] theorem Mach.updDoor_now (m : Mach) (d : Nat) (f : DoorSt → DoorSt) : (m.updDoor d f).now = m.now := rfl
@[simp] theorem Mach.updDoor_door (m : Mach) (d : Nat) (f : DoorSt → DoorSt) : (m.updDoor d f).door d = f (m.door d) := by
  simp [Mach.door, Mach.updDoor]
theorem Mach.updDoor_door_other (m : Mach) (d : Nat) {j : Nat} (f : DoorSt → DoorSt) (h : j ≠ d) : (m.updDoor d f).door j = m.door j := by
  simp [Mach.door, Mach.updDoor, ug_uset_other _ _ _ h]
@[simp] theorem Mach.setObj_door (m : Mach) (x : Fld) (y v n : Nat) : (m.setObj x y v).door n = m.door n := rfl
@[simp] theorem Mach.updEff_obj (m : Mach) (e : Nat) (f : EffSt → EffSt) (x : Fld) (y : Nat) : (m.updEff e f).obj x y = m.obj x y := rfl
@[simp] theorem Mach.updEff_now (m : Mach) (e : Nat) (f : EffSt → EffSt) : (m.updEff e f).now = m.now := rfl
@[simp] theorem Mach.updEff_eff (m : Mach) (e : Nat) (f : EffSt → EffSt) : (m.updEff e f).eff e = f (m.eff e) := by
  simp [Mach.eff, Mach.updEff]
theorem Mach.updEff_eff_other (m : Mach) (e : Nat) {j : Nat} (f : EffSt → EffSt) (h : j ≠ e) : (m.updEff e f).eff j = m.eff j := by
  simp [Mach.eff, Mach.updEff, ug_uset_other _ _ _ h]
@[simp] theorem Mach.setObj_eff (m : Mach) (x : Fld) (y v n : Nat) : (m.setObj x y v).eff n = m.eff n := rfl
@[simp] theorem Mach.updPair_obj (m : Mach) (n : Nat) (f : PairSt → PairSt) (x : Fld) (y : Nat) : (m.updPair n f).obj x y = m.obj x y := rfl
@[simp] theorem Mach.updPair_now (m : Mach) (n : Nat) (f : PairSt → PairSt) : (m.updPair n f).now = m.now := rfl
@[simp] theorem Mach.updPair_pair (m : Mach) (n : Nat) (f : PairSt → PairSt) : (m.updPair n f).pair n = f (m.pair n) := by
  simp [Mach.pair, Mach.updPair, Mach.updIsl]
theorem Mach.updPair_pair_other (m : Mach) (n : Nat) {j : Nat} (f : PairSt → PairSt) (h : j ≠ n) : (m.updPair n f).pair j = m.pair j := by
  simp [Mach.pair, Mach.updPair, Mach.updIsl, ug_uset_other _ _ _ h]
@[simp] theorem Mach.setObj_pair (m : Mach) (x : Fld) (y v n : Nat) : (m.setObj x y v).pair n = m.pair n := rfl
@[simp] theorem Mach.updEp_obj (m : Mach) (n : Nat) (f : EpSt → EpSt) (x : Fld) (y : Nat) : (m.updEp n f).obj x y = m.obj x y := rfl
@[simp] theorem Mach.updEp_now (m : Mach) (n : Nat) (f : EpSt → EpSt) : (m.updEp n f).now = m.now := rfl
@[simp] theorem Mach.updEp_ep (m : Mach) (n : Nat) (f : EpSt → EpSt) : (m.updEp n f).ep n = f (m.ep n) := by
  simp [Mach.ep, Mach.updEp]
theorem Mach.updEp_ep_other (m : Mach) (n : Nat) {j : Nat} (f : EpSt → EpSt) (h : j ≠ n) : (m.updEp n f).ep j = m.ep j := by
  simp [Mach.ep, Mach.updEp, ug_uset_other _ _ _ h]
@[simp] theorem Mach.setObj_ep (m : Mach) (x : Fld) (y v n : Nat) : (m.setObj x y v).ep n = m.ep n := rfl
@[simp] theorem Mach.updAx_obj (m : Mach) (n : Nat) (f : AxSt → AxSt) (x : Fld) (y : Nat) : (m.updAx n f).obj x y = m.obj x y := rfl
@[simp] theorem Mach.updAx_now (m : Mach) (n : Nat) (f : AxSt → AxSt) : (m.updAx n f).now = m.now := rfl
@[simp] theorem Mach.updAx_ax (m : Mach) (n : Nat) (f : AxSt → AxSt) : (m.updAx n f).ax n = f (m.ax n) := by
  simp [Mach.ax, Mach.updAx]
theorem Mach.updAx_ax_other (m : Mach) (n : Nat) {j : Nat} (f : AxSt → AxSt) (h : j ≠ n) : (m.updAx n f).ax j = m.ax j := by
  simp [Mach.ax, Mach.updAx, ug_uset_other _ _ _ h]
@[simp] theorem Mach.setObj_ax (m : Mach) (x : Fld) (y v n : Nat) : (m.setObj x y v).ax n = m.ax n := rfl
@[simp] theorem Mach.updGg_obj (m : Mach) (g : Nat) (f : GgSt → GgSt) (x : Fld) (y : Nat) : (m.updGg g f).obj x y = m.obj x y := rfl
@[simp] theorem Mach.updGg_now (m : Mach) (g : Nat) (f : GgSt → GgSt) : (m.updGg g f).now = m.now := rfl
@[simp] theorem Mach.updGg_gg (m : Mach) (g : Nat) (f : GgSt → GgSt) : (m.updGg g f).gg g = f (m.gg g) := by
  simp [Mach.gg, Mach.updGg]
theorem Mach.updGg_gg_other (m : Mach) (g : Nat) {j : Nat} (f : GgSt → GgSt) (h : j ≠ g) : (m.updGg g f).gg j = m.gg j := by
  simp [Mach.gg, Mach.updGg, ug_uset_other _ _ _ h]
@[simp] theorem Mach.setObj_gg (m : Mach) (x : Fld) (y v n : Nat) : (m.setObj x y v).gg n = m.gg n := rfl
@[simp] theorem Mach.updLc_obj (m : Mach) (n : Nat) (f : LcSt → LcSt) (x : Fld) (y : Nat) : (m.updLc n f).obj x y = m.obj x y := rfl
@[simp] theorem Mach.updLc_now (m : Mach) (n : Nat) (f : LcSt → LcSt) : (m.updLc n f).now = m.now := rfl
@[simp] theorem Mach.updLc_lc (m : Mach) (n : Nat) (f : LcSt → LcSt) : (m.updLc n f).lc n = f (m.lc n) := by
  simp [Mach.lc, Mach.updLc]
theorem Mach.updLc_lc_other (m : Mach) (n : Nat) {j : Nat} (f : LcSt → LcSt) (h : j ≠ n) : (m.updLc n f).lc j = m.lc j := by
  simp [Mach.lc, Mach.updLc, ug_uset_other _ _ _ h]
@[simp] theorem Mach.setObj_lc (m : Mach) (x : Fld) (y v n : Nat) : (m.setObj x y v).lc n = m.lc n := rfl
@[simp] theorem Mach.updCtl_obj (m : Mach) (k : Nat) (f : CtlSt → CtlSt) (x : Fld) (y : Nat) : (m.updCtl k f).obj x y = m.obj x y := rfl
@[simp] theorem Mach.updCtl_now (m : Mach) (k : Nat) (f : CtlSt → CtlSt) : (m.updCtl k f).now = m.now := rfl
@[simp] theorem Mach.updCtl_ctl (m : Mach) (k : Nat) (f : CtlSt → CtlSt) : (m.updCtl k f).ctl k = f (m.ctl k) := by
  simp [Mach.ctl, Mach.updCtl]
theorem Mach.updCtl_ctl_other (m : Mach) (k : Nat) {j : Nat} (f : CtlSt → CtlSt) (h : j ≠ k) : (m.updCtl k f).ctl j = m.ctl j := by
  simp [Mach.ctl, Mach.updCtl, ug_uset_other _ _ _ h]
@[simp] theorem Mach.setObj_ctl (m : Mach) (x : Fld) (y v n : Nat) : (m.setObj x y v).ctl n = m.ctl n := rfl
@[simp] theorem Mach.updRail_obj (m : Mach) (k : Nat) (f : RailSt → RailSt) (x : Fld) (y : Nat) : (m.updRail k f).obj x y = m.obj x y := rfl
@[simp] theorem Mach.updRail_now (m : Mach) (k : Nat) (f : RailSt → RailSt) : (m.updRail k f).now = m.now := rfl
@[simp] theorem Mach.updRail_rail (m : Mach) (k : Nat) (f : RailSt → RailSt) : (m.updRail k f).rail k = f (m.rail k) := by
  simp [Mach.rail, Mach.updRail]
theorem Mach.updRail_rail_other (m : Mach) (k : Nat) {j : Nat} (f : RailSt → RailSt) (h : j ≠ k) : (m.updRail k f).rail j = m.rail j := by
  simp [Mach.rail, Mach.updRail, ug_uset_other _ _ _ h]
@[simp] theorem Mach.setObj_rail (m : Mach) (x : Fld) (y v n : Nat) : (m.setObj x y v).rail n = m.rail n := rfl
@[simp] theorem Mach.updLo_obj (m : Mach) (n : Nat) (f : LoSt → LoSt) (x : Fld) (y : Nat) : (m.updLo n f).obj x y = m.obj x y := rfl
@[simp] theorem Mach.updLo_now (m : Mach) (n : Nat) (f : LoSt → LoSt) : (m.updLo n f).now = m.now := rfl
@[simp] theorem Mach.updLo_lo (m : Mach) (n : Nat) (f : LoSt → LoSt) : (m.updLo n f).lo n = f (m.lo n) := by
  simp [Mach.lo, Mach.updLo]
theorem Mach.updLo_lo_other (m : Mach) (n : Nat) {j : Nat} (f : LoSt → LoSt) (h : j ≠ n) : (m.updLo n f).lo j = m.lo j := by
  simp [Mach.lo, Mach.updLo, ug_uset_other _ _ _ h]
@[simp] theorem Mach.setObj_lo (m : Mach) (x : Fld) (y v n : Nat) : (m.setObj x y v).lo n = m.lo n := rfl
@[simp] theorem Mach.updIsl_obj (m : Mach) (f : IslSt → IslSt) (x : Fld) (y : Nat) : (m.updIsl f).obj x y = m.obj x y := rfl
@[simp] theorem Mach.updIsl_now (m : Mach) (f : IslSt → IslSt) : (m.updIsl f).now = m.now := rfl
@[simp] theorem Mach.updBrake_obj (m : Mach) (k : Nat) (g : BrSt → BrSt) (x : Fld) (y : Nat) : (m.updBrake k g).obj x y = m.obj x y := rfl
@[simp] theorem Mach.updBrake_now (m : Mach) (k : Nat) (g : BrSt → BrSt) : (m.updBrake k g).now = m.now := rfl
@[simp] theorem Mach.updBrake_brake (m : Mach) (k : Nat) (g : BrSt → BrSt) : (m.updBrake k g).brake k = g (m.brake k) := by
  simp [Mach.brake, Mach.updBrake, Mach.updIsl]
theorem Mach.updBrake_brake_other (m : Mach) (k : Nat) {j : Nat} (g : BrSt → BrSt) (h : j ≠ k) : (m.updBrake k g).brake j = m.brake j := by
  simp [Mach.brake, Mach.updBrake, Mach.updIsl, ug_uset_other _ _ _ h]
@[simp] theorem Mach.setObj_brake (m : Mach) (x : Fld) (y v n : Nat) : (m.setObj x y v).brake n = m.brake n := rfl
@[simp] theorem Mach.updGauge_obj (m : Mach) (f : GaugeSt → GaugeSt) (x : Fld) (y : Nat) : (m.updGauge f).obj x y = m.obj x y := rfl
@[simp] theorem Mach.updGauge_now (m : Mach) (f : GaugeSt → GaugeSt) : (m.updGauge f).now = m.now := rfl
@[simp] theorem Mach.updConn_obj (m : Mach) (i : Nat) (f : Conn → Conn) (x : Fld) (y : Nat) : (m.updConn i f).obj x y = m.obj x y := rfl
@[simp] theorem Mach.updConn_now (m : Mach) (i : Nat) (f : Conn → Conn) : (m.updConn i f).now = m.now := rfl
@[simp] theorem Mach.updConn_conn (m : Mach) (i : Nat) (f : Conn → Conn) : (m.updConn i f).conn i = f (m.conn i) := by
  simp [Mach.conn, Mach.updConn]
theorem Mach.updConn_conn_other (m : Mach) (i : Nat) {j : Nat} (f : Conn → Conn) (h : j ≠ i) : (m.updConn i f).conn j = m.conn j := by
  simp [Mach.conn, Mach.updConn, ug_uset_other _ _ _ h]
@[simp] theorem Mach.setObj_conn (m : Mach) (x : Fld) (y v n : Nat) : (m.setObj x y v).conn n = m.conn n := rfl
@[simp] theorem Mach.updCq_obj (m : Mach) (i : Nat) (f : Cq → Cq) (x : Fld) (y : Nat) : (m.updCq i f).obj x y = m.obj x y := rfl
@[simp] theorem Mach.updCq_now (m : Mach) (i : Nat) (f : Cq → Cq) : (m.updCq i f).now = m.now := rfl
@[simp] theorem Mach.updCq_cq (m : Mach) (i : Nat) (f : Cq → Cq) : (m.updCq i f).cq i = f (m.cq i) := by
  simp [Mach.cq, Mach.updCq]
theorem Mach.updCq_cq_other (m : Mach) (i : Nat) {j : Nat} (f : Cq → Cq) (h : j ≠ i) : (m.updCq i f).cq j = m.cq j := by
  simp [Mach.cq, Mach.updCq, ug_uset_other _ _ _ h]
@[simp] theorem Mach.setObj_cq (m : Mach) (x : Fld) (y v n : Nat) : (m.setObj x y v).cq n = m.cq n := rfl
@[simp] theorem Mach.updPart_obj (m : Mach) (i : Nat) (f : Part → Part) (x : Fld) (y : Nat) : (m.updPart i f).obj x y = m.obj x y := rfl
@[simp] theorem Mach.updPart_now (m : Mach) (i : Nat) (f : Part → Part) : (m.updPart i f).now = m.now := rfl
@[simp] theorem Mach.updPart_part (m : Mach) (i : Nat) (f : Part → Part) : (m.updPart i f).part i = f (m.part i) := by
  simp [Mach.part, Mach.updPart]
theorem Mach.updPart_part_other (m : Mach) (i : Nat) {j : Nat} (f : Part → Part) (h : j ≠ i) : (m.updPart i f).part j = m.part j := by
  simp [Mach.part, Mach.updPart, ug_uset_other _ _ _ h]
@[simp] theorem Mach.setObj_part (m : Mach) (x : Fld) (y v n : Nat) : (m.setObj x y v).part n = m.part n := rfl
@[simp] theorem Mach.updEng_obj (m : Mach) (i : Nat) (f : Engine → Engine) (x : Fld) (y : Nat) : (m.updEng i f).obj x y = m.obj x y := rfl
@[simp] theorem Mach.updEng_now (m : Mach) (i : Nat) (f : Engine → Engine) : (m.updEng i f).now = m.now := rfl
@[simp] theorem Mach.updEng_eng (m : Mach) (i : Nat) (f : Engine → Engine) : (m.updEng i f).eng i = f (m.eng i) := by
  simp [Mach.eng, Mach.updEng]
theorem Mach.updEng_eng_other (m : Mach) (i : Nat) {j : Nat} (f : Engine → Engine) (h : j ≠ i) : (m.updEng i f).eng j = m.eng j := by
  simp [Mach.eng, Mach.updEng, ug_uset_other _ _ _ h]
@[simp] theorem Mach.setObj_eng (m : Mach) (x : Fld) (y v n : Nat) : (m.setObj x y v).eng n = m.eng n := rfl
@[simp] theorem Mach.updSys_obj (m : Mach) (f : Sys → Sys) (x : Fld) (y : Nat) : (m.updSys f).obj x y = m.obj x y := rfl
@[simp] theorem Mach.updSys_now (m : Mach) (f : Sys → Sys) : (m.updSys f).now = m.now := rfl
@[simp] theorem Mach.updTime_obj (m : Mach) (f : TimeSt → TimeSt) (x : Fld) (y : Nat) : (m.updTime f).obj x y = m.obj x y := rfl
@[simp] theorem Mach.updTime_now (m : Mach) (f : TimeSt → TimeSt) : (m.updTime f).now = m.now := rfl
@[simp] theorem Mach.updRec_obj (m : Mach) (f : Recorder → Recorder) (x : Fld) (y : Nat) : (m.updRec f).obj x y = m.obj x y := rfl
@[simp] theorem Mach.updRec_now (m : Mach) (f : Recorder → Recorder) : (m.updRec f).now = m.now := rfl
@[simp] theorem Mach.updSec_obj (m : Mach) (f : Sec → Sec) (x : Fld) (y : Nat) : (m.updSec f).obj x y = m.obj x y := rfl
@[simp] theorem Mach.updSec_now (m : Mach) (f : Sec → Sec) : (m.updSec f).now = m.now := rfl
@[simp] theorem Mach.updSvc_obj (m : Mach) (f : Service → Service) (x : Fld) (y : Nat) : (m.updSvc f).obj x y = m.obj x y := rfl
@[simp] theorem Mach.updSvc_now (m : Mach) (f : Service → Service) : (m.updSvc f).now = m.now := rfl
@[simp] theorem Mach.updEm_obj (m : Mach) (k : Nat) (f : EmSt → EmSt) (x : Fld) (y : Nat) : (m.updEm k f).obj x y = m.obj x y := rfl
@[simp] theorem Mach.updEm_now (m : Mach) (k : Nat) (f : EmSt → EmSt) : (m.updEm k f).now = m.now := rfl
@[simp] theorem Mach.updEm_em (m : Mach) (k : Nat) (f : EmSt → EmSt) : (m.updEm k f).em k = f (m.em k) := by
  simp [Mach.em, Mach.updEm]
theorem Mach.updEm_em_other (m : Mach) (k : Nat) {j : Nat} (f : EmSt → EmSt) (h : j ≠ k) : (m.updEm k f).em j = m.em j := by
  simp [Mach.em, Mach.updEm, ug_uset_other _ _ _ h]
@[simp] theorem Mach.setObj_em (m : Mach) (x : Fld) (y v n : Nat) : (m.setObj x y v).em n = m.em n := rfl
@[simp] theorem Mach.updPr_obj (m : Mach) (k : Nat) (f : PrSt → PrSt) (x : Fld) (y : Nat) : (m.updPr k f).obj x y = m.obj x y := rfl
@[simp] theorem Mach.updPr_now (m : Mach) (k : Nat) (f : PrSt → PrSt) : (m.updPr k f).now = m.now := rfl
@[simp] theorem Mach.updPr_pr (m : Mach) (k : Nat) (f : PrSt → PrSt) : (m.updPr k f).pr k = f (m.pr k) := by
  simp [Mach.pr, Mach.updPr]
theorem Mach.updPr_pr_other (m : Mach) (k : Nat) {j : Nat} (f : PrSt → PrSt) (h : j ≠ k) : (m.updPr k f).pr j = m.pr j := by
  simp [Mach.pr, Mach.updPr, ug_uset_other _ _ _ h]
@[simp] theorem Mach.setObj_pr (m : Mach) (x : Fld) (y v n : Nat) : (m.setObj x y v).pr n = m.pr n := rfl
@[simp] theorem Mach.updSfn_obj (m : Mach) (f : Nat) (g : SfSt → SfSt) (x : Fld) (y : Nat) : (m.updSfn f g).obj x y = m.obj x y := rfl
@[simp] theorem Mach.updSfn_now (m : Mach) (f : Nat) (g : SfSt → SfSt) : (m.updSfn f g).now = m.now := rfl
@[simp] theorem Mach.updSfn_sfn (m : Mach) (f : Nat) (g : SfSt → SfSt) : (m.updSfn f g).sfn f = g (m.sfn f) := by
  simp [Mach.sfn, Mach.updSfn, Mach.updIsl]
theorem Mach.updSfn_sfn_other (m : Mach) (f : Nat) {j : Nat} (g : SfSt → SfSt) (h : j ≠ f) : (m.updSfn f g).sfn j = m.sfn j := by
  simp [Mach.sfn, Mach.updSfn, Mach.updIsl, ug_uset_other _ _ _ h]
@[simp] theorem Mach.setObj_sfn (m : Mach) (x : Fld) (y v n : Nat) : (m.setObj x y v).sfn n = m.sfn n := rfl
@[simp] theorem Mach.updLink_obj (m : Mach) (c : Nat) (g : GfpsSt → GfpsSt) (x : Fld) (y : Nat) : (m.updLink c g).obj x y = m.obj x y := rfl
@[simp] theorem Mach.updLink_now (m : Mach) (c : Nat) (g : GfpsSt → GfpsSt) : (m.updLink c g).now = m.now := rfl
@[simp] theorem Mach.updLink_link (m : Mach) (c : Nat) (g : GfpsSt → GfpsSt) : (m.updLink c g).link c = g (m.link c) := by
  simp [Mach.link, Mach.updLink, Mach.updIsl]
theorem Mach.updLink_link_other (m : Mach) (c : Nat) {j : Nat} (g : GfpsSt → GfpsSt) (h : j ≠ c) : (m.updLink c g).link j = m.link j := by
  simp [Mach.link, Mach.updLink, Mach.updIsl, ug_uset_other _ _ _ h]
@[simp] theorem Mach.setObj_link (m : Mach) (x : Fld) (y v n : Nat) : (m.setObj x y v).link n = m.link n := rfl
@[simp] theorem Mach.updSg_obj (m : Mach) (s : Nat) (f : SegSt → SegSt) (x : Fld) (y : Nat) : (m.updSg s f).obj x y = m.obj x y := rfl
@[simp] theorem Mach.updSg_now (m : Mach) (s : Nat) (f : SegSt → SegSt) : (m.updSg s f).now = m.now := rfl
@[simp] theorem Mach.updSg_sg (m : Mach) (s : Nat) (f : SegSt → SegSt) : (m.updSg s f).sg s = f (m.sg s) := by
  simp [Mach.sg, Mach.updSg]
theorem Mach.updSg_sg_other (m : Mach) (s : Nat) {j : Nat} (f : SegSt → SegSt) (h : j ≠ s) : (m.updSg s f).sg j = m.sg j := by
  simp [Mach.sg, Mach.updSg, ug_uset_other _ _ _ h]
@[simp] theorem Mach.setObj_sg (m : Mach) (x : Fld) (y v n : Nat) : (m.setObj x y v).sg n = m.sg n := rfl
@[simp] theorem Mach.updNode_obj (m : Mach) (n : Nat) (f : NodeSt → NodeSt) (x : Fld) (y : Nat) : (m.updNode n f).obj x y = m.obj x y := rfl
@[simp] theorem Mach.updNode_now (m : Mach) (n : Nat) (f : NodeSt → NodeSt) : (m.updNode n f).now = m.now := rfl
@[simp] theorem Mach.updNode_node (m : Mach) (n : Nat) (f : NodeSt → NodeSt) : (m.updNode n f).node n = f (m.node n) := by
  simp [Mach.node, Mach.updNode]
theorem Mach.updNode_node_other (m : Mach) (n : Nat) {j : Nat} (f : NodeSt → NodeSt) (h : j ≠ n) : (m.updNode n f).node j = m.node j := by
  simp [Mach.node, Mach.updNode, ug_uset_other _ _ _ h]
@[simp] theorem Mach.setObj_node (m : Mach) (x : Fld) (y v n : Nat) : (m.setObj x y v).node n = m.node n := rfl
@[simp] theorem Mach.updPm_obj (m : Mach) (f : PairMach → PairMach) (x : Fld) (y : Nat) : (m.updPm f).obj x y = m.obj x y := rfl
@[simp] theorem Mach.updPm_now (m : Mach) (f : PairMach → PairMach) : (m.updPm f).now = m.now := rfl
@[simp] theorem Mach.updPeer_obj (m : Mach) (f : Peer → Peer) (x : Fld) (y : Nat) : (m.updPeer f).obj x y = m.obj x y := rfl
@[simp] theorem Mach.updPeer_now (m : Mach) (f : Peer → Peer) : (m.updPeer f).now = m.now := rfl
@[simp] theorem Mach.updTake_obj (m : Mach) (p : Nat) (f : TakeSt → TakeSt) (x : Fld) (y : Nat) : (m.updTake p f).obj x y = m.obj x y := rfl
@[simp] theorem Mach.updTake_now (m : Mach) (p : Nat) (f : TakeSt → TakeSt) : (m.updTake p f).now = m.now := rfl
@[simp] theorem Mach.updTake_take (m : Mach) (p : Nat) (f : TakeSt → TakeSt) : (m.updTake p f).take p = f (m.take p) := by
  simp [Mach.take, Mach.updTake, Mach.updPm]
theorem Mach.updTake_take_other (m : Mach) (p : Nat) {j : Nat} (f : TakeSt → TakeSt) (h : j ≠ p) : (m.updTake p f).take j = m.take j := by
  simp [Mach.take, Mach.updTake, Mach.updPm, ug_uset_other _ _ _ h]
@[simp] theorem Mach.setObj_take (m : Mach) (x : Fld) (y v n : Nat) : (m.setObj x y v).take n = m.take n := rfl
@[simp] theorem Mach.updPlace_obj (m : Mach) (n : Nat) (f : PlaceSt → PlaceSt) (x : Fld) (y : Nat) : (m.updPlace n f).obj x y = m.obj x y := rfl
@[simp] theorem Mach.updPlace_now (m : Mach) (n : Nat) (f : PlaceSt → PlaceSt) : (m.updPlace n f).now = m.now := rfl
@[simp] theorem Mach.updPlace_place (m : Mach) (n : Nat) (f : PlaceSt → PlaceSt) : (m.updPlace n f).place n = f (m.place n) := by
  simp [Mach.place, Mach.updPlace]
theorem Mach.updPlace_place_other (m : Mach) (n : Nat) {j : Nat} (f : PlaceSt → PlaceSt) (h : j ≠ n) : (m.updPlace n f).place j = m.place j := by
  simp [Mach.place, Mach.updPlace, ug_uset_other _ _ _ h]
@[simp] theorem Mach.setObj_place (m : Mach) (x : Fld) (y v n : Nat) : (m.setObj x y v).place n = m.place n := rfl
@[simp] theorem Mach.updTrunk_obj (m : Mach) (t : Nat) (f : TrunkSt → TrunkSt) (x : Fld) (y : Nat) : (m.updTrunk t f).obj x y = m.obj x y := rfl
@[simp] theorem Mach.updTrunk_now (m : Mach) (t : Nat) (f : TrunkSt → TrunkSt) : (m.updTrunk t f).now = m.now := rfl
@[simp] theorem Mach.updTrunk_trunk (m : Mach) (t : Nat) (f : TrunkSt → TrunkSt) : (m.updTrunk t f).trunk t = f (m.trunk t) := by
  simp [Mach.trunk, Mach.updTrunk]
theorem Mach.updTrunk_trunk_other (m : Mach) (t : Nat) {j : Nat} (f : TrunkSt → TrunkSt) (h : j ≠ t) : (m.updTrunk t f).trunk j = m.trunk j := by
  simp [Mach.trunk, Mach.updTrunk, ug_uset_other _ _ _ h]
@[simp] theorem Mach.setObj_trunk (m : Mach) (x : Fld) (y v n : Nat) : (m.setObj x y v).trunk n = m.trunk n := rfl

end Sys2Proof.Machine
end

