-- ==== Sys2Proof/Laws/Lifts.lean ====
section
/-! SUPPORT. Everything the ways a command changes the state can do, once for each: they answer a next state, keep the queue, do not run
time back, and leave the memories canonical. -/
namespace Sys2Proof.Machine

/-- Every value of a memory lies within its cell. -/
def Fits (r : Ram) : Prop := ∀ e ∈ r, e.2 < 2 ^ bitsAt (e.1 / 2 ^ 40)

theorem wf_iff (r : Ram) : Memory.wf r = true ↔ twf ramInit r = true ∧ Fits r := by
  simp [Memory.wf, Fits, List.all_eq_true]

theorem key_space (sp : Space) (a : Nat) : sp.key a / 2 ^ 40 = sp.idx := by
  unfold Space.key
  have h : a % 2 ^ 40 < 2 ^ 40 := Nat.mod_lt _ (by decide)
  omega

theorem tdel_fits {r : Ram} (h : Fits r) (k : Nat) : Fits (tdel r k) := by
  induction r with
  | nil => exact h
  | cons e r ih =>
    obtain ⟨a, v⟩ := e
    have h' : Fits r := fun x hx => h x (List.mem_cons_of_mem _ hx)
    by_cases hk : a = k
    · rw [tdel, if_pos hk]; exact ih h'
    · rw [tdel, if_neg hk]
      intro x hx
      rcases List.mem_cons.mp hx with rfl | hx
      · exact h _ (List.mem_cons_self ..)
      · exact ih h' x hx

theorem tins_fits {r : Ram} (h : Fits r) {k w : Nat} (hw : w < 2 ^ bitsAt (k / 2 ^ 40)) : Fits (tins r k w) := by
  induction r with
  | nil =>
    intro x hx
    rcases List.mem_cons.mp hx with rfl | hx
    · exact hw
    · cases hx
  | cons e r ih =>
    obtain ⟨a, v⟩ := e
    have h' : Fits r := fun x hx => h x (List.mem_cons_of_mem _ hx)
    have h0 := h (a, v) (List.mem_cons_self ..)
    intro x hx
    by_cases h1 : k < a
    · rw [tins, if_pos h1] at hx
      rcases List.mem_cons.mp hx with rfl | hx
      · exact hw
      · exact h x hx
    · by_cases h2 : a = k
      · rw [tins, if_neg h1, if_pos h2] at hx
        rcases List.mem_cons.mp hx with rfl | hx
        · exact hw
        · exact h' x hx
      · rw [tins, if_neg h1, if_neg h2] at hx
        rcases List.mem_cons.mp hx with rfl | hx
        · exact h0
        · exact ih h' x hx

/-- A memory write keeps the canonical form. -/
theorem W.apply_wf (r : Ram) (w : W) (h : Memory.wf r = true) : Memory.wf (W.apply r w) = true := by
  obtain ⟨hw, hf⟩ := (wf_iff r).mp h
  refine (wf_iff _).mpr ?_
  cases w with
  | put sp a v =>
    refine ⟨tput_wf ramInit r _ _ hw, ?_⟩
    simp only [W.apply, tput]
    split
    · exact tdel_fits hf _
    · exact tins_fits hf (by rw [key_space]; exact Nat.mod_lt _ (Nat.two_pow_pos _))
  | clear sp => exact ⟨twfFrom_filter ramInit _ r 0 hw, fun x hx => hf x (List.mem_filter.mp hx).1⟩

/-- Writes in their order keep the canonical form. -/
theorem wr_wf (ws : List W) : ∀ r : Ram, Memory.wf r = true → Memory.wf (wr r ws) = true := by
  induction ws with
  | nil => exact fun _ h => h
  | cons w ws ih => exact fun r h => ih _ (W.apply_wf r w h)

/-- One cell after a write of one cell. -/
theorem rd_put (r : Ram) (sp : Space) (a v : Nat) (sq : Space) (b : Nat) :
    rd (W.apply r (.put sp a v)) sq b = if sq.key b = sp.key a then v % 2 ^ bitsAt sp.idx else rd r sq b := by
  simp only [rd, W.apply, tget_tput]

@[simp] theorem wr_nil (r : Ram) : wr r [] = r := rfl

theorem wr_append (r : Ram) (a b : List W) : wr r (a ++ b) = wr (wr r a) b := by
  simp [wr, List.foldl_append]

/-- What every meaning promises of its next state. -/
def Good (s : State) (o : Out) : Prop :=
  ∃ t, o = .next t ∧ t.pending = s.pending ∧ s.later t ∧ (s.ramOk = true → t.ramOk = true)

theorem ev_good (t : Nat) (f : Mach → Mach) (s : State) : Good s (ev t f s) :=
  ⟨_, rfl, rfl, Nat.le_max_left _ _, fun h => h⟩

theorem evR_good (t : Nat) (f : Ram → Mach → Mach × List W) (s : State) : Good s (evR t f s) :=
  ⟨_, rfl, rfl, Nat.le_max_left _ _, fun h => wr_wf _ _ h⟩

theorem rung_good (ce : Fin 8) (ok : Bool) (f : Rx → Rx) (s : State) : Good s (rung ce ok f s) := evR_good _ _ s

theorem zcp_good (card : Card) (body : Cmd → Ram → Mach → Res) (msg : Msg) (s : State) : Good s (zcp card body msg s) :=
  evR_good _ _ s

theorem zcpM_good (card : Card) (body : Cmd → Mach → Res) (msg : Msg) (s : State) : Good s (zcpM card body msg s) :=
  zcp_good card _ msg s

/-- Requests that waited, run in their turn, keep the queue, the instant and the canonical form. -/
theorem serve_keeps (n q : Nat) : ∀ s : State, (serve n q s).pending = s.pending ∧ (serve n q s).m.now = s.m.now ∧
    (s.ramOk = true → (serve n q s).ramOk = true) := by
  induction n with
  | zero => exact fun _ => ⟨rfl, rfl, id⟩
  | succ n ih =>
    intro s
    unfold serve
    split
    · next w l _ _ =>
      obtain ⟨h1, h2, h3⟩ := ih { runWaiting w { s with m := s.m.updCq q (fun c => { c with waiting := l }) } with
        m := (runWaiting w { s with m := s.m.updCq q (fun c => { c with waiting := l }) }).m.outSync q }
      exact ⟨h1, h2, fun h => h3 (wr_wf _ _ h)⟩
    · exact ⟨rfl, rfl, id⟩

theorem served_good (q : Option Nat) {s : State} {o : Out} (h : Good s o) : Good s (served q o) := by
  obtain ⟨t, rfl, hp, hl, hr⟩ := h
  cases q with
  | none => exact ⟨t, rfl, hp, hl, hr⟩
  | some q =>
    obtain ⟨h1, h2, h3⟩ := serve_keeps 17 q t
    exact ⟨serve 17 q t, rfl, h1.trans hp, by unfold State.later; rw [h2]; exact hl, fun h => h3 (hr h)⟩

/-- The memories after an event that writes none. -/
@[simp] theorem ev_ram (t : Nat) (f : Mach → Mach) (s u : State) (h : ev t f s = .next u) : u.ram = s.ram := by
  cases h; rfl

end Sys2Proof.Machine
end

