-- ==== Sys2Proof/Laws/Rung.lean ====
section
/-! SUPPORT. What executing an instruction can do: nothing on an engine that does not solve, the instruction's effect, or a fault. What a
load and a store leave of the engine. -/
namespace Sys2Proof.Machine

/-- An engine that is not solving executes nothing. -/
theorem rung_idle (ce : Fin 8) (ok : Bool) (f : Rx → Rx) (s : State) (h : (s.m.eng ce.val).run ≠ 1) :
    rung ce ok f s = .next s := by
  have h' : ((s.m.upTo 0).eng ce.val).run ≠ 1 := h
  simp only [rung, evR, h', ne_eq, not_false_eq_true, if_true, wr_nil, Nat.max_zero]
  simp [Mach.upTo]

theorem upTo_zero (m : Mach) : m.upTo 0 = m := by simp [Mach.upTo]

/-- An engine ready to execute an instruction whose form is right has its effect, or its fault. -/
theorem rung_run (ce : Fin 8) (f : Rx → Rx) (s : State) (h : s.canRun ce) :
    rung ce true f s = .next { s with
      ram := wr s.ram ((s.rx ce).result (f (s.rx ce))).2
      m := { ((s.rx ce).result (f (s.rx ce))).1 with now := s.m.now } } := by
  obtain ⟨hr, hs, hi⟩ := h
  have hs' : ¬ 32 < (s.m.eng ce.val).stack.length := by omega
  unfold rung evR
  rw [upTo_zero]
  simp only [hr, ne_eq, not_true_eq_false, if_false, Bool.not_true, Bool.false_eq_true, false_or, hs', Nat.max_zero]
  cases hx : (s.m.eng ce.val).idx with
  | none => simp [State.rx]
  | some v =>
    have hv : ¬ v.2 < v.1 := by
      rw [hx] at hi
      simpa using hi
    simp [State.rx, hv]

/-- An instruction that raises no fault ends in the state its engine leaves. -/
theorem rung_ends (ce : Fin 8) (f : Rx → Rx) (s : State) (h : s.canRun ce) (hf : (f (s.rx ce)).fault = none) :
    rung ce true f s = .next (s.ends (f (s.rx ce))) := by
  rw [rung_run ce f s h, Rx.result, hf]
  rfl

/-- An instruction on the registers of its engine alone. -/
theorem rung_regs (ce : Fin 8) (g : Engine → Engine) (s : State) (h : s.canRun ce) :
    rung ce true (fun x => { x with e := g x.e }) s = .next (s.withEng ce g) := by
  rw [rung_ends ce _ s h rfl]
  rfl

/-! ### Loads and stores leave the registers -/

/-- Two engines agree in everything but clock, store buffer and write port. -/
def SameRegs (a b : Engine) : Prop := a = { b with clk := a.clk, sb := a.sb, portFree := a.portFree }

theorem SameRegs.rfl' (e : Engine) : SameRegs e e := rfl

theorem SameRegs.trans {a b c : Engine} (h : SameRegs a b) (k : SameRegs b c) : SameRegs a c := by
  unfold SameRegs at *; rw [k] at h; exact h

theorem drainTo_regs (x : Rx) (n : Nat) : SameRegs (x.drainTo n).e x.e := rfl

theorem load_regs (x : Rx) (sp : Buffered) (g : Nat) (k : BitVec 64) : SameRegs (x.load sp g k).2.e x.e := by
  unfold Rx.load
  simp only
  split
  · rfl
  · split
    · rfl
    · split <;> rfl

theorem load_fault (x : Rx) (sp : Buffered) (g : Nat) (k : BitVec 64) : (x.load sp g k).2.fault = x.fault := by
  unfold Rx.load
  simp only
  split
  · rfl
  · split
    · rfl
    · split <;> rfl

theorem imgLoad_regs (x : Rx) (pt n : Nat) (k : BitVec 64) : SameRegs (x.imgLoad pt n k).2.e x.e := by
  unfold Rx.imgLoad
  simp only
  split
  · split
    · exact load_regs ..
    · rfl
  · rfl

theorem imgLoad_fault (x : Rx) (pt n : Nat) (k : BitVec 64) : (x.imgLoad pt n k).2.fault = x.fault := by
  unfold Rx.imgLoad
  simp only
  split
  · split
    · exact load_fault ..
    · rfl
  · rfl

theorem instLoad_regs (x : Rx) (l : Bool) (a n : Nat) (k : BitVec 64) : SameRegs (x.instLoad l a n k).2.e x.e := by
  unfold Rx.instLoad
  split
  · rfl
  · split
    · rfl
    · exact load_regs ..

theorem store_regs (x : Rx) (sp : Buffered) (g : Nat) (k v : BitVec 64) : SameRegs (x.store sp g k v).e x.e := by
  unfold Rx.store
  simp only
  split
  · split <;> rfl
  · split
    · split <;> rfl
    · split
      · rfl
      · split <;> rfl

theorem store_fault (x : Rx) (sp : Buffered) (g : Nat) (k v : BitVec 64) : (x.store sp g k v).fault = x.fault := by
  unfold Rx.store
  simp only
  split
  · split <;> rfl
  · split
    · split <;> rfl
    · split
      · rfl
      · split <;> rfl

/-- A load of bytes within the region raises no fault. -/
theorem instLoad_fault (s : State) (ce : Fin 8) (op : Operand) (off n : Nat) (k : BitVec 64) (h : s.within ce op off n) :
    ((s.rx ce).instLoad (opLocal op) off n k).2.fault = none := by
  unfold Rx.instLoad
  split
  · rfl
  · next hl =>
    have hb := h.resolve_left hl
    have hb' : (s.rx ce).instBase + off + n ≤ (s.rx ce).m.obj F.partINST_SIZE (s.rx ce).p := hb
    simp only [Rx.instAddr, if_pos hb']
    exact load_fault ..

/-- A store of bytes within the region raises no fault. -/
theorem instStore_fault (s : State) (ce : Fin 8) (op : Operand) (off n : Nat) (k v : BitVec 64) (h : s.within ce op off n) :
    ((s.rx ce).instStore (opLocal op) off n k v).fault = none := by
  unfold Rx.instStore
  split
  · rfl
  · next hl =>
    have hb := h.resolve_left hl
    have hb' : (s.rx ce).instBase + off + n ≤ (s.rx ce).m.obj F.partINST_SIZE (s.rx ce).p := hb
    simp only [Rx.instAddr, if_pos hb']
    exact store_fault ..

theorem iword_fault {s : State} {ce : Fin 8} {op : Operand} {n : Nat} (h : s.hasWord ce op n) :
    ((s.rx ce).iword op n).2.fault = none := instLoad_fault s ce op _ _ _ h

theorem ibit_fault {s : State} {ce : Fin 8} {op : Operand} (h : s.hasBit ce op) :
    ((s.rx ce).ibit op).2.fault = none := instLoad_fault s ce op _ _ _ h

theorem pword_fault (s : State) (ce : Fin 8) (op : Operand) (n : Nat) : ((s.rx ce).pword op n).2.fault = none := imgLoad_fault ..

end Sys2Proof.Machine
end

