-- ==== Sys2Proof/Laws/Zcp.lean ====
section
/-! SUPPORT. An accepted request runs its body and is answered; what the acceptance leaves of the machine. -/
namespace Sys2Proof.Machine

/-- A body that has ended at once is answered. -/
theorem finished_now {msg : Msg} {x : Res} (h : x.defer = false) :
    finished msg none x = (x.m.client []).answer msg x.st x.out := by
  unfold finished
  rw [h]
  rfl

theorem execStep9_accepts {card : Card} {msg : Msg} {s : State} {is : List Item} (body : Cmd → Ram → Mach → Res) (r : Ram)
    (h : Accepts card msg s is) {bs : List Nat} (hp : readParams card bs = .ok is) : execStep9 card body msg (s.m.conn msg.conn).role bs r (s.m.intake msg) =
      body (cmdOf msg s is) r (s.m.intake msg) := by
  have e1 : ¬ msg.opcode ≠ card.op := fun c => c h.opcode
  have e2 : (card.bulk && (s.m.intake msg).obj F.cqCLASS msg.queue == 0) = false := by
    cases hb : card.bulk with
    | false => rfl
    | true => simpa using h.cls hb
  obtain ⟨z1, z2, z3⟩ := h.zeros
  have e4 : (!(isSys ((s.m.intake msg).queueOwner msg.queue)) && decide (msg.part ≠ 0xFF) &&
      decide (msg.part ≠ (s.m.intake msg).queueOwner msg.queue)) = false := by
    have hp := h.part
    simp only [cmdOf] at hp
    rcases hp with hp | hp | hp <;> simp [hp]
  have e5 : (decide (msg.deadline ≠ 0) && (!(s.m.intake msg).gzValid || decide ((s.m.intake msg).gz > msg.deadline))) = false := by
    rcases h.inTime with hd | ⟨hv, hd⟩
    · simp [hd]
    · simp [hv, hd]
  have e6 := h.partTy
  have e7 := h.mode
  have e8 := h.role
  have e9 : (card.sysBy is && !isSys ((s.m.intake msg).queueOwner msg.queue)) = false := by
    cases hb : card.sysBy is with
    | false => rfl
    | true =>
      have := h.sys hb
      simp only [cmdOf] at this
      simp [this]
  have e3 : (decide (msg.status ≠ 0) || decide (msg.resv ≠ 0) || decide (field msg.flags 4 1 ≠ 0)) = false := by simp [z1, z2, z3]
  have no : ∀ {α : Type} {b : Bool} {x y : α}, b = false → (if b = true then x else y) = y := fun hb => by rw [hb]; rfl
  unfold execStep9
  simp only []
  rw [if_neg e1, no e2, no e3, no e4, no e5, hp]
  simp only []
  refine (no e6).trans ?_
  rw [no (by rw [e7]; rfl)]
  cases hr : card.roleBy <;> rw [hr] at e8 <;> simp only [e8, Bool.not_true, Bool.false_eq_true, if_false] <;> exact no e9

theorem ite_no {α : Type} {b : Bool} {x y : α} (hb : b = false) : (if b = true then x else y) = y := by rw [hb]; rfl

/-- Steps 1 to 4 let a well-framed message of a listening module pass. -/
theorem step1_pass {msg : Msg} {s : State} (h : Reaches msg s) (next : Mach → Mach × List W) :
    step1 msg (s.m.upTo msg.t) next = next (s.m.upTo msg.t) := by
  obtain ⟨hd, hc⟩ := h.heard
  obtain ⟨f1, f2, f3, f4, f5, f6, f7⟩ := h.framed
  have d1 : (s.m.upTo msg.t).deaf = false := hd
  have d2 : ((s.m.upTo msg.t).conn msg.conn).state = 2 := hc
  unfold step1
  rw [ite_no (by simp [d1, d2]), ite_no (by simp [f1, f4, f6, f7]), if_neg (by simp [f5]), ite_no (by simp [f1, f3]; omega)]

/-- Step 5 lets a message of the open session pass. -/
theorem step5_pass {msg : Msg} {s : State} (h : Reaches msg s) (next : Mach → Mach × List W) :
    step5 msg (s.m.upTo msg.t) next = next ((s.m.upTo msg.t).updConn msg.conn (fun c => { c with lastAt := max s.m.now msg.t })) := by
  obtain ⟨t1, t2⟩ := h.session
  have t1' : ((s.m.upTo msg.t).conn msg.conn).tag ≠ 0 := t1
  have t2' : msg.tag = ((s.m.upTo msg.t).conn msg.conn).tag := t2
  unfold step5
  rw [if_neg (by simp [t1', t2'])]
  rfl

/-- The execution of an accepted request, its fragments complete, runs its body. -/
theorem run9_pass {card : Card} {msg : Msg} {s : State} {is : List Item} (body : Cmd → Ram → Mach → Res) (r : Ram) (m : Mach)
    (h : Accepts card msg s is) (ha : (m.cq msg.queue).asm = (s.m.cq msg.queue).asm)
    (hr : (m.conn msg.conn).role = (s.m.conn msg.conn).role) (hm : m.entered msg = s.m.intake msg) :
    run9 card body msg none r m =
      (finished msg none (body (cmdOf msg s is) r (s.m.intake msg)), (body (cmdOf msg s is) r (s.m.intake msg)).ws) := by
  obtain ⟨bs, hs, hp⟩ := h.params
  have run := execStep9_accepts body r h hp
  unfold streamOf at hs
  split at hs
  · cases hs
  · next w3 =>
    have w3' : bit msg.flags 5 = false := by simpa using w3
    unfold run9
    simp only [ha, w3', Bool.false_eq_true, if_false, hm, hr, Option.map_none, Option.getD_none]
    cases hq : (s.m.cq msg.queue).asm with
    | none =>
      cases hf : fragOf msg.params with
      | none =>
        simp only [hq, hf, Option.some.injEq] at hs
        subst hs
        simp only [run]
      | some x =>
        obtain ⟨i, cs⟩ := x
        simp only [hq, hf] at hs
        split at hs
        · next hi =>
          simp only [Option.some.injEq] at hs
          subst hs
          simp only [hi, ne_eq, not_true_eq_false, if_false, run]
        · cases hs
    | some a =>
      cases hf : fragOf msg.params with
      | none => simp only [hq, hf] at hs; cases hs
      | some x =>
        obtain ⟨i, cs⟩ := x
        simp only [hq, hf] at hs
        split at hs
        · next hi =>
          obtain ⟨i1, i2, i3, i4, i5, i6⟩ := hi
          simp only [Option.some.injEq] at hs
          subst hs
          simp only []
          rw [if_neg (by rintro (c | c | c) <;> contradiction), if_neg (by omega), if_neg (by omega)]
          simp only [run]
        · cases hs

/-- Step 9 runs the body of an accepted request. -/
theorem step9_pass {card : Card} {msg : Msg} {s : State} {is : List Item} (body : Cmd → Ram → Mach → Res) (x : Extra) (r : Ram) (m : Mach)
    (h : Accepts card msg s is) (hq : m.cq msg.queue = s.m.cq msg.queue) (hr : (m.conn msg.conn).role = (s.m.conn msg.conn).role)
    (hm : (((m.setObj F.cqNEXT_SEQ msg.queue ((msg.seq + 1) % 2 ^ 32)).bump F.cqEXECUTED msg.queue).updCq msg.queue
      (fun c => { c with accepted := c.accepted + 1 })).entered msg = s.m.intake msg) :
    step9 card body msg x r m =
      (finished msg none (body (cmdOf msg s is) r (s.m.intake msg)), (body (cmdOf msg s is) r (s.m.intake msg)).ws) := by
  have hq' : (((m.setObj F.cqNEXT_SEQ msg.queue ((msg.seq + 1) % 2 ^ 32)).bump F.cqEXECUTED msg.queue).updCq msg.queue
      (fun c => { c with accepted := c.accepted + 1 })).cq msg.queue = { s.m.cq msg.queue with accepted := (s.m.cq msg.queue).accepted + 1 } := by
    rw [Mach.updCq_cq, ← hq]
    rfl
  unfold step9
  simp only [hq', h.reach.turn.1, Option.isSome_none, Bool.false_eq_true, if_false]
  exact run9_pass body r _ h (by rw [hq']) hr hm

/-- The machine with a credit of a pool spent. -/
def Mach.paid (m : Mach) (k : Nat) : Mach :=
  { m with pools := uset {} m.pools k (fun _ => ⟨some (m.poolLevel k - 10 ^ 9), m.now⟩) }

theorem spend_some {m : Mach} {k : Nat} (h : 10 ^ 9 ≤ m.poolLevel k) : m.spend k = some (m.paid k) := by
  unfold Mach.spend
  exact if_neg (Nat.not_lt.mpr h)

/-- An accepted request runs its body on the machine as the acceptance leaves it, and is answered. -/
theorem zcp_accepts {card : Card} {msg : Msg} {s : State} {is : List Item} (body : Cmd → Ram → Mach → Res) (x : Extra)
    (h : Accepts card msg s is) :
    zcp card body msg s x = .next { s with
      ram := wr s.ram (body (cmdOf msg s is) s.ram (s.m.intake msg)).ws
      m := { finished msg none (body (cmdOf msg s is) s.ram (s.m.intake msg)) with now := max s.m.now msg.t } } := by
  obtain ⟨q1, q2⟩ := h.reach.queue
  obtain ⟨n1, n2⟩ := h.reach.inSeq
  have hr := h.reach.room
  have hcr := h.reach.credit
  have key : step7 card body msg x s.ram ((s.m.upTo msg.t).updConn msg.conn (fun c => { c with lastAt := max s.m.now msg.t })) =
      (finished msg none (body (cmdOf msg s is) s.ram (s.m.intake msg)), (body (cmdOf msg s is) s.ram (s.m.intake msg)).ws) := by
    have e : ((s.m.upTo msg.t).updConn msg.conn (fun c => { c with lastAt := max s.m.now msg.t })).obj F.cqNEXT_SEQ msg.queue = msg.seq := n1.symm
    have d : (msg.seq + 2 ^ 32 - msg.seq) % 2 ^ 32 = 0 := by omega
    have o : ¬ 16 ≤ ((s.m.upTo msg.t).updConn msg.conn (fun c => { c with lastAt := max s.m.now msg.t })).obj F.cqOUTSTANDING msg.queue := by
      have : ((s.m.upTo msg.t).updConn msg.conn (fun c => { c with lastAt := max s.m.now msg.t })).obj F.cqOUTSTANDING msg.queue =
        s.m.obj F.cqOUTSTANDING msg.queue := rfl
      omega
    have role : (((s.m.upTo msg.t).updConn msg.conn (fun c => { c with lastAt := max s.m.now msg.t })).conn msg.conn).role =
        (s.m.conn msg.conn).role := by
      rw [Mach.updConn_conn]
      rfl
    unfold step7
    simp only [e, d, ne_eq, not_true_eq_false, if_false, o]
    by_cases hf : freeOps.contains msg.opcode = true
    · rw [if_pos hf]
      refine step9_pass body x _ _ h rfl role ?_
      simp only [Mach.intake]
      rw [if_pos hf]
    · rw [if_neg hf]
      obtain ⟨c1, c2, c3⟩ := hcr.resolve_left hf
      have hsp := spend_some (m := (s.m.upTo msg.t).updConn msg.conn (fun c => { c with lastAt := max s.m.now msg.t }))
        (k := s.m.poolOf msg.queue) c1
      have hk : (if ((s.m.upTo msg.t).updConn msg.conn (fun c => { c with lastAt := max s.m.now msg.t })).queueOwner msg.queue < 8 then
          ((s.m.upTo msg.t).updConn msg.conn (fun c => { c with lastAt := max s.m.now msg.t })).queueOwner msg.queue else 8) =
          s.m.poolOf msg.queue := rfl
      rw [hk, hsp]
      simp only []
      rw [if_neg (fun c => c.elim c2 c3)]
      refine step9_pass body x _ _ h rfl role ?_
      have hk' : ((s.m.upTo msg.t).updConn msg.conn (fun c => { c with lastAt := max s.m.now msg.t })).poolOf msg.queue =
          s.m.poolOf msg.queue := rfl
      simp only [Mach.intake]
      rw [if_neg hf, hk', hsp]
      rfl
  unfold zcp evR
  simp only [step1_pass h.reach, step5_pass h.reach]
  rw [if_neg (by
    rintro (c | c)
    · omega
    · exact c q2), key]

/-! ### What the acceptance and the answer leave of the machine -/

/-- Fields of different classes have different keys. -/
theorem objKey_ne {c d : Nat} (h : c ≠ d) (i f j g : Nat) : objKey c i f ≠ objKey d j g := by
  unfold objKey
  have h1 : i % 2 ^ 24 < 2 ^ 24 := Nat.mod_lt _ (by decide)
  have h2 : f % 2 ^ 8 < 2 ^ 8 := Nat.mod_lt _ (by decide)
  have h3 : j % 2 ^ 24 < 2 ^ 24 := Nat.mod_lt _ (by decide)
  have h4 : g % 2 ^ 8 < 2 ^ 8 := Nat.mod_lt _ (by decide)
  omega

theorem Mach.obj_setObj_cls (m : Mach) {f g : Fld} (h : g.cls ≠ f.cls) (i j v : Nat) : (m.setObj f i v).obj g j = m.obj g j :=
  Mach.obj_setObj_other _ _ _ _ _ _ (objKey_ne h j g.num i f.num)

theorem Mach.obj_bump_cls (m : Mach) {f g : Fld} (h : g.cls ≠ f.cls) (i j n : Nat) : (m.bump f i n).obj g j = m.obj g j :=
  Mach.obj_setObj_cls _ h ..

/-- The acceptance changes the instant, object fields of its queue, its session's time, its queue, its pool and the name records carry. -/
theorem Mach.intake_eq (m : Mach) (msg : Msg) :
    m.intake msg = { m with
      now := max m.now msg.t
      objs := (m.intake msg).objs
      conns := (m.intake msg).conns
      cqs := (m.intake msg).cqs
      pools := (m.intake msg).pools
      sys := (m.intake msg).sys } := by
  unfold Mach.intake Mach.spend
  simp only []
  split
  · rfl
  · split <;> rfl

/-- Records of the request in execution carry the name of its session (R194). -/
@[simp] theorem Mach.intake_sys (m : Mach) (msg : Msg) :
    (m.intake msg).sys = { m.sys with client := (m.conn msg.conn).name } := by
  have name : (((m.upTo msg.t).updConn msg.conn (fun c => { c with lastAt := max m.now msg.t })).conn msg.conn).name =
      (m.conn msg.conn).name := by
    rw [Mach.updConn_conn]
    rfl
  have said : ∀ k : Mach, k.sys = m.sys → (k.conn msg.conn).name = (m.conn msg.conn).name →
      (k.entered msg).sys = { m.sys with client := (m.conn msg.conn).name } := fun k hs hn => by
    rw [← hs, ← hn]
    rfl
  unfold Mach.intake Mach.spend
  simp only []
  refine said _ ?_ ?_ <;> split
  · rfl
  · split <;> rfl
  · exact name
  · split <;> exact name

@[simp] theorem Mach.outSync_obj (m : Mach) (q : Nat) {g : Fld} (h : g.cls ≠ F.cqOUTSTANDING.cls) (j : Nat) :
    (m.outSync q).obj g j = m.obj g j := Mach.obj_setObj_cls _ h ..

/-- An object field of another class is as it was before the acceptance. -/
theorem Mach.intake_obj (m : Mach) (msg : Msg) {g : Fld} (h : g.cls ≠ F.cqNEXT_SEQ.cls) (j : Nat) :
    (m.intake msg).obj g j = m.obj g j := by
  unfold Mach.intake Mach.spend
  simp only []
  have e : ∀ m : Mach, (m.entered msg).obj g j = m.obj g j := fun m =>
    (Mach.outSync_obj (m.updCq msg.queue (fun c => { c with asm := none })) msg.queue h j).trans (Mach.updCq_obj ..)
  rw [e, Mach.updCq_obj, Mach.obj_bump_cls (f := F.cqEXECUTED) _ h, Mach.obj_setObj_cls _ h]
  split
  · rfl
  · split <;> rfl

@[simp] theorem Mach.intake_now (m : Mach) (msg : Msg) : (m.intake msg).now = max m.now msg.t := by rw [Mach.intake_eq]
@[simp] theorem Mach.intake_sent (m : Mach) (msg : Msg) : (m.intake msg).sent = m.sent := by rw [Mach.intake_eq]
@[simp] theorem Mach.intake_fresh (m : Mach) (msg : Msg) : (m.intake msg).fresh = m.fresh := by rw [Mach.intake_eq]
@[simp] theorem Mach.intake_time (m : Mach) (msg : Msg) : (m.intake msg).time = m.time := by rw [Mach.intake_eq]
@[simp] theorem Mach.intake_parts (m : Mach) (msg : Msg) : (m.intake msg).parts = m.parts := by rw [Mach.intake_eq]
@[simp] theorem Mach.intake_engines (m : Mach) (msg : Msg) : (m.intake msg).engines = m.engines := by rw [Mach.intake_eq]
@[simp] theorem Mach.intake_recd (m : Mach) (msg : Msg) : (m.intake msg).recd = m.recd := by rw [Mach.intake_eq]
@[simp] theorem Mach.intake_sec (m : Mach) (msg : Msg) : (m.intake msg).sec = m.sec := by rw [Mach.intake_eq]
@[simp] theorem Mach.intake_svc (m : Mach) (msg : Msg) : (m.intake msg).svc = m.svc := by rw [Mach.intake_eq]
@[simp] theorem Mach.intake_cfg (m : Mach) (msg : Msg) : (m.intake msg).cfg = m.cfg := by rw [Mach.intake_eq]
@[simp] theorem Mach.intake_sheet (m : Mach) (msg : Msg) : (m.intake msg).sheet = m.sheet := by rw [Mach.intake_eq]
@[simp] theorem Mach.intake_plans (m : Mach) (msg : Msg) : (m.intake msg).plans = m.plans := by rw [Mach.intake_eq]
@[simp] theorem Mach.intake_subs (m : Mach) (msg : Msg) : (m.intake msg).subs = m.subs := by rw [Mach.intake_eq]
@[simp] theorem Mach.intake_published (m : Mach) (msg : Msg) : (m.intake msg).published = m.published := by rw [Mach.intake_eq]
@[simp] theorem Mach.intake_places (m : Mach) (msg : Msg) : (m.intake msg).places = m.places := by rw [Mach.intake_eq]
@[simp] theorem Mach.intake_trunks (m : Mach) (msg : Msg) : (m.intake msg).trunks = m.trunks := by rw [Mach.intake_eq]
@[simp] theorem Mach.intake_wire (m : Mach) (msg : Msg) : (m.intake msg).wire = m.wire := by rw [Mach.intake_eq]
@[simp] theorem Mach.intake_segs (m : Mach) (msg : Msg) : (m.intake msg).segs = m.segs := by rw [Mach.intake_eq]
@[simp] theorem Mach.intake_nodes (m : Mach) (msg : Msg) : (m.intake msg).nodes = m.nodes := by rw [Mach.intake_eq]
@[simp] theorem Mach.intake_hpBufs (m : Mach) (msg : Msg) : (m.intake msg).hpBufs = m.hpBufs := by rw [Mach.intake_eq]
@[simp] theorem Mach.intake_lcs (m : Mach) (msg : Msg) : (m.intake msg).lcs = m.lcs := by rw [Mach.intake_eq]
@[simp] theorem Mach.intake_ctls (m : Mach) (msg : Msg) : (m.intake msg).ctls = m.ctls := by rw [Mach.intake_eq]
@[simp] theorem Mach.intake_lh (m : Mach) (msg : Msg) : (m.intake msg).lh = m.lh := by rw [Mach.intake_eq]
@[simp] theorem Mach.intake_limpForce (m : Mach) (msg : Msg) : (m.intake msg).limpForce = m.limpForce := by rw [Mach.intake_eq]
@[simp] theorem Mach.intake_senses (m : Mach) (msg : Msg) : (m.intake msg).senses = m.senses := by rw [Mach.intake_eq]
@[simp] theorem Mach.intake_los (m : Mach) (msg : Msg) : (m.intake msg).los = m.los := by rw [Mach.intake_eq]
@[simp] theorem Mach.intake_faLow (m : Mach) (msg : Msg) : (m.intake msg).faLow = m.faLow := by rw [Mach.intake_eq]
@[simp] theorem Mach.intake_eps (m : Mach) (msg : Msg) : (m.intake msg).eps = m.eps := by rw [Mach.intake_eq]
@[simp] theorem Mach.intake_prs (m : Mach) (msg : Msg) : (m.intake msg).prs = m.prs := by rw [Mach.intake_eq]
@[simp] theorem Mach.intake_ems (m : Mach) (msg : Msg) : (m.intake msg).ems = m.ems := by rw [Mach.intake_eq]
@[simp] theorem Mach.intake_axs (m : Mach) (msg : Msg) : (m.intake msg).axs = m.axs := by rw [Mach.intake_eq]
@[simp] theorem Mach.intake_ggs (m : Mach) (msg : Msg) : (m.intake msg).ggs = m.ggs := by rw [Mach.intake_eq]
@[simp] theorem Mach.intake_mss (m : Mach) (msg : Msg) : (m.intake msg).mss = m.mss := by rw [Mach.intake_eq]
@[simp] theorem Mach.intake_ceAxes (m : Mach) (msg : Msg) : (m.intake msg).ceAxes = m.ceAxes := by rw [Mach.intake_eq]
@[simp] theorem Mach.intake_ceGroups (m : Mach) (msg : Msg) : (m.intake msg).ceGroups = m.ceGroups := by rw [Mach.intake_eq]
@[simp] theorem Mach.intake_doors (m : Mach) (msg : Msg) : (m.intake msg).doors = m.doors := by rw [Mach.intake_eq]
@[simp] theorem Mach.intake_boards (m : Mach) (msg : Msg) : (m.intake msg).boards = m.boards := by rw [Mach.intake_eq]
@[simp] theorem Mach.intake_di (m : Mach) (msg : Msg) : (m.intake msg).di = m.di := by rw [Mach.intake_eq]
@[simp] theorem Mach.intake_alarms (m : Mach) (msg : Msg) : (m.intake msg).alarms = m.alarms := by rw [Mach.intake_eq]
@[simp] theorem Mach.intake_floods (m : Mach) (msg : Msg) : (m.intake msg).floods = m.floods := by rw [Mach.intake_eq]
@[simp] theorem Mach.intake_matrix (m : Mach) (msg : Msg) : (m.intake msg).matrix = m.matrix := by rw [Mach.intake_eq]
@[simp] theorem Mach.intake_matrixOld (m : Mach) (msg : Msg) : (m.intake msg).matrixOld = m.matrixOld := by rw [Mach.intake_eq]
@[simp] theorem Mach.intake_matrixWait (m : Mach) (msg : Msg) : (m.intake msg).matrixWait = m.matrixWait := by rw [Mach.intake_eq]
@[simp] theorem Mach.intake_matrixStage (m : Mach) (msg : Msg) : (m.intake msg).matrixStage = m.matrixStage := by rw [Mach.intake_eq]
@[simp] theorem Mach.intake_effs (m : Mach) (msg : Msg) : (m.intake msg).effs = m.effs := by rw [Mach.intake_eq]
@[simp] theorem Mach.intake_gauge (m : Mach) (msg : Msg) : (m.intake msg).gauge = m.gauge := by rw [Mach.intake_eq]
@[simp] theorem Mach.intake_isl (m : Mach) (msg : Msg) : (m.intake msg).isl = m.isl := by rw [Mach.intake_eq]
@[simp] theorem Mach.intake_pm (m : Mach) (msg : Msg) : (m.intake msg).pm = m.pm := by rw [Mach.intake_eq]

/-- Sending a message changes nothing but what has been sent. -/
theorem Mach.send_eq (m : Mach) (o : OutMsg) : m.send o = { m with sent := (m.send o).sent } := by
  unfold Mach.send
  simp only []
  split <;> rfl

/-- The answer of a request changes its queue's cache, what has been sent, and BUSY_REPLIES where it is BUSY. -/
theorem Mach.answer_eq (m : Mach) (msg : Msg) (st : Nat) (fs : List Item) :
    m.answer msg st fs = { m with
      cqs := (m.answer msg st fs).cqs
      sent := (m.answer msg st fs).sent
      objs := (m.when (st == stBUSY) (fun m => m.bump F.cqBUSY_REPLIES msg.queue)).objs } := by
  unfold Mach.answer Mach.reply Mach.when
  simp only []
  split
  · split <;> rfl
  · rw [Mach.send_eq]
    split <;> rfl

@[simp] theorem Mach.answer_now (m : Mach) (msg : Msg) (st : Nat) (fs : List Item) : (m.answer msg st fs).now = m.now := by rw [Mach.answer_eq]
@[simp] theorem Mach.answer_conns (m : Mach) (msg : Msg) (st : Nat) (fs : List Item) : (m.answer msg st fs).conns = m.conns := by rw [Mach.answer_eq]
@[simp] theorem Mach.answer_pools (m : Mach) (msg : Msg) (st : Nat) (fs : List Item) : (m.answer msg st fs).pools = m.pools := by rw [Mach.answer_eq]
@[simp] theorem Mach.answer_sys (m : Mach) (msg : Msg) (st : Nat) (fs : List Item) : (m.answer msg st fs).sys = m.sys := by rw [Mach.answer_eq]
@[simp] theorem Mach.answer_fresh (m : Mach) (msg : Msg) (st : Nat) (fs : List Item) : (m.answer msg st fs).fresh = m.fresh := by rw [Mach.answer_eq]
@[simp] theorem Mach.answer_time (m : Mach) (msg : Msg) (st : Nat) (fs : List Item) : (m.answer msg st fs).time = m.time := by rw [Mach.answer_eq]
@[simp] theorem Mach.answer_parts (m : Mach) (msg : Msg) (st : Nat) (fs : List Item) : (m.answer msg st fs).parts = m.parts := by rw [Mach.answer_eq]
@[simp] theorem Mach.answer_engines (m : Mach) (msg : Msg) (st : Nat) (fs : List Item) : (m.answer msg st fs).engines = m.engines := by rw [Mach.answer_eq]
@[simp] theorem Mach.answer_recd (m : Mach) (msg : Msg) (st : Nat) (fs : List Item) : (m.answer msg st fs).recd = m.recd := by rw [Mach.answer_eq]
@[simp] theorem Mach.answer_sec (m : Mach) (msg : Msg) (st : Nat) (fs : List Item) : (m.answer msg st fs).sec = m.sec := by rw [Mach.answer_eq]
@[simp] theorem Mach.answer_svc (m : Mach) (msg : Msg) (st : Nat) (fs : List Item) : (m.answer msg st fs).svc = m.svc := by rw [Mach.answer_eq]
@[simp] theorem Mach.answer_cfg (m : Mach) (msg : Msg) (st : Nat) (fs : List Item) : (m.answer msg st fs).cfg = m.cfg := by rw [Mach.answer_eq]
@[simp] theorem Mach.answer_sheet (m : Mach) (msg : Msg) (st : Nat) (fs : List Item) : (m.answer msg st fs).sheet = m.sheet := by rw [Mach.answer_eq]
@[simp] theorem Mach.answer_plans (m : Mach) (msg : Msg) (st : Nat) (fs : List Item) : (m.answer msg st fs).plans = m.plans := by rw [Mach.answer_eq]
@[simp] theorem Mach.answer_subs (m : Mach) (msg : Msg) (st : Nat) (fs : List Item) : (m.answer msg st fs).subs = m.subs := by rw [Mach.answer_eq]
@[simp] theorem Mach.answer_published (m : Mach) (msg : Msg) (st : Nat) (fs : List Item) : (m.answer msg st fs).published = m.published := by rw [Mach.answer_eq]
@[simp] theorem Mach.answer_places (m : Mach) (msg : Msg) (st : Nat) (fs : List Item) : (m.answer msg st fs).places = m.places := by rw [Mach.answer_eq]
@[simp] theorem Mach.answer_trunks (m : Mach) (msg : Msg) (st : Nat) (fs : List Item) : (m.answer msg st fs).trunks = m.trunks := by rw [Mach.answer_eq]
@[simp] theorem Mach.answer_wire (m : Mach) (msg : Msg) (st : Nat) (fs : List Item) : (m.answer msg st fs).wire = m.wire := by rw [Mach.answer_eq]
@[simp] theorem Mach.answer_segs (m : Mach) (msg : Msg) (st : Nat) (fs : List Item) : (m.answer msg st fs).segs = m.segs := by rw [Mach.answer_eq]
@[simp] theorem Mach.answer_nodes (m : Mach) (msg : Msg) (st : Nat) (fs : List Item) : (m.answer msg st fs).nodes = m.nodes := by rw [Mach.answer_eq]
@[simp] theorem Mach.answer_hpBufs (m : Mach) (msg : Msg) (st : Nat) (fs : List Item) : (m.answer msg st fs).hpBufs = m.hpBufs := by rw [Mach.answer_eq]
@[simp] theorem Mach.answer_lcs (m : Mach) (msg : Msg) (st : Nat) (fs : List Item) : (m.answer msg st fs).lcs = m.lcs := by rw [Mach.answer_eq]
@[simp] theorem Mach.answer_ctls (m : Mach) (msg : Msg) (st : Nat) (fs : List Item) : (m.answer msg st fs).ctls = m.ctls := by rw [Mach.answer_eq]
@[simp] theorem Mach.answer_lh (m : Mach) (msg : Msg) (st : Nat) (fs : List Item) : (m.answer msg st fs).lh = m.lh := by rw [Mach.answer_eq]
@[simp] theorem Mach.answer_limpForce (m : Mach) (msg : Msg) (st : Nat) (fs : List Item) : (m.answer msg st fs).limpForce = m.limpForce := by rw [Mach.answer_eq]
@[simp] theorem Mach.answer_senses (m : Mach) (msg : Msg) (st : Nat) (fs : List Item) : (m.answer msg st fs).senses = m.senses := by rw [Mach.answer_eq]
@[simp] theorem Mach.answer_los (m : Mach) (msg : Msg) (st : Nat) (fs : List Item) : (m.answer msg st fs).los = m.los := by rw [Mach.answer_eq]
@[simp] theorem Mach.answer_faLow (m : Mach) (msg : Msg) (st : Nat) (fs : List Item) : (m.answer msg st fs).faLow = m.faLow := by rw [Mach.answer_eq]
@[simp] theorem Mach.answer_eps (m : Mach) (msg : Msg) (st : Nat) (fs : List Item) : (m.answer msg st fs).eps = m.eps := by rw [Mach.answer_eq]
@[simp] theorem Mach.answer_prs (m : Mach) (msg : Msg) (st : Nat) (fs : List Item) : (m.answer msg st fs).prs = m.prs := by rw [Mach.answer_eq]
@[simp] theorem Mach.answer_ems (m : Mach) (msg : Msg) (st : Nat) (fs : List Item) : (m.answer msg st fs).ems = m.ems := by rw [Mach.answer_eq]
@[simp] theorem Mach.answer_axs (m : Mach) (msg : Msg) (st : Nat) (fs : List Item) : (m.answer msg st fs).axs = m.axs := by rw [Mach.answer_eq]
@[simp] theorem Mach.answer_ggs (m : Mach) (msg : Msg) (st : Nat) (fs : List Item) : (m.answer msg st fs).ggs = m.ggs := by rw [Mach.answer_eq]
@[simp] theorem Mach.answer_mss (m : Mach) (msg : Msg) (st : Nat) (fs : List Item) : (m.answer msg st fs).mss = m.mss := by rw [Mach.answer_eq]
@[simp] theorem Mach.answer_ceAxes (m : Mach) (msg : Msg) (st : Nat) (fs : List Item) : (m.answer msg st fs).ceAxes = m.ceAxes := by rw [Mach.answer_eq]
@[simp] theorem Mach.answer_ceGroups (m : Mach) (msg : Msg) (st : Nat) (fs : List Item) : (m.answer msg st fs).ceGroups = m.ceGroups := by rw [Mach.answer_eq]
@[simp] theorem Mach.answer_doors (m : Mach) (msg : Msg) (st : Nat) (fs : List Item) : (m.answer msg st fs).doors = m.doors := by rw [Mach.answer_eq]
@[simp] theorem Mach.answer_boards (m : Mach) (msg : Msg) (st : Nat) (fs : List Item) : (m.answer msg st fs).boards = m.boards := by rw [Mach.answer_eq]
@[simp] theorem Mach.answer_di (m : Mach) (msg : Msg) (st : Nat) (fs : List Item) : (m.answer msg st fs).di = m.di := by rw [Mach.answer_eq]
@[simp] theorem Mach.answer_alarms (m : Mach) (msg : Msg) (st : Nat) (fs : List Item) : (m.answer msg st fs).alarms = m.alarms := by rw [Mach.answer_eq]
@[simp] theorem Mach.answer_floods (m : Mach) (msg : Msg) (st : Nat) (fs : List Item) : (m.answer msg st fs).floods = m.floods := by rw [Mach.answer_eq]
@[simp] theorem Mach.answer_matrix (m : Mach) (msg : Msg) (st : Nat) (fs : List Item) : (m.answer msg st fs).matrix = m.matrix := by rw [Mach.answer_eq]
@[simp] theorem Mach.answer_matrixOld (m : Mach) (msg : Msg) (st : Nat) (fs : List Item) : (m.answer msg st fs).matrixOld = m.matrixOld := by rw [Mach.answer_eq]
@[simp] theorem Mach.answer_matrixWait (m : Mach) (msg : Msg) (st : Nat) (fs : List Item) : (m.answer msg st fs).matrixWait = m.matrixWait := by rw [Mach.answer_eq]
@[simp] theorem Mach.answer_matrixStage (m : Mach) (msg : Msg) (st : Nat) (fs : List Item) : (m.answer msg st fs).matrixStage = m.matrixStage := by rw [Mach.answer_eq]
@[simp] theorem Mach.answer_effs (m : Mach) (msg : Msg) (st : Nat) (fs : List Item) : (m.answer msg st fs).effs = m.effs := by rw [Mach.answer_eq]
@[simp] theorem Mach.answer_gauge (m : Mach) (msg : Msg) (st : Nat) (fs : List Item) : (m.answer msg st fs).gauge = m.gauge := by rw [Mach.answer_eq]
@[simp] theorem Mach.answer_isl (m : Mach) (msg : Msg) (st : Nat) (fs : List Item) : (m.answer msg st fs).isl = m.isl := by rw [Mach.answer_eq]
@[simp] theorem Mach.answer_pm (m : Mach) (msg : Msg) (st : Nat) (fs : List Item) : (m.answer msg st fs).pm = m.pm := by rw [Mach.answer_eq]

/-- An object field of another class, or any of a request not answered BUSY, is as before the answer. -/
theorem Mach.answer_obj (m : Mach) (msg : Msg) (st : Nat) (fs : List Item) (f : Fld) (i : Nat)
    (h : f.cls ≠ F.cqBUSY_REPLIES.cls ∨ st ≠ stBUSY) : (m.answer msg st fs).obj f i = m.obj f i := by
  have e : (m.answer msg st fs).obj f i = (m.when (st == stBUSY) (fun m => m.bump F.cqBUSY_REPLIES msg.queue)).obj f i := by
    rw [Mach.answer_eq]
    rfl
  rw [e]
  unfold Mach.when
  split
  · next hb => exact Mach.obj_bump_cls (f := F.cqBUSY_REPLIES) m (h.resolve_right (fun c => c (beq_iff_eq.mp hb))) ..
  · rfl

/-- The answer is the last reply in the queue's cache. -/
theorem Mach.answer_last (m : Mach) (msg : Msg) (st : Nat) (fs : List Item) :
    (((m.answer msg st fs).cq msg.queue).cache.getLast?.map (fun c => (c.seq, c.opcode, c.status, c.fields))) =
      some (msg.seq, msg.opcode, st, fs) := by
  have key : ∀ (m : Mach) (c : Cached), ((m.cacheReply msg.queue c).cq msg.queue).cache.getLast? = some c := by
    intro m c
    unfold Mach.cacheReply
    rw [Mach.updCq_cq]
    simp only []
    have : (m.cq msg.queue).cache.length + 1 - 32 ≤ (m.cq msg.queue).cache.length := by omega
    rw [List.drop_append_of_le_length this, List.getLast?_append]
    rfl
  unfold Mach.answer
  simp only []
  split
  · rw [key]
    rfl
  · unfold Mach.reply
    rw [Mach.send_eq]
    refine (congrArg (Option.map _) (key _ _)).trans rfl

end Sys2Proof.Machine
end

