-- ==== Sys2Proof/WellFormed.lean ====
section
/-! DEFINITION. Which commands are well formed: a rung operand as its form allows (R99, R100), a message whose lengths agree and whose
fields fit their widths (R197), a publication frame whose entries agree with its count (R57). -/
namespace Sys2Proof

/-- Operand forms (R99). -/
inductive Form
  | pbit | pq | pword (slots : Nat) | ibit | iword (bytes : Nat) | k | s | j | l | x | c | none
deriving DecidableEq, Repr

/-- The operand obeys its form. -/
def Form.ok (f : Form) (op : Operand) : Bool :=
  match f with
  | .pbit => true
  | .pq => decide (op.toNat % 16 < 4)
  | .pword n => op.toNat % 16 == 0 && op.toNat / 16 % n == 0
  | .ibit => !op.getLsbD 23 || decide (op.toNat % 2 ^ 23 / 8 < 448)
  | .iword n => op.toNat % 2 ^ 23 % n == 0 && (!op.getLsbD 23 || decide (op.toNat % 2 ^ 23 + n ≤ 448))
  | .k => true
  | .s => decide (op.toNat < 64)
  | .j => decide (op.toNat ≠ 0)
  | .l => decide (op.toNat / 2 ^ 12 ≠ 0)
  | .x => true
  | .c => true
  | .none => decide (op.toNat = 0)

/-- The message's lengths agree and its fields fit their widths. -/
def Msg.ok (m : Msg) : Bool :=
  decide (m.size = 32 + m.plen) && decide (m.params.length = m.plen) && decide (m.plen ≤ 1400) && m.params.all (fun b => decide (b < 256)) &&
  decide (m.magic < 2 ^ 16) && decide (m.version < 2 ^ 8) && decide (m.flags < 2 ^ 8) && decide (m.queue < 2 ^ 16) &&
  decide (m.opcode < 2 ^ 16) && decide (m.tag < 2 ^ 32) && decide (m.seq < 2 ^ 32) && decide (m.status < 2 ^ 16) &&
  decide (m.part < 2 ^ 8) && decide (m.resv < 2 ^ 24) && decide (m.deadline < 2 ^ 64)

/-- The frame's entries agree with its count. -/
def PubFrame.ok (f : PubFrame) : Bool :=
  decide (f.values.length = f.entryCount) && decide (f.quality.length = f.entryCount) && f.values.all (fun v => decide (v < 2 ^ 16)) &&
  f.quality.all (fun q => decide (q < 4))

/-- Well-formed commands. -/
def Instr.wellFormed : Instr → Bool
  | .ld _ op => Form.ok (.pbit) op
  | .ldn _ op => Form.ok (.pbit) op
  | .and _ op => Form.ok (.pbit) op
  | .andn _ op => Form.ok (.pbit) op
  | .or _ op => Form.ok (.pbit) op
  | .orn _ op => Form.ok (.pbit) op
  | .xor _ op => Form.ok (.pbit) op
  | .st _ op => Form.ok (.pbit) op
  | .stn _ op => Form.ok (.pbit) op
  | .set _ op => Form.ok (.pbit) op
  | .rst _ op => Form.ok (.pbit) op
  | .ldq _ op => Form.ok (.pq) op
  | .ldi _ op => Form.ok (.ibit) op
  | .ldni _ op => Form.ok (.ibit) op
  | .andi _ op => Form.ok (.ibit) op
  | .andni _ op => Form.ok (.ibit) op
  | .ori _ op => Form.ok (.ibit) op
  | .orni _ op => Form.ok (.ibit) op
  | .xori _ op => Form.ok (.ibit) op
  | .sti _ op => Form.ok (.ibit) op
  | .stni _ op => Form.ok (.ibit) op
  | .seti _ op => Form.ok (.ibit) op
  | .rsti _ op => Form.ok (.ibit) op
  | .pe _ op => Form.ok (.ibit) op
  | .ne _ op => Form.ok (.ibit) op
  | .bpush _ op => Form.ok (.none) op
  | .band _ op => Form.ok (.none) op
  | .bor _ op => Form.ok (.none) op
  | .bpeek _ op => Form.ok (.none) op
  | .bpop _ op => Form.ok (.none) op
  | .bdrop _ op => Form.ok (.none) op
  | .not _ op => Form.ok (.none) op
  | .one _ op => Form.ok (.none) op
  | .neg _ op => Form.ok (.none) op
  | .abs _ op => Form.ok (.none) op
  | .wnot _ op => Form.ok (.none) op
  | .lw16 _ op => Form.ok (.pword 1) op
  | .lw32 _ op => Form.ok (.pword 2) op
  | .lw64 _ op => Form.ok (.pword 4) op
  | .lws16 _ op => Form.ok (.pword 1) op
  | .lws32 _ op => Form.ok (.pword 2) op
  | .sw16 _ op => Form.ok (.pword 1) op
  | .sw32 _ op => Form.ok (.pword 2) op
  | .sw64 _ op => Form.ok (.pword 4) op
  | .swc16 _ op => Form.ok (.pword 1) op
  | .swc32 _ op => Form.ok (.pword 2) op
  | .swc64 _ op => Form.ok (.pword 4) op
  | .li8 _ op => Form.ok (.iword 1) op
  | .li16 _ op => Form.ok (.iword 2) op
  | .li32 _ op => Form.ok (.iword 4) op
  | .li64 _ op => Form.ok (.iword 8) op
  | .lis8 _ op => Form.ok (.iword 1) op
  | .lis16 _ op => Form.ok (.iword 2) op
  | .lis32 _ op => Form.ok (.iword 4) op
  | .si8 _ op => Form.ok (.iword 1) op
  | .si16 _ op => Form.ok (.iword 2) op
  | .si32 _ op => Form.ok (.iword 4) op
  | .si64 _ op => Form.ok (.iword 8) op
  | .sic16 _ op => Form.ok (.iword 2) op
  | .sic32 _ op => Form.ok (.iword 4) op
  | .sic64 _ op => Form.ok (.iword 8) op
  | .ldk _ op => Form.ok (.k) op
  | .ldks _ op => Form.ok (.k) op
  | .addk _ op => Form.ok (.k) op
  | .subk _ op => Form.ok (.k) op
  | .mulk _ op => Form.ok (.k) op
  | .divk _ op => Form.ok (.k) op
  | .modk _ op => Form.ok (.k) op
  | .andk _ op => Form.ok (.k) op
  | .ork _ op => Form.ok (.k) op
  | .xork _ op => Form.ok (.k) op
  | .shlk _ op => Form.ok (.s) op
  | .shrk _ op => Form.ok (.s) op
  | .sark _ op => Form.ok (.s) op
  | .maxk _ op => Form.ok (.k) op
  | .mink _ op => Form.ok (.k) op
  | .addi _ op => Form.ok (.iword 4) op
  | .subi _ op => Form.ok (.iword 4) op
  | .muli _ op => Form.ok (.iword 4) op
  | .divi _ op => Form.ok (.iword 4) op
  | .modi _ op => Form.ok (.iword 4) op
  | .andiW _ op => Form.ok (.iword 4) op
  | .oriW _ op => Form.ok (.iword 4) op
  | .xoriW _ op => Form.ok (.iword 4) op
  | .shli _ op => Form.ok (.iword 4) op
  | .shri _ op => Form.ok (.iword 4) op
  | .sari _ op => Form.ok (.iword 4) op
  | .maxi _ op => Form.ok (.iword 4) op
  | .mini _ op => Form.ok (.iword 4) op
  | .eqk _ op => Form.ok (.k) op
  | .nek _ op => Form.ok (.k) op
  | .gtk _ op => Form.ok (.k) op
  | .gek _ op => Form.ok (.k) op
  | .ltk _ op => Form.ok (.k) op
  | .lek _ op => Form.ok (.k) op
  | .gtuk _ op => Form.ok (.k) op
  | .ltuk _ op => Form.ok (.k) op
  | .eqi _ op => Form.ok (.iword 4) op
  | .nei _ op => Form.ok (.iword 4) op
  | .gti _ op => Form.ok (.iword 4) op
  | .gei _ op => Form.ok (.iword 4) op
  | .lti _ op => Form.ok (.iword 4) op
  | .lei _ op => Form.ok (.iword 4) op
  | .gtui _ op => Form.ok (.iword 4) op
  | .ltui _ op => Form.ok (.iword 4) op
  | .addd _ op => Form.ok (.iword 8) op
  | .subd _ op => Form.ok (.iword 8) op
  | .eqd _ op => Form.ok (.iword 8) op
  | .ned _ op => Form.ok (.iword 8) op
  | .gtd _ op => Form.ok (.iword 8) op
  | .ltd _ op => Form.ok (.iword 8) op
  | .gtud _ op => Form.ok (.iword 8) op
  | .ltud _ op => Form.ok (.iword 8) op
  | .wbit _ op => Form.ok (.s) op
  | .wsetb _ op => Form.ok (.s) op
  | .nop _ op => Form.ok (.none) op
  | .endTask _ op => Form.ok (.none) op
  | .jmp _ op => Form.ok (.j) op
  | .jmpc _ op => Form.ok (.j) op
  | .jmpn _ op => Form.ok (.j) op
  | .lpi _ op => Form.ok (.l) op
  | .loop _ op => Form.ok (.l) op
  | .idx _ op => Form.ok (.x) op
  | .call _ op => Form.ok (.c) op
  | .sync _ op => Form.ok (.s) op
  | .storeBufferDrain _ => true
  | .barrierRelease _ _ _ => true
  | .barrierTimeout _ _ _ => true
  | .clapper _ _ _ => true
  | .imageSwap _ _ => true
  | .solveComplete _ _ => true
  | .overrunPublishDeadline _ _ => true
  | .selfTestSliceEnd _ _ _ => true
  | .ceRetestDone _ _ _ => true
  | .gptpSync _ _ => true
  | .timeStepComplete _ => true
  | .gptpAnnounce _ _ => true
  | .grandmasterLost _ => true
  | .holdoverLimitExpiry _ => true
  | .acqTimeout _ _ => true
  | .gzTimeSave _ => true
  | .publicationFrame _ f => f.ok
  | .publicationAbsent _ _ => true
  | .moduleIdAnnounce _ _ _ => true
  | .idConflictClear _ _ => true
  | .dtlsHandshake _ _ _ => true
  | .handshakeTimeout _ _ => true
  | .dtlsConnectionClose _ _ => true
  | .sessionIdleTimeout _ _ => true
  | .fragmentTimeout _ _ => true
  | .eventResend _ _ => true
  | .shedWindow _ _ => true
  | .sessionOpen msg => msg.ok
  | .sessionClose msg => msg.ok
  | .sessionPing msg => msg.ok
  | .queueAttach msg => msg.ok
  | .queueDetach msg => msg.ok
  | .eventAck msg => msg.ok
  | .getObject msg => msg.ok
  | .setObject msg => msg.ok
  | .moduleIdWrite msg => msg.ok
  | .cycleObjectWrite msg => msg.ok
  | .partitionObjectWrite msg => msg.ok
  | .taskObjectWrite msg => msg.ok
  | .placeObjectWrite msg => msg.ok
  | .segmentObjectWrite msg => msg.ok
  | .nodeSerialWrite msg => msg.ok
  | .portModeWrite msg => msg.ok
  | .effectLatchRelease msg => msg.ok
  | .maxShelveMinWrite msg => msg.ok
  | .lowOkWrite msg => msg.ok
  | .rideMsWrite msg => msg.ok
  | .moduleIdentify msg => msg.ok
  | .identifyExpiry _ => true
  | .timeGet msg => msg.ok
  | .timeSet msg => msg.ok
  | .modeSet msg => msg.ok
  | .reset msg => msg.ok
  | .blockQuiesce msg => msg.ok
  | .partStart msg => msg.ok
  | .partHalt msg => msg.ok
  | .partStop msg => msg.ok
  | .loadBegin msg => msg.ok
  | .loadData msg => msg.ok
  | .loadCommit msg _ => msg.ok
  | .loadAbort msg => msg.ok
  | .changeCommit msg _ => msg.ok
  | .ceFence msg => msg.ok
  | .ceRetest msg => msg.ok
  | .pointRead msg => msg.ok
  | .pointWrite msg => msg.ok
  | .trunkDiscover msg => msg.ok
  | .discoveryComplete _ _ => true
  | .nodeAssign msg => msg.ok
  | .nodeUnassign msg => msg.ok
  | .nodeReplace msg => msg.ok
  | .nodeDiagRead msg => msg.ok
  | .nodeConfirmTimeout _ _ => true
  | .gfpInputFrame _ _ => true
  | .disownRepeat _ _ => true
  | .gfpIdentityFrame _ _ _ => true
  | .manageReply _ _ _ _ _ => true
  | .safetyIn _ _ _ _ _ _ => true
  | .trunkLinkLoss _ _ _ _ _ _ _ => true
  | .trunkLinkUp _ _ _ _ _ _ => true
  | .extraReferenceFrame _ _ => true
  | .segInputFrame _ _ => true
  | .join _ _ => true
  | .segIdentity _ _ => true
  | .matchFilterFrame _ _ => true
  | .filterProgramFrame _ _ => true
  | .segFrame _ _ _ => true
  | .segTxEnd _ _ _ _ _ => true
  | .segBusOff _ _ => true
  | .busOffRecovery _ _ => true
  | .transceiverFault _ _ _ => true
  | .segLoadMeasure _ _ _ => true
  | .segListen msg => msg.ok
  | .segListenComplete _ _ _ => true
  | .segTx msg => msg.ok
  | .segTxCancel msg => msg.ok
  | .filterLoad msg => msg.ok
  | .lcShort _ _ => true
  | .limitTimeout _ _ => true
  | .thermal _ _ => true
  | .lcCooled _ _ => true
  | .lcRestartDelay _ _ => true
  | .inrushSegmentEnd _ _ _ => true
  | .railUndervoltage _ _ => true
  | .railRecovered _ _ => true
  | .clampEnd _ _ _ => true
  | .bucketFull _ _ => true
  | .lcOpenLoad _ _ _ => true
  | .senseVisit _ _ _ _ _ _ _ => true
  | .aliveLost2ms _ _ => true
  | .aliveLost50ms _ _ => true
  | .aliveReturn _ _ => true
  | .limpForceChange _ _ => true
  | .lhInputChange _ _ _ => true
  | .lcControllerPower _ _ _ => true
  | .lcUnlock msg => msg.ok
  | .lcClearLatch msg => msg.ok
  | .limpMapWrite msg => msg.ok
  | .loTrim msg => msg.ok
  | .loLoopBreak _ _ => true
  | .loopBreakClear _ _ => true
  | .loRailLow _ _ => true
  | .epEdge _ _ _ _ => true
  | .zEdge _ _ _ => true
  | .hallTransition _ _ _ => true
  | .absoluteRead _ _ _ => true
  | .epStandstill _ _ => true
  | .epFenced _ _ _ => true
  | .probeLatch _ _ _ => true
  | .emEdge _ _ => true
  | .epSetPosition msg => msg.ok
  | .epUnfence msg _ => msg.ok
  | .moveDone _ _ => true
  | .axLimit _ _ _ _ => true
  | .axStall _ _ => true
  | .followingError _ _ => true
  | .msFault _ _ _ => true
  | .msFaultClear _ _ => true
  | .holdDelayExpiry _ _ => true
  | .gearSyncMatched _ _ => true
  | .splice _ _ => true
  | .rundownEnd _ _ => true
  | .axisJog msg => msg.ok
  | .axisStop msg => msg.ok
  | .axisHome msg => msg.ok
  | .doorTick _ _ => true
  | .rowTimeout _ _ => true
  | .stepTimeExpiry _ _ => true
  | .doorCommand msg => msg.ok
  | .doorLearn msg => msg.ok
  | .doorLearned _ _ => true
  | .storyboardLoad msg => msg.ok
  | .shedStageRise _ _ _ _ => true
  | .shedStageFall _ _ _ _ => true
  | .gaugeDisagree _ _ _ => true
  | .gaugeAgree _ _ _ => true
  | .impedanceTestDone _ _ _ => true
  | .impedanceTestPeriod _ => true
  | .capacityLearn _ _ _ => true
  | .cartridgeEndOfLife _ => true
  | .gaugeTest msg => msg.ok
  | .alarmDelayExpiry _ _ => true
  | .shelveExpiry _ _ => true
  | .floodEnd _ _ => true
  | .alarmAck msg => msg.ok
  | .alarmShelve msg => msg.ok
  | .alarmUnshelve msg => msg.ok
  | .effectDelayExpiry _ _ => true
  | .causeMatrixLoad msg => msg.ok
  | .safetyCycle _ _ => true
  | .contactSample _ _ _ _ => true
  | .testPulse _ _ _ => true
  | .discrepancy _ _ => true
  | .connLoss _ _ => true
  | .resetPulse _ _ _ => true
  | .autoRearm _ _ => true
  | .sqDelayExpiry _ _ => true
  | .darkTest _ _ _ => true
  | .sqReadbackFault _ _ => true
  | .sqFaultClear _ _ => true
  | .safetyFault _ _ => true
  | .brakeReleaseDelay _ _ => true
  | .brakeTestOverdue _ _ => true
  | .brakeTest msg => msg.ok
  | .brakeTestStep _ _ _ _ => true
  | .safetyParamWrite msg => msg.ok
  | .slateConfirm msg => msg.ok
  | .confirmKey _ => true
  | .selectKey _ => true
  | .presenceTimeout _ => true
  | .takeFrame _ _ => true
  | .fullTakePeriod _ _ => true
  | .heartbeat _ _ _ => true
  | .heartbeatMissed _ _ => true
  | .partnerLost _ => true
  | .larderRestored _ => true
  | .takeoverReady _ => true
  | .drySolve _ _ _ => true
  | .standinHealth _ => true
  | .pairListenEnd _ => true
  | .aloneWaitExpiry _ => true
  | .switchInstant _ => true
  | .switchMaxWait _ => true
  | .cleanPeriodElapsed _ => true
  | .pairSet msg => msg.ok
  | .switchover msg => msg.ok
  | .handback msg => msg.ok
  | .fullTake msg => msg.ok
  | .recordCommit _ => true
  | .flashPageProgram _ _ => true
  | .flashBlockFail _ _ => true
  | .windowIdleExpiry _ _ => true
  | .openWindow msg => msg.ok
  | .readWindow msg => msg.ok
  | .closeWindow msg => msg.ok
  | .mainsPowerOn _ => true
  | .brownOut _ _ => true
  | .resetN _ _ _ => true
  | .watchdogExpiry _ => true
  | .supervisorRestartDone _ => true
  | .bringupStepComplete _ _ => true
  | .resetTakesEffect _ => true
  | .partitionResetDone _ _ _ => true
  | .blockReset _ _ _ => true
  | .quiesceDone _ _ _ => true
  | .quiesceExpiry _ _ => true
  | .moduleLevelFault _ _ => true
  | .mainsLost _ _ => true
  | .mainsReturn _ => true
  | .wrapStart _ => true
  | .wrapStepComplete _ => true
  | .lowEntry _ => true
  | .debugLeaseExpiry _ => true
  | .authBlockExpiry _ => true
  | .mkaSecured _ _ _ _ => true
  | .sakRenewal _ _ _ => true
  | .certGet msg => msg.ok
  | .certInstall msg => msg.ok
  | .debugAuth msg => msg.ok
  | .debugClose msg => msg.ok
  | .lifecycleSet msg => msg.ok
  | .updateBegin msg => msg.ok
  | .updateData msg => msg.ok
  | .imageVerified _ _ => true
  | .updateActivate msg => msg.ok
  | .activationDone _ _ => true
  | .trialEnd _ => true
  | .updateIdleExpiry _ => true
  | .loadIdleExpiry _ => true
  | .calibrate msg => msg.ok
  | .calibrated _ _ _ => true
  | .cartridgeReplace msg => msg.ok
  | .cartridgeRemoved _ => true
  | .cartridgeInserted _ _ => true
  | .prechargeDone _ => true
  | .cartridgeWindowExpiry _ => true
  | .digitalInputChange _ _ _ => true
  | .debugMemoryWrite _ _ _ _ => true
  | .debugReset _ => true
  | .segFrameError _ _ _ _ _ => true
  | .memoryScrub _ _ _ _ _ => true
  | .standinHubTest _ _ => true
  | .violationSummary _ _ => true
  | .demotionSelfTestDone _ _ => true
  | .supervisorRestartTimeout _ => true
  | .cartridgeLevelChange _ _ => true
  | .operatingSecond _ => true
  | .segmentGateOpen _ _ => true
  | .pairControlFrame _ _ => true
  | .displayPageTimeout _ => true
  | .railUvStaggeredReturn _ _ => true
  | .axisStepEdge _ _ => true

end Sys2Proof
end

