-- ==== Sys2Proof/Tests/Slice0.lean ====
section
/-! SUPPORT. Tests: ill-formed terms each check of WellFormed refuses; single steps whose results the manual gives in its worked examples
and rules; for the statements with hypotheses, states and operands that meet them (`witness_<statement>`), where a statement of several
clauses has one for each. -/
open Sys2Proof Sys2Proof.Machine
/-- Object fields written over a machine. -/
def Sys2Proof.Machine.Mach.sets (m : Mach) (l : List (Fld × Nat × Nat)) : Mach := l.foldl (fun m e => m.setObj e.1 e.2.1 e.2.2) m
def Sys2Proof.Machine.Mach.role (m : Mach) (r : Nat) : Mach := m.updConn 0 (fun c => { c with role := r })

namespace Sys2Proof.Tests
set_option Elab.async false
set_option maxRecDepth 10000


/-- A module in RUN with supply and mains, a secured session on connection 0 that holds queues 0 (priority) and 20 (bulk). -/
def base : Mach :=
  ({ sys := { off := false, bringup := 0, mains := true },
     conns := [(0, { state := 2, tag := 5, role := 2, queues := 2 ^ 64 - 1, roleMask := 31 })],
     cqs := [(0, { conn := 0 }), (1, { conn := 0 }), (20, { conn := 0 })] } : Mach).sets [(F.modeMODE, 0, 1)]

def st (f : Mach → Mach) : State := { m := f base }
def sto (l : List (Fld × Nat × Nat)) (f : Mach → Mach := id) : State := st (fun m => f (m.sets l))

def rq (q op : Nat) (is : List Item) (s : State := st id) : Msg :=
  let ps := itemBytes is
  { conn := 0, t := 1000, size := 32 + ps.length, magic := 0x5A43, version := 1, flags := 0, queue := q, opcode := op, tag := 5,
    seq := s.m.obj F.cqNEXT_SEQ q, status := 0, plen := ps.length, part := 0xFF, resv := 0, deadline := 0, params := ps }
def bq (card : Card) (is : List Item) : Msg := rq 20 card.op is

def kOf (is : List Item) : ClassDef := ((targetOf is).toOption.map (·.1)).getD ⟨0, 0, 0, []⟩
def fOf (is : List Item) : Option FieldDef := ((targetOf is).toOption.bind (·.2.2))
def fdOf (is : List Item) : FieldDef := (fOf is).getD ⟨0, 0, 0, 0, 0, .rw, false, 0, []⟩
/-- SET_OBJECT items for one field. -/
def setIs (f : Fld) (i v : Nat) : List Item := [itm 1 2 f.cls, itm 2 2 i, itm 3 1 f.num, itm 4 (container f.bits) v]
def sc (l : List (Fld × Nat × Nat)) (f : Mach → Mach := id) : State := sto ((F.modeMODE, 0, 0) :: l) f
def ramSt (ws : List W) (s : State) : State := { s with ram := wr s.ram ws }
def okOr {α β : Type} (e : Except α β) (d : β) : β := match e with | .ok x => x | .error _ => d
def pkg0 : Pkg := ⟨1, [], [], [], [], [], [], [], [], [], [], [], []⟩
/-- Engine 0 of partition 0, RUNNING, at its instruction in a task's root frame. -/
def rg (f : Engine → Engine) (l : List (Fld × Nat × Nat) := []) (g : Mach → Mach := id) : State :=
  sto ([(F.cePARTITION, 0, 0), (F.partSTATE, 0, 1), (F.partCE_SET, 0, 1), (F.partINST_SIZE, 0, 4096)] ++ l)
    (fun m => g (m.updEng 0 (fun e => f { e with run := 1, frames := 1, pc := 100, clk := 50 })))
def ce0 : Fin 8 := 0
def ci0 : ClapIn := ⟨[], [], [], [], 0⟩
def setA : Table Nat := [(0,1),(12,100),(14,184),(15,11),(16,10),(272,1),(274,3),(276,244),(277,1),(278,144),(279,1),(280,100),(288,255),(304,255),(320,255),
  (336,3),(337,1),(340,100),(342,5),(344,24),(346,50),(385,0x50)] ++ (List.range 14).map (fun i => (386 + i, 255)) ++ [(400,127),(403,3),(412,31)] ++
  [(2400,15)] ++ (List.range 14).map (fun i => (2402 + i, 255)) ++ [(2417,128),(2419,1),(2426,100),(4472,1),(4474,3),(4475,255),(4476,50)]
/-- A Safety Island in ACTIVE with set A in force, its functions armed. -/
def isA (f : IslSt → IslSt := id) (l : List (Fld × Nat × Nat) := []) (g : Mach → Mach := id) : State :=
  sto ([(F.islSTATE,0,1),(F.sfSTATE,0,1),(F.sfSTATE,63,1)] ++ l) (fun m => g (Mach.updIsl m (fun i => f { i with
    set := setA
    pairs := [(15, { a := { closed := true }, b := { closed := true }, phase := 0 })]
    conns := [(255, { last := some 65535, healthy := true })] })))

def mPing : Msg := bq sessionPingCard []
def wRun : State := st id
def wRequestProtocol_1_i := Instr.sessionPing mPing
def wRequestProtocol_2_s : State := { wRun with m := { base with conns := [] } }
def wRequestProtocol_3_msg : Msg := { mPing with magic := 1 }
def wRequestProtocol_3_i := Instr.sessionPing wRequestProtocol_3_msg
def wRequestProtocol_5_msg : Msg := { mPing with version := 2 }
def wRequestProtocol_5_i := Instr.sessionPing wRequestProtocol_5_msg
def wRequestProtocol_6_msg : Msg := { mPing with size := 33 }
def wRequestProtocol_6_i := Instr.sessionPing wRequestProtocol_6_msg
def wRequestProtocol_7_msg : Msg := { mPing with tag := 6 }
def wRequestProtocol_7_i := Instr.sessionPing wRequestProtocol_7_msg
def wRequestProtocol_8_msg : Msg := { mPing with queue := 64 }
def wRequestProtocol_8_i := Instr.sessionPing wRequestProtocol_8_msg
def wRequestProtocol_9_msg : Msg := { mPing with seq := 1 }
def wRequestProtocol_9_i := Instr.sessionPing wRequestProtocol_9_msg
def wRequestProtocol_11_c := (⟨2^32-32, true, false, 3, 0, 255, 0, []⟩ : Cached)
def wRequestProtocol_11_s : State := st (fun m => m.updCq 20 (fun q => { q with accepted := 40, cache := [wRequestProtocol_11_c] }))
def wRequestProtocol_11_msg : Msg := { mPing with seq := 2^32-32 }
def wRequestProtocol_11_i := Instr.sessionPing wRequestProtocol_11_msg
def wRequestProtocol_12_s : State := sto [(F.cqOUTSTANDING,20,16)]
def wRequestProtocol_12_i := Instr.sessionPing mPing
def mFrag (i : Nat) : Msg := { mPing with flags := 32, plen := 7, size := 39, params := [0xF2, 0, 2, 0, i, 7, 8] }
def aFrag : Asm := ⟨3, 255, 0, 45, 5, 900, false, [1, 2]⟩
def wRequestProtocol_13_msg : Msg := mFrag 0
def wRequestProtocol_13_i := Instr.sessionPing wRequestProtocol_13_msg
def wRequestProtocol_13_bs := ([7, 8] : List Nat)
def wRequestProtocol_13_j := (0 : Nat)
def wRequestProtocol_14_j := (1 : Nat)
def wRequestProtocol_14_msg : Msg := mFrag 1
def wRequestProtocol_14_i := Instr.sessionPing wRequestProtocol_14_msg
def wRequestProtocol_15_s : State := st (fun m => m.updCq 20 (fun q => { q with asm := some aFrag }))
def wRequestProtocol_15_a := (aFrag : Asm)
def wRequestProtocol_15_j := (46 : Nat)
def wRequestProtocol_15_msg : Msg := mFrag 46
def wRequestProtocol_15_i := Instr.sessionPing wRequestProtocol_15_msg
def wRequestProtocol_16_j := (47 : Nat)
def wRequestProtocol_16_msg : Msg := mFrag 47
def wRequestProtocol_16_i := Instr.sessionPing wRequestProtocol_16_msg
def wRequestProtocol_17_j := (46 : Nat)
def wRequestProtocol_17_msg : Msg := { mFrag 46 with part := 1 }
def wRequestProtocol_17_i := Instr.sessionPing wRequestProtocol_17_msg
def wRequestProtocol_18_s : State := st (fun m => m.updCq 20 (fun q => { q with running := some (mPing, 0) }))
def wRequestProtocol_18_i := Instr.sessionPing mPing
def wConnectionEvents_1_t : Nat := (12*10^9 : Nat)
def wConnectionEvents_1_conn := (3 : Fin 32)
def wConnectionEvents_1_q := (20 : Fin 64)
def wConnectionEvents_1_s : State := sto [(F.secLIFECYCLE,0,1)]
def wConnectionEvents_1_h := (⟨0, 47230, true, 0, true, true, true, false, none, false⟩ : Hello)
def wConnectionEvents_1_c := (⟨4, true, true, true, 7, 0, 9⟩ : Chain)
def wConnectionEvents_1_hx := { wConnectionEvents_1_h with done := some wConnectionEvents_1_c }
def wConnectionEvents_1_g := ((17, 15) : Nat × Nat)
def wConnectionEvents_2_s : State := st (fun m => m.updConn 3 (fun k => { k with state := 1, helloAt := 2*10^9 }))
def wConnectionEvents_3_s : State := st (fun m => (m.updConn 3 (fun k => { k with state := 2, tag := 9 })).updCq 20 (fun k => { k with conn := 3 }))
def wConnectionEvents_4_s : State := st (fun m => (m.updConn 3 (fun k => { k with state := 2, tag := 9, idleS := 12, lastAt := 0 })).updCq 20 (fun k => { k with conn := 3 }))
def wConnectionEvents_5_a := (⟨1, 255, 0, 0, 6, 11*10^9, false, [1]⟩ : Asm)
def wConnectionEvents_5_s : State := st (fun m => m.updCq 20 (fun k => { k with asm := some wConnectionEvents_5_a }))
def wConnectionEvents_7_s : State := st (fun m => m.updSys (fun x => { x with hiLoads := 2 }))
def wConnectionEvents_7_load := (90 : Nat)
def isOpen : List Item := [itm 1 1 2, itm 2 2 5]
def wSessionCommands_1_s : State := st (fun m => m.updConn 0 (fun k => { k with tag := 0 }))
def wSessionCommands_1_msg : Msg := { bq cardSessionOpen isOpen with tag := 0 }
def wSessionCommands_2_is : List Item := []
def wSessionCommands_2_msg : Msg := bq sessionCloseCard []
def wSessionCommands_3_msg : Msg := bq sessionPingCard []
def wSessionCommands_4_msg : Msg := bq queueDetachCard []
def wSessionCommands_5_is : List Item := [itm 1 1 0, itm 2 4 77]
def wSessionCommands_5_msg : Msg := { bq cardQueueAttach wSessionCommands_5_is with queue := 63 }
def wSessionCommands_6_is : List Item := [itm 1 1 1, itm 3 4 1]
def wSessionCommands_6_s : State := sto [(F.cqQUEUE_EPOCH,63,1)]
def wSessionCommands_6_msg : Msg := { bq cardQueueAttach wSessionCommands_6_is with queue := 63 }
def wSessionCommands_7_is : List Item := [itm 1 4 1]
def wSessionCommands_7_s : State := sto [(F.cqEV_NEXT,20,3)] (fun m => m.updCq 20 (fun k => { k with held := [⟨1, 0x8001, 0, 255, 0, []⟩, ⟨2, 0x8001, 0, 255, 0, []⟩], sentEv := 1 }))
def wSessionCommands_7_msg : Msg := bq eventAckCard wSessionCommands_7_is
def wObjectAccess_1_is : List Item := [itm 1 2 0x0001, itm 2 2 0, itm 3 1 0]
def wObjectAccess_1_msg : Msg := bq getObjectCard wObjectAccess_1_is
def wObjectAccess_1_k := kOf wObjectAccess_1_is
def wObjectAccess_1_i := (0 : Nat)
def wObjectAccess_1_d := fdOf wObjectAccess_1_is
def wObjectAccess_3_is : List Item := setIs F.partAUTOSTART 7 1
def wObjectAccess_3_s : State := sc []
def wObjectAccess_3_msg : Msg := bq cardSetObject wObjectAccess_3_is
def wObjectAccess_3_k := kOf wObjectAccess_3_is
def wObjectAccess_3_i := (7 : Nat)
def wObjectAccess_3_f := fOf wObjectAccess_3_is
def wObjectAccess_4_is : List Item := setIs F.cycPERIOD_M 0 16
def wObjectAccess_4_msg : Msg := bq cardSetObject wObjectAccess_4_is
def wObjectAccess_4_k := kOf wObjectAccess_4_is
def wObjectAccess_4_i := (0 : Nat)
def wObjectAccess_4_f := fOf wObjectAccess_4_is
def wObjectAccess_5_is : List Item := setIs F.taskORDER 255 16
def wObjectAccess_5_msg : Msg := bq cardSetObject wObjectAccess_5_is
def wObjectAccess_5_k := kOf wObjectAccess_5_is
def wObjectAccess_5_i := (255 : Nat)
def wObjectAccess_5_f := fOf wObjectAccess_5_is
def wObjectAccess_6_is : List Item := setIs F.placeGROUP_FIRST 1023 0
def wObjectAccess_6_msg : Msg := bq cardSetObject wObjectAccess_6_is
def wObjectAccess_6_k := kOf wObjectAccess_6_is
def wObjectAccess_6_i := (1023 : Nat)
def wObjectAccess_6_f := fOf wObjectAccess_6_is
def wObjectAccess_7_is : List Item := setIs F.segTX_RETRIES 7 1
def wObjectAccess_7_msg : Msg := bq cardSetObject wObjectAccess_7_is
def wObjectAccess_7_k := kOf wObjectAccess_7_is
def wObjectAccess_7_i := (7 : Nat)
def wObjectAccess_7_f := fOf wObjectAccess_7_is
def wFieldWrites_1_is : List Item := setIs F.modMODULE_ID 0 511
def wFieldWrites_1_s : State := sc []
def wFieldWrites_1_msg : Msg := bq cardSetObject wFieldWrites_1_is
def wFieldWrites_3_n := (511 : Fin 512)
def wFieldWrites_3_is : List Item := setIs F.nodeSERIAL 511 77
def wFieldWrites_3_s : State := sto []
def wFieldWrites_3_msg : Msg := bq cardSetObject wFieldWrites_3_is
def wFieldWrites_4_n := (7 : Fin 8)
def wFieldWrites_4_is : List Item := setIs F.epMODE 7 1
def wFieldWrites_4_s : State := sc []
def wFieldWrites_4_msg : Msg := bq cardSetObject wFieldWrites_4_is
def wFieldWrites_6_e := (4095 : Fin 4096)
def wFieldWrites_6_b := ([] : List Nat)
def wFieldWrites_6_is : List Item := setIs F.effLATCHED 4095 1
def wFieldWrites_6_s : State := sto [(F.effLATCHED,4095,1)] (fun m => { m with matrix := { m.matrix with effects := [(4095, wFieldWrites_6_b)] }, effs := [(4095, { active := true })] })
def wFieldWrites_6_msg : Msg := bq cardSetObject wFieldWrites_6_is
def wFieldWrites_7_a := (65535 : Fin 65536)
def wFieldWrites_7_is : List Item := setIs F.alarmMAX_SHELVE_MIN 65535 30
def wFieldWrites_7_s : State := sto []
def wFieldWrites_7_msg : Msg := bq cardSetObject wFieldWrites_7_is
def wFieldWrites_8_is : List Item := setIs F.pairLOW_OK 0 1
def wFieldWrites_8_s : State := sc []
def wFieldWrites_8_msg : Msg := bq cardSetObject wFieldWrites_8_is
def wFieldWrites_10_is : List Item := setIs F.powRIDE_MS 0 40
def wFieldWrites_10_s : State := sc []
def wFieldWrites_10_msg : Msg := bq cardSetObject wFieldWrites_10_is
def wPointAccess_1_is : List Item := [itm 1 4 0, itm 2 2 512]
def wPointAccess_1_msg : Msg := bq pointReadCard wPointAccess_1_is
def wPointAccess_3_is : List Item := [itm 1 4 0xFFFFE, ⟨2, [1, 2, 3, 4]⟩]
def wPointAccess_3_s : State := ramSt [.put .own 0xFFFFE 0x82, .put .own 0xFFFFF 0x8C] (sc [] (fun m => { m with cfg := some pkg0 }))
def wPointAccess_3_msg : Msg := bq pointWriteCard wPointAccess_3_is
def rgA : State := rg (fun e => { e with acc := true, wacc := 0x8000000000000000#64, idx := some (3, 3) })
def rgM : State := rg (fun e => { e with acc := true, wacc := 0xFFFFFFFFFFFFFFFB#64, idx := some (0, 3) })
def rgP : State := rg (fun e => { e with acc := false, wacc := 0x123456789ABCDEF7#64 })
def rgI : State := ramSt [.put .inst 8 0x85, .put .inst 9 0xF3, .put .inst 10 0xFF, .put .inst 11 0xFF, .put .inst 15 0x80] rgM
def op0 : Operand := 0#24
def wBranchStack_1_s : State := rg (fun e => { e with stack := List.replicate 31 true })
def wBranchStack_1_r := (List.replicate 30 true)
def wImmediateShifts_1_op := (0x3F#24 : Operand)
def wDivisionCorners_2_op := (0xFFFFFF#24 : Operand)
def wDivisionCorners_3_op := (0x000008#24 : Operand)
def wDivisionCorners_5_s : State := ramSt (putN .inst 8 (toLe 4 (2^32-1))) (rg (fun e => { e with wacc := 0x8000000000000000#64 }))
def wDivisionCorners_5_op := (0x000008#24 : Operand)
def wSingleBits_1_op := (63#24 : Operand)
def wCompares_3_op := (0x000008#24 : Operand)
def wWideOperands_1_op := (0x000008#24 : Operand)
def wWordLoads_1_op := (0x000008#24 : Operand)
def wWordLoads_2_op := (0x000000#24 : Operand)
def wFieldArithmetic_1_op := (0x000008#24 : Operand)
def wPointBitLoads_1_s : State := ramSt [.put .front 3 0x8000, .put .frontQ 3 3] rgA
def wPointBitLoads_2_op := (0x000003#24 : Operand)
def wPointReadsImage_1_s : State := ramSt [.put .front 3 0x8000, .put .frontQ 3 3] rgA
def wPointStores_2_op := (0x001000#24 : Operand)
def wStoredBitReachesImage_1_s : State := ramSt [.put .work 0x100 0x8001] rgP
def wStoredBitReachesImage_1_op := (0x00100F#24 : Operand)
def wInstanceBitLoads_1_op := (0x00000F#24 : Operand)
def wInstanceStores_1_op := (64#24 : Operand)
def wLocalsStore_1_op := (0x8001BF#24 : Operand)
def wLoopsAndIndex_1_op := (0x005FFF#24 : Operand)
def wLoopsAndIndex_2_op := (0x0057FF#24 : Operand)
def wLoopsAndIndex_4_s : State := ramSt [.put .inst 8 2] rgP
def wLoopsAndIndex_4_op := (0x005004#24 : Operand)
def wLoopsAndIndex_5_s : State := ramSt [.put .inst 8 1] rgP
def wLoopsAndIndex_5_op := (0x005004#24 : Operand)
def wRunTimeFaults_1_s : State := rg (fun e => { e with idx := some (4, 3), sb := [⟨.work, 64, 0xFFFF#64, 0x8000#64, 50⟩] })
def wRunTimeFaults_1_op := (1#24 : Operand)
def wRunTimeFaults_1_i := (4 : Nat)
def wRunTimeFaults_1_mx := (3 : Nat)
def wRunTimeFaults_1_p := (0 : Nat)
def tc0 : TaskCode := ⟨4, 0, [], [0x37000000]⟩
def pkgT : Pkg := { pkg0 with tasks := [tc0] }
def wTaskEnd_1_s : State := rg (fun e => { e with acc := true, wacc := 5#64, stack := [true], todo := [4], sb := [⟨.work, 64, 0xFFFF#64, 0x8000#64, 50⟩] }) [] (fun m => { m with cfg := some pkgT, sheet := { entries := [(0, 4, 10)] } })
def wTaskEnd_1_k := (4 : Nat)
def wTaskEnd_1_r := ([] : List Nat)
def wTaskEnd_2_s : State := rg (fun e => { e with acc := true, wacc := 5#64, todo := [], sb := [⟨.work, 64, 0xFFFF#64, 0x8000#64, 50⟩] })
def shC : CallSheet := { tables := [(0, 1000, 2)] }
def wCallAndReturn_1_s : State := ramSt ([.put .bank (bankAt 0 1004) 0x8001, .put .bank (bankAt 0 1005) 500, .put .bank (bankAt 0 1006) 64]) (rg (fun e => { e with acc := true, wacc := 5#64, stack := [true, false] }) [] (fun m => { m with sheet := shC }))
def wCallAndReturn_1_op := (1#24 : Operand)
def wCallAndReturn_1_id := (0x8001 : Nat)
def wCallAndReturn_1_entry := (500 : Nat)
def wCallAndReturn_1_base := (64 : Nat)
def wNativeCall_1_s : State := ramSt ([.put .bank (bankAt 0 1004) 0x10, .put .bank (bankAt 0 1005) 0xFFFFFFFF, .put .bank (bankAt 0 1006) 64]) (rg (fun e => { e with acc := true, wacc := 5#64, stack := [true, false] }) [] (fun m => { m with sheet := shC }))
def wNativeCall_1_op := (1#24 : Operand)
def wNativeCall_1_id := (0x10 : Nat)
def wNativeCall_1_base := (64 : Nat)
def wNativeCall_1_size := (((nativeSize 0x10).getD (0,0)).1 : Nat)
def wNativeCall_1_clk := (((nativeSize 0x10).getD (0,0)).2 : Nat)
def wBarrierArrival_1_op := (63#24 : Operand)
def wBarrierArrival_1_s : State := rg (fun e => { e with acc := true, wacc := 5#64, sb := [⟨.work, 64, 0xFFFF#64, 0x8000#64, 50⟩] }) [] (fun m => { m with cfg := some pkgT })
def planT : FencePlan := ⟨0, false, [(0, [4])], [], 100, [], [(63, 60)], [(63, 1)]⟩
def wBarrierRelease_1_t : Nat := 2000
def wBarrierRelease_1_p := (0 : Fin 8)
def wBarrierRelease_1_b := (63 : Fin 64)
def wBarrierRelease_1_s : State := rg (fun e => e) [(F.taskPARTITION,4,0),(F.taskCURRENT_CE,4,0)] (fun m => { m with cfg := some pkgT }.updPart 0 (fun x => { x with barriers := [(63, 1)], plan := some planT }) |>.updEng 0 (fun e => { e with run := 2, waitAt := some (63, 70) }))
def wBarrierRelease_1_clk := (76 : Nat)
def wBarrierTimeout_1_t : Nat := 2000
def wBarrierTimeout_1_p := (0 : Fin 8)
def wBarrierTimeout_1_b := (63 : Fin 64)
def wBarrierTimeout_1_c := (0 : Nat)
def wBarrierTimeout_1_s : State := rg (fun e => e) [(F.taskPARTITION,4,0),(F.taskCURRENT_CE,4,0)] (fun m => { m with cfg := some pkgT }.updPart 0 (fun x => { x with plan := some planT, solves := true, phase := 2, solveAt := 1850 }))
def annT : Announce := ⟨0, 250, 6, 0x20, 0x4E5D, 128, 77⟩
def wTimeEvents_1_t : Nat := 2000
def wTimeEvents_1_s : State := sto [(F.timeTIME_STATE,0,1)]
def wTimeEvents_1_sync := (⟨0, -7, -100⟩ : SyncMsg)
def wTimeEvents_2_t : Nat := (70 * 10^9 : Nat)
def wTimeEvents_2_s : State := sto [(F.timeTIME_STATE,0,4)]
def wTimeEvents_3_s : State := sto [(F.timeGM_CAPABLE,0,1),(F.modSERIAL,0,12),(F.timePRIORITY1,0,200)] (fun m => m.updTime (fun x => { x with received := true }))
def wTimeEvents_4_s : State := sto [(F.timeTIME_STATE,0,0),(F.modSERIAL,0,12)]
def wTimeEvents_4_a := { annT with identity := 2^64-1 }
def wTimeEvents_7_s : State := sto [(F.timeTIME_STATE,0,2),(F.timeGZ_VALID,0,1)] (fun m => m.updTime (fun x => { x with leftAt := some (10 * 10^9) }))
def wTimeEvents_7_a := (10 * 10^9 : Nat)
def wTimeEvents_8_x := (⟨5, 6, 1, 0, [], [], none⟩ : Stepping)
def wTimeEvents_8_s : State := sto [(F.timeTIME_STATE,0,1)] (fun m => m.updTime (fun y => { y with stepping := some wTimeEvents_8_x }))
def wModuleIdentities_1_t : Nat := (20*10^9 : Nat)
def wModuleIdentities_1_device := (5 : Nat)
def wModuleIdentities_1_s : State := sto [(F.modMODULE_ID,0,511),(F.modSERIAL,0,6),(F.pairPARTNER_SERIAL,0,7)]
def wRunT : State := st id
def wTimeCommands_1_is : List Item := ([] : List Item)
def wTimeCommands_1_msg : Msg := bq timeGetCard wTimeCommands_1_is
def wTimeCommands_2_s : State := sto [(F.timeTIME_STATE,0,3)] (fun m => m.updTime (fun y => { y with gzOff := 5000 }))
def wTimeCommands_2_is : List Item := [itm 1 8 7000]
def wTimeCommands_2_msg : Msg := bq timeSetCard wTimeCommands_2_is
def wTimeCommands_3_s : State := sto [(F.timeTIME_STATE,0,3)] (fun m => m.updTime (fun y => { y with gzOff := 5000 }))
def wTimeCommands_5_is : List Item := [itm 1 2 600]
def wTimeCommands_5_msg : Msg := bq moduleIdentifyCard wTimeCommands_5_is
def wTimeCommands_6_t : Nat := 2000
def wTimeCommands_6_e := (2000 : Nat)
def wTimeCommands_6_s : State := sto [] (fun m => m.updSys (fun y => { y with identify := some wTimeCommands_6_e }))
def wClapperOrder_1_t : Nat := 2000000
def wClapperOrder_1_p := (7 : Fin 8)
def wClapperOrder_1_q := (7 : Nat)
def wClapperOrder_1_s : State := sto [(F.partCE_SET,7,1),(F.cePARTITION,0,7),(F.partSTATE,7,1),(F.cycPERIOD_M,7,1)] (fun m => m.updPart 7 (fun x => { x with cycle := 2^64-1, clapped := true, clapAt := 1875000 }))
def wImageSwap_1_t : Nat := 2000
def wImageSwap_1_p := (7 : Fin 8)
def wImageSwap_1_s : State := ramSt [.put .back (7*2^20+5) 9] (sto [(F.partSTATE,7,0)] (fun m => m.updPart 7 (fun x => { x with phase := 1, clapAt := 1000 })))
def wSolveEnd_1_t : Nat := 2000
def wSolveEnd_1_p := (7 : Fin 8)
def wSolveEnd_1_s : State := sto [(F.partSTATE,7,1),(F.partCE_SET,7,1),(F.cePARTITION,0,7)] (fun m => m.updPart 7 (fun x => { x with phase := 2, clapAt := 1000, solves := true }))
def wSolveEnd_1_d := (2000 : Nat)
def wSolveEnd_2_s : State := sto [(F.partSTATE,7,1),(F.partCE_SET,7,1),(F.cePARTITION,0,7)] (fun m => (m.updPart 7 (fun x => { x with phase := 2, clapAt := 1000, solves := true })).updEng 0 (fun e => { e with run := 1 }))
def wSolveEnd_3_s : State := sto [(F.partSTATE,7,1),(F.partCE_SET,7,1),(F.cePARTITION,0,7)] (fun m => (m.updPart 7 (fun x => { x with phase := 2, clapAt := 1000, solves := true, withheld := some 2000 })).updEng 0 (fun e => { e with run := 1 }))
def wEngineService_1_ce := (7 : Fin 8)
def wEngineService_1_is : List Item := [itm 1 1 7]
def wEngineService_1_s : State := sto [(F.ceSTATE,7,1),(F.cePARTITION,7,0),(F.partCE_SET,0,128)] (fun m => m.updEng 7 (fun e => { e with slice := 5 }))
def wEngineService_2_s : State := sto [(F.ceSTATE,7,1),(F.ceSTATE,6,1),(F.cePARTITION,7,0),(F.cePARTITION,6,0),(F.partCE_SET,0,192)] (fun m => { m with plans := [(0, ⟨128, false, [], [], 100, [], [], []⟩)] })
def wEngineService_2_msg : Msg := bq ceFenceCard wEngineService_1_is
def wEngineService_3_s : State := sto [(F.ceSTATE,7,2),(F.cePARTITION,7,0)]
def wEngineService_3_msg : Msg := bq ceRetestCard wEngineService_1_is
def wEngineService_4_s : State := sto [(F.ceSTATE,7,3),(F.cePARTITION,7,0),(F.ceFENCE_CAUSE,7,5)] (fun m => m.updEng 7 (fun e => { e with retest := some (some (20, 4)) }))
def wEngineService_4_q := (20 : Nat)
def wEngineService_4_sq := (4 : Nat)
def wPartitionCommands_1_is : List Item := [itm 1 1 7, itm 2 1 0]
def wPartitionCommands_1_s : State := sto [(F.partSTATE,7,0),(F.partCE_SET,7,1),(F.cePARTITION,0,7),(F.ceSTATE,0,1)]
def wPartitionCommands_1_msg : Msg := bq partStartCard wPartitionCommands_1_is
def wPartitionCommands_1_t : Nat := 2000000000
def wPartitionCommands_1_k := (7 : Fin 8)
def wPartitionCommands_3_is : List Item := [itm 1 1 7]
def wPartitionCommands_3_s : State := sto [(F.partSTATE,7,1)]
def wPartitionCommands_3_msg : Msg := bq partHaltCard wPartitionCommands_3_is
def wPartitionCommands_4_is : List Item := [itm 1 1 7]
def wPartitionCommands_4_s : State := sto [(F.partSTATE,7,3)] (fun m => m.updPart 7 (fun x => { x with vioWrites := 1, vioAt := some (10^9) }))
def wPartitionCommands_4_msg : Msg := bq partStopCard wPartitionCommands_4_is
def sl0 : SubList := ⟨9, 3, 8, 77, 2, 0, [(0, 0x800)]⟩
def pkgS : Pkg := { pkg0 with subs := [sl0] }
def wPlantPublications_1_t : Nat := 2000
def wPlantPublications_1_f := ({ port := 0, etherType := State.reset.m.sys.pubType, version := 1, last := true, index := 0, resv := 0, moduleId := 9, partition := 3, startCount := 1, cycle := 5, validFrom := 9, listHash := 77, firstEntry := 0, entryCount := 2, values := [1, 2], quality := [0, 3], secured := false } : PubFrame)
def wPlantPublications_1_s : State := sto [] (fun m => { m with cfg := some pkgS })
def wModeCommands_1_b := (0x30 : Nat)
def wModeCommands_1_is : List Item := [itm 1 1 0]
def wModeCommands_1_s : State := sto [(F.secLIFECYCLE,0,2),(F.modePRESENCE_REQ,0,1)]
def wModeCommands_1_msg : Msg := bq modeSetCard wModeCommands_1_is
def wModeCommands_3_is : List Item := [itm 1 1 0]
def wModeCommands_3_msg : Msg := bq resetCard wModeCommands_3_is
def wModeCommands_4_is : List Item := [itm 1 1 0x30]
def wModeCommands_4_msg : Msg := bq blockQuiesceCard wModeCommands_4_is
def wModeCommands_5_e := ((0x30, 1, 20, 4) : Nat × Nat × Nat × Nat)
def wModeCommands_5_s : State := sto [] (fun m => m.updSys (fun x => { x with quiescing := [(0x30, 1, 20, 4)] }))
def wModeCommands_6_b := (0x37 : Nat)
def wModeCommands_6_e := ((0x37, false, bq resetCard [itm 1 1 2]) : Nat × Bool × Msg)
def wModeCommands_6_s : State := sto [] (fun m => (m.updSys (fun x => { x with resetting := [wModeCommands_6_e] })).updCq 20 (fun q => { q with running := some (bq resetCard [itm 1 1 2], 0) }))
def wModeCommands_6_by_ := ((20, 4) : Nat × Nat)
def wModeCommands_6_p := (7 : Fin 8)
def wModeCommands_7_s : State := sto [(F.partSTATE,7,3),(F.partFAULT_CAUSE,7,3),(F.partFAULT_PC,7,44)] (fun m => m.updPart 7 (fun x => { x with resetBy := some wModeCommands_6_by_ }))
def wFrontPanel_1_t : Nat := 2000
def wFrontPanel_1_n := (31 : Fin 32)
def wFrontPanel_1_w := (⟨.slate, 20, 4, 2000⟩ : Window)
def wFrontPanel_1_s : State := sto [(F.secLIFECYCLE,0,2)] (fun m => m.updSys (fun x => { x with window := some wFrontPanel_1_w }))
def wFrontPanel_2_g := (5 : Nat)
def wFrontPanel_2_w := (⟨.mode 5, 20, 4, 2000⟩ : Window)
def wFrontPanel_2_s : State := sto [(F.secLIFECYCLE,0,2)] (fun m => m.updSys (fun x => { x with window := some wFrontPanel_2_w }))
def wFrontPanel_3_l := (3 : Nat)
def wFrontPanel_3_w := (⟨.life 3, 20, 4, 2000⟩ : Window)
def wFrontPanel_3_s : State := sto [(F.secLIFECYCLE,0,2)] (fun m => m.updSys (fun x => { x with window := some wFrontPanel_3_w }))
def wFrontPanel_4_slot := (2 : Nat)
def wFrontPanel_4_d := ([1,2] : List Nat)
def wFrontPanel_4_use := (0 : Nat)
def wFrontPanel_4_roles := (0 : Nat)
def wFrontPanel_4_qs := (0 : Nat)
def wFrontPanel_4_w := (⟨.cert 3 2 [1,2] 0 0 0, 20, 4, 2000⟩ : Window)
def wFrontPanel_4_s : State := sto [(F.secLIFECYCLE,0,2)] (fun m => m.updSys (fun x => { x with window := some wFrontPanel_4_w }))
def wFrontPanel_5_conn := (0 : Nat)
def wFrontPanel_5_w := (⟨.debug 0, 20, 4, 2000⟩ : Window)
def wFrontPanel_5_s : State := sto [(F.secLIFECYCLE,0,2),(F.modeMODE,0,5)] (fun m => m.updSys (fun x => { x with window := some wFrontPanel_5_w }))
def wFrontPanel_6_s : State := sto [] (fun m => m.updSys (fun x => { x with page := 10, keyAt := 0 }))
def wFrontPanel_6_t : Nat := 60000000000
def wPanelShows_1_s : State := sto [] (fun m => m.updSys (fun x => { x with off := true }))
def wPanelShows_2_s : State := sto [(F.islSTATE,0,1),(F.sfSTATE,63,2),(F.timeTIME_STATE,0,1),(F.gaugePF_STATE,0,0)]
def wPanelShows_2_e := (1000 : Nat)
def wPanelShows_2_w := (⟨.slate, 20, 4, 2000⟩ : Window)
def wPanelShows_3_s : State := sto [(F.islSTATE,0,0),(F.timeTIME_STATE,0,2),(F.gaugePF_STATE,0,1)] (fun m => m.updSys (fun x => { x with bootFailed := true, bringup := 4 }))
def wPanelShows_4_s : State := sto [(F.islSTATE,0,2),(F.timeTIME_STATE,0,0),(F.gaugePF_STATE,0,2)] (fun m => m.updSys (fun x => { x with bringup := 3 }))
def wPanelShows_5_s : State := sto [(F.islSTATE,0,3),(F.modeMODE,0,4),(F.gaugePF_STATE,0,1)] (fun m => { m with gauge := { eol := true } })
def wPanelShows_6_s : State := sto [] (fun m => m.updSys (fun x => { x with identify := some 1000 }))
def wPanelShows_7_s : State := sto [] (fun m => m.updSys (fun x => { x with window := some wPanelShows_2_w }))
def gfp0 : GfpIn := ⟨3, true, true, State.reset.m.obj F.trunkETHERTYPE 3, 1, 2, 0x20, 3, 0xFFFF, 0, 5, 0, 255, 4, 7, [1, 2, 3, 4]⟩
def nid0 : NodeId := ⟨3, 5, 8, 9, 77, 1, 2, 2, 0xFFFF, 255, 0, 7⟩
def wTrunkInputs_1_t : Nat := 2000
def wTrunkInputs_1_f := { gfp0 with assignEpoch := 4 }
def wTrunkInputs_1_s : State := sto [(F.placeSTATE,1023,1),(F.placeASSIGN_EPOCH,1023,5)]
def wTrunkInputs_2_t : Nat := 2000
def wTrunkInputs_2_s : State := sto [(F.placeSTATE,1023,2),(F.placeASSIGN_EPOCH,1023,5),(F.placePARTITION,1023,7),(F.placeIN_SLOTS,1023,2),(F.placeIN_BASE,1023,0xFFFFE),(F.cycG_NS,7,10000)] (fun m => { m.updPart 7 (fun x => { x with phase := 1, clapAt := 0 }) with places := [(1023, { mac := 7 })] })
def wTrunkEvents_1_t : Nat := 2000000000
def wTrunkEvents_1_k := (3 : Fin 4)
def wTrunkEvents_1_ra := (2 : Nat)
def wTrunkEvents_1_rb := (65535 : Nat)
def wTrunkEvents_1_place := (255 : Nat)
def wTrunkEvents_1_s : State := sto [(F.trunkTOPOLOGY,3,1),(F.trunkRING_STATE,3,1)] (fun m => { m with trunks := [(3, { disown := [7, 9] })] })
def wTrunkEvents_2_s : State := sto [(F.trunkTOPOLOGY,3,1),(F.trunkRING_STATE,3,2)]
def wTrunkEvents_3_a := (1000000000 : Nat)
def wTrunkEvents_3_q := (20 : Nat)
def wTrunkEvents_3_sq := (4 : Nat)
def wTrunkEvents_3_op := (0x0511 : Nat)
def wTrunkEvents_3_n := (1023 : Fin 1024)
def wTrunkEvents_3_s : State := sto [(F.placeASSIGN_EPOCH,1023,5)] (fun m => { m with trunks := [(3, { disc := some (20, 4, wTrunkEvents_3_a), heard := [nid0] })], places := [(1023, { confirm := some (20, 4, 0x0511, wTrunkEvents_3_a) })] })
def wNodeCommands_1_is : List Item := [itm 1 1 3]
def wNodeCommands_1_s : State := sc [(F.trunkTOPOLOGY,3,1)]
def wNodeCommands_1_msg : Msg := bq trunkDiscoverCard wNodeCommands_1_is
def wNodeCommands_2_is : List Item := [itm 1 1 3, itm 2 1 255, itm 3 8 77]
def wNodeCommands_2_s : State := sc [(F.placeSTATE,1023,1),(F.placeASSIGN_EPOCH,1023,2^32-2),(F.placeVENDOR,1023,8),(F.placePRODUCT,1023,9)] (fun m => { m with trunks := [(3, { heard := [nid0] })] })
def wNodeCommands_2_msg : Msg := bq nodeAssignCard wNodeCommands_2_is
def wNodeCommands_3_msg : Msg := bq nodeReplaceCard wNodeCommands_2_is
def wNodeCommands_4_s : State := sc [(F.placeSTATE,1023,4),(F.placeSERIAL,1023,77)]
def wNodeCommands_4_msg : Msg := bq nodeUnassignCard [itm 1 1 3, itm 2 1 255]
def wNodeCommands_4_is : List Item := [itm 1 1 3, itm 2 1 255]
def wNodeCommands_5_s : State := sc [(F.placeSTATE,1023,4),(F.placeSERIAL,1023,77)] (fun m => { m with places := [(1023, { diag := [1,2,3] })] })
def wNodeCommands_5_msg : Msg := bq nodeDiagReadCard [itm 1 1 3, itm 2 1 255]
def wNodeCommands_5_is : List Item := [itm 1 1 3, itm 2 1 255]
def sgl : List (Fld × Nat × Nat) := [(F.segMODE,7,3),(F.segSTATE,7,2),(F.modMODULE_ID,0,9)]
def wSegmentCyclic_1_t : Nat := 125000000
def wSegmentCyclic_1_f := (⟨7, 100000000, true, 1, false, false, 0x07E, 0, 0, 0, [0x40, 8, 1, 2, 3, 4]⟩ : SegIn)
def wSegmentCyclic_1_s : State := sto (sgl ++ [(F.nodeSTATE,511,2),(F.nodePARTITION,511,7),(F.nodeFORMAT,511,1),(F.nodeIN_SLOTS,511,2),(F.nodeIN_BASE,511,0xFFFFE),(F.cycG_NS,7,10000)]) (fun m => m.updPart 7 (fun x => { x with phase := 1, clapAt := 99999999+25000000 }))
def wSegmentCyclic_2_f := (⟨7, 124999999+1, true, 1, false, false, 0x07E, 0, 0, 0, [0x40, 8, 1, 2, 3, 4]⟩ : SegIn)
def wSegmentCyclic_4_f := (⟨7, 124999999+1, true, 1, false, false, 0x73F, 0, 0, 0, toBe 8 77 ++ toBe 4 5 ++ [0,0,0,0]⟩ : SegIn)
def wSegmentCyclic_4_s : State := sto (sgl ++ [(F.nodeSTATE,511,1),(F.nodeSERIAL,511,77),(F.nodeASSIGN_EPOCH,511,5)])
def wSegmentCyclic_5_f := (⟨7, 124999999+1, true, 1, false, false, 0x701, 0, 0, 0, toBe 8 77 ++ toBe 4 5 ++ [0,0,0,0]⟩ : SegIn)
def wSegmentCyclic_6_f := (⟨7, 124999999+1, true, 1, false, false, 0x7E0, 0, 0, 0, List.range 24⟩ : SegIn)
def wSegmentReceive_1_t : Nat := 2000
def wSegmentReceive_1_f := (⟨7, 1000, true, 3, false, false, 0x123, 0, 0, 0, [1, 2, 3]⟩ : SegIn)
def wSegmentReceive_1_n := (31 : Nat)
def wSegmentReceive_1_s : State := sto [(F.segMODE,7,4),(F.segSTATE,7,2),(F.mfENABLE,31,1),(F.mfID_VALUE,31,0x123),(F.mfID_MASK,31,0x7FF),(F.mfCHANNEL,31,63)]
def wSegmentReceive_1_w := (3 * 2^27 + 7 * 2^12 : Nat)
def wSegmentReceive_1_v := (0 : Nat)
def wSegmentReceive_1_x := (0 : Nat)
def wSegmentReceive_1_route := (7 : Fin 8)
def wSegmentReceive_1_ch := (20 : Nat)
def wSegmentReceive_1_its := ([itm 1 1 1] : List Item)
def wSegmentReceive_1_is : List Item := [itm 1 1 7, ⟨2, toBe 4 (wSegmentReceive_1_w)  ++ toBe 4 0 ++ toBe 4 0⟩]
def wSegmentReceive_1_msg : Msg := bq filterLoadCard wSegmentReceive_1_is
def wSegmentReceive_3_s : State := sto [(F.segMODE,7,4),(F.segSTATE,7,2),(F.segROUTES,7,20)] (fun m => { m with segs := [(7, { prog := [(wSegmentReceive_1_w, 0, 0)], batches := [(7, 20, [itm 1 1 1])] })] })
def wSegmentReceive_4_s : State := sto [(F.segMODE,7,4),(F.segSTATE,7,2),(F.segROUTES,7,255)] (fun m => { m with segs := [(7, { prog := [(wSegmentReceive_1_w, 0, 0)], batches := [(7, 20, [itm 1 1 1])] })] })
def txf : TxFrame := ⟨5, 20, 4, 255, 0x123, false, 3, 0, 0, [1, 2], 1⟩
def wSegmentHostFrames_1_t : Nat := 2000
def wSegmentHostFrames_1_k := (7 : Fin 8)
def wSegmentHostFrames_1_s : State := sto [(F.segMODE,7,4),(F.segSTATE,7,2),(F.segTX_RATE,7,1)] (fun m => { m with segs := [(7, { tx := [txf], issued := [(5, 20)] })] })
def wSegmentHostFrames_1_is : List Item := [itm 1 1 7, itm 2 4 0x80000123, itm 3 1 3, ⟨6, [1, 2, 3]⟩]
def wSegmentHostFrames_1_msg : Msg := bq segTxCard wSegmentHostFrames_1_is
def wSegmentHostFrames_3_s : State := sto [(F.segMODE,7,4),(F.segSTATE,7,2),(F.segTX_RATE,7,1),(F.segTX_RETRIES,7,1),(F.segAPER_MAX,7,64)] (fun m => { m with segs := [(7, { tx := [txf], flying := some 5, issued := [(5, 20)] })] })
def wSegmentHostFrames_4_s : State := sto [(F.segMODE,7,4),(F.segSTATE,7,2),(F.segTX_RATE,7,1),(F.segTX_RETRIES,7,2)] (fun m => { m with segs := [(7, { tx := [txf], flying := some 5, issued := [(5, 20)] })] })
def wSegmentHostFrames_5_s : State := sto [(F.segMODE,7,4),(F.segSTATE,7,2)] (fun m => { m with segs := [(7, { tx := [txf], issued := [(5, 20)] })] })
def wSegmentHostFrames_5_is : List Item := [itm 1 1 7, itm 2 4 5]
def wSegmentHostFrames_5_msg : Msg := bq segTxCancelCard wSegmentHostFrames_5_is
def wSegmentBus_1_t : Nat := 1000000000
def wSegmentBus_1_k := (7 : Fin 8)
def wSegmentBus_1_q := (20 : Nat)
def wSegmentBus_1_sq := (4 : Nat)
def wSegmentBus_1_st := (0 : Nat)
def wSegmentBus_1_s : State := sto [(F.segMODE,7,4),(F.segSTATE,7,2)]
def wSegmentBus_1_is : List Item := [itm 1 1 7]
def wSegmentBus_1_msg : Msg := bq segListenCard wSegmentBus_1_is
def wSegmentBus_2_s : State := sto [(F.segMODE,7,3),(F.segSTATE,7,3)]
def wSegmentBus_3_s : State := sto [(F.segMODE,7,3),(F.segSTATE,7,4)]
def wSegmentBus_4_s : State := sto [(F.segMODE,7,5),(F.segSTATE,7,1)]
def wSegmentBus_5_s : State := sto [(F.segMODE,7,0),(F.segSTATE,7,1)] (fun m => { m with segs := [(7, { listen := some (20, 4, 0) })] })
def lcA : LcSt := { on := true, segs := [(1, 2)], seg := 0 }
def wLoadProtection_1_t : Nat := 2000000000
def wLoadProtection_1_n := (31 : Fin 32)
def wLoadProtection_1_g := ((1, 2) : Nat × Nat)
def wLoadProtection_1_s : State := sto [(F.lcRESTART,31,1),(F.lcLIM_TIME_MS,31,2000)] (fun m => { m with lcs := [(31, lcA)] })
def wLoadProtection_2_s : State := sto [(F.lcLIM_TIME_MS,31,2000)] (fun m => { m with lcs := [(31, { lcA with seg := 1 })] })
def wLoadProtection_3_a := (1900000000 : Nat)
def wLoadProtection_3_r := (1 : Fin 3)
def wLoadProtection_3_s : State := sto [(F.lcCAUSES,31,0x25),(F.lcOL_DETECT,31,1)] (fun m => { m with lcs := [(31, { tripAt := some 1900000000 })] })
def mapA : List Nat := 1 :: List.replicate 31 0 ++ [0x87]
def ctlA : CtlSt := { map := mapA }
def wLoadRails_1_t : Nat := 2000
def wLoadRails_1_k := (1 : Fin 2)
def wLoadRails_1_j := (31 : Fin 32)
def wLoadRails_1_s : State := sto [] (fun m => { m with lcs := [(31, { on := true })], ctls := [(1, ctlA)], senses := [(3, 7, 0)] })
def wLoadRails_2_s : State := sto [(F.lcCAUSES,31,8)] (fun m => { m with lcs := [(31, { on := false })], ctls := [(1, { ctlA with uv := true, alive := 2 })] })
def wLoadRails_3_s : State := sto [] (fun m => { m with lcs := [(31, { on := false, limp := 1 })], ctls := [(1, ctlA)], lh := 128, limpForce := true })
def wLoadRails_4_s : State := sto [] (fun m => { m with lcs := [(31, { on := true, limp := 1 })], ctls := [(1, { ctlA with powered := false, map := List.replicate 33 0x80 })] })
def wLoadRails_5_s : State := sto [] (fun m => { m with lcs := [(31, { on := true })], ctls := [(1, { ctlA with map := List.replicate 33 0x80 })], lh := 128 })
def wLoadCommands_1_t : Nat := 2000
def wLoadCommands_1_k := (7 : Fin 8)
def wLoadCommands_1_is : List Item := [itm 1 1 31]
def wLoadCommands_1_s : State := sto [(F.lcCAUSES,31,0x10)]
def wLoadCommands_1_msg : Msg := bq lcUnlockCard wLoadCommands_1_is
def wLoadCommands_2_s : State := sto [(F.lcCAUSES,31,0x20)]
def wLoadCommands_2_msg : Msg := bq lcClearLatchCard wLoadCommands_1_is
def wLoadCommands_3_s : State := sc [] (fun m => { m.role 3 with isl := { set := [] } })
def wLoadCommands_3_is : List Item := [itm 1 1 1, ⟨2, List.replicate 31 0 ++ [0x80]⟩]
def wLoadCommands_3_msg : Msg := bq limpMapWriteCard wLoadCommands_3_is
def wLoadCommands_4_s : State := sto [(F.loMODE,7,1),(F.loZERO_TRIM,7,65535)] (fun m => { m with los := [(7, { target := 9000 })] })
def wLoadCommands_4_is : List Item := [itm 1 1 7, itm 2 2 (65536-4000)]
def wLoadCommands_4_msg : Msg := bq loTrimCard wLoadCommands_4_is
def wPortCounting_1_n := (7 : Fin 8)
def wPortCounting_1_s : State := sto [(F.epMODE,7,1),(F.epSTATE,7,1),(F.epINVERT,7,1),(F.epMULT,7,2)]
def wPortCounting_1_code := (3 : Fin 8)
def wPortCounting_1_i := (0 : Nat)
def wPortCounting_1_j := (5 : Nat)
def wPortCounting_1_r := (⟨9, true, 0⟩ : AbsRead)
def wPortCounting_1_y := (9 : Nat)
def wPortCounting_3_v := (-77 : Int)
def wPortCounting_3_q := (20 : Nat)
def wPortCounting_3_sq := (4 : Nat)
def wPortCounting_3_s : State := sto [(F.epMODE,7,1),(F.epSTATE,7,1),(F.epMULT,7,0)] (fun m => { m with eps := [(7, { c := -5, preset := some (1, -77, 20, 4), edgeAt := some 0 })] })
def wPortCounting_3_a := (0 : Nat)
def wPortCounting_3_t : Nat := 2000000000
def wPortCounting_4_s : State := sto [(F.epMODE,7,3),(F.epSTATE,7,1),(F.epINVERT,7,1)] (fun m => { m with eps := [(7, { c := -5, bAt := 1999975 })] })
def wPortCounting_5_s : State := sto [(F.epMODE,7,4),(F.epSTATE,7,1)] (fun m => { m with eps := [(7, { c := -5 })] })
def wPortCounting_6_s : State := sto [(F.epMODE,7,2),(F.epSTATE,7,1)] (fun m => { m with eps := [(7, { c := -5, hall := 1, hallValid := 1 })] })
def wPortCounting_7_code := (5 : Fin 8)
def wPortCounting_8_code := (0 : Fin 8)
def wPortCounting_10_cause := (2 : Fin 5)
def wPortCounting_10_s : State := sto [(F.epMODE,7,1),(F.epSTATE,7,1),(F.epERR_LIMIT,7,1)] (fun m => { m with eps := [(7, { c := -5, errAt := [1999999999, 1500000000] })] })
def wPortCounting_13_s : State := sto [(F.epMODE,7,5),(F.epSTATE,7,1),(F.epPOS_WIDTH,7,8),(F.epOFFSET,7,2^32-1),(F.epERR_BIT,7,255),(F.epCODE,7,0)]
def wPortCounting_13_p := (250 : Nat)
def wPortCounting_14_s : State := sto [(F.epMODE,7,5),(F.epSTATE,7,1),(F.epPOS_WIDTH,7,8),(F.epINVERT,7,1),(F.epERR_BIT,7,255),(F.epCODE,7,0)] (fun m => { m with eps := [(7, { c := 3, reading := some 250 })] })
def wPortCounting_15_s : State := sto [(F.epMODE,7,5),(F.epSTATE,7,1),(F.epPOS_WIDTH,7,8),(F.epJUMP_MAX,7,14),(F.epERR_BIT,7,255),(F.epCODE,7,0)] (fun m => { m with eps := [(7, { c := 3, reading := some 250 })] })
def wPortUnits_1_t : Nat := 2000000
def wPortUnits_1_k := (7 : Fin 8)
def wPortUnits_1_c := (-5 : Int)
def wPortUnits_1_s : State := sto [(F.prSOURCE,7,7),(F.epMODE,7,1),(F.epSTATE,7,1)] (fun m => { m with prs := [(7, { ctrl := 0b1100, armed := true, count := 255 })], eps := [(7, { c := -5 })] })
def wPortUnits_1_is : List Item := [itm 1 1 7, itm 2 4 5, itm 3 4 (2^32-2)]
def wPortUnits_1_msg : Msg := bq epSetPositionCard wPortUnits_1_is
def wPortUnits_2_s : State := sto [(F.prSOURCE,7,31)] (fun m => { m with prs := [(7, { ctrl := 0b0010, armed := true, level := true, count := 255 })] })
def wPortUnits_3_k := (3 : Fin 4)
def wPortUnits_3_s : State := sto [(F.emSOURCE,3,7),(F.emLINES,3,100),(F.epMODE,7,1),(F.epSTATE,7,1)] (fun m => { m with eps := [(7, { c := -5 })], ems := [(3, { edgeAt := some 1999800 })] })
def wPortUnits_4_is : List Item := [itm 1 1 7, itm 2 4 999, itm 3 4 (2^32-2), itm 4 1 1]
def wPortUnits_4_msg : Msg := bq epSetPositionCard wPortUnits_4_is
def wPortUnits_4_s : State := sto [(F.epMODE,7,1),(F.epSTATE,7,1),(F.epCPR,7,1000)]
def wPortUnits_5_is : List Item := [itm 1 1 7, itm 2 4 999, itm 3 4 (2^32-2), itm 4 1 2]
def wPortUnits_5_msg : Msg := bq epSetPositionCard wPortUnits_5_is
def wPortUnits_6_s : State := sto [(F.epMODE,7,1),(F.epSTATE,7,2),(F.epCPR,7,1000),(F.epFENCE_CAUSE,7,3)]
def wPortUnits_7_is : List Item := [itm 1 1 7]
def wPortUnits_7_msg : Msg := bq epUnfenceCard wPortUnits_7_is
def wPortUnits_8_s : State := sto [(F.epMODE,7,5),(F.epSTATE,7,2),(F.epCPR,7,1000),(F.epFENCE_CAUSE,7,5)]
def legA : List Leg := [⟨0, true, [⟨1000000, 0, 10^15, 10^9⟩]⟩]
def axA : AxSt := { plan := legA, goal := some 1000, kind := 1, busy := true, done := false, fell := false }
def axl : List (Fld × Nat × Nat) := [(F.axDRIVE,15,1),(F.axD1,15,1000),(F.axDQ,15,1000),(F.axPOS_MAX,15,100000)]
def wAxisEvents_1_t : Nat := 2000000000000
def wAxisEvents_1_n := (15 : Fin 16)
def wAxisEvents_1_k := (3 : Fin 4)
def wAxisEvents_1_s : State := sto axl (fun m => { m with axs := [(15, axA)] })
def wAxisEvents_2_t : Nat := 2000000
def wAxisEvents_3_t : Nat := 2000000
def wAxisEvents_4_s : State := sto [(F.axDRIVE,15,2),(F.axFE_MAX,15,10),(F.axFB_PORT,15,7),(F.axFB_NUM,15,1),(F.axFB_DEN,15,1)] (fun m => { m with axs := [(15, { axA with kind := 4 })], eps := [(7, { c := 11 })] })
def wAxisEvents_5_n := (3 : Fin 16)
def wAxisEvents_5_s : State := sto [(F.axDRIVE,3,2),(F.msSTAGE_MODE,3,1),(F.axFE_MAX,3,10),(F.axFB_PORT,3,7),(F.axFB_NUM,3,1),(F.axFB_DEN,3,1)] (fun m => { m with axs := [(3, { axA with kind := 5 })], eps := [(7, { c := 11 })] })
def wAxisEvents_6_n := (3 : Fin 16)
def wAxisEvents_6_s : State := sto [(F.axDRIVE,3,2),(F.msSTAGE_MODE,3,1),(F.msSTATE,3,1),(F.msHOLD_DELAY_MS,3,0)] (fun m => { m with axs := [(3, { fell := false })] })
def wAxisEvents_7_s : State := sto [(F.axDRIVE,3,2),(F.msSTAGE_MODE,3,1),(F.msSTATE,3,3),(F.msFAULT,3,3)] (fun m => { m with axs := [(3, { fell := false })] })
def wAxisEvents_8_s : State := sto [(F.axDRIVE,3,2),(F.msSTAGE_MODE,3,1),(F.msSTATE,3,3),(F.msFAULT,3,5)] (fun m => { m with axs := [(3, { fell := false })] })
def wGroupsAndAxisCommands_1_t : Nat := 2000000
def wGroupsAndAxisCommands_1_g := (7 : Fin 8)
def wGroupsAndAxisCommands_1_s : State := sto [(F.ggMASTER,7,0x10),(F.ggMEMBERS,7,0x8000),(F.ggSTATE,7,1)] (fun m => { m with ggs := [(7, { state := 1, left := 1, s0 := [(15, 0)], splice := some (-3, 2, 0, true) })], axs := [(15, { speedAt := 2000000 })] })
def wGroupsAndAxisCommands_1_num := (-3 : Int)
def wGroupsAndAxisCommands_1_den := (2 : Nat)
def wGroupsAndAxisCommands_1_pos := (0 : Int)
def wGroupsAndAxisCommands_1_is : List Item := [itm 1 1 15, itm 2 1 1, itm 3 8 100, itm 4 4 1000]
def wGroupsAndAxisCommands_3_s : State := sto [(F.ggMASTER,7,0x10),(F.ggMEMBERS,7,0x8000),(F.ggSTATE,7,3)] (fun m => { m with ggs := [(7, { state := 3, s0 := [(15, 0)], downAt := 1000000, downT := 1000000 })] })
def wGroupsAndAxisCommands_4_s : State := sc [(F.axDRIVE,15,1),(F.axPOS_MAX,15,100000),(F.axVS,15,100),(F.axVE,15,100),(F.axV1,15,100),(F.axA1,15,1000),(F.axD1,15,1000),(F.axDQ,15,1000)] (fun m => { m with axs := [(15, { refLost := false, fell := false })] })
def wGroupsAndAxisCommands_4_msg : Msg := bq axisJogCard wGroupsAndAxisCommands_1_is
def wGroupsAndAxisCommands_5_s : State := sto axl (fun m => { m with axs := [(15, { axA with kind := 2 })] })
def wGroupsAndAxisCommands_5_is : List Item := [itm 1 1 15, itm 2 1 1]
def wGroupsAndAxisCommands_5_msg : Msg := { bq axisStopCard wGroupsAndAxisCommands_5_is with t := 2000000 }
def wGroupsAndAxisCommands_7_is : List Item := [itm 1 1 15, itm 2 8 (2^64-7)]
def wGroupsAndAxisCommands_7_msg : Msg := bq axisHomeCard wGroupsAndAxisCommands_7_is
def wGroupsAndAxisCommands_7_s : State := sto axl
def rowsA : List Nat := [0, 0xFF, 0, 0xFF, 0, 0xFF, 0xFF, 0xFF, 2, 0, 0, 0, 0, 0, 0, 0,
  2, 0, 0, 0, 0, 0, 0, 0, 0, 0, 3, 0, 1, 0, 1, 1,
  0xFF, 0, 0, 0, 0, 0, 0, 0, 0, 0, 1, 0, 1, 0, 0xFF, 0xFF]
def dl : List (Fld × Nat × Nat) := [(F.doorSTORYBOARD,0,0xFF),(F.doorSTORYBOARD,1,0xFF),(F.doorSTORYBOARD,2,0xFF),(F.doorSTORYBOARD,3,0xFF),(F.doorSTORYBOARD,255,1),(F.doorDRIVE_KIND,255,2),(F.doorFB_PORT,255,0xFF),(F.doorCLOSE_LC,255,0xFF),(F.doorSTEP_PRESENT,255,0),(F.doorOBST_METHODS,255,0)]
def wDoorTicks_1_t : Nat := 2000000
def wDoorTicks_1_d := (255 : Fin 256)
def wDoorTicks_1_s : State := sto (dl ++ [(F.doorROW,255,0)]) (fun m => { m with doors := [(255, { board := rowsA, rowAt := 0 })], cfg := some pkg0 })
def wDoorTicks_1_ok := (1 : Nat)
def wDoorTicks_1_to_ := (1 : Nat)
def wDoorTicks_2_s : State := sto (dl ++ [(F.doorROW,255,0)]) (fun m => { m with doors := [(255, { board := (rowsA.set 30 0xFF), rowAt := 0 })], cfg := some pkg0 })
def wDoorTicks_3_s : State := sto (dl ++ [(F.doorROW,255,0),(F.modeMODE,0,3)]) (fun m => { m with doors := [(255, { board := rowsA, rowAt := 0 })], cfg := some pkg0 })
def wDoorTicks_4_s : State := sto (dl ++ [(F.doorROW,255,0)]) (fun m => { m with doors := [(255, { board := (rowsA.set 26 1), rowAt := 0 })], cfg := some pkg0 })
def wDoorTicks_5_a := (0 : Nat)
def wDoorTicks_5_s : State := sto (dl ++ [(F.doorROW,255,0),(F.doorSTEP_PRESENT,255,1),(F.doorSTEP_TIME_MS,255,2)]) (fun m => { m with doors := [(255, { board := rowsA, rowAt := 0, outs := 1, depAt := some 0 })], cfg := some pkg0 })
def wDoorCommands_1_n := (255 : Fin 256)
def wDoorCommands_1_is : List Item := [itm 1 1 255, itm 2 1 1]
def wDoorCommands_1_s : State := sc (dl ++ [(F.doorROW,255,0xFF)]) (fun m => { m with doors := [(255, { board := rowsA })], cfg := some pkg0, boards := [(1, rowsA)] })
def wDoorCommands_1_msg : Msg := bq doorCommandCard wDoorCommands_1_is
def wDoorCommands_1_why := (7 : Nat)
def wDoorCommands_2_is : List Item := [itm 1 1 255, itm 2 1 7]
def wDoorCommands_2_msg : Msg := bq doorCommandCard wDoorCommands_2_is
def wDoorCommands_3_is : List Item := [itm 1 1 255]
def wDoorCommands_3_s : State := sc (dl ++ [(F.doorROW,255,0xFF),(F.doorDOOR_STATE,255,1),(F.doorREF_LOST,255,0)]) (fun m => { m with doors := [(255, { board := rowsA })], cfg := some pkg0, boards := [(1, (rowsA.set 1 0))] })
def wDoorCommands_3_msg : Msg := bq doorLearnCard wDoorCommands_3_is
def wDoorCommands_4_l := (⟨20, 4, 0, true, [(true, -7, 300), (false, 5, 400)], [-5], [7], some 0⟩ : LearnSt)
def wDoorCommands_4_s : State := sc (dl ++ [(F.doorROW,255,0xFF),(F.doorDOOR_STATE,255,9)]) (fun m => { m with doors := [(255, { board := rowsA, learn := some wDoorCommands_4_l })], cfg := some pkg0, boards := [(1, rowsA)] })
def wDoorCommands_5_l := (⟨20, 4, 0, true, [(true, -7, 300), (false, 5, 400)], [-5], [7], some 3⟩ : LearnSt)
def wDoorCommands_5_why := (2 : Nat)
def wDoorCommands_5_s : State := sc (dl ++ [(F.doorROW,255,0xFF),(F.doorDOOR_STATE,255,9)]) (fun m => { m with doors := [(255, { board := rowsA, learn := some wDoorCommands_5_l })], cfg := some pkg0, boards := [(1, rowsA)] })
def wDoorCommands_6_s : State := sto dl
def wDoorCommands_6_is : List Item := [itm 1 1 1, ⟨2, [0, 0xFF, 0, 0xFF, 0, 0xFF, 0xFF, 0xFF, 2, 0, 0, 0, 0, 0, 0, 0, 2, 0, 0, 0, 0, 0, 0, 0, 0, 0, 3, 0, 1, 0, 1, 1, 0xFF, 0, 0, 0, 0, 0, 0, 0, 0, 0, 1, 0, 1, 0, 0xFF, 0xFF]⟩]
def wDoorCommands_6_msg : Msg := bq storyboardLoadCard wDoorCommands_6_is
def wPowerEvents_1_t : Nat := 4000000000000
def wPowerEvents_1_k := (1 : Fin 2)
def wPowerEvents_1_ma := (1001 : Nat)
def wPowerEvents_1_mv := (24000 : Nat)
def wPowerEvents_1_cc := (10000 : Nat)
def wPowerEvents_1_v := (5999 : Nat)
def wPowerEvents_1_esr := (150 : Nat)
def wPowerEvents_1_s : State := sto [(F.railSHED_STAGE,1,14),(F.railSHED_MA,1,1000),(F.railSHED_MS,1,20),(F.chanSHED_RANK,31,15),(F.chanSHED_RANK,16,1),(F.gaugeESR_MOHM,0,100)] (fun m => { m with gauge := { testing := true, by_ := some (20, 4) }, rails := [(1, { trig := true, since := 3999980000000, riseAt := 3999980000000 })] })
def wPowerEvents_1_is : List Item := ([] : List Item)
def wPowerEvents_1_msg : Msg := { bq gaugeTestCard [] with t := 70000000000 }
def wPowerEvents_2_ma := (1000 : Nat)
def wPowerEvents_2_v := (8000 : Nat)
def wPowerEvents_2_s : State := sto [(F.railSHED_STAGE,1,15),(F.railSHED_MA,1,1000),(F.railRESTORE_S,1,30),(F.gaugeGAUGE_STATE,0,1)] (fun m => { m with gauge := { testAt := some (10^10), hourAt := 400 * 10^9 }, rails := [(1, { ended := 3970000000000 })] })
def wAlarmStates_1_t : Nat := 2000000
def wAlarmStates_1_a := (65535 : Fin 65536)
def wAlarmStates_1_b := (0 : Nat)
def wAlarmStates_1_e := (1000000000000 : Nat)
def wAlarmStates_1_g := (255 : Fin 256)
def wAlarmStates_1_s : State := sto [(F.alarmOWNER,65535,7),(F.alarmIN_SERVICE,65535,1),(F.alarmON_DELAY_MS,65535,2),(F.alarmSTATE,65535,0),(F.alarmFLOOD_GROUP,65535,255)] (fun m => { m with alarms := [(65535, { cond := true })] })
def wAlarmStates_1_is : List Item := [itm 1 2 65535]
def wAlarmStates_1_msg : Msg := bq alarmAckCard wAlarmStates_1_is
def wAlarmStates_2_s : State := sto [(F.alarmOWNER,65535,7),(F.alarmIN_SERVICE,65535,1),(F.alarmOFF_DELAY_MS,65535,2),(F.alarmSTATE,65535,1),(F.alarmFLOOD_GROUP,65535,255)] (fun m => { m with alarms := [(65535, { active := true })] })
def wAlarmStates_3_s : State := sto [(F.alarmOWNER,65535,7),(F.alarmIN_SERVICE,65535,1),(F.alarmOFF_DELAY_MS,65535,2),(F.alarmSTATE,65535,2),(F.alarmLATCHING,65535,1),(F.alarmFLOOD_GROUP,65535,255)] (fun m => { m with alarms := [(65535, { active := true })] })
def wAlarmStates_4_t : Nat := 60000000000
def wAlarmStates_4_s : State := sto [(F.alarmOWNER,65535,7),(F.alarmIN_SERVICE,65535,1),(F.alarmSTATE,65535,5),(F.alarmMAX_SHELVE_MIN,65535,1),(F.alarmFLOOD_GROUP,65535,255)] (fun m => { m with alarms := [(65535, { shelf := some (0, 1000000000000) })] })
def wAlarmStates_4_msg : Msg := bq alarmUnshelveCard wAlarmStates_1_is
def wAlarmStates_5_s : State := sto [(F.floodSTATE,255,1),(F.floodFLOOD_COUNT,255,3),(F.floodFLOOD_HOLD_S,255,60)] (fun m => { m with floods := [(255, { entries := [59999999999] })] })
def wAlarmStates_6_is : List Item := [itm 1 2 65535, itm 3 2 480]
def wAlarmStates_6_s : State := sto [(F.alarmOWNER,65535,7),(F.alarmIN_SERVICE,65535,1),(F.alarmSTATE,65535,1),(F.alarmMAX_SHELVE_MIN,65535,480),(F.alarmFLOOD_GROUP,65535,255)] (fun m => { m with alarms := [(65535, { active := true })] })
def wAlarmStates_6_msg : Msg := bq alarmShelveCard wAlarmStates_6_is
def effB : List Nat := [1, 1, 0, 0, 0, 1, 0, 0, 0, 0, 0, 0, 2, 0, 0, 0]
def wMatrixCommands_1_t : Nat := 2000000
def wMatrixCommands_1_e := (4095 : Fin 4096)
def wMatrixCommands_1_p := (0 : Nat)
def wMatrixCommands_1_a := (0 : Nat)
def wMatrixCommands_1_s : State := sto [(F.causeSTATE,4095,2)] (fun m => { m with matrix := { effects := [(4095, effB)], inters := [(4095, 4095)] }, effs := [(4095, { since := some 0 })] })
def wMatrixCommands_1_is : List Item := [itm 1 1 2, itm 2 4 262143, ⟨3, [1,2,3,0]⟩]
def wMatrixCommands_1_msg : Msg := bq causeMatrixLoadCard wMatrixCommands_1_is
def wSafetyInputs_1_t : Nat := 2000000000
def wSafetyInputs_1_n := (15 : Fin 16)
def wSafetyInputs_1_a := (1997000000 : Nat)
def wSafetyInputs_1_place := (1023 : Fin 1024)
def wSafetyInputs_1_conn := (1 : Nat)
def wSafetyInputs_1_counter := (1 : Nat)
def wSafetyInputs_1_data := (2^64-1 : Nat)
def wSafetyInputs_1_crc := crc32c (telegramBytes 9 1023 1 1 (2^64-1))
def wSafetyInputs_1_c' := (255 : Nat)
def wSafetyInputs_1_l := (65535 : Nat)
def wSafetyInputs_1_c := (255 : Fin 256)
def wSafetyInputs_1_s : State := isA (fun i => { i with pairs := [(15, { a := { closed := true }, b := { closed := true, cand := some 1997000000 }, phase := 0 })] }) [(F.modMODULE_ID,0,9)]
def wSafetyInputs_2_crc := (0 : Nat)
def wSafetyInputs_2_s : State := isA (fun i => { i with pairs := [(15, { a := { closed := true }, b := { closed := true, miss := 1 }, phase := 0 })], conns := [(255, { last := some 65501, quiet := 50, healthy := true })] }) [(F.modMODULE_ID,0,9)]
def wSafetyInputs_3_s : State := isA (fun i => { i with pairs := [(15, { a := { closed := true, cand := some 1997000000 }, b := {}, phase := 1, at_ := 1500000000 })] }) [(F.modMODULE_ID,0,9)]
def wSafetyFunctions_1_ppm := (-10000 : Int)
def wSafetyFunctions_1_n := (7 : Fin 8)
def wSafetyFunctions_1_stuck := (128 : Nat)
def wSafetyFunctions_1_src := (31 : Fin 32)
def wSafetyFunctions_1_a := (1900000000 : Nat)
def wSafetyFunctions_1_s : State := isA (fun i => { i with sqOn := 128 })
def wSafetyFunctions_2_s : State := ramSt [.put .applied 0xEF0 1] (isA (fun i => { i with sqOn := 127 }))
def wSafetyFunctions_3_s : State := isA (fun i => { i with sqOn := 127, darkAt := 0, darks := 6 })
def wSafetyFunctions_3_t : Nat := 90000000000000
def wSafetyFunctions_4_s : State := isA (fun i => { i with sqOn := 128, darkAt := 0 })
def wSafetyFunctions_5_t : Nat := 2000000000
def wSafetyFunctions_6_f := (63 : Fin 64)
def wSafetyFunctions_6_e := (2000000000 : Nat)
def wSafetyFunctions_6_s : State := isA (fun i => { i with sqOn := 128, fns := [(63, { delayEnd := some 2000000000 })] }) [(F.sfSTATE,63,4)]
def wSafetyFunctions_7_s : State := isA (fun i => { i with fns := [(63, { since := some 1900000000 })] }) [(F.sfSTATE,63,2),(F.modMODULE_ID,0,0)]
def wSafetyFunctions_8_f := (0 : Nat)
def wSafetyFunctions_8_s : State := isA (fun i => { i with rsts := [(31, { level := true, riseAt := some 1900000000 })] }) [(F.sfSTATE,0,3),(F.modMODULE_ID,0,0)]
def wSafetyFunctions_9_s : State := isA (fun i => { i with rsts := [(31, { level := true })] })
def wBrakes_1_t : Nat := 2000000000
def wBrakes_1_k := (3 : Fin 4)
def wBrakes_1_s : State := isA (fun i => { i with brakes := [(3, { passedAt := 0 })] }) [] (fun m => m.updTime (fun y => { y with opSeconds := 86400 }))
def wBrakes_1_b := (⟨20, 4, 1000000000, 2, 0, 0, 0⟩ : BrTest)
def wBrakes_1_is : List Item := [itm 1 1 7]
def wBrakes_1_msg : Msg := bq brakeTestCard wBrakes_1_is
def wBrakes_2_s : State := isA (fun i => { i with brakes := [(3, { test := some wBrakes_1_b })] }) [(F.axDRIVE,3,2),(F.msSTATE,3,1)]
def wBrakes_3_b := (⟨20, 4, 1000000000, 3, 0, 0, 0⟩ : BrTest)
def wBrakes_3_s : State := isA (fun i => { i with brakes := [(3, { test := some wBrakes_3_b })] }) [(F.axFB_PORT,3,7)]
def wBrakes_4_b := (⟨20, 4, 1000000000, 4, 0, 0, 0⟩ : BrTest)
def wBrakes_4_s : State := isA (fun i => { i with brakes := [(3, { test := some wBrakes_4_b })] })
def wBrakes_5_b := (⟨20, 4, 1000000000, 5, 5, 5, 0⟩ : BrTest)
def wBrakes_5_s : State := isA (fun i => { i with brakes := [(3, { test := some wBrakes_5_b, failed := true, due := true })] }) [(F.axDRIVE,3,2),(F.axFB_PORT,3,7)]
def wBrakes_6_s : State := isA id [(F.axDRIVE,3,2),(F.axFB_PORT,3,7)] (fun m => m.role 3)
def setBs : List Nat := [(1, 1), (3, 0), (1, 9), (7, 0), (1, 100), (1, 0), (1, 184), (1, 11), (1, 10), (15, 0), (1, 1), (1, 0), (1, 3), (1, 0), (1, 244), (1, 1), (1, 144), (1, 1), (1, 100), (247, 0), (1, 255), (15, 0), (1, 255), (15, 0), (1, 255), (15, 0), (1, 255), (49, 0), (15, 255), (2, 0), (1, 3), (4, 255), (1, 15), (3, 0), (1, 31), (4067, 0)].flatMap (fun (e : Nat × Nat) => List.replicate e.1 e.2)
def fragTail : List Nat := [0xF2, 0, 2, 0, 1] ++ (itemBytes [⟨1, setBs⟩]).drop 4000
def wSafetySets_1_s : State := sc [(F.modMODULE_ID,0,9)] (fun m => (m.role 3).updCq 20 (fun q => { q with asm := some ⟨0x0C10, 255, 0, 0, 0, 0, false, (itemBytes [⟨1, setBs⟩]).take 4000⟩ }))
def wSafetySets_1_is : List Item := [⟨1, setBs⟩]
def wSafetySets_1_msg : Msg := { bq safetyParamWriteCard [] with plen := fragTail.length, size := 32 + fragTail.length, params := fragTail }
def wSafetySets_2_is : List Item := [itm 1 4 77]
def wSafetySets_2_msg : Msg := bq slateConfirmCard wSafetySets_2_is
def wSafetySets_2_st := ([(0, 1)] : Table Nat)
def wSafetySets_2_s : State := sc [(F.islSTAGED_SLATE,0,77)] (fun m => { m.role 3 with isl := { staged := some wSafetySets_2_st } })
def prd : List (Fld × Nat × Nat) := [(F.pairROLE_HOME,0,2),(F.partREDUNDANT,7,1),(F.partCE_SET,7,1),(F.psecSTATE,2,2),(F.modMODULE_ID,0,9),(F.modeMODE,0,3),(F.cycPERIOD_M,7,8)]
def wStandinTakes_1_t : Nat := 90000000000000
def wStandinTakes_1_p := (7 : Fin 8)
def wStandinTakes_1_f := (⟨false, State.reset.m.sys.pairType, true, true, false, false, 7, 9, 0, 5, 0, [1, 2, 3], crc32c [1, 2, 3], true⟩ : TakeIn)
def wStandinTakes_1_k := (7 : Fin 8)
def wStandinTakes_1_s : State := sto (prd ++ [(F.takeLAST_GEN,7,2^32-1),(F.pairDRY_S,0,10)]) (fun m => { m with pm := { peer := { downPair := false }, takes := [(7, { seen := true })] } })
def wStandinTakes_2_s : State := sto (prd ++ [(F.takeLAST_GEN,7,2^32-2),(F.pairDRY_S,0,10)]) (fun m => { m with pm := { peer := { downPair := false }, takes := [(7, { seen := true })], dryPart := 7 } })
def wStandinTakes_3_s : State := sto (prd ++ [(F.modeMODE,0,2)]) (fun m => { m with pm := { takes := [(7, { claps := 1000, full := true })] } })
def wStandinTakes_4_e := ((.bank true, 2) : MemWord × Nat)
def wStandinTakes_4_s : State := sto (prd ++ [(F.modeMODE,0,1),(F.cePARTITION,7,7),(F.partSTATE,7,1)]) (fun m => { m.updEng 7 (fun e => { e with run := 1 }) with pm := { takes := [(7, { claps := 1000, full := false })] } })
def islSL : Nat := State.reset.m.obj F.islSLATE
def wPartnerAndRoles_1_t : Nat := 90000000000
def wPartnerAndRoles_1_h := ({ moduleId := 9, epoch := 6, seq := 1, role := 1, flags := 3, cause := 0, programId := 7, slate := 8, gens := [1], etherType := State.reset.m.sys.pairType, variant := 0, serial := 0, firmware := true, port := 1, secured := true } : HbIn)
def wPartnerAndRoles_1_s : State := sto (prd ++ [(F.pairEPOCH,0,5),(F.takeSYNC,7,3)]) (fun m => { m with pm := { peer := { role := some 1, missPair := 3, missNet := 3, clap := 0, slate := islSL, programId := State.reset.m.obj F.pairPROGRAM_ID }, ready := true } })
def wPartnerAndRoles_2_h := { wPartnerAndRoles_1_h with firmware := false }
def wPartnerAndRoles_2_s : State := sto (prd ++ [(F.pairEPOCH,0,2^32-1),(F.modeMODE,0,1)]) (fun m => { m with pm := { peer := { role := some 2, missPair := 3, missNet := 3, clap := 0 } } })
def wPartnerAndRoles_4_k := (⟨89000000000, 5, false, none⟩ : Takeover)
def wPartnerAndRoles_4_s : State := sto (prd ++ [(F.pairEPOCH,0,5),(F.pairLARDER_BYTES,0,1000)]) (fun m => { m with pm := { takeover := some wPartnerAndRoles_4_k } })
def wPartnerAndRoles_5_a := (89999000000 : Nat)
def wPartnerAndRoles_5_k := (⟨89000000000, 5, false, some 89999000000⟩ : Takeover)
def wPartnerAndRoles_5_s : State := sto (prd ++ [(F.pairEPOCH,0,5)]) (fun m => { m with pm := { takeover := some wPartnerAndRoles_5_k } })
def wPartnerAndRoles_6_s : State := sto (prd ++ [(F.modeMODE,0,255),(F.pairEPOCH,0,5)]) (fun m => { m.updSys (fun x => { x with bringup := 8, stepAt := 88000000000 }) with pm := { peer := { role := some 1, epoch := 9 } } })
def wPartnerAndRoles_7_a := (0 : Nat)
def wPartnerAndRoles_7_s : State := sto (prd ++ [(F.pairEPOCH,0,5),(F.pairALONE_WAIT_S,0,60),(F.placePARTITION,1023,7),(F.nodePARTITION,511,7)]) (fun m => { m with pm := { aloneAt := some 0 }, places := [(1023, { missed := 0, flags := 64 })], nodes := [(511, { missed := 0, header := 16 })] })
def wPartnerAndRoles_8_s : State := sto (prd ++ [(F.pairEPOCH,0,5)]) (fun m => { m with pm := { testing := true } })
def wPlannedSwitches_1_t : Nat := 90000000000
def wPlannedSwitches_1_w := (⟨some (0x0D11, 20, 4), 80000000000, 10000, 90000000000, false⟩ : Switch)
def wPlannedSwitches_1_s : State := sto (prd ++ [(F.modeMODE,0,1),(F.pairEPOCH,0,5)]) (fun m => { m with pm := { switch := some wPlannedSwitches_1_w, peer := { role := some 2, flags := 1, downPair := false } } })
def wPlannedSwitches_2_w := (⟨none, 80000000000, 10000, 90000000000, true⟩ : Switch)
def wPlannedSwitches_2_s : State := sto (prd ++ [(F.pairEPOCH,0,2^32-1)]) (fun m => { m with pm := { switch := some wPlannedSwitches_2_w, peer := { role := some 1, flags := 1, downPair := false } } })
def wPlannedSwitches_3_a := (30000000000 : Nat)
def wPlannedSwitches_3_s : State := sto (prd ++ [(F.pairROLE_HOME,0,1),(F.pairREVERTIVE,0,1),(F.pairCLEAN_S,0,60)]) (fun m => { m with pm := { cleanAt := some 30000000000, ready := true, peer := { role := some 1, downPair := false } } })
def wPlannedSwitches_4_s : State := sto (prd ++ [(F.modeMODE,0,0),(F.secLIFECYCLE,0,2)])
def wPlannedSwitches_4_is : List Item := [itm 1 1 2, itm 2 8 88]
def wPlannedSwitches_4_msg : Msg := bq pairSetCard wPlannedSwitches_4_is
def wPlannedSwitches_6_s : State := sto (prd ++ [(F.modeMODE,0,1),(F.pairEPOCH,0,5)]) (fun m => { m with pm := { peer := { role := some 2, flags := 1, downPair := false } } })
def wPlannedSwitches_6_is : List Item := [itm 1 2 10000]
def wPlannedSwitches_6_msg : Msg := bq switchoverCard wPlannedSwitches_6_is
def wPlannedSwitches_7_is : List Item := [itm 2 1 1]
def wPlannedSwitches_7_msg : Msg := bq handbackCard wPlannedSwitches_7_is
def wPlannedSwitches_8_is : List Item := [itm 1 1 7]
def wPlannedSwitches_8_msg : Msg := bq fullTakeCard wPlannedSwitches_8_is
def wPlannedSwitches_11_q := (20 : Nat)
def wPlannedSwitches_11_id := (2 : Nat)
def wPlannedSwitches_11_s : State := sto [(F.pairROLE_HOME,0,1),(F.psecSTATE,2,2),(F.modMODULE_ID,0,9)] (fun m => { (m.updSys (fun x => { x with changeAsk := some (pkg0, 20) })).updCq 20 (fun x => { x with running := some (bq changeCommitCard [], 0) }) with cfg := some pkg0, pm := { peer := { role := some 2, downPair := false, fits := true } } })
def wRecorderCommands_1_x := (⟨0, 1, List.replicate 64 1, [20], true⟩ : Rush)
def wRecorderCommands_1_rest := ([] : List Rush)
def wRecorderCommands_1_cls := (0 : Fin 2)
def wRecorderCommands_1_is : List Item := [itm 1 1 1]
def wRecorderCommands_1_msg : Msg := bq openWindowCard wRecorderCommands_1_is
def wRecorderCommands_1_h := (0 : Nat)
def wRecorderCommands_1_s : State := sto [(F.recSPARE_BLOCKS,0,1)] (fun m => m.updRec (fun r => { r with rushes := [wRecorderCommands_1_x], isOpen := true, wins := [(7, ⟨20, 1, 0, 511, 0⟩)] }))
def wRecorderCommands_2_s : State := sto [] (fun m => m.updRec (fun r => { r with isOpen := true, staging := (List.range 256).map (fun i => (1, i + 1, List.replicate 64 2)) }))
def wRecorderCommands_3_s : State := sto [(F.recCHRON_NEXT,0,5),(F.recCHRON_OLDEST,0,1)] (fun m => m.updRec (fun r => { r with isOpen := true, staging := (List.range 256).map (fun i => (2, i + 2000000, List.replicate 64 2)), wins := [(7, ⟨20, 1, 5, 511, 0⟩)] }))
def wRecorderCommands_3_is : List Item := [itm 1 1 7, itm 2 1 1]
def wRecorderCommands_3_msg : Msg := bq readWindowCard wRecorderCommands_3_is
def wRecorderCommands_3_w := ((7, ⟨20, 1, 5, 511, 0⟩) : Nat × Win)
def wRecorderCommands_4_is : List Item := [itm 1 1 7]
def wRecorderCommands_4_msg : Msg := bq closeWindowCard wRecorderCommands_4_is
def wResetSources_1_t : Nat := 90000000000
def wResetSources_1_low := (60000 : Nat)
def wResetSources_1_s : State := { sto [] with m := { base with sys := { off := true, mains := false } } }
def wResetSources_2_s : State := sto [] (fun m => m.updIsl (fun i => { i with sqOn := 3 }))
def wResetSources_4_low := (9999 : Nat)
def wResetSources_5_a := (60000000000 : Nat)
def wResetSources_5_s : State := sto [] (fun m => m.updSys (fun x => { x with wdAt := some 60000000000, restarting := none }))
def wResetSources_6_a := (80000000000 : Nat)
def wResetSources_6_s : State := sto [] (fun m => m.updSys (fun x => { x with restarting := some 80000000000 }))
def wResetSources_7_due := (80000000000 : Nat)
def wResetSources_7_cause := (255 : Nat)
def wResetSources_7_s : State := sto [] (fun m => m.updSys (fun x => { x with resetDue := some (80000000000, 255) }))
def wResetSources_8_l := (3 : Nat)
def wResetSources_8_s : State := sto [] (fun m => m.updSys (fun x => { x with resetDue := some (80000000000, 255), lifeNext := some 3 }))
def wResetSources_9_s : State := sto [(F.secDEBUG_LEVEL,0,2),(F.modeMODE,0,5)]
def wBringUpSteps_1_t : Nat := 90000000000
def wBringUpSteps_1_b := (⟨true, false, 0, false, true⟩ : BringUp)
def wBringUpSteps_1_k := (1 : Nat)
def wBringUpSteps_1_s : State := sto [(F.modeMODE,0,255)] (fun m => m.updSys (fun x => { x with bringup := 1 }))
def wBringUpSteps_4_s : State := sto [(F.modeMODE,0,255)] (fun m => m.updSys (fun x => { x with bringup := 6, stepAt := 1 }))
def wBringUpSteps_5_b := (⟨false, true, 0, false, true⟩ : BringUp)
def wBringUpSteps_5_s : State := sto [(F.modeMODE,0,255)] (fun m => m.updSys (fun x => { x with bringup := 4 }))
def wBringUpSteps_6_s : State := sto [(F.modeMODE,0,255)] (fun m => m.updSys (fun x => { x with bringup := 8 }))
def wBringUpSteps_7_s : State := sto [(F.modeMODE,0,1)]
def wCertificatesAndLinks_1_t : Nat := 90000000000000
def wCertificatesAndLinks_1_is : List Item := [itm 1 1 0]
def wCertificatesAndLinks_1_msg : Msg := bq certGetCard wCertificatesAndLinks_1_is
def wCertificatesAndLinks_1_s : State := sto [(F.secDEBUG_LEVEL,0,0)] (fun m => m.role 4)
def wCertificatesAndLinks_1_port := (2 : Fin 3)
def wCertificatesAndLinks_2_cipher := (2 : Nat)
def wCertificatesAndLinks_2_is : List Item := [itm 1 1 1]
def wCertificatesAndLinks_2_msg : Msg := bq certGetCard wCertificatesAndLinks_2_is
def wCertificatesAndLinks_2_s : State := sto [(F.psecMACSEC_MODE,2,1),(F.psecSTATE,2,2)] (fun m => { m.role 4 with sec := { ownerCert := [1,2], anchors := [(7, [3])] } })
def wCertificatesAndLinks_3_a := ((7, [3]) : Nat × List Nat)
def wCertificatesAndLinks_3_is : List Item := [itm 1 1 2, itm 2 1 7]
def wCertificatesAndLinks_3_msg : Msg := bq certGetCard wCertificatesAndLinks_3_is
def wCertificatesAndLinks_5_is : List Item := [itm 1 1 0, itm 2 1 7, ⟨3, [5,6]⟩, itm 4 1 1, itm 5 1 4, itm 6 8 255]
def wCertificatesAndLinks_5_msg : Msg := bq certInstallCard wCertificatesAndLinks_5_is
def wCertificatesAndLinks_5_s : State := sto [(F.modeMODE,0,0)] (fun m => m.role 4)
def wCertificatesAndLinks_6_a := (1 : Nat)
def wCertificatesAndLinks_6_is : List Item := [itm 1 1 1]
def wCertificatesAndLinks_6_msg : Msg := bq lifecycleSetCard wCertificatesAndLinks_6_is
def dbg (f : Mach → Mach) (l : List (Fld × Nat × Nat) := []) : State := sto ([(F.modeMODE,0,5)] ++ l) (fun m => f (m.updConn 0 (fun c => { c with role := 4, port := 2 })))
def wDebugAccess_1_t : Nat := 90000000000
def wDebugAccess_1_is : List Item := [itm 1 1 0, itm 2 1 1]
def wDebugAccess_1_msg : Msg := bq debugAuthCard wDebugAccess_1_is
def wDebugAccess_1_s : State := dbg id
def wDebugAccess_2_n := (77 : Nat)
def wDebugAccess_2_a := (0 : Nat)
def wDebugAccess_2_is : List Item := [itm 1 1 1, itm 2 1 1, ⟨3, [5]⟩, ⟨4, List.replicate 96 1⟩]
def wDebugAccess_2_msg : Msg := bq debugAuthCard wDebugAccess_2_is
def wDebugAccess_2_s : State := dbg (fun m => { m with sec := { nonce := some (77, 0) } })
def wDebugAccess_3_is : List Item := [itm 1 1 1, itm 2 1 2, ⟨3, [5]⟩, ⟨4, List.replicate 96 1⟩]
def wDebugAccess_3_msg : Msg := bq debugAuthCard wDebugAccess_3_is
def wDebugAccess_4_is : List Item := []
def wDebugAccess_4_msg : Msg := bq debugCloseCard []
def wDebugAccess_4_e := (90000000000 : Nat)
def wDebugAccess_4_s : State := dbg (fun m => { m with sec := { leaseEnd := some 90000000000, blocked := some 90000000000, debugConn := 0 } }) [(F.secDEBUG_LEVEL,0,2)]
def wDebugAccess_4_sp := (2 : Nat)
def wDebugAccess_4_a := (5 : Nat)
def wPowerDown_1_t : Nat := 90000000000
def wPowerDown_1_s : State := sto [(F.secDEBUG_LEVEL,0,1)] (fun m => { m with svc := { cartIn := true, cartFault := false } })
def wPowerDown_2_s : State := sto [(F.powPOWER_STATE,0,1)] (fun m => m.updSys (fun x => { x with mains := false, lostAt := some 1 }))
def wPowerDown_2_a := (1 : Nat)
def wPowerDown_3_w := (⟨1, 1, 5⟩ : Wrap)
def wPowerDown_3_s : State := sto [(F.powPOWER_STATE,0,1)] (fun m => m.updSys (fun x => { x with mains := false, wrap := some wPowerDown_3_w }))
def wPowerDown_4_w := (⟨1, 2, 5⟩ : Wrap)
def wPowerDown_4_s : State := sto [(F.powPOWER_STATE,0,1)] (fun m => m.updSys (fun x => { x with mains := false, wrap := some wPowerDown_4_w }))
def wPowerDown_5_w := (⟨1, 3, 5⟩ : Wrap)
def wPowerDown_5_s : State := sto [(F.powPOWER_STATE,0,1)] (fun m => m.updSys (fun x => { x with mains := false, wrap := some wPowerDown_5_w }))
def wPowerDown_6_w := (⟨1, 4, 5⟩ : Wrap)
def wPowerDown_6_s : State := sto [(F.powPOWER_STATE,0,1)] (fun m => m.updSys (fun x => { x with mains := false, wrap := some wPowerDown_6_w }))
def wPowerDown_7_s : State := sto [(F.powPOWER_STATE,0,1)] (fun m => m.updSys (fun x => { x with mains := true, wrap := some wPowerDown_6_w }))
def wPowerDown_8_s : State := sto [(F.modeMODE,0,3),(F.pairLOW_OK,0,1),(F.gaugePF_STATE,0,0)] (fun m => m.updSys (fun x => { x with standSince := some 1, mains := true }))
def wFirmwareUpdates_1_t : Nat := 900000000000
def wFirmwareUpdates_1_is : List Item := [itm 1 1 0, itm 3 4 2]
def wFirmwareUpdates_1_msg : Msg := bq updateBeginCard wFirmwareUpdates_1_is
def wFirmwareUpdates_1_s : State := sto [] (fun m => m.role 2)
def wFirmwareUpdates_5_x := (⟨0, 0, 3, 0, [7], false, 0, 0, 0, 0, 20, 5, 100⟩ : Update)
def wFirmwareUpdates_5_is : List Item := [itm 1 4 1, ⟨2, [8, 9]⟩]
def wFirmwareUpdates_5_msg : Msg := bq updateDataCard wFirmwareUpdates_5_is
def wFirmwareUpdates_5_s : State := sto [] (fun m => { m.role 2 with svc := { update := some wFirmwareUpdates_5_x } })
def wFirmwareUpdates_6_x := (⟨3, 0, 1, 0, [7], false, 0, 0, 0, 0, 20, 5, 100⟩ : Update)
def wFirmwareUpdates_6_v := (⟨false, 5, 6, 7, 8⟩ : Verdict)
def wFirmwareUpdates_6_s : State := sto [] (fun m => { m.role 2 with svc := { update := some wFirmwareUpdates_6_x } })
def wFirmwareUpdates_7_v := (⟨true, 5, 6, 7, 8⟩ : Verdict)
def wFirmwareUpdates_7_s : State := sto [] (fun m => { m.role 2 with svc := { update := some wFirmwareUpdates_6_x, floors := [(3, 5)] } })
def wFirmwareUpdates_8_s : State := sto [] (fun m => { m.role 2 with svc := { update := some wFirmwareUpdates_6_x, floors := [(3, 6)] } })
def wFirmwareUpdates_9_x := (⟨3, 0, 1, 0, [7], true, 5, 0, 0, 0, 20, 5, 100⟩ : Update)
def wFirmwareUpdates_9_is : List Item := [itm 1 1 1]
def wFirmwareUpdates_9_msg : Msg := bq updateActivateCard wFirmwareUpdates_9_is
def wFirmwareUpdates_9_s : State := sto [] (fun m => { m.role 2 with svc := { update := some wFirmwareUpdates_9_x } })
def wFirmwareUpdates_10_x := (⟨0, 0, 1, 0, [7], true, 5, 0, 0, 0, 20, 5, 100⟩ : Update)
def wFirmwareUpdates_10_is : List Item := []
def wFirmwareUpdates_10_msg : Msg := bq updateActivateCard []
def wFirmwareUpdates_10_s : State := sto [] (fun m => { m.role 2 with svc := { update := some wFirmwareUpdates_10_x } })
def wFirmwareUpdates_11_a := (⟨4, 0, 20, 5, 1, true, 9, true⟩ : Activation)
def wFirmwareUpdates_11_s : State := sto [] (fun m => { m with svc := { activation := some wFirmwareUpdates_11_a } })
def wFirmwareUpdates_12_x := (⟨90000000000, true, 3, 9⟩ : Trial)
def wFirmwareUpdates_12_s : State := sto [] (fun m => { m with svc := { trial := some wFirmwareUpdates_12_x } })
def sLoad : State := sc [] (fun m => { m.role 2 with svc := { load := some (0, 3, [7, 8, 9], 20, 100) } })
def sChg : State := sto [(F.partCE_SET,0,1),(F.partSTATE,0,1),(F.cycIDLE_NS,0,2000)] (fun m => { (m.role 2).updPart 0 (fun x => { x with phase := 2 }) with svc := { load := some (1, 3, [7, 8, 9], 20, 100) }, cfg := some pkg0 })
def wConfigurationLoads_1_t : Nat := 900000000000
def wConfigurationLoads_1_is : List Item := [itm 1 1 0, itm 2 4 7]
def wConfigurationLoads_1_msg : Msg := bq loadBeginCard wConfigurationLoads_1_is
def wConfigurationLoads_1_s : State := sc [] (fun m => m.role 2)
def wConfigurationLoads_2_is : List Item := []
def wConfigurationLoads_2_msg : Msg := bq loadAbortCard []
def wConfigurationLoads_2_kind := (0 : Nat)
def wConfigurationLoads_2_size := (3 : Nat)
def wConfigurationLoads_2_data := ([7] : List Nat)
def wConfigurationLoads_2_q := (20 : Nat)
def wConfigurationLoads_2_a := (100 : Nat)
def wConfigurationLoads_2_s : State := sc [] (fun m => { m.role 2 with svc := { load := some (0, 3, [7], 20, 100) } })
def wConfigurationLoads_3_is : List Item := [itm 1 4 1, ⟨2, [8, 9]⟩]
def wConfigurationLoads_3_msg : Msg := bq loadDataCard wConfigurationLoads_3_is
def wConfigurationLoads_4_is : List Item := []
def wConfigurationLoads_4_msg : Msg := bq loadCommitCard []
def wConfigurationLoads_4_data := ([7,8,9] : List Nat)
def wConfigurationLoads_5_kind := (1 : Nat)
def wConfigurationLoads_5_is : List Item := []
def wConfigurationLoads_5_msg : Msg := bq changeCommitCard []
def wCalibrationAndCartridge_1_t : Nat := 900000000000
def wCalibrationAndCartridge_1_is : List Item := [itm 1 1 0, itm 2 1 3]
def wCalibrationAndCartridge_1_msg : Msg := bq calibrateCard wCalibrationAndCartridge_1_is
def wCalibrationAndCartridge_1_s : State := sto [] (fun m => m.role 2)
def wCalibrationAndCartridge_1_l := (⟨2^32-1, 2^32-1, 65536, -400, false⟩ : CartLevel)
def wCalibrationAndCartridge_2_is : List Item := []
def wCalibrationAndCartridge_2_msg : Msg := bq cartridgeReplaceCard []
def wCalibrationAndCartridge_2_kind := (0 : Nat)
def wCalibrationAndCartridge_2_unit := (3 : Nat)
def wCalibrationAndCartridge_2_q := (20 : Nat)
def wCalibrationAndCartridge_2_sq := (9 : Nat)
def wCalibrationAndCartridge_2_e := (100 : Nat)
def wCalibrationAndCartridge_2_offset := (-500 : Int)
def wCalibrationAndCartridge_2_gain := (10000 : Int)
def wCalibrationAndCartridge_2_s : State := sto [] (fun m => { m.role 2 with svc := { calib := some (0, 3, 20, 9, 100), corr := [(3, (4, 5))], cartIn := true } })
def wCalibrationAndCartridge_3_offset := (501 : Int)
def wCalibrationAndCartridge_5_w := some ((20, 9) : Nat × Nat)
def wCalibrationAndCartridge_5_s : State := sto [] (fun m => { m.role 2 with svc := { cartIn := false, cartWin := some (some (20, 9), 100), cartSerial := 8 } })

theorem witness_RequestProtocol_1 :
    (Part.request wRequestProtocol_1_i = some mPing) ∧ ((wRequestProtocol_2_s.m.deaf = true ∨ (wRequestProtocol_2_s.m.conn ↑mPing.conn).state ≠ 2)) ∧
    (Part.request wRequestProtocol_3_i = some wRequestProtocol_3_msg) ∧
    ((wRun.m.deaf = false) ∧ ((wRun.m.conn ↑wRequestProtocol_3_msg.conn).state = 2) ∧ (wRequestProtocol_3_msg.size < 32 ∨ wRequestProtocol_3_msg.magic ≠ 23107)) ∧
    (Part.request wRequestProtocol_5_i = some wRequestProtocol_5_msg) ∧
    ((wRun.m.deaf = false) ∧ ((wRun.m.conn ↑wRequestProtocol_5_msg.conn).state = 2) ∧ (32 ≤ wRequestProtocol_5_msg.size) ∧ (wRequestProtocol_5_msg.magic = 23107) ∧ (bit wRequestProtocol_5_msg.flags 7 = false) ∧ (bit wRequestProtocol_5_msg.flags 6 = false) ∧ (wRequestProtocol_5_msg.version ≠ 1)) ∧
    (Part.request wRequestProtocol_6_i = some wRequestProtocol_6_msg) :=
  ⟨rfl, by decide +kernel, rfl, by decide +kernel, rfl, by decide +kernel, rfl⟩

theorem witness_RequestProtocol_2 :
    ((wRun.m.deaf = false) ∧ ((wRun.m.conn ↑wRequestProtocol_6_msg.conn).state = 2) ∧ (32 ≤ wRequestProtocol_6_msg.size) ∧ (wRequestProtocol_6_msg.magic = 23107) ∧ (bit wRequestProtocol_6_msg.flags 7 = false) ∧ (bit wRequestProtocol_6_msg.flags 6 = false) ∧ (wRequestProtocol_6_msg.version = 1) ∧ (wRequestProtocol_6_msg.size ≠ 32 + wRequestProtocol_6_msg.plen ∨ 1400 < wRequestProtocol_6_msg.plen)) ∧
    (Part.request wRequestProtocol_7_i = some wRequestProtocol_7_msg) ∧ (Framed wRequestProtocol_7_msg wRun) ∧
    (((wRun.m.conn ↑wRequestProtocol_7_msg.conn).tag = 0 ∨ wRequestProtocol_7_msg.tag ≠ (wRun.m.conn ↑wRequestProtocol_7_msg.conn).tag)) ∧
    (Part.request wRequestProtocol_8_i = some wRequestProtocol_8_msg) ∧ (Framed wRequestProtocol_8_msg wRun) ∧
    (((wRun.m.conn ↑wRequestProtocol_8_msg.conn).tag ≠ 0) ∧ (wRequestProtocol_8_msg.tag = (wRun.m.conn ↑wRequestProtocol_8_msg.conn).tag) ∧ (63 < wRequestProtocol_8_msg.queue ∨ (wRun.m.cq wRequestProtocol_8_msg.queue).conn ≠ ↑wRequestProtocol_8_msg.conn)) :=
  ⟨by decide +kernel, rfl, by unfold Framed; decide +kernel, by decide +kernel, rfl, by unfold Framed; decide +kernel, by decide +kernel⟩

theorem witness_RequestProtocol_3 :
    (Part.request wRequestProtocol_9_i = some wRequestProtocol_9_msg) ∧ (Framed wRequestProtocol_9_msg wRun) ∧
    (((wRun.m.conn ↑wRequestProtocol_9_msg.conn).tag ≠ 0 ∧ wRequestProtocol_9_msg.tag = (wRun.m.conn ↑wRequestProtocol_9_msg.conn).tag ∧ wRequestProtocol_9_msg.queue ≤ 63 ∧ (wRun.m.cq wRequestProtocol_9_msg.queue).conn = ↑wRequestProtocol_9_msg.conn) ∧ ((wRequestProtocol_9_msg.seq + 2 ^ 32 - wRun.m.obj F.cqNEXT_SEQ wRequestProtocol_9_msg.queue) % 2 ^ 32 ≠ 0) ∧ ((wRequestProtocol_9_msg.seq + 2 ^ 32 - wRun.m.obj F.cqNEXT_SEQ wRequestProtocol_9_msg.queue) % 2 ^ 32 < 2 ^ 32 - 32)) ∧
    (Part.request wRequestProtocol_11_i = some wRequestProtocol_11_msg) ∧ (Framed wRequestProtocol_11_msg wRequestProtocol_11_s) ∧
    (((wRequestProtocol_11_s.m.conn ↑wRequestProtocol_11_msg.conn).tag ≠ 0 ∧ wRequestProtocol_11_msg.tag = (wRequestProtocol_11_s.m.conn ↑wRequestProtocol_11_msg.conn).tag ∧ wRequestProtocol_11_msg.queue ≤ 63 ∧ (wRequestProtocol_11_s.m.cq wRequestProtocol_11_msg.queue).conn = ↑wRequestProtocol_11_msg.conn) ∧ (2 ^ 32 - 32 ≤ (wRequestProtocol_11_msg.seq + 2 ^ 32 - wRequestProtocol_11_s.m.obj F.cqNEXT_SEQ wRequestProtocol_11_msg.queue) % 2 ^ 32) ∧ (2 ^ 32 - (wRequestProtocol_11_msg.seq + 2 ^ 32 - wRequestProtocol_11_s.m.obj F.cqNEXT_SEQ wRequestProtocol_11_msg.queue) % 2 ^ 32 ≤ (wRequestProtocol_11_s.m.cq wRequestProtocol_11_msg.queue).accepted) ∧ (List.find? (fun (c : Cached) => c.seq == wRequestProtocol_11_msg.seq) (wRequestProtocol_11_s.m.cq wRequestProtocol_11_msg.queue).cache = some wRequestProtocol_11_c) ∧ (wRequestProtocol_11_c.final = true)) ∧
    (Part.request wRequestProtocol_12_i = some mPing) :=
  ⟨rfl, by unfold Framed; decide +kernel, by decide +kernel, rfl, by unfold Framed; decide +kernel, by decide +kernel, rfl⟩

theorem witness_RequestProtocol_4 :
    (Framed mPing wRequestProtocol_12_s) ∧
    (((wRequestProtocol_12_s.m.conn ↑mPing.conn).tag ≠ 0 ∧ mPing.tag = (wRequestProtocol_12_s.m.conn ↑mPing.conn).tag ∧ mPing.queue ≤ 63 ∧ (wRequestProtocol_12_s.m.cq mPing.queue).conn = ↑mPing.conn) ∧ ((mPing.seq + 2 ^ 32 - wRequestProtocol_12_s.m.obj F.cqNEXT_SEQ mPing.queue) % 2 ^ 32 = 0) ∧ (16 ≤ wRequestProtocol_12_s.m.obj F.cqOUTSTANDING mPing.queue)) ∧
    (Part.request wRequestProtocol_13_i = some wRequestProtocol_13_msg) ∧ (Reaches wRequestProtocol_13_msg wRun) ∧
    ((fragOf wRequestProtocol_13_msg.params = some (wRequestProtocol_13_j, wRequestProtocol_13_bs)) ∧ ((wRun.m.cq wRequestProtocol_13_msg.queue).asm = none) ∧ (wRequestProtocol_13_j = 0) ∧ (bit wRequestProtocol_13_msg.flags 5 = true)) ∧
    (Part.request wRequestProtocol_14_i = some wRequestProtocol_14_msg) ∧ (Reaches wRequestProtocol_14_msg wRun) :=
  ⟨by unfold Framed; decide +kernel, by decide +kernel, rfl, reaches_of (by decide +kernel), by decide +kernel, rfl, reaches_of (by decide +kernel)⟩

theorem witness_RequestProtocol_5 :
    ((fragOf wRequestProtocol_14_msg.params = some (wRequestProtocol_14_j, wRequestProtocol_13_bs)) ∧ ((wRun.m.cq wRequestProtocol_14_msg.queue).asm = none) ∧ (wRequestProtocol_14_j ≠ 0)) ∧
    (Part.request wRequestProtocol_15_i = some wRequestProtocol_15_msg) ∧ (Reaches wRequestProtocol_15_msg wRequestProtocol_15_s) ∧
    ((fragOf wRequestProtocol_15_msg.params = some (wRequestProtocol_15_j, wRequestProtocol_13_bs)) ∧ ((wRequestProtocol_15_s.m.cq wRequestProtocol_15_msg.queue).asm = some wRequestProtocol_15_a) ∧ (wRequestProtocol_15_msg.opcode = wRequestProtocol_15_a.opcode) ∧ (wRequestProtocol_15_msg.part = wRequestProtocol_15_a.part) ∧ (wRequestProtocol_15_msg.deadline = wRequestProtocol_15_a.deadline) ∧ (wRequestProtocol_15_j = wRequestProtocol_15_a.index + 1) ∧ (wRequestProtocol_15_j ≤ 46) ∧ (wRequestProtocol_15_a.bytes.length + wRequestProtocol_13_bs.length ≤ 65536) ∧ (bit wRequestProtocol_15_msg.flags 5 = true)) ∧
    (Part.request wRequestProtocol_16_i = some wRequestProtocol_16_msg) ∧ (Reaches wRequestProtocol_16_msg wRequestProtocol_15_s) ∧
    ((fragOf wRequestProtocol_16_msg.params = some (wRequestProtocol_16_j, wRequestProtocol_13_bs)) ∧ ((wRequestProtocol_15_s.m.cq wRequestProtocol_16_msg.queue).asm = some wRequestProtocol_15_a) ∧ (wRequestProtocol_16_msg.opcode = wRequestProtocol_15_a.opcode) ∧ (wRequestProtocol_16_msg.part = wRequestProtocol_15_a.part) ∧ (wRequestProtocol_16_msg.deadline = wRequestProtocol_15_a.deadline) ∧ (wRequestProtocol_16_j ≠ wRequestProtocol_15_a.index + 1)) :=
  ⟨by decide +kernel, rfl, reaches_of (by decide +kernel), by decide +kernel, rfl, reaches_of (by decide +kernel), by decide +kernel⟩

theorem witness_RequestProtocol_6 :
    (Part.request wRequestProtocol_17_i = some wRequestProtocol_17_msg) ∧ (Reaches wRequestProtocol_17_msg wRequestProtocol_15_s) ∧
    ((fragOf wRequestProtocol_17_msg.params = some (wRequestProtocol_17_j, wRequestProtocol_13_bs)) ∧ ((wRequestProtocol_15_s.m.cq wRequestProtocol_17_msg.queue).asm = some wRequestProtocol_15_a) ∧ (wRequestProtocol_17_msg.opcode ≠ wRequestProtocol_15_a.opcode ∨ wRequestProtocol_17_msg.part ≠ wRequestProtocol_15_a.part ∨ wRequestProtocol_17_msg.deadline ≠ wRequestProtocol_15_a.deadline)) ∧
    (Part.request wRequestProtocol_18_i = some mPing) ∧ (Framed mPing wRequestProtocol_18_s) ∧
    (((wRequestProtocol_18_s.m.conn ↑mPing.conn).tag ≠ 0 ∧ mPing.tag = (wRequestProtocol_18_s.m.conn ↑mPing.conn).tag ∧ mPing.queue ≤ 63 ∧ (wRequestProtocol_18_s.m.cq mPing.queue).conn = ↑mPing.conn) ∧ (mPing.seq = wRequestProtocol_18_s.m.obj F.cqNEXT_SEQ mPing.queue) ∧ (mPing.seq < 2 ^ 32) ∧ (wRequestProtocol_18_s.m.obj F.cqOUTSTANDING mPing.queue < 16) ∧ (freeOps.contains mPing.opcode = true) ∧ ((wRequestProtocol_18_s.m.cq mPing.queue).running.isSome = true)) :=
  ⟨rfl, reaches_of (by decide +kernel), by decide +kernel, rfl, by unfold Framed; decide +kernel, by decide +kernel⟩

theorem witness_ConnectionEvents :
    ((wConnectionEvents_1_s.m.deaf = false) ∧ ((wConnectionEvents_1_s.m.upTo wConnectionEvents_1_t).reaches wConnectionEvents_1_hx = true) ∧ ((↑wConnectionEvents_1_hx.port : Nat) ≤ 1 → wConnectionEvents_1_s.m.macPass ↑wConnectionEvents_1_hx.port wConnectionEvents_1_hx.secured = true) ∧ ((wConnectionEvents_1_s.m.conn ↑wConnectionEvents_1_conn).state ≠ 2) ∧ (wConnectionEvents_1_hx.dtls13 = true) ∧ (wConnectionEvents_1_hx.suite = true) ∧ (wConnectionEvents_1_hx.curve = true) ∧ (wConnectionEvents_1_hx.done = some wConnectionEvents_1_c) ∧ (wConnectionEvents_1_s.m.grant ↑wConnectionEvents_1_hx.port wConnectionEvents_1_c = some wConnectionEvents_1_g)) ∧
    (((wConnectionEvents_1_s.m.cq ↑wConnectionEvents_1_q).conn ≠ 255) ∧ ((wConnectionEvents_1_s.m.cq ↑wConnectionEvents_1_q).resentAt + wConnectionEvents_1_s.m.obj F.zcpEV_RETRY_MS * 10 ^ 6 ≤ wConnectionEvents_1_s.at_ wConnectionEvents_1_t)) ∧
    (((wConnectionEvents_2_s.m.conn ↑wConnectionEvents_1_conn).state = 1) ∧ ((wConnectionEvents_2_s.m.conn ↑wConnectionEvents_1_conn).helloAt + 10 * 10 ^ 9 ≤ wConnectionEvents_2_s.at_ wConnectionEvents_1_t)) ∧
    (((wConnectionEvents_3_s.m.conn ↑wConnectionEvents_1_conn).tag ≠ 0)) ∧
    (((wConnectionEvents_4_s.m.conn ↑wConnectionEvents_1_conn).tag ≠ 0) ∧ ((wConnectionEvents_4_s.m.conn ↑wConnectionEvents_1_conn).lastAt + (wConnectionEvents_4_s.m.conn ↑wConnectionEvents_1_conn).idleS * 10 ^ 9 ≤ wConnectionEvents_4_s.at_ wConnectionEvents_1_t)) ∧
    (((wConnectionEvents_5_s.m.cq ↑wConnectionEvents_1_q).asm = some wConnectionEvents_5_a) ∧ (wConnectionEvents_5_a.lastAt + 10 ^ 9 ≤ wConnectionEvents_5_s.at_ wConnectionEvents_1_t) ∧ ((wConnectionEvents_5_s.m.cq ↑wConnectionEvents_1_q).running = none) ∧ ((wConnectionEvents_5_s.m.cq ↑wConnectionEvents_1_q).waiting = [])) ∧
    ((wConnectionEvents_7_s.m.deaf = false) ∧ (wConnectionEvents_7_s.m.sys.loadAt + 10 ^ 8 ≤ wConnectionEvents_7_s.at_ wConnectionEvents_1_t) ∧ (90 ≤ wConnectionEvents_7_load) ∧ (wConnectionEvents_7_load < 256) ∧ (2 ≤ wConnectionEvents_7_s.m.sys.hiLoads) ∧ (wConnectionEvents_7_s.m.obj F.zcpSHED_STAGE < 3)) :=
  ⟨by decide +kernel, by decide +kernel, by decide +kernel, by decide +kernel, by decide +kernel, by decide +kernel, by decide +kernel⟩

theorem witness_SessionCommands_1 :
    (Framed wSessionCommands_1_msg wSessionCommands_1_s) ∧ (readParams cardSessionOpen wSessionCommands_1_msg.params = Except.ok isOpen) ∧
    ((wSessionCommands_1_msg.opcode = 1) ∧ ((wSessionCommands_1_s.m.conn ↑wSessionCommands_1_msg.conn).tag = 0) ∧ (bit (wSessionCommands_1_s.m.conn ↑wSessionCommands_1_msg.conn).roleMask ((cmdOf wSessionCommands_1_msg wSessionCommands_1_s isOpen).num 1) = true)) ∧
    (Accepts sessionCloseCard wSessionCommands_2_msg wRun wSessionCommands_2_is) ∧
    (Accepts sessionPingCard wSessionCommands_3_msg wRun wSessionCommands_2_is) ∧
    (Accepts queueDetachCard wSessionCommands_4_msg wRun wSessionCommands_2_is) ∧ (Framed wSessionCommands_5_msg wRun) :=
  ⟨by unfold Framed; decide +kernel, rfl, by decide +kernel, accepts_of (by decide +kernel), accepts_of (by decide +kernel),
   accepts_of (by decide +kernel), by unfold Framed; decide +kernel⟩

theorem witness_SessionCommands_2 :
    (readParams cardQueueAttach wSessionCommands_5_msg.params = Except.ok wSessionCommands_5_is) ∧
    (((wRun.m.conn ↑wSessionCommands_5_msg.conn).tag ≠ 0) ∧ (wSessionCommands_5_msg.tag = (wRun.m.conn ↑wSessionCommands_5_msg.conn).tag) ∧ (wSessionCommands_5_msg.opcode = 4) ∧ (wSessionCommands_5_msg.queue ≤ 63) ∧ (bit (wRun.m.conn ↑wSessionCommands_5_msg.conn).queues wSessionCommands_5_msg.queue = true) ∧ ((wRun.m.cq wSessionCommands_5_msg.queue).conn = 255) ∧ ((cmdOf wSessionCommands_5_msg wRun wSessionCommands_5_is).num 1 = 0)) ∧
    (Framed wSessionCommands_6_msg wSessionCommands_6_s) ∧
    (readParams cardQueueAttach wSessionCommands_6_msg.params = Except.ok wSessionCommands_6_is) ∧
    (((wSessionCommands_6_s.m.conn ↑wSessionCommands_6_msg.conn).tag ≠ 0) ∧ (wSessionCommands_6_msg.tag = (wSessionCommands_6_s.m.conn ↑wSessionCommands_6_msg.conn).tag) ∧ (wSessionCommands_6_msg.opcode = 4) ∧ (wSessionCommands_6_msg.queue ≤ 63) ∧ (bit (wSessionCommands_6_s.m.conn ↑wSessionCommands_6_msg.conn).queues wSessionCommands_6_msg.queue = true) ∧ ((wSessionCommands_6_s.m.cq wSessionCommands_6_msg.queue).conn = 255) ∧ ((cmdOf wSessionCommands_6_msg wSessionCommands_6_s wSessionCommands_6_is).num 1 = 1) ∧ ((wSessionCommands_6_s.m.cq wSessionCommands_6_msg.queue).identity = (wSessionCommands_6_s.m.conn ↑wSessionCommands_6_msg.conn).identity) ∧ ((cmdOf wSessionCommands_6_msg wSessionCommands_6_s wSessionCommands_6_is).num 3 = wSessionCommands_6_s.m.obj F.cqQUEUE_EPOCH wSessionCommands_6_msg.queue)) ∧
    (Accepts eventAckCard wSessionCommands_7_msg wSessionCommands_7_s wSessionCommands_7_is) ∧
    ((serialLe (wSessionCommands_7_s.m.obj F.cqEV_NEXT wSessionCommands_7_msg.queue) ((cmdOf wSessionCommands_7_msg wSessionCommands_7_s wSessionCommands_7_is).num 1) = false) ∧ (serialLe ((cmdOf wSessionCommands_7_msg wSessionCommands_7_s wSessionCommands_7_is).num 1) (wSessionCommands_7_s.m.obj F.cqEV_ACKED wSessionCommands_7_msg.queue) = false)) :=
  ⟨rfl, by decide +kernel, by unfold Framed; decide +kernel, rfl, by decide +kernel, accepts_of (by decide +kernel), by decide +kernel⟩

theorem witness_ObjectAccess_1 :
    (Accepts getObjectCard wObjectAccess_1_msg wRun wObjectAccess_1_is) ∧
    (targetOf wObjectAccess_1_is = Except.ok (wObjectAccess_1_k, wObjectAccess_1_i, some wObjectAccess_1_d)) ∧
    ((isSys (cmdOf wObjectAccess_1_msg wRun wObjectAccess_1_is).owner = true) ∧ (wRun.m.isM4 = true ∨ wObjectAccess_1_k.code ≠ 2307 ∧ ¬(wObjectAccess_1_k.code = 2817 ∧ wObjectAccess_1_i = 2)) ∧ ((cmdOf wObjectAccess_1_msg wRun wObjectAccess_1_is).num 4 1 = 1)) ∧
    (Accepts cardSetObject wObjectAccess_3_msg wObjectAccess_3_s wObjectAccess_3_is) ∧
    (targetOf wObjectAccess_3_is = Except.ok (wObjectAccess_3_k, wObjectAccess_3_i, wObjectAccess_3_f)) ∧
    ((isSys (cmdOf wObjectAccess_3_msg wObjectAccess_3_s wObjectAccess_3_is).owner = true) ∧ (wObjectAccess_3_s.m.svc.load = none) ∧ (wObjectAccess_3_k.code = 513)) ∧
    ((isSys (cmdOf wObjectAccess_3_msg wObjectAccess_3_s wObjectAccess_3_is).owner = true) ∧ (wObjectAccess_3_s.m.svc.load = none)) :=
  ⟨accepts_of (by decide +kernel), rfl, by decide +kernel, accepts_of (by decide +kernel), rfl, by decide +kernel, by decide +kernel⟩

theorem witness_ObjectAccess_2 :
    (Accepts cardSetObject wObjectAccess_4_msg wObjectAccess_3_s wObjectAccess_4_is) ∧
    (targetOf wObjectAccess_4_is = Except.ok (wObjectAccess_4_k, wObjectAccess_4_i, wObjectAccess_4_f)) ∧
    ((isSys (cmdOf wObjectAccess_4_msg wObjectAccess_3_s wObjectAccess_4_is).owner = true) ∧ (wObjectAccess_3_s.m.svc.load = none) ∧ (wObjectAccess_4_k.code = 514)) ∧
    (Accepts cardSetObject wObjectAccess_5_msg wObjectAccess_3_s wObjectAccess_5_is) ∧
    (targetOf wObjectAccess_5_is = Except.ok (wObjectAccess_5_k, wObjectAccess_5_i, wObjectAccess_5_f)) ∧
    ((isSys (cmdOf wObjectAccess_5_msg wObjectAccess_3_s wObjectAccess_5_is).owner = true) ∧ (wObjectAccess_3_s.m.svc.load = none) ∧ (wObjectAccess_5_k.code = 769) ∧ (((List.map (fun (x : FieldDef × Nat) => x.fst.num) (writesOf wObjectAccess_5_is)).any fun (f : Nat) => decide (f ≤ 3)) = true)) ∧
    (Accepts cardSetObject wObjectAccess_6_msg wObjectAccess_3_s wObjectAccess_6_is) :=
  ⟨accepts_of (by decide +kernel), rfl, by decide +kernel, accepts_of (by decide +kernel), rfl, by decide +kernel, accepts_of (by decide +kernel)⟩

theorem witness_ObjectAccess_3 :
    (targetOf wObjectAccess_6_is = Except.ok (wObjectAccess_6_k, wObjectAccess_6_i, wObjectAccess_6_f)) ∧
    ((isSys (cmdOf wObjectAccess_6_msg wObjectAccess_3_s wObjectAccess_6_is).owner = true) ∧ (wObjectAccess_3_s.m.svc.load = none) ∧ (wObjectAccess_6_k.code = 1282) ∧ (((List.map (fun (x : FieldDef × Nat) => x.fst.num) (writesOf wObjectAccess_6_is)).any fun (f : Nat) => f == 2 || decide (7 ≤ f)) = true)) ∧
    (Accepts cardSetObject wObjectAccess_7_msg wObjectAccess_3_s wObjectAccess_7_is) ∧
    (targetOf wObjectAccess_7_is = Except.ok (wObjectAccess_7_k, wObjectAccess_7_i, wObjectAccess_7_f)) ∧
    ((isSys (cmdOf wObjectAccess_7_msg wObjectAccess_3_s wObjectAccess_7_is).owner = true) ∧ (wObjectAccess_3_s.m.svc.load = none) ∧ (wObjectAccess_7_k.code = 1537) ∧ (((List.map (fun (x : FieldDef × Nat) => x.fst.num) (writesOf wObjectAccess_7_is)).any fun (f : Nat) => decide (f ≤ 12)) = true) ∧ (¬0 ∈ List.map (fun (x : FieldDef × Nat) => x.fst.num) (writesOf wObjectAccess_7_is))) :=
  ⟨rfl, by decide +kernel, accepts_of (by decide +kernel), rfl, by decide +kernel⟩

theorem witness_FieldWrites_1 :
    (Accepts cardSetObject wFieldWrites_1_msg wFieldWrites_1_s wFieldWrites_1_is) ∧
    ((isSys (cmdOf wFieldWrites_1_msg wFieldWrites_1_s wFieldWrites_1_is).owner = true) ∧ (wFieldWrites_1_s.m.svc.load = none) ∧ (itemNum wFieldWrites_1_is 1 0 = F.modMODULE_ID.cls ∧ itemNum wFieldWrites_1_is 2 0 = 0 ∧ List.find? (fun (x : Item) => x.ty == 3) wFieldWrites_1_is = some { ty := 3, val := [F.modMODULE_ID.num] }) ∧ (itemNum wFieldWrites_1_is 4 0 < 512 ∨ itemNum wFieldWrites_1_is 4 0 = 65535) ∧ (itemNum wFieldWrites_1_is 4 0 ≠ wFieldWrites_1_s.m.obj F.modMODULE_ID) ∧ (wFieldWrites_1_s.m.typesBad = false) ∧ (∀ (p : Nat), p ∈ wFieldWrites_1_s.m.usedParts → (wFieldWrites_1_s.m.part p).clapped = false)) ∧
    (Accepts cardSetObject wFieldWrites_3_msg wFieldWrites_3_s wFieldWrites_3_is) ∧
    ((isSys (cmdOf wFieldWrites_3_msg wFieldWrites_3_s wFieldWrites_3_is).owner = true) ∧ (wFieldWrites_3_s.m.svc.load = none) ∧ (itemNum wFieldWrites_3_is 1 0 = F.nodeSERIAL.cls ∧ itemNum wFieldWrites_3_is 2 0 = ↑wFieldWrites_3_n ∧ List.find? (fun (x : Item) => x.ty == 3) wFieldWrites_3_is = some { ty := 3, val := [F.nodeSERIAL.num] }) ∧ (↑wFieldWrites_3_n % 64 ≠ 0) ∧ ((wFieldWrites_3_s.m.intake wFieldWrites_3_msg).fieldBad = none)) ∧
    (Accepts cardSetObject wFieldWrites_4_msg wFieldWrites_4_s wFieldWrites_4_is) ∧
    ((isSys (cmdOf wFieldWrites_4_msg wFieldWrites_4_s wFieldWrites_4_is).owner = true) ∧ (wFieldWrites_4_s.m.svc.load = none) ∧ (itemNum wFieldWrites_4_is 1 0 = F.epMODE.cls ∧ itemNum wFieldWrites_4_is 2 0 = ↑wFieldWrites_4_n ∧ List.find? (fun (x : Item) => x.ty == 3) wFieldWrites_4_is = some { ty := 3, val := [F.epMODE.num] }) ∧ (((wFieldWrites_4_s.m.intake wFieldWrites_4_msg).setObj F.epMODE ↑wFieldWrites_4_n (itemNum wFieldWrites_4_is 4 0)).portsBad wFieldWrites_4_s.ram = none) ∧ (((wFieldWrites_4_s.m.intake wFieldWrites_4_msg).setObj F.epMODE ↑wFieldWrites_4_n (itemNum wFieldWrites_4_is 4 0)).motionBad wFieldWrites_4_s.ram = none)) ∧
    (Accepts cardSetObject wFieldWrites_6_msg wFieldWrites_6_s wFieldWrites_6_is) :=
  ⟨accepts_of (by decide +kernel), by decide +kernel, accepts_of (by decide +kernel), by decide +kernel, accepts_of (by decide +kernel),
   by decide +kernel, accepts_of (by decide +kernel)⟩

theorem witness_FieldWrites_2 :
    ((isSys (cmdOf wFieldWrites_6_msg wFieldWrites_6_s wFieldWrites_6_is).owner = true) ∧ (wFieldWrites_6_s.m.svc.load = none) ∧ (itemNum wFieldWrites_6_is 1 0 = F.effLATCHED.cls ∧ itemNum wFieldWrites_6_is 2 0 = ↑wFieldWrites_6_e ∧ List.find? (fun (x : Item) => x.ty == 3) wFieldWrites_6_is = some { ty := 3, val := [F.effLATCHED.num] }) ∧ (itemNum wFieldWrites_6_is 4 0 = 1) ∧ (List.find? (fun (x : Nat × List Nat) => x.fst == ↑wFieldWrites_6_e) wFieldWrites_6_s.m.matrix.effects = some (↑wFieldWrites_6_e, wFieldWrites_6_b)) ∧ ((wFieldWrites_6_s.m.eff ↑wFieldWrites_6_e).active = true) ∧ ((wFieldWrites_6_s.m.eff ↑wFieldWrites_6_e).since = none)) ∧
    (Accepts cardSetObject wFieldWrites_7_msg wFieldWrites_7_s wFieldWrites_7_is) ∧
    ((isSys (cmdOf wFieldWrites_7_msg wFieldWrites_7_s wFieldWrites_7_is).owner = true) ∧ (wFieldWrites_7_s.m.svc.load = none) ∧ (itemNum wFieldWrites_7_is 1 0 = F.alarmMAX_SHELVE_MIN.cls ∧ itemNum wFieldWrites_7_is 2 0 = ↑wFieldWrites_7_a ∧ List.find? (fun (x : Item) => x.ty == 3) wFieldWrites_7_is = some { ty := 3, val := [F.alarmMAX_SHELVE_MIN.num] })) ∧
    (Accepts cardSetObject wFieldWrites_8_msg wFieldWrites_8_s wFieldWrites_8_is) ∧
    ((isSys (cmdOf wFieldWrites_8_msg wFieldWrites_8_s wFieldWrites_8_is).owner = true) ∧ (wFieldWrites_8_s.m.svc.load = none) ∧ (itemNum wFieldWrites_8_is 1 0 = F.pairLOW_OK.cls ∧ itemNum wFieldWrites_8_is 2 0 = 0 ∧ List.find? (fun (x : Item) => x.ty == 3) wFieldWrites_8_is = some { ty := 3, val := [F.pairLOW_OK.num] })) ∧
    (Accepts cardSetObject wFieldWrites_10_msg wFieldWrites_10_s wFieldWrites_10_is) ∧
    ((isSys (cmdOf wFieldWrites_10_msg wFieldWrites_10_s wFieldWrites_10_is).owner = true) ∧ (wFieldWrites_10_s.m.svc.load = none) ∧ (itemNum wFieldWrites_10_is 1 0 = F.powRIDE_MS.cls ∧ itemNum wFieldWrites_10_is 2 0 = 0 ∧ List.find? (fun (x : Item) => x.ty == 3) wFieldWrites_10_is = some { ty := 3, val := [F.powRIDE_MS.num] }) ∧ (((wFieldWrites_10_s.m.intake wFieldWrites_10_msg).setObj F.powRIDE_MS 0 (itemNum wFieldWrites_10_is 4 0)).wrapMj ≤ 19200)) :=
  ⟨by decide +kernel, accepts_of (by decide +kernel), by decide +kernel, accepts_of (by decide +kernel), by decide +kernel,
   accepts_of (by decide +kernel), by decide +kernel⟩

theorem witness_PointAccess :
    (Accepts pointReadCard wPointAccess_1_msg wRun wPointAccess_1_is) ∧
    ((∀ (i : Nat), i < (cmdOf wPointAccess_1_msg wRun wPointAccess_1_is).num 2 1 → isSys (cmdOf wPointAccess_1_msg wRun wPointAccess_1_is).owner = true ∨ mayRead (wRun.m.ownEnt wRun.ram ((cmdOf wPointAccess_1_msg wRun wPointAccess_1_is).num 1 + i)) (cmdOf wPointAccess_1_msg wRun wPointAccess_1_is).owner = true)) ∧
    (Accepts pointWriteCard wPointAccess_3_msg wPointAccess_3_s wPointAccess_3_is) ∧
    ((wPointAccess_3_s.ramOk = true) ∧ ((cmdOf wPointAccess_3_msg wPointAccess_3_s wPointAccess_3_is).num 1 + (wordsOf ((cmdOf wPointAccess_3_msg wPointAccess_3_s wPointAccess_3_is).bytes 2)).length ≤ 2 ^ 20) ∧ (∀ (i : Nat), i < (wordsOf ((cmdOf wPointAccess_3_msg wPointAccess_3_s wPointAccess_3_is).bytes 2)).length → entValid (wPointAccess_3_s.m.ownEnt wPointAccess_3_s.ram ((cmdOf wPointAccess_3_msg wPointAccess_3_s wPointAccess_3_is).num 1 + i)) = true ∧ (entKind (wPointAccess_3_s.m.ownEnt wPointAccess_3_s.ram ((cmdOf wPointAccess_3_msg wPointAccess_3_s wPointAccess_3_is).num 1 + i)) = 1 ∨ entKind (wPointAccess_3_s.m.ownEnt wPointAccess_3_s.ram ((cmdOf wPointAccess_3_msg wPointAccess_3_s wPointAccess_3_is).num 1 + i)) = 6) ∧ (isSys (cmdOf wPointAccess_3_msg wPointAccess_3_s wPointAccess_3_is).owner = true ∨ entOwned (wPointAccess_3_s.m.ownEnt wPointAccess_3_s.ram ((cmdOf wPointAccess_3_msg wPointAccess_3_s wPointAccess_3_is).num 1 + i)) = false ∨ entOwner (wPointAccess_3_s.m.ownEnt wPointAccess_3_s.ram ((cmdOf wPointAccess_3_msg wPointAccess_3_s wPointAccess_3_is).num 1 + i)) = (cmdOf wPointAccess_3_msg wPointAccess_3_s wPointAccess_3_is).owner) ∧ wPointAccess_3_s.m.wideCut wPointAccess_3_s.ram ((cmdOf wPointAccess_3_msg wPointAccess_3_s wPointAccess_3_is).num 1) (wordsOf ((cmdOf wPointAccess_3_msg wPointAccess_3_s wPointAccess_3_is).bytes 2)).length ((cmdOf wPointAccess_3_msg wPointAccess_3_s wPointAccess_3_is).num 1 + i) = false)) :=
  ⟨accepts_of (by decide +kernel), by decide +kernel, accepts_of (by decide +kernel), by decide +kernel⟩

theorem witness_AccumulatorInstructions :
    (rgA.canRun ce0) :=
  by unfold State.canRun; decide +kernel

theorem witness_BranchStack :
    (wBranchStack_1_s.canRun ce0) ∧ (((wBranchStack_1_s.m.eng ↑ce0).stack.length ≤ 31)) ∧
    (((wBranchStack_1_s.m.eng ↑ce0).stack = true :: wBranchStack_1_r)) :=
  ⟨by unfold State.canRun; decide +kernel, by decide +kernel, by decide +kernel⟩

theorem witness_ImmediateArithmetic :
    (rgM.canRun ce0) :=
  by unfold State.canRun; decide +kernel

theorem witness_ImmediateShifts :
    (rgM.canRun ce0) ∧ ((wImmediateShifts_1_op ≠ 0#24)) ∧ ((wImmediateShifts_1_op.toNat < 64)) :=
  ⟨by unfold State.canRun; decide +kernel, by decide +kernel, by decide +kernel⟩

theorem witness_DivisionCorners_1 :
    (rgM.canRun ce0) ∧ ((op0 = 0#24)) ∧
    ((okIword op0 4 = true) ∧ (rgM.hasWord ce0 op0 4) ∧ (BitVec.setWidth 32 ((rgM.rx ce0).iword op0 4).fst = 0#32)) ∧ (rgA.canRun ce0) ∧
    ((wDivisionCorners_2_op = -1#24) ∧ ((rgA.m.eng ↑ce0).wacc = BitVec.ofInt 64 (-2 ^ 63))) :=
  ⟨by unfold State.canRun; decide +kernel, by decide +kernel, by unfold State.hasWord State.within; decide +kernel,
   by unfold State.canRun; decide +kernel, by decide +kernel⟩

theorem witness_DivisionCorners_2 :
    ((wDivisionCorners_2_op ≠ 0#24)) ∧ (rgI.canRun ce0) ∧
    ((okIword wDivisionCorners_3_op 4 = true) ∧ (rgI.hasWord ce0 wDivisionCorners_3_op 4) ∧ (BitVec.setWidth 32 ((rgI.rx ce0).iword wDivisionCorners_3_op 4).fst ≠ 0#32)) ∧
    (wDivisionCorners_5_s.canRun ce0) ∧
    ((okIword wDivisionCorners_5_op 4 = true) ∧ (wDivisionCorners_5_s.hasWord ce0 wDivisionCorners_5_op 4) ∧ (BitVec.setWidth 32 ((wDivisionCorners_5_s.rx ce0).iword wDivisionCorners_5_op 4).fst = -1#32) ∧ ((wDivisionCorners_5_s.m.eng ↑ce0).wacc = BitVec.ofInt 64 (-2 ^ 63))) :=
  ⟨by decide +kernel, by unfold State.canRun; decide +kernel, by unfold State.hasWord State.within; decide +kernel,
   by unfold State.canRun; decide +kernel, by unfold State.hasWord State.within; decide +kernel⟩

theorem witness_SingleBits :
    (rgM.canRun ce0) ∧ ((wSingleBits_1_op.toNat < 64)) :=
  ⟨by unfold State.canRun; decide +kernel, by decide +kernel⟩

theorem witness_Compares :
    (rgM.canRun ce0) ∧ (rgI.canRun ce0) ∧ ((okIword wCompares_3_op 4 = true) ∧ (rgI.hasWord ce0 wCompares_3_op 4)) :=
  ⟨by unfold State.canRun; decide +kernel, by unfold State.canRun; decide +kernel, by unfold State.hasWord State.within; decide +kernel⟩

theorem witness_WideOperands :
    (rgI.canRun ce0) ∧ ((okIword wWideOperands_1_op 8 = true) ∧ (rgI.hasWord ce0 wWideOperands_1_op 8)) :=
  ⟨by unfold State.canRun; decide +kernel, by unfold State.hasWord State.within; decide +kernel⟩

theorem witness_WordLoads :
    (rgI.canRun ce0) ∧ ((okIword wWordLoads_1_op 1 = true) ∧ (rgI.hasWord ce0 wWordLoads_1_op 1)) ∧
    ((okIword wWordLoads_1_op 2 = true) ∧ (rgI.hasWord ce0 wWordLoads_1_op 2)) ∧
    ((okIword wWordLoads_1_op 4 = true) ∧ (rgI.hasWord ce0 wWordLoads_1_op 4)) ∧
    ((okIword wWordLoads_1_op 8 = true) ∧ (rgI.hasWord ce0 wWordLoads_1_op 8)) ∧ ((okPword wWordLoads_2_op 1 = true)) ∧
    ((okPword wWordLoads_2_op 2 = true)) ∧ ((okPword wWordLoads_2_op 4 = true)) :=
  ⟨by unfold State.canRun; decide +kernel, by unfold State.hasWord State.within; decide +kernel, by unfold State.hasWord State.within; decide +kernel,
   by unfold State.hasWord State.within; decide +kernel, by unfold State.hasWord State.within; decide +kernel, by decide +kernel, by decide +kernel,
   by decide +kernel⟩

theorem witness_FieldArithmetic :
    (rgI.canRun ce0) ∧ ((okIword wFieldArithmetic_1_op 4 = true) ∧ (rgI.hasWord ce0 wFieldArithmetic_1_op 4)) ∧
    ((okIword wFieldArithmetic_1_op 4 = true) ∧ (rgI.hasWord ce0 wFieldArithmetic_1_op 4) ∧ ((BitVec.setWidth 32 ((rgI.rx ce0).iword wFieldArithmetic_1_op 4).fst).toInt ≠ 0)) :=
  ⟨by unfold State.canRun; decide +kernel, by unfold State.hasWord State.within; decide +kernel, by unfold State.hasWord State.within; decide +kernel⟩

theorem witness_PointBitLoads :
    (wPointBitLoads_1_s.canRun ce0) ∧ ((wPointBitLoads_2_op.toNat % 16 < 4)) :=
  ⟨by unfold State.canRun; decide +kernel, by decide +kernel⟩

theorem witness_PointReadsImage :
    (wPointReadsImage_1_s.canRun ce0) ∧ (((wPointReadsImage_1_s.m.eng ↑ce0).sb = [])) :=
  ⟨by unfold State.canRun; decide +kernel, by decide +kernel⟩

theorem witness_PointStores :
    (rgA.canRun ce0) ∧ (rgP.canRun ce0) ∧ ((okPword wPointStores_2_op 1 = true)) ∧ ((okPword wPointStores_2_op 2 = true)) ∧
    ((okPword wPointStores_2_op 4 = true)) ∧
    (((rgP.m.eng ↑ce0).sb = []) ∧ ((rgP.m.eng ↑ce0).idx = none) ∧ (mayWrite (rgP.m.ownEnt rgP.ram (opP wPointStores_2_op)) (rgP.m.obj F.cePARTITION ↑ce0) = true)) :=
  ⟨by unfold State.canRun; decide +kernel, by unfold State.canRun; decide +kernel, by decide +kernel, by decide +kernel, by decide +kernel,
   by decide +kernel⟩

theorem witness_StoredBitReachesImage :
    (wStoredBitReachesImage_1_s.canRun ce0) ∧
    (((wStoredBitReachesImage_1_s.m.eng ↑ce0).sb = []) ∧ ((wStoredBitReachesImage_1_s.m.eng ↑ce0).idx = none) ∧ (mayWrite (wStoredBitReachesImage_1_s.m.ownEnt wStoredBitReachesImage_1_s.ram (opP wStoredBitReachesImage_1_op)) (wStoredBitReachesImage_1_s.m.obj F.cePARTITION ↑ce0) = true)) :=
  ⟨by unfold State.canRun; decide +kernel, by decide +kernel⟩

theorem witness_InstanceBitLoads :
    (rgI.canRun ce0) ∧ ((okIbit wInstanceBitLoads_1_op = true) ∧ (rgI.hasBit ce0 wInstanceBitLoads_1_op)) :=
  ⟨by unfold State.canRun; decide +kernel, by unfold State.hasBit State.within; decide +kernel⟩

theorem witness_InstanceStores :
    (rgI.canRun ce0) ∧ ((okIbit wInstanceStores_1_op = true) ∧ (rgI.hasBit ce0 wInstanceStores_1_op)) ∧
    ((okIword wInstanceStores_1_op 1 = true) ∧ (rgI.hasWord ce0 wInstanceStores_1_op 1)) ∧
    ((okIword wInstanceStores_1_op 2 = true) ∧ (rgI.hasWord ce0 wInstanceStores_1_op 2)) ∧
    ((okIword wInstanceStores_1_op 4 = true) ∧ (rgI.hasWord ce0 wInstanceStores_1_op 4)) ∧
    ((okIword wInstanceStores_1_op 8 = true) ∧ (rgI.hasWord ce0 wInstanceStores_1_op 8)) :=
  ⟨by unfold State.canRun; decide +kernel, by unfold State.hasBit State.within; decide +kernel, by unfold State.hasWord State.within; decide +kernel,
   by unfold State.hasWord State.within; decide +kernel, by unfold State.hasWord State.within; decide +kernel,
   by unfold State.hasWord State.within; decide +kernel⟩

theorem witness_LocalsStore :
    (rgP.canRun ce0) ∧ ((okIword wLocalsStore_1_op 1 = true) ∧ (opLocal wLocalsStore_1_op = true) ∧ ((rgP.m.eng ↑ce0).idx = none)) :=
  ⟨by unfold State.canRun; decide +kernel, by decide +kernel⟩

theorem witness_Jumps :
    (rgA.canRun ce0) :=
  by unfold State.canRun; decide +kernel

theorem witness_LoopsAndIndex :
    (rgP.canRun ce0) ∧ ((rgP.hasField ce0 (wLoopsAndIndex_1_op.toNat / 2 ^ 12))) ∧ ((rgP.hasField ce0 (wLoopsAndIndex_2_op.toNat % 2 ^ 12))) ∧
    ((rgP.hasField ce0 (wLoopsAndIndex_2_op.toNat % 2 ^ 12)) ∧ (((rgP.rx ce0).fieldLoad (wLoopsAndIndex_2_op.toNat % 2 ^ 12)).fst = 0)) ∧
    (wLoopsAndIndex_4_s.canRun ce0) ∧
    ((wLoopsAndIndex_4_s.hasField ce0 (wLoopsAndIndex_4_op.toNat % 2 ^ 12)) ∧ (1 < ((wLoopsAndIndex_4_s.rx ce0).fieldLoad (wLoopsAndIndex_4_op.toNat % 2 ^ 12)).fst)) ∧
    (wLoopsAndIndex_5_s.canRun ce0) ∧
    ((wLoopsAndIndex_5_s.hasField ce0 (wLoopsAndIndex_5_op.toNat % 2 ^ 12)) ∧ (((wLoopsAndIndex_5_s.rx ce0).fieldLoad (wLoopsAndIndex_5_op.toNat % 2 ^ 12)).fst = 1)) :=
  ⟨by unfold State.canRun; decide +kernel, by unfold State.hasField State.within; decide +kernel,
   by unfold State.hasField State.within; decide +kernel, by unfold State.hasField State.within; decide +kernel,
   by unfold State.canRun; decide +kernel, by unfold State.hasField State.within; decide +kernel, by unfold State.canRun; decide +kernel,
   by unfold State.hasField State.within; decide +kernel⟩

theorem witness_RunTimeFaults :
    (((wRunTimeFaults_1_s.m.eng ↑ce0).run = 1) ∧ ((wRunTimeFaults_1_s.m.eng ↑ce0).stack.length ≤ 32) ∧ (wRunTimeFaults_1_s.m.obj F.cePARTITION (↑ce0 : Nat) = wRunTimeFaults_1_p) ∧ (wRunTimeFaults_1_p < 8) ∧ (wRunTimeFaults_1_s.m.obj F.partSTATE wRunTimeFaults_1_p = 1) ∧ ((wRunTimeFaults_1_s.m.eng ↑ce0).idx = some (wRunTimeFaults_1_i, wRunTimeFaults_1_mx)) ∧ (wRunTimeFaults_1_mx < wRunTimeFaults_1_i)) ∧
    (((wRunTimeFaults_1_s.m.eng ↑ce0).run = 1) ∧ ((wRunTimeFaults_1_s.m.eng ↑ce0).stack.length ≤ 32) ∧ (wRunTimeFaults_1_s.m.obj F.cePARTITION (↑ce0 : Nat) = wRunTimeFaults_1_p) ∧ (wRunTimeFaults_1_p < 8) ∧ (wRunTimeFaults_1_s.m.obj F.partSTATE wRunTimeFaults_1_p = 1) ∧ (wRunTimeFaults_1_op ≠ 0#24)) :=
  ⟨by decide +kernel, by decide +kernel⟩

theorem witness_TaskEnd :
    (wTaskEnd_1_s.canRun ce0) ∧ (((wTaskEnd_1_s.m.eng ↑ce0).frames ≤ 1) ∧ ((wTaskEnd_1_s.m.eng ↑ce0).todo = wTaskEnd_1_k :: wTaskEnd_1_r)) ∧
    (wTaskEnd_2_s.canRun ce0) ∧ (((wTaskEnd_2_s.m.eng ↑ce0).frames ≤ 1) ∧ ((wTaskEnd_2_s.m.eng ↑ce0).todo = [])) :=
  ⟨by unfold State.canRun; decide +kernel, by decide +kernel, by unfold State.canRun; decide +kernel, by decide +kernel⟩

theorem witness_CallAndReturn :
    (wCallAndReturn_1_s.canRun ce0) ∧
    (((wCallAndReturn_1_s.rx ce0).descriptor wCallAndReturn_1_op.toNat = some (wCallAndReturn_1_id, wCallAndReturn_1_entry, wCallAndReturn_1_base)) ∧ (wCallAndReturn_1_entry ≠ 4294967295) ∧ ((wCallAndReturn_1_s.m.eng ↑ce0).pc + 1 < 2 ^ 32) ∧ (1 ≤ (wCallAndReturn_1_s.m.eng ↑ce0).frames) ∧ ((wCallAndReturn_1_s.m.eng ↑ce0).oldest + 1 ≤ (wCallAndReturn_1_s.m.eng ↑ce0).frames) ∧ ((wCallAndReturn_1_s.m.eng ↑ce0).frames < (wCallAndReturn_1_s.m.eng ↑ce0).oldest + 15)) :=
  ⟨by unfold State.canRun; decide +kernel, by decide +kernel⟩

theorem witness_NativeCall :
    (wNativeCall_1_s.canRun ce0) ∧
    (((wNativeCall_1_s.rx ce0).descriptor wNativeCall_1_op.toNat = some (wNativeCall_1_id, 4294967295, wNativeCall_1_base)) ∧ (nativeSize wNativeCall_1_id = some (wNativeCall_1_size, wNativeCall_1_clk)) ∧ (wNativeCall_1_base + wNativeCall_1_size ≤ wNativeCall_1_s.m.obj F.partINST_SIZE (wNativeCall_1_s.m.obj F.cePARTITION ↑ce0)) ∧ (1 ≤ (wNativeCall_1_s.m.eng ↑ce0).frames) ∧ ((wNativeCall_1_s.m.eng ↑ce0).oldest + 1 ≤ (wNativeCall_1_s.m.eng ↑ce0).frames) ∧ ((wNativeCall_1_s.m.eng ↑ce0).frames < (wNativeCall_1_s.m.eng ↑ce0).oldest + 15)) :=
  ⟨by unfold State.canRun; decide +kernel, by decide +kernel⟩

theorem witness_BarrierArrival :
    (wBarrierArrival_1_s.canRun ce0) ∧ ((wBarrierArrival_1_op.toNat < 64)) :=
  ⟨by unfold State.canRun; decide +kernel, by decide +kernel⟩

theorem witness_BarrierRelease :
    (((wBarrierRelease_1_s.m.upTo wBarrierRelease_1_t).releaseClk ↑wBarrierRelease_1_p (↑wBarrierRelease_1_b : Nat) = some wBarrierRelease_1_clk)) :=
  by decide +kernel

theorem witness_BarrierTimeout :
    ((wBarrierTimeout_1_s.m.obj F.partSTATE (↑wBarrierTimeout_1_p : Nat) = 1) ∧ ((wBarrierTimeout_1_s.m.part ↑wBarrierTimeout_1_p).solves = true) ∧ ((wBarrierTimeout_1_s.m.part ↑wBarrierTimeout_1_p).phase = 2) ∧ (¬↑wBarrierTimeout_1_b ∈ (wBarrierTimeout_1_s.m.part ↑wBarrierTimeout_1_p).released) ∧ ((wBarrierTimeout_1_s.m.part ↑wBarrierTimeout_1_p).plan = some planT) ∧ ((wBarrierTimeout_1_s.m.part ↑wBarrierTimeout_1_p).solveAt * 4 + 2 * alook 0 planT.rel ↑wBarrierTimeout_1_b * 5 ≤ max wBarrierTimeout_1_s.m.now wBarrierTimeout_1_t * 4) ∧ (wBarrierTimeout_1_c ∈ wBarrierTimeout_1_s.m.participants ↑wBarrierTimeout_1_p ↑wBarrierTimeout_1_b) ∧ (bit (alook 0 (wBarrierTimeout_1_s.m.part ↑wBarrierTimeout_1_p).barriers ↑wBarrierTimeout_1_b) wBarrierTimeout_1_c = false)) :=
  by decide +kernel

theorem witness_TimeEvents_1 :
    ((wTimeEvents_1_s.m.obj F.timeTIME_STATE = 1 ∨ wTimeEvents_1_s.m.obj F.timeTIME_STATE = 4) ∧ (wTimeEvents_1_sync.domain = wTimeEvents_1_s.m.obj F.timeDOMAIN) ∧ (-7 ≤ wTimeEvents_1_sync.log) ∧ (wTimeEvents_1_sync.log ≤ 0) ∧ (wTimeEvents_1_s.m.time.stepping = none) ∧ (wTimeEvents_1_sync.offset.natAbs ≤ 100)) ∧
    ((wTimeEvents_1_s.m.obj F.timeTIME_STATE = 1) ∧ (∀ (b : Announce), b ∈ wTimeEvents_1_s.m.time.heard → b.identity = wTimeEvents_1_s.m.obj F.timeGM_IDENTITY)) ∧
    ((wTimeEvents_1_s.m.sys.off = true ∨ wTimeEvents_1_s.at_ wTimeEvents_1_t < wTimeEvents_1_s.m.time.secAt + 10 ^ 9)) ∧
    ((wTimeEvents_2_s.m.time.savedAt + 60 * 10 ^ 9 ≤ wTimeEvents_2_s.at_ wTimeEvents_2_t)) ∧
    ((wTimeEvents_2_s.m.sys.off = false) ∧ (wTimeEvents_2_s.m.time.secAt + 10 ^ 9 ≤ wTimeEvents_2_s.at_ wTimeEvents_2_t)) :=
  ⟨by decide +kernel, by decide +kernel, by decide +kernel, by decide +kernel, by decide +kernel⟩

theorem witness_TimeEvents_2 :
    ((annT.domain = wTimeEvents_3_s.m.obj F.timeDOMAIN) ∧ (annT.identity ≠ wTimeEvents_3_s.m.obj F.modSERIAL) ∧ (wTimeEvents_3_s.m.obj F.timeGM_CAPABLE = 1) ∧ (∀ (b : Announce), b ∈ annT :: List.filter (fun (b : Announce) => b.identity != annT.identity) wTimeEvents_3_s.m.time.heard → ranksBefore wTimeEvents_3_s.m.ownRank (rankOf b) = true)) ∧
    ((wTimeEvents_4_a.domain = wTimeEvents_4_s.m.obj F.timeDOMAIN) ∧ (wTimeEvents_4_a.identity ≠ wTimeEvents_4_s.m.obj F.modSERIAL) ∧ (wTimeEvents_4_s.m.obj F.timeGM_CAPABLE = 0) ∧ (∀ (b : Announce), b ∈ wTimeEvents_4_a :: List.filter (fun (b : Announce) => b.identity != wTimeEvents_4_a.identity) wTimeEvents_4_s.m.time.heard → ranksBefore (rankOf b) (rankOf wTimeEvents_4_a) = false) ∧ (wTimeEvents_4_a.identity < 2 ^ 64) ∧ (wTimeEvents_4_s.m.obj F.timeTIME_STATE = 0)) ∧
    ((wTimeEvents_7_s.m.obj F.timeTIME_STATE = 2) ∧ (wTimeEvents_7_s.m.time.leftAt = some wTimeEvents_7_a) ∧ (wTimeEvents_7_a + wTimeEvents_7_s.m.obj F.timeHOLDOVER_LIMIT * 10 ^ 9 ≤ wTimeEvents_7_s.at_ wTimeEvents_2_t)) ∧
    ((wTimeEvents_8_s.m.time.stepping = some wTimeEvents_8_x) ∧ (wTimeEvents_8_x.waiting = [])) :=
  ⟨by decide +kernel, by decide +kernel, by decide +kernel, by decide +kernel⟩

theorem witness_ModuleIdentities :
    ((wModuleIdentities_1_device ≠ wModuleIdentities_1_s.m.obj F.modSERIAL) ∧ (wModuleIdentities_1_device = wModuleIdentities_1_s.m.obj F.pairPARTNER_SERIAL → wModuleIdentities_1_s.m.obj F.pairROLE_HOME = 0) ∧ (wModuleIdentities_1_s.m.idClash (wModuleIdentities_1_s.m.obj F.modMODULE_ID) = false)) ∧
    ((∀ (a : Nat × Nat × Nat), a ∈ wModuleIdentities_1_s.m.time.announcers → a.fst = wModuleIdentities_1_s.m.obj F.modMODULE_ID → a.snd.snd + 10 * 10 ^ 9 ≤ wModuleIdentities_1_s.at_ wModuleIdentities_1_t)) :=
  ⟨by decide +kernel, by decide +kernel⟩

theorem witness_TimeCommands :
    (Accepts timeGetCard wTimeCommands_1_msg wRunT wTimeCommands_1_is) ∧
    (Accepts timeSetCard wTimeCommands_2_msg wTimeCommands_2_s wTimeCommands_2_is) ∧
    ((wTimeCommands_2_s.m.obj F.timeTIME_STATE = 3) ∧ (wTimeCommands_2_s.m.time.stepping = none) ∧ (0 ≤ (↑(wTimeCommands_2_s.m.gzAt (wTimeCommands_2_s.at_ wTimeCommands_2_msg.t)) : Int) + if (cmdOf wTimeCommands_2_msg wTimeCommands_2_s wTimeCommands_2_is).has 1 = true then (↑((cmdOf wTimeCommands_2_msg wTimeCommands_2_s wTimeCommands_2_is).num 1) : Int) - (↑(wTimeCommands_2_s.m.gzAt (wTimeCommands_2_s.at_ wTimeCommands_2_msg.t)) : Int) else sint 64 ((cmdOf wTimeCommands_2_msg wTimeCommands_2_s wTimeCommands_2_is).num 2)) ∧ (((↑(wTimeCommands_2_s.m.gzAt (wTimeCommands_2_s.at_ wTimeCommands_2_msg.t)) : Int) + if (cmdOf wTimeCommands_2_msg wTimeCommands_2_s wTimeCommands_2_is).has 1 = true then (↑((cmdOf wTimeCommands_2_msg wTimeCommands_2_s wTimeCommands_2_is).num 1) : Int) - (↑(wTimeCommands_2_s.m.gzAt (wTimeCommands_2_s.at_ wTimeCommands_2_msg.t)) : Int) else sint 64 ((cmdOf wTimeCommands_2_msg wTimeCommands_2_s wTimeCommands_2_is).num 2)) < 2 ^ 63)) ∧
    (Accepts moduleIdentifyCard wTimeCommands_5_msg wTimeCommands_3_s wTimeCommands_5_is) ∧
    ((wTimeCommands_3_s.m.sys.window = none) ∧ ((cmdOf wTimeCommands_5_msg wTimeCommands_3_s wTimeCommands_5_is).num 1 10 ≠ 0)) ∧
    ((wTimeCommands_6_s.m.sys.identify = some wTimeCommands_6_e) ∧ (wTimeCommands_6_e ≤ wTimeCommands_6_s.at_ wTimeCommands_6_t)) :=
  ⟨accepts_of (by decide +kernel), accepts_of (by decide +kernel), by decide +kernel, accepts_of (by decide +kernel), by decide +kernel,
   by decide +kernel⟩

theorem witness_ClapperOrder :
    (((wClapperOrder_1_s.m.upTo wClapperOrder_1_t).clapDue (↑wClapperOrder_1_p : Nat) = true) ∧ (wClapperOrder_1_s.m.sys.changeAsk = none)) ∧
    (((wClapperOrder_1_s.m.upTo wClapperOrder_1_t).clapDue (↑wClapperOrder_1_p : Nat) = true) ∧ (wClapperOrder_1_s.m.sys.changeAsk = none) ∧ (wClapperOrder_1_q ∈ List.filter (wClapperOrder_1_s.m.upTo wClapperOrder_1_t).clapDue (List.range 8))) :=
  ⟨by decide +kernel, by decide +kernel⟩

theorem witness_ImageSwap :
    ((wImageSwap_1_s.ramOk = true) ∧ ((wImageSwap_1_s.m.part ↑wImageSwap_1_p).phase = 1) ∧ ((wImageSwap_1_s.m.part ↑wImageSwap_1_p).clapAt + wImageSwap_1_s.m.obj F.cycG_NS (↑wImageSwap_1_p : Nat) ≤ wImageSwap_1_s.at_ wImageSwap_1_t + 2000) ∧ (wImageSwap_1_s.m.obj F.partSTATE (↑wImageSwap_1_p : Nat) ≠ 1)) :=
  by decide +kernel

theorem witness_SolveEnd :
    (((wSolveEnd_1_s.m.part ↑wSolveEnd_1_p).phase = 2) ∧ ((wSolveEnd_1_s.m.obj F.partSTATE (↑wSolveEnd_1_p : Nat) == 1 && (wSolveEnd_1_s.m.part ↑wSolveEnd_1_p).solves && (wSolveEnd_1_s.m.upTo wSolveEnd_1_t).enginesBusy ↑wSolveEnd_1_p) = false)) ∧
    (((wSolveEnd_2_s.m.part ↑wSolveEnd_1_p).phase = 2) ∧ ((wSolveEnd_2_s.m.obj F.partSTATE (↑wSolveEnd_1_p : Nat) == 1 && (wSolveEnd_2_s.m.part ↑wSolveEnd_1_p).solves && (wSolveEnd_2_s.m.upTo wSolveEnd_1_t).enginesBusy ↑wSolveEnd_1_p) = true)) ∧
    (((wSolveEnd_3_s.m.part ↑wSolveEnd_1_p).withheld = some wSolveEnd_1_d) ∧ (wSolveEnd_1_d ≤ wSolveEnd_3_s.at_ wSolveEnd_1_t) ∧ (wSolveEnd_3_s.m.obj F.partSTATE (↑wSolveEnd_1_p : Nat) = 1)) :=
  ⟨by decide +kernel, by decide +kernel, by decide +kernel⟩

theorem witness_EngineService :
    ((wEngineService_1_s.m.obj F.ceSTATE (↑wEngineService_1_ce : Nat) = 1) ∧ ((wEngineService_1_s.m.eng ↑wEngineService_1_ce).slice ≠ 0)) ∧
    (Accepts ceFenceCard wEngineService_2_msg wEngineService_2_s wEngineService_1_is) ∧
    (((cmdOf wEngineService_2_msg wEngineService_2_s wEngineService_1_is).num 1 = ↑wEngineService_1_ce) ∧ (wEngineService_2_s.m.mayCe (cmdOf wEngineService_2_msg wEngineService_2_s wEngineService_1_is).owner (↑wEngineService_1_ce : Nat) = true) ∧ (wEngineService_2_s.m.obj F.ceSTATE (↑wEngineService_1_ce : Nat) = 1) ∧ (wEngineService_2_s.m.obj F.cePARTITION (↑wEngineService_1_ce : Nat) < 8) ∧ (wEngineService_2_s.m.fenceFaults (wEngineService_2_s.m.obj F.cePARTITION ↑wEngineService_1_ce) (setBit (wEngineService_2_s.m.fencedOf (wEngineService_2_s.m.obj F.cePARTITION ↑wEngineService_1_ce)) ↑wEngineService_1_ce true) = false)) ∧
    (Accepts ceRetestCard wEngineService_3_msg wEngineService_3_s wEngineService_1_is) ∧
    (((cmdOf wEngineService_3_msg wEngineService_3_s wEngineService_1_is).num 1 = ↑wEngineService_1_ce) ∧ (wEngineService_3_s.m.mayCe (cmdOf wEngineService_3_msg wEngineService_3_s wEngineService_1_is).owner (↑wEngineService_1_ce : Nat) = true) ∧ (wEngineService_3_s.m.obj F.ceSTATE (↑wEngineService_1_ce : Nat) = 2)) ∧
    (((wEngineService_4_s.m.eng ↑wEngineService_1_ce).retest = some (some (wEngineService_4_q, wEngineService_4_sq))) ∧ (wEngineService_4_s.m.obj F.cePARTITION (↑wEngineService_1_ce : Nat) < 8)) :=
  ⟨by decide +kernel, accepts_of (by decide +kernel), by decide +kernel, accepts_of (by decide +kernel), by decide +kernel, by decide +kernel⟩

theorem witness_PartitionCommands :
    (Accepts partStartCard wPartitionCommands_1_msg wPartitionCommands_1_s wPartitionCommands_1_is) ∧
    (((isSys (cmdOf wPartitionCommands_1_msg wPartitionCommands_1_s wPartitionCommands_1_is).owner || (cmdOf wPartitionCommands_1_msg wPartitionCommands_1_s wPartitionCommands_1_is).owner == (cmdOf wPartitionCommands_1_msg wPartitionCommands_1_s wPartitionCommands_1_is).num 1) = true) ∧ ((wPartitionCommands_1_s.m.part ((cmdOf wPartitionCommands_1_msg wPartitionCommands_1_s wPartitionCommands_1_is).num 1)).cmd = none) ∧ (wPartitionCommands_1_s.m.hasEngine ((cmdOf wPartitionCommands_1_msg wPartitionCommands_1_s wPartitionCommands_1_is).num 1) = true) ∧ ((cmdOf wPartitionCommands_1_msg wPartitionCommands_1_s wPartitionCommands_1_is).num 2 ≤ 1) ∧ (wPartitionCommands_1_s.m.obj F.partSTATE ((cmdOf wPartitionCommands_1_msg wPartitionCommands_1_s wPartitionCommands_1_is).num 1) = 0 ∧ (cmdOf wPartitionCommands_1_msg wPartitionCommands_1_s wPartitionCommands_1_is).num 2 = 0 ∨ wPartitionCommands_1_s.m.obj F.partSTATE ((cmdOf wPartitionCommands_1_msg wPartitionCommands_1_s wPartitionCommands_1_is).num 1) = 2)) ∧
    (Accepts partHaltCard wPartitionCommands_3_msg wPartitionCommands_3_s wPartitionCommands_3_is) ∧
    (((isSys (cmdOf wPartitionCommands_3_msg wPartitionCommands_3_s wPartitionCommands_3_is).owner || (cmdOf wPartitionCommands_3_msg wPartitionCommands_3_s wPartitionCommands_3_is).owner == (cmdOf wPartitionCommands_3_msg wPartitionCommands_3_s wPartitionCommands_3_is).num 1) = true) ∧ ((wPartitionCommands_3_s.m.part ((cmdOf wPartitionCommands_3_msg wPartitionCommands_3_s wPartitionCommands_3_is).num 1)).cmd = none) ∧ (wPartitionCommands_3_s.m.obj F.partSTATE ((cmdOf wPartitionCommands_3_msg wPartitionCommands_3_s wPartitionCommands_3_is).num 1) = 1)) ∧
    (Accepts partStopCard wPartitionCommands_4_msg wPartitionCommands_4_s wPartitionCommands_4_is) ∧
    (((isSys (cmdOf wPartitionCommands_4_msg wPartitionCommands_4_s wPartitionCommands_4_is).owner || (cmdOf wPartitionCommands_4_msg wPartitionCommands_4_s wPartitionCommands_4_is).owner == (cmdOf wPartitionCommands_4_msg wPartitionCommands_4_s wPartitionCommands_4_is).num 1) = true) ∧ ((wPartitionCommands_4_s.m.part ((cmdOf wPartitionCommands_4_msg wPartitionCommands_4_s wPartitionCommands_4_is).num 1)).cmd = none) ∧ (wPartitionCommands_4_s.m.obj F.partSTATE ((cmdOf wPartitionCommands_4_msg wPartitionCommands_4_s wPartitionCommands_4_is).num 1) ≠ 0)) ∧
    (((wPartitionCommands_4_s.m.part ↑wPartitionCommands_1_k).vioWrites + (wPartitionCommands_4_s.m.part ↑wPartitionCommands_1_k).vioReads ≠ 0) ∧ (Option.all (fun (a : Nat) => decide (a + 10 ^ 9 ≤ wPartitionCommands_4_s.at_ wPartitionCommands_1_t)) (wPartitionCommands_4_s.m.part ↑wPartitionCommands_1_k).vioAt = true)) :=
  ⟨accepts_of (by decide +kernel), by decide +kernel, accepts_of (by decide +kernel), by decide +kernel, accepts_of (by decide +kernel),
   by decide +kernel, by decide +kernel⟩

theorem witness_PlantPublications :
    ((wPlantPublications_1_s.m.cfg = some pkgS) ∧ (pkgS.subs = [sl0]) ∧ (wPlantPublications_1_s.m.sys.off = false) ∧ ((wPlantPublications_1_s.m.upTo wPlantPublications_1_t).plantPorts.contains (↑wPlantPublications_1_f.port : Nat) = true) ∧ (wPlantPublications_1_s.m.macPass ↑wPlantPublications_1_f.port wPlantPublications_1_f.secured = true) ∧ (wPlantPublications_1_f.etherType = wPlantPublications_1_s.m.sys.pubType) ∧ (wPlantPublications_1_f.version = 1) ∧ (1 ≤ wPlantPublications_1_f.entryCount) ∧ (wPlantPublications_1_f.entryCount ≤ 640) ∧ (wPlantPublications_1_f.values.length = wPlantPublications_1_f.entryCount) ∧ (wPlantPublications_1_f.quality.length = wPlantPublications_1_f.entryCount) ∧ (wPlantPublications_1_f.index = 0) ∧ (wPlantPublications_1_f.last = true) ∧ (wPlantPublications_1_f.moduleId = sl0.moduleId) ∧ (wPlantPublications_1_f.partition = sl0.partition) ∧ (wPlantPublications_1_f.listHash = sl0.hash) ∧ ((ug { } wPlantPublications_1_s.m.subs 0).asm = none) ∧ ((ug { } wPlantPublications_1_s.m.subs 0).ready = []) ∧ ((ug { } wPlantPublications_1_s.m.subs 0).last = none)) ∧
    ((wPlantPublications_1_s.m.cfg = some pkgS) ∧ (pkgS.subs = [sl0]) ∧ (Option.all (fun (x : PlantSet × Nat) => decide (x.snd + 3 * (sl0.periodM * 125000) ≤ wPlantPublications_1_s.at_ wPlantPublications_1_t)) (ug { } wPlantPublications_1_s.m.subs 0).last = true)) :=
  ⟨by decide +kernel, by decide +kernel⟩

theorem witness_ModeCommands_1 :
    (Accepts modeSetCard wModeCommands_1_msg wModeCommands_1_s wModeCommands_1_is) ∧
    ((wModeCommands_1_s.m.mode = 1) ∧ ((cmdOf wModeCommands_1_msg wModeCommands_1_s wModeCommands_1_is).num 1 = 0 ∨ (cmdOf wModeCommands_1_msg wModeCommands_1_s wModeCommands_1_is).num 1 = 5) ∧ (wModeCommands_1_s.m.obj F.powPOWER_STATE ≠ 1) ∧ (wModeCommands_1_s.m.obj F.secLIFECYCLE = 2) ∧ (wModeCommands_1_s.m.obj F.secTAINTED = 0) ∧ (wModeCommands_1_s.m.sys.window = none) ∧ (wModeCommands_1_s.m.svc.load = none) ∧ (wModeCommands_1_s.m.obj F.modePRESENCE_REQ ≠ 0) ∧ (wModeCommands_1_s.m.windowOpen = false)) ∧
    (Accepts resetCard wModeCommands_3_msg wModeCommands_1_s wModeCommands_3_is) ∧
    (((cmdOf wModeCommands_3_msg wModeCommands_1_s wModeCommands_3_is).num 1 = 0) ∧ (isSys (cmdOf wModeCommands_3_msg wModeCommands_1_s wModeCommands_3_is).owner = true)) ∧
    (Accepts blockQuiesceCard wModeCommands_4_msg wModeCommands_1_s wModeCommands_4_is) :=
  ⟨accepts_of (by decide +kernel), by decide +kernel, accepts_of (by decide +kernel), by decide +kernel, accepts_of (by decide +kernel)⟩

theorem witness_ModeCommands_2 :
    ((¬(cmdOf wModeCommands_4_msg wModeCommands_1_s wModeCommands_4_is).num 1 ∈ wModeCommands_1_s.m.sys.hung)) ∧
    ((List.find? (fun (e : Nat × Nat × Nat × Nat) => e.fst == wModeCommands_1_b) wModeCommands_5_s.m.sys.quiescing = some wModeCommands_5_e)) ∧
    ((List.find? (fun (e : Nat × Bool × Msg) => e.fst == wModeCommands_6_b) wModeCommands_6_s.m.sys.resetting = some wModeCommands_6_e) ∧ (48 ≤ wModeCommands_6_b) ∧ (wModeCommands_6_b ≤ 55) ∧ ((wModeCommands_6_s.m.cq wModeCommands_6_e.snd.snd.queue).running = some (wModeCommands_6_e.snd.snd, wModeCommands_6_s.m.obj F.cqQUEUE_EPOCH wModeCommands_6_e.snd.snd.queue)) ∧ ((wModeCommands_6_s.m.cq wModeCommands_6_e.snd.snd.queue).waiting = [])) ∧
    (((wModeCommands_7_s.m.part ↑wModeCommands_6_p).resetBy = some wModeCommands_6_by_)) :=
  ⟨by decide +kernel, by decide +kernel, by decide +kernel, by decide +kernel⟩

theorem witness_FrontPanel_1 :
    ((wFrontPanel_1_s.m.sys.window = some wFrontPanel_1_w) ∧ (wFrontPanel_1_s.m.deaf = false) ∧ (wFrontPanel_1_w.what = Presence.slate)) ∧
    ((wFrontPanel_1_s.m.sys.window = some wFrontPanel_1_w)) ∧
    ((wFrontPanel_1_s.m.sys.window = some wFrontPanel_1_w) ∧ (wFrontPanel_1_w.ends ≤ wFrontPanel_1_s.at_ wFrontPanel_1_t)) ∧
    ((bit wFrontPanel_1_s.m.di (↑wFrontPanel_1_n : Nat) ≠ true)) ∧
    ((wFrontPanel_2_s.m.sys.window = some wFrontPanel_2_w) ∧ (wFrontPanel_2_s.m.deaf = false) ∧ (wFrontPanel_2_w.what = Presence.mode wFrontPanel_2_g) ∧ (wFrontPanel_2_g ≠ 1) ∧ (wFrontPanel_2_s.m.modeGuard wFrontPanel_2_g = 0)) :=
  ⟨by decide +kernel, by decide +kernel, by decide +kernel, by decide +kernel, by decide +kernel⟩

theorem witness_FrontPanel_2 :
    ((wFrontPanel_3_s.m.sys.window = some wFrontPanel_3_w) ∧ (wFrontPanel_3_s.m.deaf = false) ∧ (wFrontPanel_3_w.what = Presence.life wFrontPanel_3_l)) ∧
    ((wFrontPanel_4_s.m.sys.window = some wFrontPanel_4_w) ∧ (wFrontPanel_4_s.m.deaf = false) ∧ (wFrontPanel_4_w.what = Presence.cert 3 wFrontPanel_4_slot wFrontPanel_4_d wFrontPanel_4_use wFrontPanel_4_roles wFrontPanel_4_qs)) ∧
    ((wFrontPanel_5_s.m.sys.window = some wFrontPanel_5_w) ∧ (wFrontPanel_5_s.m.deaf = false) ∧ (wFrontPanel_5_w.what = Presence.debug wFrontPanel_5_conn) ∧ (2 ≤ debugMax (wFrontPanel_5_s.m.obj F.secLIFECYCLE) wFrontPanel_5_s.m.mode)) ∧
    ((wFrontPanel_6_s.m.sys.window = none)) ∧ ((wFrontPanel_6_s.m.sys.keyAt + 60 * 10 ^ 9 ≤ wFrontPanel_6_s.at_ wFrontPanel_6_t)) :=
  ⟨by decide +kernel, by decide +kernel, by decide +kernel, by decide +kernel, by decide +kernel⟩

theorem witness_PanelShows_1 :
    ((wPanelShows_1_s.m.sys.off = true)) ∧ ((wPanelShows_2_s.m.sys.off = false)) ∧
    ((wPanelShows_2_s.m.sys.off = false) ∧ (wPanelShows_2_s.m.sys.bootFailed = false) ∧ (wPanelShows_2_s.m.sys.bringup = 0)) ∧
    ((wPanelShows_2_s.m.sys.off = false) ∧ (wPanelShows_2_s.m.obj F.islSTATE = 1)) ∧
    ((wPanelShows_2_s.m.sys.off = false) ∧ (wPanelShows_2_s.m.timeState = 1 ∨ wPanelShows_2_s.m.timeState = 3)) ∧
    ((wPanelShows_2_s.m.sys.off = false) ∧ (wPanelShows_2_s.m.obj F.gaugePF_STATE = 0) ∧ (wPanelShows_2_s.m.gauge.eol = false)) ∧
    ((wPanelShows_2_s.m.sys.off = false) ∧ (wPanelShows_2_s.m.sys.window = none) ∧ (wPanelShows_2_s.m.sys.identify = none) ∧ (wPanelShows_2_s.m.sys.bootFailed = false) ∧ (wPanelShows_2_s.m.sys.bringup = 0) ∧ (wPanelShows_2_s.m.mode ≠ 4)) ∧
    ((wPanelShows_3_s.m.sys.off = false) ∧ (wPanelShows_3_s.m.sys.bootFailed = true)) :=
  ⟨by decide +kernel, by decide +kernel, by decide +kernel, by decide +kernel, by decide +kernel, by decide +kernel, by decide +kernel,
   by decide +kernel⟩

theorem witness_PanelShows_2 :
    ((wPanelShows_3_s.m.sys.off = false) ∧ (wPanelShows_3_s.m.obj F.islSTATE = 0)) ∧
    ((wPanelShows_3_s.m.sys.off = false) ∧ (wPanelShows_3_s.m.timeState = 2 ∨ wPanelShows_3_s.m.timeState = 4)) ∧
    ((wPanelShows_3_s.m.sys.off = false) ∧ (wPanelShows_3_s.m.obj F.gaugePF_STATE = 1) ∧ (wPanelShows_3_s.m.gauge.eol = false)) ∧
    ((wPanelShows_3_s.m.sys.off = false) ∧ (wPanelShows_3_s.m.sys.window = none) ∧ (wPanelShows_3_s.m.sys.identify = none) ∧ (wPanelShows_3_s.m.sys.bootFailed = true)) ∧
    ((wPanelShows_4_s.m.sys.off = false) ∧ (wPanelShows_4_s.m.sys.bootFailed = false) ∧ (wPanelShows_4_s.m.sys.bringup ≠ 0)) ∧
    ((wPanelShows_4_s.m.sys.off = false) ∧ (wPanelShows_4_s.m.obj F.islSTATE = 2)) ∧
    ((wPanelShows_4_s.m.sys.off = false) ∧ (wPanelShows_4_s.m.timeState = 0)) ∧
    ((wPanelShows_4_s.m.sys.off = false) ∧ (wPanelShows_4_s.m.obj F.gaugePF_STATE = 2)) :=
  ⟨by decide +kernel, by decide +kernel, by decide +kernel, by decide +kernel, by decide +kernel, by decide +kernel, by decide +kernel,
   by decide +kernel⟩

theorem witness_PanelShows_3 :
    ((wPanelShows_4_s.m.sys.off = false) ∧ (wPanelShows_4_s.m.sys.window = none) ∧ (wPanelShows_4_s.m.sys.identify = none) ∧ (wPanelShows_4_s.m.sys.bootFailed = false) ∧ (wPanelShows_4_s.m.sys.bringup ≠ 0)) ∧
    ((wPanelShows_5_s.m.sys.off = false) ∧ (wPanelShows_5_s.m.obj F.islSTATE = 3)) ∧
    ((wPanelShows_5_s.m.sys.off = false) ∧ (wPanelShows_5_s.m.obj F.gaugePF_STATE ≠ 2) ∧ (wPanelShows_5_s.m.gauge.eol = true)) ∧
    ((wPanelShows_5_s.m.sys.off = false) ∧ (wPanelShows_5_s.m.sys.window = none) ∧ (wPanelShows_5_s.m.sys.identify = none) ∧ (wPanelShows_5_s.m.sys.bootFailed = false) ∧ (wPanelShows_5_s.m.sys.bringup = 0) ∧ (wPanelShows_5_s.m.mode = 4)) ∧
    ((wPanelShows_6_s.m.sys.off = false) ∧ (wPanelShows_6_s.m.sys.window = none) ∧ (wPanelShows_6_s.m.sys.identify = some wPanelShows_2_e) ∧ (wPanelShows_6_s.m.now < wPanelShows_2_e)) ∧
    ((wPanelShows_7_s.m.sys.off = false) ∧ (wPanelShows_7_s.m.sys.window = some wPanelShows_2_w)) :=
  ⟨by decide +kernel, by decide +kernel, by decide +kernel, by decide +kernel, by decide +kernel, by decide +kernel⟩

theorem witness_TrunkInputs :
    ((wTrunkInputs_1_s.m.sys.off = false) ∧ ((wTrunkInputs_1_s.m.upTo wTrunkInputs_1_t).blockOut (↑wTrunkInputs_1_f.trunk : Nat) = false) ∧ (wTrunkInputs_1_f.etherType ≠ 35063) ∧ (wTrunkInputs_1_f.etherType = wTrunkInputs_1_s.m.obj F.trunkETHERTYPE ↑wTrunkInputs_1_f.trunk) ∧ (wTrunkInputs_1_f.kind = 2) ∧ (wTrunkInputs_1_f.data.length ≤ 1476) ∧ (wTrunkInputs_1_f.fcs = true) ∧ (wTrunkInputs_1_f.version = 1) ∧ (wTrunkInputs_1_f.moduleId = wTrunkInputs_1_s.m.obj F.modMODULE_ID) ∧ (1 ≤ wTrunkInputs_1_s.m.obj F.placeSTATE (wTrunkInputs_1_f.trunkField % 4 * 256 + wTrunkInputs_1_f.place % 256)) ∧ (wTrunkInputs_1_f.assignEpoch < wTrunkInputs_1_s.m.obj F.placeASSIGN_EPOCH (wTrunkInputs_1_f.trunkField % 4 * 256 + wTrunkInputs_1_f.place % 256))) ∧
    ((wTrunkInputs_2_s.m.sys.off = false) ∧ ((wTrunkInputs_2_s.m.upTo wTrunkInputs_2_t).blockOut (↑gfp0.trunk : Nat) = false) ∧ (gfp0.etherType ≠ 35063) ∧ (gfp0.etherType = wTrunkInputs_2_s.m.obj F.trunkETHERTYPE ↑gfp0.trunk) ∧ (gfp0.kind = 2) ∧ (gfp0.data.length ≤ 1476) ∧ (gfp0.fcs = true) ∧ (gfp0.version = 1) ∧ (gfp0.moduleId = wTrunkInputs_2_s.m.obj F.modMODULE_ID) ∧ (1 ≤ wTrunkInputs_2_s.m.obj F.placeSTATE (gfp0.trunkField % 4 * 256 + gfp0.place % 256)) ∧ (gfp0.assignEpoch = wTrunkInputs_2_s.m.obj F.placeASSIGN_EPOCH (gfp0.trunkField % 4 * 256 + gfp0.place % 256)) ∧ (gfp0.trunkField = ↑gfp0.trunk) ∧ (2 ≤ wTrunkInputs_2_s.m.obj F.placeSTATE (gfp0.trunkField % 4 * 256 + gfp0.place % 256)) ∧ (wTrunkInputs_2_s.m.obj F.placePARTITION (gfp0.trunkField % 4 * 256 + gfp0.place % 256) < 8) ∧ (gfp0.time = wTrunkInputs_2_s.m.gzAt (wTrunkInputs_2_s.m.part (wTrunkInputs_2_s.m.obj F.placePARTITION (gfp0.trunkField % 4 * 256 + gfp0.place % 256))).clapAt) ∧ (wTrunkInputs_2_s.at_ wTrunkInputs_2_t + 2000 ≤ (wTrunkInputs_2_s.m.part (wTrunkInputs_2_s.m.obj F.placePARTITION (gfp0.trunkField % 4 * 256 + gfp0.place % 256))).clapAt + wTrunkInputs_2_s.m.obj F.cycG_NS (wTrunkInputs_2_s.m.obj F.placePARTITION (gfp0.trunkField % 4 * 256 + gfp0.place % 256))) ∧ (gfp0.mac = (wTrunkInputs_2_s.m.place (gfp0.trunkField % 4 * 256 + gfp0.place % 256)).mac) ∧ (gfp0.length = 2 * wTrunkInputs_2_s.m.obj F.placeIN_SLOTS (gfp0.trunkField % 4 * 256 + gfp0.place % 256)) ∧ ((wTrunkInputs_2_s.m.place (gfp0.trunkField % 4 * 256 + gfp0.place % 256)).got = false) ∧ ((wTrunkInputs_2_s.m.part (wTrunkInputs_2_s.m.obj F.placePARTITION (gfp0.trunkField % 4 * 256 + gfp0.place % 256))).phase = 1)) :=
  ⟨by decide +kernel, by decide +kernel⟩

theorem witness_TrunkEvents :
    ((wTrunkEvents_1_s.m.obj F.trunkTOPOLOGY (↑wTrunkEvents_1_k : Nat) ≠ 0) ∧ (wTrunkEvents_1_s.m.obj F.trunkRING_STATE (↑wTrunkEvents_1_k : Nat) ≤ 1)) ∧
    ((wTrunkEvents_1_s.m.sends = true) ∧ ((wTrunkEvents_1_s.m.upTo wTrunkEvents_1_t).blockOut (↑wTrunkEvents_1_k : Nat) = false)) ∧
    ((wTrunkEvents_1_s.m.sys.off = false) ∧ ((wTrunkEvents_1_s.m.upTo wTrunkEvents_1_t).blockOut (↑wTrunkEvents_1_k : Nat) = false)) ∧
    ((wTrunkEvents_2_s.m.obj F.trunkTOPOLOGY (↑wTrunkEvents_1_k : Nat) ≠ 0) ∧ (2 ≤ wTrunkEvents_2_s.m.obj F.trunkRING_STATE ↑wTrunkEvents_1_k) ∧ ((List.filter (fun (n : Nat) => n / 256 == ↑wTrunkEvents_1_k && decide (2 ≤ wTrunkEvents_2_s.m.obj F.placeSTATE n)) placeNums).length ≤ min wTrunkEvents_1_ra wTrunkEvents_1_rb)) ∧
    (((wTrunkEvents_3_s.m.trunk ↑wTrunkEvents_1_k).disc = some (wTrunkEvents_3_q, wTrunkEvents_3_sq, wTrunkEvents_3_a))) ∧
    (((wTrunkEvents_3_s.m.place ↑wTrunkEvents_3_n).confirm = some (wTrunkEvents_3_q, wTrunkEvents_3_sq, wTrunkEvents_3_op, wTrunkEvents_3_a)) ∧ (wTrunkEvents_3_a + 10 ^ 9 ≤ wTrunkEvents_3_s.at_ wTrunkEvents_1_t)) ∧
    ((wTrunkEvents_3_s.m.sys.off = false) ∧ ((wTrunkEvents_3_s.m.upTo wTrunkEvents_1_t).blockOut (↑wTrunkEvents_1_k : Nat) = false) ∧ ((wTrunkEvents_3_s.m.place (↑wTrunkEvents_1_k * 256 + wTrunkEvents_1_place % 256)).confirm = some (wTrunkEvents_3_q, wTrunkEvents_3_sq, wTrunkEvents_3_op, wTrunkEvents_3_a))) :=
  ⟨by decide +kernel, by decide +kernel, by decide +kernel, by decide +kernel, by decide +kernel, by decide +kernel, by decide +kernel⟩

theorem witness_NodeCommands_1 :
    (Accepts trunkDiscoverCard wNodeCommands_1_msg wNodeCommands_1_s wNodeCommands_1_is) ∧
    (((wNodeCommands_1_s.m.trunk ((cmdOf wNodeCommands_1_msg wNodeCommands_1_s wNodeCommands_1_is).num 1)).disc = none)) ∧
    (Accepts nodeAssignCard wNodeCommands_2_msg wNodeCommands_2_s wNodeCommands_2_is) ∧
    ((wNodeCommands_2_s.m.obj F.placeSTATE ((cmdOf wNodeCommands_2_msg wNodeCommands_2_s wNodeCommands_2_is).num 1 * 256 + (cmdOf wNodeCommands_2_msg wNodeCommands_2_s wNodeCommands_2_is).num 2) ≠ 0 ∧ (isSys (cmdOf wNodeCommands_2_msg wNodeCommands_2_s wNodeCommands_2_is).owner = true ∨ wNodeCommands_2_s.m.obj F.placePARTITION ((cmdOf wNodeCommands_2_msg wNodeCommands_2_s wNodeCommands_2_is).num 1 * 256 + (cmdOf wNodeCommands_2_msg wNodeCommands_2_s wNodeCommands_2_is).num 2) = (cmdOf wNodeCommands_2_msg wNodeCommands_2_s wNodeCommands_2_is).owner)) ∧ (wNodeCommands_2_s.m.obj F.placeASSIGN_EPOCH ((cmdOf wNodeCommands_2_msg wNodeCommands_2_s wNodeCommands_2_is).num 1 * 256 + (cmdOf wNodeCommands_2_msg wNodeCommands_2_s wNodeCommands_2_is).num 2) < 2 ^ 32 - 1) ∧ (∀ (d : NodeId), wNodeCommands_2_s.m.heardNode ((cmdOf wNodeCommands_2_msg wNodeCommands_2_s wNodeCommands_2_is).num 3) = some d → d.vendor = wNodeCommands_2_s.m.obj F.placeVENDOR ((cmdOf wNodeCommands_2_msg wNodeCommands_2_s wNodeCommands_2_is).num 1 * 256 + (cmdOf wNodeCommands_2_msg wNodeCommands_2_s wNodeCommands_2_is).num 2) ∧ d.product = wNodeCommands_2_s.m.obj F.placePRODUCT ((cmdOf wNodeCommands_2_msg wNodeCommands_2_s wNodeCommands_2_is).num 1 * 256 + (cmdOf wNodeCommands_2_msg wNodeCommands_2_s wNodeCommands_2_is).num 2) ∧ (d.moduleId = 65535 ∨ d.moduleId = wNodeCommands_2_s.m.obj F.modMODULE_ID ∧ d.place = ((cmdOf wNodeCommands_2_msg wNodeCommands_2_s wNodeCommands_2_is).num 1 * 256 + (cmdOf wNodeCommands_2_msg wNodeCommands_2_s wNodeCommands_2_is).num 2) % 256 ∧ wNodeCommands_2_s.m.obj F.placeSERIAL ((cmdOf wNodeCommands_2_msg wNodeCommands_2_s wNodeCommands_2_is).num 1 * 256 + (cmdOf wNodeCommands_2_msg wNodeCommands_2_s wNodeCommands_2_is).num 2) = (cmdOf wNodeCommands_2_msg wNodeCommands_2_s wNodeCommands_2_is).num 3)) ∧ (wNodeCommands_2_s.m.obj F.placeSERIAL ((cmdOf wNodeCommands_2_msg wNodeCommands_2_s wNodeCommands_2_is).num 1 * 256 + (cmdOf wNodeCommands_2_msg wNodeCommands_2_s wNodeCommands_2_is).num 2) = 0 ∨ wNodeCommands_2_s.m.obj F.placeSERIAL ((cmdOf wNodeCommands_2_msg wNodeCommands_2_s wNodeCommands_2_is).num 1 * 256 + (cmdOf wNodeCommands_2_msg wNodeCommands_2_s wNodeCommands_2_is).num 2) = (cmdOf wNodeCommands_2_msg wNodeCommands_2_s wNodeCommands_2_is).num 3)) ∧
    (Accepts nodeReplaceCard wNodeCommands_3_msg wNodeCommands_2_s wNodeCommands_2_is) :=
  ⟨accepts_of (by decide +kernel), by decide +kernel, accepts_of (by decide +kernel), by decide +kernel, accepts_of (by decide +kernel)⟩

theorem witness_NodeCommands_2 :
    ((wNodeCommands_2_s.m.obj F.placeSTATE ((cmdOf wNodeCommands_3_msg wNodeCommands_2_s wNodeCommands_2_is).num 1 * 256 + (cmdOf wNodeCommands_3_msg wNodeCommands_2_s wNodeCommands_2_is).num 2) ≠ 0 ∧ (isSys (cmdOf wNodeCommands_3_msg wNodeCommands_2_s wNodeCommands_2_is).owner = true ∨ wNodeCommands_2_s.m.obj F.placePARTITION ((cmdOf wNodeCommands_3_msg wNodeCommands_2_s wNodeCommands_2_is).num 1 * 256 + (cmdOf wNodeCommands_3_msg wNodeCommands_2_s wNodeCommands_2_is).num 2) = (cmdOf wNodeCommands_3_msg wNodeCommands_2_s wNodeCommands_2_is).owner)) ∧ (wNodeCommands_2_s.m.obj F.placeASSIGN_EPOCH ((cmdOf wNodeCommands_3_msg wNodeCommands_2_s wNodeCommands_2_is).num 1 * 256 + (cmdOf wNodeCommands_3_msg wNodeCommands_2_s wNodeCommands_2_is).num 2) < 2 ^ 32 - 1) ∧ (∀ (d : NodeId), wNodeCommands_2_s.m.heardNode ((cmdOf wNodeCommands_3_msg wNodeCommands_2_s wNodeCommands_2_is).num 3) = some d → d.vendor = wNodeCommands_2_s.m.obj F.placeVENDOR ((cmdOf wNodeCommands_3_msg wNodeCommands_2_s wNodeCommands_2_is).num 1 * 256 + (cmdOf wNodeCommands_3_msg wNodeCommands_2_s wNodeCommands_2_is).num 2) ∧ d.product = wNodeCommands_2_s.m.obj F.placePRODUCT ((cmdOf wNodeCommands_3_msg wNodeCommands_2_s wNodeCommands_2_is).num 1 * 256 + (cmdOf wNodeCommands_3_msg wNodeCommands_2_s wNodeCommands_2_is).num 2) ∧ (d.moduleId = 65535 ∨ d.moduleId = wNodeCommands_2_s.m.obj F.modMODULE_ID ∧ d.place = ((cmdOf wNodeCommands_3_msg wNodeCommands_2_s wNodeCommands_2_is).num 1 * 256 + (cmdOf wNodeCommands_3_msg wNodeCommands_2_s wNodeCommands_2_is).num 2) % 256 ∧ wNodeCommands_2_s.m.obj F.placeSERIAL ((cmdOf wNodeCommands_3_msg wNodeCommands_2_s wNodeCommands_2_is).num 1 * 256 + (cmdOf wNodeCommands_3_msg wNodeCommands_2_s wNodeCommands_2_is).num 2) = (cmdOf wNodeCommands_3_msg wNodeCommands_2_s wNodeCommands_2_is).num 3)) ∧ ((cmdOf wNodeCommands_3_msg wNodeCommands_2_s wNodeCommands_2_is).num 4 ≠ 0 ∨ wNodeCommands_2_s.m.obj F.placeSTATE ((cmdOf wNodeCommands_3_msg wNodeCommands_2_s wNodeCommands_2_is).num 1 * 256 + (cmdOf wNodeCommands_3_msg wNodeCommands_2_s wNodeCommands_2_is).num 2) ≠ 4)) ∧
    (Accepts nodeUnassignCard wNodeCommands_4_msg wNodeCommands_4_s wNodeCommands_4_is) ∧
    ((wNodeCommands_4_s.m.obj F.placeSTATE ((cmdOf wNodeCommands_4_msg wNodeCommands_4_s wNodeCommands_4_is).num 1 * 256 + (cmdOf wNodeCommands_4_msg wNodeCommands_4_s wNodeCommands_4_is).num 2) ≠ 0 ∧ (isSys (cmdOf wNodeCommands_4_msg wNodeCommands_4_s wNodeCommands_4_is).owner = true ∨ wNodeCommands_4_s.m.obj F.placePARTITION ((cmdOf wNodeCommands_4_msg wNodeCommands_4_s wNodeCommands_4_is).num 1 * 256 + (cmdOf wNodeCommands_4_msg wNodeCommands_4_s wNodeCommands_4_is).num 2) = (cmdOf wNodeCommands_4_msg wNodeCommands_4_s wNodeCommands_4_is).owner)) ∧ (wNodeCommands_4_s.m.obj F.placeASSIGN_EPOCH ((cmdOf wNodeCommands_4_msg wNodeCommands_4_s wNodeCommands_4_is).num 1 * 256 + (cmdOf wNodeCommands_4_msg wNodeCommands_4_s wNodeCommands_4_is).num 2) < 2 ^ 32 - 1)) ∧
    (Accepts nodeDiagReadCard wNodeCommands_5_msg wNodeCommands_5_s wNodeCommands_5_is) ∧
    ((wNodeCommands_5_s.m.obj F.placeSTATE ((cmdOf wNodeCommands_5_msg wNodeCommands_5_s wNodeCommands_5_is).num 1 * 256 + (cmdOf wNodeCommands_5_msg wNodeCommands_5_s wNodeCommands_5_is).num 2) ≠ 0 ∧ (isSys (cmdOf wNodeCommands_5_msg wNodeCommands_5_s wNodeCommands_5_is).owner = true ∨ wNodeCommands_5_s.m.obj F.placePARTITION ((cmdOf wNodeCommands_5_msg wNodeCommands_5_s wNodeCommands_5_is).num 1 * 256 + (cmdOf wNodeCommands_5_msg wNodeCommands_5_s wNodeCommands_5_is).num 2) = (cmdOf wNodeCommands_5_msg wNodeCommands_5_s wNodeCommands_5_is).owner)) ∧ ((wNodeCommands_5_s.m.place ((cmdOf wNodeCommands_5_msg wNodeCommands_5_s wNodeCommands_5_is).num 1 * 256 + (cmdOf wNodeCommands_5_msg wNodeCommands_5_s wNodeCommands_5_is).num 2)).diag ≠ [])) :=
  ⟨by decide +kernel, accepts_of (by decide +kernel), by decide +kernel, accepts_of (by decide +kernel), by decide +kernel⟩

theorem witness_SegmentCyclic :
    ((wSegmentCyclic_1_s.m.gzAt (wSegmentCyclic_1_s.at_ wSegmentCyclic_1_t) % 125000 = 0) ∧ ((wSegmentCyclic_1_s.m.sg ↑wSegmentCyclic_1_f.seg).refAt + 10000000 < wSegmentCyclic_1_s.at_ wSegmentCyclic_1_t + 125000) ∧ (wSegmentCyclic_1_s.m.segTimed (↑wSegmentCyclic_1_f.seg : Nat) = true) ∧ ((wSegmentCyclic_1_s.m.upTo wSegmentCyclic_1_t).segSends (↑wSegmentCyclic_1_f.seg : Nat) = true)) ∧
    (((wSegmentCyclic_1_s.m.upTo wSegmentCyclic_1_t).blockOut (16 + ↑wSegmentCyclic_2_f.seg) = false) ∧ (wSegmentCyclic_1_s.m.segTimed (↑wSegmentCyclic_2_f.seg : Nat) = true) ∧ (wSegmentCyclic_1_s.m.obj F.segSTATE (↑wSegmentCyclic_2_f.seg : Nat) = 1 ∨ wSegmentCyclic_1_s.m.obj F.segSTATE (↑wSegmentCyclic_2_f.seg : Nat) = 2) ∧ (wSegmentCyclic_2_f.ok = true) ∧ (wSegmentCyclic_2_f.ext = false) ∧ (64 ≤ wSegmentCyclic_2_f.ident) ∧ (wSegmentCyclic_2_f.ident ≤ 126) ∧ (2 ≤ wSegmentCyclic_1_s.m.obj F.nodeSTATE (↑wSegmentCyclic_2_f.seg * 64 + (wSegmentCyclic_2_f.ident - 63))) ∧ (wSegmentCyclic_1_s.m.obj F.nodePARTITION (↑wSegmentCyclic_2_f.seg * 64 + (wSegmentCyclic_2_f.ident - 63)) < 8) ∧ ((↑wSegmentCyclic_2_f.fmt : Nat) = 0 ↔ wSegmentCyclic_1_s.m.obj F.nodeFORMAT (↑wSegmentCyclic_2_f.seg * 64 + (wSegmentCyclic_2_f.ident - 63)) = 0) ∧ ((↑wSegmentCyclic_2_f.fmt : Nat) ≠ 3) ∧ (wSegmentCyclic_1_s.m.segAddr wSegmentCyclic_2_f (wSegmentCyclic_2_f.ident - 63) = true) ∧ ((wSegmentCyclic_1_s.m.part (wSegmentCyclic_1_s.m.obj F.nodePARTITION (↑wSegmentCyclic_2_f.seg * 64 + (wSegmentCyclic_2_f.ident - 63)))).clapAt < wSegmentCyclic_2_f.sof) ∧ (wSegmentCyclic_1_s.at_ wSegmentCyclic_1_t + 2000 ≤ (wSegmentCyclic_1_s.m.part (wSegmentCyclic_1_s.m.obj F.nodePARTITION (↑wSegmentCyclic_2_f.seg * 64 + (wSegmentCyclic_2_f.ident - 63)))).clapAt + wSegmentCyclic_1_s.m.obj F.cycG_NS (wSegmentCyclic_1_s.m.obj F.nodePARTITION (↑wSegmentCyclic_2_f.seg * 64 + (wSegmentCyclic_2_f.ident - 63)))) ∧ ((wSegmentCyclic_1_s.m.part (wSegmentCyclic_1_s.m.obj F.nodePARTITION (↑wSegmentCyclic_2_f.seg * 64 + (wSegmentCyclic_2_f.ident - 63)))).phase = 1) ∧ (wSegmentCyclic_2_f.data.length = 2 + 2 * wSegmentCyclic_1_s.m.obj F.nodeIN_SLOTS (↑wSegmentCyclic_2_f.seg * 64 + (wSegmentCyclic_2_f.ident - 63))) ∧ ((wSegmentCyclic_1_s.m.node (↑wSegmentCyclic_2_f.seg * 64 + (wSegmentCyclic_2_f.ident - 63))).toggle ≠ some (field (segHead wSegmentCyclic_2_f) 15 14)) ∧ ((wSegmentCyclic_1_s.m.node (↑wSegmentCyclic_2_f.seg * 64 + (wSegmentCyclic_2_f.ident - 63))).got = false)) ∧
    (((wSegmentCyclic_4_s.m.upTo wSegmentCyclic_1_t).segSends (↑wSegmentCyclic_4_f.seg : Nat) = true) ∧ (wSegmentCyclic_4_s.m.segTimed (↑wSegmentCyclic_4_f.seg : Nat) = true) ∧ (wSegmentCyclic_4_f.ok = true) ∧ (wSegmentCyclic_4_f.ext = false) ∧ (wSegmentCyclic_4_s.m.segAddr wSegmentCyclic_4_f (wSegmentCyclic_4_f.ident - 1792) = true) ∧ (1793 ≤ wSegmentCyclic_4_f.ident) ∧ (wSegmentCyclic_4_f.ident ≤ 1855) ∧ (wSegmentCyclic_4_f.data.length = 16) ∧ (1 ≤ wSegmentCyclic_4_s.m.obj F.nodeSTATE (↑wSegmentCyclic_4_f.seg * 64 + (wSegmentCyclic_4_f.ident - 1792))) ∧ (beNat (List.take 8 wSegmentCyclic_4_f.data) = wSegmentCyclic_4_s.m.obj F.nodeSERIAL (↑wSegmentCyclic_4_f.seg * 64 + (wSegmentCyclic_4_f.ident - 1792)) ∧ wSegmentCyclic_4_s.m.obj F.nodeSERIAL (↑wSegmentCyclic_4_f.seg * 64 + (wSegmentCyclic_4_f.ident - 1792)) ≠ 0 ∧ beNat (List.take 4 (List.drop 8 wSegmentCyclic_4_f.data)) = wSegmentCyclic_4_s.m.obj F.nodeASSIGN_EPOCH (↑wSegmentCyclic_4_f.seg * 64 + (wSegmentCyclic_4_f.ident - 1792)))) ∧
    (((wSegmentCyclic_4_s.m.upTo wSegmentCyclic_1_t).segSends (↑wSegmentCyclic_5_f.seg : Nat) = true) ∧ (wSegmentCyclic_4_s.m.segTimed (↑wSegmentCyclic_5_f.seg : Nat) = true) ∧ (wSegmentCyclic_5_f.ok = true) ∧ (wSegmentCyclic_5_f.ext = false) ∧ (wSegmentCyclic_4_s.m.segAddr wSegmentCyclic_5_f (wSegmentCyclic_5_f.ident - 1792) = true) ∧ (1793 ≤ wSegmentCyclic_5_f.ident) ∧ (wSegmentCyclic_5_f.ident ≤ 1855) ∧ (wSegmentCyclic_5_f.data.length = 16) ∧ (¬(beNat (List.take 8 wSegmentCyclic_5_f.data) = wSegmentCyclic_4_s.m.obj F.nodeSERIAL (↑wSegmentCyclic_5_f.seg * 64 + (wSegmentCyclic_5_f.ident - 1792)) ∧ wSegmentCyclic_4_s.m.obj F.nodeSERIAL (↑wSegmentCyclic_5_f.seg * 64 + (wSegmentCyclic_5_f.ident - 1792)) ≠ 0 ∧ beNat (List.take 4 (List.drop 8 wSegmentCyclic_5_f.data)) = wSegmentCyclic_4_s.m.obj F.nodeASSIGN_EPOCH (↑wSegmentCyclic_5_f.seg * 64 + (wSegmentCyclic_5_f.ident - 1792))))) ∧
    (((wSegmentCyclic_4_s.m.upTo wSegmentCyclic_1_t).blockOut (16 + ↑wSegmentCyclic_6_f.seg) = false) ∧ (wSegmentCyclic_4_s.m.segTimed (↑wSegmentCyclic_6_f.seg : Nat) = true) ∧ (wSegmentCyclic_4_s.m.obj F.segSTATE (↑wSegmentCyclic_6_f.seg : Nat) = 1 ∨ wSegmentCyclic_4_s.m.obj F.segSTATE (↑wSegmentCyclic_6_f.seg : Nat) = 2) ∧ (wSegmentCyclic_6_f.ok = true) ∧ (wSegmentCyclic_6_f.ext = false) ∧ (wSegmentCyclic_6_f.ident = 2016) ∧ (wSegmentCyclic_6_f.data.length = 24) ∧ ((wSegmentCyclic_4_s.m.sg ↑wSegmentCyclic_6_f.seg).found.contains (beNat (List.take 8 (List.drop 8 wSegmentCyclic_6_f.data))) = false)) :=
  ⟨by decide +kernel, by decide +kernel, by decide +kernel, by decide +kernel, by decide +kernel⟩

theorem witness_SegmentReceive :
    (((wSegmentReceive_1_s.m.upTo wSegmentReceive_1_t).blockOut (16 + ↑wSegmentReceive_1_f.seg) = false) ∧ (wSegmentReceive_1_s.m.obj F.segSTATE (↑wSegmentReceive_1_f.seg : Nat) = 1 ∨ wSegmentReceive_1_s.m.obj F.segSTATE (↑wSegmentReceive_1_f.seg : Nat) = 2) ∧ (wSegmentReceive_1_s.m.foreign wSegmentReceive_1_f = true) ∧ (wSegmentReceive_1_f.ok = true) ∧ (wSegmentReceive_1_s.m.hpMatch wSegmentReceive_1_f = some wSegmentReceive_1_n) ∧ (wSegmentReceive_1_s.m.obj F.mfCHANNEL wSegmentReceive_1_n < 64) ∧ (alook [] wSegmentReceive_1_s.m.hpBufs wSegmentReceive_1_n = []) ∧ (wSegmentReceive_1_s.m.sys.restarting = none)) ∧
    (Accepts filterLoadCard wSegmentReceive_1_msg wSegmentReceive_1_s wSegmentReceive_1_is) ∧
    ((wSegmentReceive_1_s.m.filterFault wSegmentReceive_1_s.ram ((cmdOf wSegmentReceive_1_msg wSegmentReceive_1_s wSegmentReceive_1_is).num 1) (progOf ((cmdOf wSegmentReceive_1_msg wSegmentReceive_1_s wSegmentReceive_1_is).bytes 2)) = none)) ∧
    (((wSegmentReceive_3_s.m.upTo wSegmentReceive_1_t).blockOut (16 + ↑wSegmentReceive_1_f.seg) = false) ∧ (wSegmentReceive_3_s.m.obj F.segSTATE (↑wSegmentReceive_1_f.seg : Nat) = 1 ∨ wSegmentReceive_3_s.m.obj F.segSTATE (↑wSegmentReceive_1_f.seg : Nat) = 2) ∧ (wSegmentReceive_3_s.m.foreign wSegmentReceive_1_f = true) ∧ (wSegmentReceive_1_f.ok = true) ∧ (wSegmentReceive_3_s.m.hpMatch wSegmentReceive_1_f = none) ∧ ((wSegmentReceive_3_s.m.sg ↑wSegmentReceive_1_f.seg).progAt < wSegmentReceive_1_f.sof) ∧ ((wSegmentReceive_3_s.m.sg ↑wSegmentReceive_1_f.seg).prog.head? = some (wSegmentReceive_1_w, wSegmentReceive_1_v, wSegmentReceive_1_x)) ∧ (field wSegmentReceive_1_w 31 27 = 3) ∧ (wSegmentReceive_3_s.m.route ↑wSegmentReceive_1_f.seg (field wSegmentReceive_1_w 22 12 % 8) < 64)) ∧
    ((List.find? (fun (b : Nat × Nat × List Item) => b.fst == ↑wSegmentReceive_1_route) (wSegmentReceive_3_s.m.sg ↑wSegmentReceive_1_f.seg).batches = some (↑wSegmentReceive_1_route, wSegmentReceive_1_ch, wSegmentReceive_1_its))) ∧
    (((wSegmentReceive_4_s.m.upTo wSegmentReceive_1_t).blockOut (16 + ↑wSegmentReceive_1_f.seg) = false) ∧ (wSegmentReceive_4_s.m.obj F.segSTATE (↑wSegmentReceive_1_f.seg : Nat) = 1 ∨ wSegmentReceive_4_s.m.obj F.segSTATE (↑wSegmentReceive_1_f.seg : Nat) = 2) ∧ (wSegmentReceive_4_s.m.foreign wSegmentReceive_1_f = true) ∧ (wSegmentReceive_1_f.ok = true) ∧ (wSegmentReceive_4_s.m.hpMatch wSegmentReceive_1_f = none) ∧ ((wSegmentReceive_4_s.m.sg ↑wSegmentReceive_1_f.seg).progAt < wSegmentReceive_1_f.sof) ∧ ((wSegmentReceive_4_s.m.sg ↑wSegmentReceive_1_f.seg).prog.head? = some (wSegmentReceive_1_w, wSegmentReceive_1_v, wSegmentReceive_1_x)) ∧ (field wSegmentReceive_1_w 31 27 = 3) ∧ (64 ≤ wSegmentReceive_4_s.m.route ↑wSegmentReceive_1_f.seg (field wSegmentReceive_1_w 22 12 % 8))) :=
  ⟨by decide +kernel, accepts_of (by decide +kernel), by decide +kernel, by decide +kernel, by decide +kernel, by decide +kernel⟩

theorem witness_SegmentHostFrames :
    (((wSegmentHostFrames_1_s.m.sg ↑wSegmentHostFrames_1_k).flying = none) ∧ (wSegmentHostFrames_1_s.m.txHead (↑wSegmentHostFrames_1_k : Nat) = some txf) ∧ ((wSegmentHostFrames_1_s.m.upTo wSegmentHostFrames_1_t).txReady ↑wSegmentHostFrames_1_k txf = true)) ∧
    (Accepts segTxCard wSegmentHostFrames_1_msg wSegmentHostFrames_1_s wSegmentHostFrames_1_is) ∧
    ((wSegmentHostFrames_1_s.m.obj F.segMODE ((cmdOf wSegmentHostFrames_1_msg wSegmentHostFrames_1_s wSegmentHostFrames_1_is).num 1) ≠ 0) ∧ (wSegmentHostFrames_1_s.m.obj F.segMODE ((cmdOf wSegmentHostFrames_1_msg wSegmentHostFrames_1_s wSegmentHostFrames_1_is).num 1) ≠ 5) ∧ (fmtSent (wSegmentHostFrames_1_s.m.obj F.segMODE ((cmdOf wSegmentHostFrames_1_msg wSegmentHostFrames_1_s wSegmentHostFrames_1_is).num 1)) ((cmdOf wSegmentHostFrames_1_msg wSegmentHostFrames_1_s wSegmentHostFrames_1_is).num 3) = true) ∧ (bit ((cmdOf wSegmentHostFrames_1_msg wSegmentHostFrames_1_s wSegmentHostFrames_1_is).num 2) 31 = true → wSegmentHostFrames_1_s.m.obj F.segMODE ((cmdOf wSegmentHostFrames_1_msg wSegmentHostFrames_1_s wSegmentHostFrames_1_is).num 1) = 4) ∧ (((cmdOf wSegmentHostFrames_1_msg wSegmentHostFrames_1_s wSegmentHostFrames_1_is).bytes 6).length ≤ wSegmentHostFrames_1_s.m.obj F.segAPER_MAX ((cmdOf wSegmentHostFrames_1_msg wSegmentHostFrames_1_s wSegmentHostFrames_1_is).num 1)) ∧ (((cmdOf wSegmentHostFrames_1_msg wSegmentHostFrames_1_s wSegmentHostFrames_1_is).bytes 6).length ≤ fmtMax ((cmdOf wSegmentHostFrames_1_msg wSegmentHostFrames_1_s wSegmentHostFrames_1_is).num 3)) ∧ (wSegmentHostFrames_1_s.m.obj F.segMODE ((cmdOf wSegmentHostFrames_1_msg wSegmentHostFrames_1_s wSegmentHostFrames_1_is).num 1) ≠ 4 → 256 ≤ (cmdOf wSegmentHostFrames_1_msg wSegmentHostFrames_1_s wSegmentHostFrames_1_is).num 2 % 2 ^ 29 ∧ (cmdOf wSegmentHostFrames_1_msg wSegmentHostFrames_1_s wSegmentHostFrames_1_is).num 2 % 2 ^ 29 ≤ 1791 ∧ ((nodesOf ((cmdOf wSegmentHostFrames_1_msg wSegmentHostFrames_1_s wSegmentHostFrames_1_is).num 1)).any fun (n : Nat) => wSegmentHostFrames_1_s.m.obj F.nodeEVT_BYTES n != 0 && wSegmentHostFrames_1_s.m.obj F.nodeEVT_ID n == (cmdOf wSegmentHostFrames_1_msg wSegmentHostFrames_1_s wSegmentHostFrames_1_is).num 2 % 2 ^ 29) = false) ∧ ((wSegmentHostFrames_1_s.m.sg ((cmdOf wSegmentHostFrames_1_msg wSegmentHostFrames_1_s wSegmentHostFrames_1_is).num 1)).tx.length < 32) ∧ ((cmdOf wSegmentHostFrames_1_msg wSegmentHostFrames_1_s wSegmentHostFrames_1_is).owner < 8 → (List.filter (fun (f : TxFrame) => f.owner == (cmdOf wSegmentHostFrames_1_msg wSegmentHostFrames_1_s wSegmentHostFrames_1_is).owner) (wSegmentHostFrames_1_s.m.sg ((cmdOf wSegmentHostFrames_1_msg wSegmentHostFrames_1_s wSegmentHostFrames_1_is).num 1)).tx).length < 8)) ∧
    (((wSegmentHostFrames_3_s.m.sg ↑wSegmentHostFrames_1_k).flying = some txf.handle) ∧ (List.find? (fun (x : TxFrame) => x.handle == txf.handle) (wSegmentHostFrames_3_s.m.sg ↑wSegmentHostFrames_1_k).tx = some txf)) ∧
    (((wSegmentHostFrames_3_s.m.sg ↑wSegmentHostFrames_1_k).flying = some txf.handle) ∧ (List.find? (fun (x : TxFrame) => x.handle == txf.handle) (wSegmentHostFrames_3_s.m.sg ↑wSegmentHostFrames_1_k).tx = some txf) ∧ (wSegmentHostFrames_3_s.m.obj F.segTX_RETRIES (↑wSegmentHostFrames_1_k : Nat) ≤ txf.retries)) ∧
    (((wSegmentHostFrames_4_s.m.sg ↑wSegmentHostFrames_1_k).flying = some txf.handle) ∧ (List.find? (fun (x : TxFrame) => x.handle == txf.handle) (wSegmentHostFrames_4_s.m.sg ↑wSegmentHostFrames_1_k).tx = some txf) ∧ (txf.retries < wSegmentHostFrames_4_s.m.obj F.segTX_RETRIES ↑wSegmentHostFrames_1_k)) ∧
    (Accepts segTxCancelCard wSegmentHostFrames_5_msg wSegmentHostFrames_5_s wSegmentHostFrames_5_is) ∧
    ((((wSegmentHostFrames_5_s.m.sg ((cmdOf wSegmentHostFrames_5_msg wSegmentHostFrames_5_s wSegmentHostFrames_5_is).num 1)).issued.any fun (e : Nat × Nat) => e.fst == (cmdOf wSegmentHostFrames_5_msg wSegmentHostFrames_5_s wSegmentHostFrames_5_is).num 2 && e.snd == wSegmentHostFrames_5_msg.queue) = true) ∧ ((wSegmentHostFrames_5_s.m.sg ((cmdOf wSegmentHostFrames_5_msg wSegmentHostFrames_5_s wSegmentHostFrames_5_is).num 1)).flying ≠ some ((cmdOf wSegmentHostFrames_5_msg wSegmentHostFrames_5_s wSegmentHostFrames_5_is).num 2)) ∧ (((wSegmentHostFrames_5_s.m.sg ((cmdOf wSegmentHostFrames_5_msg wSegmentHostFrames_5_s wSegmentHostFrames_5_is).num 1)).tx.any fun (f : TxFrame) => f.handle == (cmdOf wSegmentHostFrames_5_msg wSegmentHostFrames_5_s wSegmentHostFrames_5_is).num 2) = true)) :=
  ⟨by decide +kernel, accepts_of (by decide +kernel), by decide +kernel, by decide +kernel, by decide +kernel, by decide +kernel,
   accepts_of (by decide +kernel), by decide +kernel⟩

theorem witness_SegmentBus :
    ((wSegmentBus_1_s.m.obj F.segSTATE (↑wSegmentBus_1_k : Nat) = 2)) ∧ ((wSegmentBus_1_s.m.obj F.segMODE (↑wSegmentBus_1_k : Nat) ≠ 0)) ∧
    (((wSegmentBus_1_s.m.sg ↑wSegmentBus_1_k).loadAt + 10 ^ 9 ≤ wSegmentBus_1_s.at_ wSegmentBus_1_t)) ∧
    ((wSegmentBus_2_s.m.obj F.segSTATE (↑wSegmentBus_1_k : Nat) = 3)) ∧
    ((wSegmentBus_3_s.m.obj F.segMODE (↑wSegmentBus_1_k : Nat) ≠ 0) ∧ (wSegmentBus_3_s.m.obj F.segSTATE (↑wSegmentBus_1_k : Nat) = 4)) ∧
    (Accepts segListenCard wSegmentBus_1_msg wSegmentBus_4_s wSegmentBus_1_is) ∧
    ((wSegmentBus_4_s.m.obj F.segMODE ((cmdOf wSegmentBus_1_msg wSegmentBus_4_s wSegmentBus_1_is).num 1) = 0 ∨ wSegmentBus_4_s.m.obj F.segMODE ((cmdOf wSegmentBus_1_msg wSegmentBus_4_s wSegmentBus_1_is).num 1) = 5) ∧ ((wSegmentBus_4_s.m.sg ((cmdOf wSegmentBus_1_msg wSegmentBus_4_s wSegmentBus_1_is).num 1)).listen = none)) ∧
    (((wSegmentBus_5_s.m.sg ↑wSegmentBus_1_k).listen = some (wSegmentBus_1_q, wSegmentBus_1_sq, wSegmentBus_1_st))) :=
  ⟨by decide +kernel, by decide +kernel, by decide +kernel, by decide +kernel, by decide +kernel, accepts_of (by decide +kernel), by decide +kernel,
   by decide +kernel⟩

theorem witness_LoadProtection :
    (((wLoadProtection_1_s.m.lc ↑wLoadProtection_1_n).on = true) ∧ ((wLoadProtection_1_s.m.lc ↑wLoadProtection_1_n).tripAt ≠ some (wLoadProtection_1_s.at_ wLoadProtection_1_t)) ∧ (wLoadProtection_1_s.m.lcCause ↑wLoadProtection_1_n 0 = false)) ∧
    (((wLoadProtection_1_s.m.lc ↑wLoadProtection_1_n).on = true) ∧ ((wLoadProtection_1_s.m.lc ↑wLoadProtection_1_n).tripAt ≠ some (wLoadProtection_1_s.at_ wLoadProtection_1_t)) ∧ (wLoadProtection_1_s.m.lcCause ↑wLoadProtection_1_n 1 = false)) ∧
    (((wLoadProtection_1_s.m.lc ↑wLoadProtection_1_n).on = true) ∧ ((wLoadProtection_1_s.m.lc ↑wLoadProtection_1_n).segs[(wLoadProtection_1_s.m.lc ↑wLoadProtection_1_n).seg]? = some wLoadProtection_1_g) ∧ ((wLoadProtection_1_s.m.lc ↑wLoadProtection_1_n).onAt + wLoadProtection_1_g.fst * 1000 ≤ wLoadProtection_1_s.at_ wLoadProtection_1_t)) ∧
    (((wLoadProtection_1_s.m.ctl (railOf ↑wLoadProtection_1_n)).powered = true)) ∧
    (((wLoadProtection_2_s.m.lc ↑wLoadProtection_1_n).on = true) ∧ ((wLoadProtection_2_s.m.lc ↑wLoadProtection_1_n).tripAt ≠ some (wLoadProtection_2_s.at_ wLoadProtection_1_t)) ∧ (wLoadProtection_2_s.m.lcCause ↑wLoadProtection_1_n 2 = false) ∧ ((wLoadProtection_2_s.m.lc ↑wLoadProtection_1_n).segs.length ≤ (wLoadProtection_2_s.m.lc ↑wLoadProtection_1_n).seg) ∧ ((wLoadProtection_2_s.m.lc ↑wLoadProtection_1_n).onAt + wLoadProtection_2_s.m.obj F.lcLIM_TIME_MS ↑wLoadProtection_1_n * 10 ^ 6 ≤ wLoadProtection_2_s.at_ wLoadProtection_1_t)) ∧
    (((wLoadProtection_3_s.m.lc ↑wLoadProtection_1_n).tripAt = some wLoadProtection_3_a) ∧ (wLoadProtection_3_a + 100 * 10 ^ 6 ≤ wLoadProtection_3_s.at_ wLoadProtection_1_t)) ∧
    (((wLoadProtection_3_s.m.lc ↑wLoadProtection_1_n).on = false) ∧ (wLoadProtection_3_s.m.obj F.lcOL_DETECT (↑wLoadProtection_1_n : Nat) ≠ 0) ∧ ((wLoadProtection_3_s.m.ctl (railOf ↑wLoadProtection_1_n)).powered = true) ∧ ((wLoadProtection_3_s.m.lc ↑wLoadProtection_1_n).diag ≠ ↑wLoadProtection_3_r)) :=
  ⟨by decide +kernel, by decide +kernel, by decide +kernel, by decide +kernel, by decide +kernel, by decide +kernel, by decide +kernel⟩

theorem witness_LoadRails_1 :
    ((railOf (↑wLoadRails_1_j : Nat) = ↑wLoadRails_1_k) ∧ ((wLoadRails_1_s.m.ctl ↑wLoadRails_1_k).uv = false)) ∧
    ((railOf (↑wLoadRails_1_j : Nat) = ↑wLoadRails_1_k) ∧ ((wLoadRails_1_s.m.ctl ↑wLoadRails_1_k).powered = true)) ∧
    ((railOf (↑wLoadRails_1_j : Nat) = ↑wLoadRails_1_k) ∧ ((wLoadRails_1_s.m.lc ↑wLoadRails_1_j).limp = 0)) ∧
    ((railOf (↑wLoadRails_1_j : Nat) = ↑wLoadRails_1_k) ∧ (wLoadRails_1_s.m.mapped (↑wLoadRails_1_j : Nat) = true) ∧ ((wLoadRails_1_s.m.ctl ↑wLoadRails_1_k).powered = true) ∧ ((wLoadRails_1_s.m.ctl ↑wLoadRails_1_k).map[0]?.getD 0 % 2 = 1)) ∧
    ((railOf (↑wLoadRails_1_j : Nat) = ↑wLoadRails_1_k) ∧ (wLoadRails_1_s.m.mapped (↑wLoadRails_1_j : Nat) = true) ∧ ((wLoadRails_1_s.m.ctl ↑wLoadRails_1_k).powered = true)) ∧
    ((railOf (↑wLoadRails_1_j : Nat) = ↑wLoadRails_1_k) ∧ ((wLoadRails_2_s.m.ctl ↑wLoadRails_1_k).uv = true)) :=
  ⟨by decide +kernel, by decide +kernel, by decide +kernel, by decide +kernel, by decide +kernel, by decide +kernel⟩

theorem witness_LoadRails_2 :
    (((wLoadRails_2_s.m.ctl ↑wLoadRails_1_k).alive ≠ 0)) ∧
    (((wLoadRails_3_s.m.lc ↑wLoadRails_1_j).limp ≠ 0) ∧ ((wLoadRails_3_s.m.lc ↑wLoadRails_1_j).isl = false) ∧ (wLoadRails_3_s.m.limpValue (↑wLoadRails_1_j : Nat) = true) ∧ ((wLoadRails_3_s.m.upTo wLoadRails_1_t).lcHeld (↑wLoadRails_1_j : Nat) = false) ∧ ((wLoadRails_3_s.m.lc ↑wLoadRails_1_j).on = false)) ∧
    ((railOf (↑wLoadRails_1_j : Nat) = ↑wLoadRails_1_k) ∧ ((wLoadRails_3_s.m.ctl ↑wLoadRails_1_k).alive = 0) ∧ ((wLoadRails_3_s.m.lc ↑wLoadRails_1_j).limp = 1)) ∧
    (((wLoadRails_4_s.m.ctl ↑wLoadRails_1_k).powered = false)) ∧
    ((railOf (↑wLoadRails_1_j : Nat) = ↑wLoadRails_1_k) ∧ (wLoadRails_5_s.m.mapped (↑wLoadRails_1_j : Nat) = true) ∧ ((wLoadRails_5_s.m.ctl ↑wLoadRails_1_k).powered = true) ∧ ((wLoadRails_5_s.m.ctl ↑wLoadRails_1_k).map[0]?.getD 0 % 2 = 0) ∧ (wLoadRails_5_s.m.limpForce = false)) :=
  ⟨by decide +kernel, by decide +kernel, by decide +kernel, by decide +kernel, by decide +kernel⟩

theorem witness_LoadCommands_1 :
    (Accepts lcUnlockCard wLoadCommands_1_msg wLoadCommands_1_s wLoadCommands_1_is) ∧
    ((isSys (cmdOf wLoadCommands_1_msg wLoadCommands_1_s wLoadCommands_1_is).owner = true ∨ wLoadCommands_1_s.m.lcOwner wLoadCommands_1_s.ram ((cmdOf wLoadCommands_1_msg wLoadCommands_1_s wLoadCommands_1_is).num 1) = some (cmdOf wLoadCommands_1_msg wLoadCommands_1_s wLoadCommands_1_is).owner) ∧ (wLoadCommands_1_s.m.lcCause ((cmdOf wLoadCommands_1_msg wLoadCommands_1_s wLoadCommands_1_is).num 1) 4 = true) ∧ ((wLoadCommands_1_s.m.upTo wLoadCommands_1_msg.t).bucketUsed ((cmdOf wLoadCommands_1_msg wLoadCommands_1_s wLoadCommands_1_is).num 1) = 0)) ∧
    (Accepts lcClearLatchCard wLoadCommands_2_msg wLoadCommands_2_s wLoadCommands_1_is) ∧
    ((isSys (cmdOf wLoadCommands_2_msg wLoadCommands_2_s wLoadCommands_1_is).owner = true ∨ wLoadCommands_2_s.m.lcOwner wLoadCommands_2_s.ram ((cmdOf wLoadCommands_2_msg wLoadCommands_2_s wLoadCommands_1_is).num 1) = some (cmdOf wLoadCommands_2_msg wLoadCommands_2_s wLoadCommands_1_is).owner) ∧ (wLoadCommands_2_s.m.lcCause ((cmdOf wLoadCommands_2_msg wLoadCommands_2_s wLoadCommands_1_is).num 1) 5 = true) ∧ (wLoadCommands_2_s.m.lcHot ((cmdOf wLoadCommands_2_msg wLoadCommands_2_s wLoadCommands_1_is).num 1) = false)) ∧
    (Accepts limpMapWriteCard wLoadCommands_3_msg wLoadCommands_3_s wLoadCommands_3_is) :=
  ⟨accepts_of (by decide +kernel), by decide +kernel, accepts_of (by decide +kernel), by decide +kernel, accepts_of (by decide +kernel)⟩

theorem witness_LoadCommands_2 :
    (((wLoadCommands_3_s.m.ctl 0).powered = true) ∧ ((wLoadCommands_3_s.m.ctl 1).powered = true) ∧ (∀ (j : Nat), j < 32 → bit (((cmdOf wLoadCommands_3_msg wLoadCommands_3_s wLoadCommands_3_is).bytes 1 ++ (cmdOf wLoadCommands_3_msg wLoadCommands_3_s wLoadCommands_3_is).bytes 2)[j + 1]?.getD 0) 7 = true → gatedOf wLoadCommands_3_s.m.isl.set j = false ∧ ∀ (y : Table Nat), wLoadCommands_3_s.m.isl.staged = some y → gatedOf y j = false)) ∧
    (Accepts loTrimCard wLoadCommands_4_msg wLoadCommands_4_s wLoadCommands_4_is) ∧
    ((isSys (cmdOf wLoadCommands_4_msg wLoadCommands_4_s wLoadCommands_4_is).owner = true ∨ wLoadCommands_4_s.m.loOwner wLoadCommands_4_s.ram ((cmdOf wLoadCommands_4_msg wLoadCommands_4_s wLoadCommands_4_is).num 1) = some (cmdOf wLoadCommands_4_msg wLoadCommands_4_s wLoadCommands_4_is).owner) ∧ ((if (cmdOf wLoadCommands_4_msg wLoadCommands_4_s wLoadCommands_4_is).has 2 = true then sint 16 ((cmdOf wLoadCommands_4_msg wLoadCommands_4_s wLoadCommands_4_is).num 2) else sint 16 (wLoadCommands_4_s.m.obj F.loZERO_TRIM ((cmdOf wLoadCommands_4_msg wLoadCommands_4_s wLoadCommands_4_is).num 1))).natAbs ≤ 4000) ∧ ((if (cmdOf wLoadCommands_4_msg wLoadCommands_4_s wLoadCommands_4_is).has 3 = true then sint 32 ((cmdOf wLoadCommands_4_msg wLoadCommands_4_s wLoadCommands_4_is).num 3) else sint 32 (wLoadCommands_4_s.m.obj F.loSPAN_TRIM ((cmdOf wLoadCommands_4_msg wLoadCommands_4_s wLoadCommands_4_is).num 1))).natAbs ≤ 20000)) ∧
    ((wLoadCommands_4_s.m.loDriving (↑wLoadCommands_1_k : Nat) = true) ∧ ((wLoadCommands_4_s.m.lo ↑wLoadCommands_1_k).brk = false) ∧ ((wLoadCommands_4_s.m.upTo wLoadCommands_1_t).calUncertain 1 (↑wLoadCommands_1_k : Nat) = false)) :=
  ⟨by decide +kernel, accepts_of (by decide +kernel), by decide +kernel, by decide +kernel⟩

theorem witness_PortCounting_1 :
    ((wPortCounting_1_s.m.epLive (↑wPortCounting_1_n : Nat) = true) ∧ (wPortCounting_1_s.m.obj F.epMODE (↑wPortCounting_1_n : Nat) = 1) ∧ (true ≠ (wPortCounting_1_s.m.ep ↑wPortCounting_1_n).a) ∧ (wPortCounting_1_s.m.obj F.epMULT (↑wPortCounting_1_n : Nat) ≠ 0 ∨ true = true)) ∧
    ((wPortCounting_1_s.m.epLive (↑wPortCounting_1_n : Nat) = true) ∧ (wPortCounting_1_s.m.obj F.epMODE (↑wPortCounting_1_n : Nat) = 1) ∧ (true ≠ (wPortCounting_1_s.m.ep ↑wPortCounting_1_n).b) ∧ (wPortCounting_1_s.m.obj F.epMULT (↑wPortCounting_1_n : Nat) = 2)) ∧
    ((wPortCounting_1_s.m.epLive (↑wPortCounting_1_n : Nat) = true) ∧ (wPortCounting_1_s.m.obj F.epMODE (↑wPortCounting_1_n : Nat) = 1)) ∧
    ((wPortCounting_1_s.m.epLive (↑wPortCounting_1_n : Nat) = true) ∧ (wPortCounting_1_s.m.obj F.epMODE (↑wPortCounting_1_n : Nat) = 1) ∧ ((wPortCounting_1_s.m.ep ↑wPortCounting_1_n).z = false) ∧ ((wPortCounting_1_s.m.ep ↑wPortCounting_1_n).preset = none)) ∧
    ((wPortCounting_3_s.m.epLive (↑wPortCounting_1_n : Nat) = true) ∧ (wPortCounting_3_s.m.obj F.epMODE (↑wPortCounting_1_n : Nat) = 1) ∧ ((wPortCounting_3_s.m.ep ↑wPortCounting_1_n).z = false) ∧ ((wPortCounting_3_s.m.ep ↑wPortCounting_1_n).preset = some (1, wPortCounting_3_v, wPortCounting_3_q, wPortCounting_3_sq))) ∧
    (((wPortCounting_3_s.m.ep ↑wPortCounting_1_n).edgeAt = some wPortCounting_3_a) ∧ (wPortCounting_3_a + wPortCounting_3_s.m.obj F.epZERO_TIMEOUT_MS ↑wPortCounting_1_n * 10 ^ 6 ≤ wPortCounting_3_s.at_ wPortCounting_3_t)) ∧
    ((wPortCounting_4_s.m.epLive (↑wPortCounting_1_n : Nat) = true) ∧ (wPortCounting_4_s.m.obj F.epMODE (↑wPortCounting_1_n : Nat) = 3) ∧ ((wPortCounting_4_s.m.ep ↑wPortCounting_1_n).a = false) ∧ ((wPortCounting_4_s.m.ep ↑wPortCounting_1_n).bAt + 25 ≤ wPortCounting_4_s.at_ wPortCounting_3_t)) ∧
    ((wPortCounting_5_s.m.epLive (↑wPortCounting_1_n : Nat) = true) ∧ (wPortCounting_5_s.m.obj F.epMODE (↑wPortCounting_1_n : Nat) = 4) ∧ ((wPortCounting_5_s.m.ep ↑wPortCounting_1_n).a = false)) :=
  ⟨by decide +kernel, by decide +kernel, by decide +kernel, by decide +kernel, by decide +kernel, by decide +kernel, by decide +kernel,
   by decide +kernel⟩

theorem witness_PortCounting_2 :
    ((wPortCounting_5_s.m.epLive (↑wPortCounting_1_n : Nat) = true) ∧ (wPortCounting_5_s.m.obj F.epMODE (↑wPortCounting_1_n : Nat) = 4) ∧ ((wPortCounting_5_s.m.ep ↑wPortCounting_1_n).b = false)) ∧
    ((wPortCounting_6_s.m.epLive (↑wPortCounting_1_n : Nat) = true) ∧ (wPortCounting_6_s.m.obj F.epMODE (↑wPortCounting_1_n : Nat) = 2) ∧ ((↑wPortCounting_1_code : Nat) ≠ (wPortCounting_6_s.m.ep ↑wPortCounting_1_n).hall) ∧ (hallPlace (wPortCounting_6_s.m.ep ↑wPortCounting_1_n).hallValid = some wPortCounting_1_i) ∧ (hallPlace (↑wPortCounting_1_code : Nat) = some ((wPortCounting_1_i + 1) % 6))) ∧
    ((wPortCounting_6_s.m.epLive (↑wPortCounting_1_n : Nat) = true) ∧ (wPortCounting_6_s.m.obj F.epMODE (↑wPortCounting_1_n : Nat) = 2) ∧ ((↑wPortCounting_7_code : Nat) ≠ (wPortCounting_6_s.m.ep ↑wPortCounting_1_n).hall) ∧ (hallPlace (wPortCounting_6_s.m.ep ↑wPortCounting_1_n).hallValid = some wPortCounting_1_i) ∧ (hallPlace (↑wPortCounting_7_code : Nat) = some wPortCounting_1_j) ∧ (wPortCounting_1_i = (wPortCounting_1_j + 1) % 6)) ∧
    ((wPortCounting_6_s.m.epLive (↑wPortCounting_1_n : Nat) = true) ∧ (wPortCounting_6_s.m.obj F.epMODE (↑wPortCounting_1_n : Nat) = 2) ∧ ((↑wPortCounting_8_code : Nat) ≠ (wPortCounting_6_s.m.ep ↑wPortCounting_1_n).hall) ∧ (hallPlace (wPortCounting_6_s.m.ep ↑wPortCounting_1_n).hallValid = some wPortCounting_1_i) ∧ (hallPlace (↑wPortCounting_8_code : Nat) = none)) ∧
    ((wPortCounting_10_s.m.epLive (↑wPortCounting_1_n : Nat) = true) ∧ ((wPortCounting_10_s.m.upTo wPortCounting_3_t).fenceDue ↑wPortCounting_1_n (↑wPortCounting_10_cause + 1) = true)) ∧
    ((wPortCounting_13_s.m.epLive (↑wPortCounting_1_n : Nat) = true) ∧ (5 ≤ wPortCounting_13_s.m.obj F.epMODE ↑wPortCounting_1_n) ∧ (wPortCounting_13_s.m.absPos ↑wPortCounting_1_n wPortCounting_1_r = some (wPortCounting_1_y, false)) ∧ ((wPortCounting_13_s.m.ep ↑wPortCounting_1_n).reading = none)) ∧
    ((wPortCounting_14_s.m.epLive (↑wPortCounting_1_n : Nat) = true) ∧ (5 ≤ wPortCounting_14_s.m.obj F.epMODE ↑wPortCounting_1_n) ∧ (wPortCounting_14_s.m.absPos ↑wPortCounting_1_n wPortCounting_1_r = some (wPortCounting_1_y, false)) ∧ ((wPortCounting_14_s.m.ep ↑wPortCounting_1_n).reading = some wPortCounting_13_p) ∧ ((sint (wPortCounting_14_s.m.obj F.epPOS_WIDTH ↑wPortCounting_1_n) ((wPortCounting_1_y + 2 ^ wPortCounting_14_s.m.obj F.epPOS_WIDTH ↑wPortCounting_1_n - wPortCounting_13_p % 2 ^ wPortCounting_14_s.m.obj F.epPOS_WIDTH ↑wPortCounting_1_n) % 2 ^ wPortCounting_14_s.m.obj F.epPOS_WIDTH ↑wPortCounting_1_n)).natAbs ≤ if wPortCounting_14_s.m.obj F.epJUMP_MAX (↑wPortCounting_1_n : Nat) = 0 then 2 ^ wPortCounting_14_s.m.obj F.epPOS_WIDTH ↑wPortCounting_1_n / 4 else wPortCounting_14_s.m.obj F.epJUMP_MAX ↑wPortCounting_1_n)) ∧
    ((wPortCounting_15_s.m.epLive (↑wPortCounting_1_n : Nat) = true) ∧ (5 ≤ wPortCounting_15_s.m.obj F.epMODE ↑wPortCounting_1_n) ∧ (wPortCounting_15_s.m.absPos ↑wPortCounting_1_n wPortCounting_1_r = some (wPortCounting_1_y, false)) ∧ ((wPortCounting_15_s.m.ep ↑wPortCounting_1_n).reading = some wPortCounting_13_p) ∧ ((if wPortCounting_15_s.m.obj F.epJUMP_MAX (↑wPortCounting_1_n : Nat) = 0 then 2 ^ wPortCounting_15_s.m.obj F.epPOS_WIDTH ↑wPortCounting_1_n / 4 else wPortCounting_15_s.m.obj F.epJUMP_MAX ↑wPortCounting_1_n) < (sint (wPortCounting_15_s.m.obj F.epPOS_WIDTH ↑wPortCounting_1_n) ((wPortCounting_1_y + 2 ^ wPortCounting_15_s.m.obj F.epPOS_WIDTH ↑wPortCounting_1_n - wPortCounting_13_p % 2 ^ wPortCounting_15_s.m.obj F.epPOS_WIDTH ↑wPortCounting_1_n) % 2 ^ wPortCounting_15_s.m.obj F.epPOS_WIDTH ↑wPortCounting_1_n)).natAbs)) :=
  ⟨by decide +kernel, by decide +kernel, by decide +kernel, by decide +kernel, by decide +kernel, by decide +kernel, by decide +kernel,
   by decide +kernel⟩

theorem witness_PortUnits_1 :
    ((true ≠ (wPortUnits_1_s.m.pr ↑wPortUnits_1_k).level) ∧ (field (wPortUnits_1_s.m.pr ↑wPortUnits_1_k).ctrl 2 1 = 2 ∨ field (wPortUnits_1_s.m.pr ↑wPortUnits_1_k).ctrl 2 1 = 0 ∧ true = true ∨ field (wPortUnits_1_s.m.pr ↑wPortUnits_1_k).ctrl 2 1 = 1 ∧ true = false) ∧ ((wPortUnits_1_s.m.pr ↑wPortUnits_1_k).armed = true) ∧ ((wPortUnits_1_s.m.upTo wPortUnits_1_t).sourceCount (wPortUnits_1_s.m.obj F.prSOURCE ↑wPortUnits_1_k) = some wPortUnits_1_c)) ∧
    (Accepts epSetPositionCard wPortUnits_1_msg wPortUnits_1_s wPortUnits_1_is) ∧
    ((isSys (cmdOf wPortUnits_1_msg wPortUnits_1_s wPortUnits_1_is).owner = true ∨ wPortUnits_1_s.m.epOwner wPortUnits_1_s.ram ((cmdOf wPortUnits_1_msg wPortUnits_1_s wPortUnits_1_is).num 1) = some (cmdOf wPortUnits_1_msg wPortUnits_1_s wPortUnits_1_is).owner) ∧ (wPortUnits_1_s.m.obj F.epSTATE ((cmdOf wPortUnits_1_msg wPortUnits_1_s wPortUnits_1_is).num 1) ≠ 2) ∧ (wPortUnits_1_s.m.obj F.epMODE ((cmdOf wPortUnits_1_msg wPortUnits_1_s wPortUnits_1_is).num 1) ≠ 0) ∧ ((cmdOf wPortUnits_1_msg wPortUnits_1_s wPortUnits_1_is).num 2 < wPortUnits_1_s.m.cpr ((cmdOf wPortUnits_1_msg wPortUnits_1_s wPortUnits_1_is).num 1)) ∧ ((cmdOf wPortUnits_1_msg wPortUnits_1_s wPortUnits_1_is).num 4 = 0)) ∧
    ((false ≠ (wPortUnits_2_s.m.pr ↑wPortUnits_1_k).level) ∧ (field (wPortUnits_2_s.m.pr ↑wPortUnits_1_k).ctrl 2 1 = 2 ∨ field (wPortUnits_2_s.m.pr ↑wPortUnits_1_k).ctrl 2 1 = 0 ∧ false = true ∨ field (wPortUnits_2_s.m.pr ↑wPortUnits_1_k).ctrl 2 1 = 1 ∧ false = false) ∧ ((wPortUnits_2_s.m.pr ↑wPortUnits_1_k).armed = true) ∧ ((wPortUnits_2_s.m.upTo wPortUnits_1_t).sourceCount (wPortUnits_2_s.m.obj F.prSOURCE ↑wPortUnits_1_k) = none)) ∧
    (((wPortUnits_3_s.m.upTo wPortUnits_1_t).sourceCount (wPortUnits_3_s.m.obj F.emSOURCE ↑wPortUnits_3_k) = some wPortUnits_1_c) ∧ ((wPortUnits_3_s.m.em ↑wPortUnits_3_k).lost = false) ∧ (wPortUnits_3_s.m.emTarget ↑wPortUnits_3_k wPortUnits_1_c - (wPortUnits_3_s.m.em ↑wPortUnits_3_k).e ≠ 0) ∧ ((wPortUnits_3_s.m.emTarget ↑wPortUnits_3_k wPortUnits_1_c - (wPortUnits_3_s.m.em ↑wPortUnits_3_k).e).natAbs ≤ 4 * wPortUnits_3_s.m.obj F.emLINES ↑wPortUnits_3_k) ∧ (Option.any (fun (a : Nat) => decide (wPortUnits_3_s.at_ wPortUnits_1_t < a + 200)) (wPortUnits_3_s.m.em ↑wPortUnits_3_k).edgeAt = false)) ∧
    (Accepts epSetPositionCard wPortUnits_4_msg wPortUnits_4_s wPortUnits_4_is) ∧
    ((isSys (cmdOf wPortUnits_4_msg wPortUnits_4_s wPortUnits_4_is).owner = true ∨ wPortUnits_4_s.m.epOwner wPortUnits_4_s.ram ((cmdOf wPortUnits_4_msg wPortUnits_4_s wPortUnits_4_is).num 1) = some (cmdOf wPortUnits_4_msg wPortUnits_4_s wPortUnits_4_is).owner) ∧ (wPortUnits_4_s.m.obj F.epSTATE ((cmdOf wPortUnits_4_msg wPortUnits_4_s wPortUnits_4_is).num 1) ≠ 2) ∧ (wPortUnits_4_s.m.obj F.epMODE ((cmdOf wPortUnits_4_msg wPortUnits_4_s wPortUnits_4_is).num 1) ≠ 0) ∧ ((cmdOf wPortUnits_4_msg wPortUnits_4_s wPortUnits_4_is).num 2 < wPortUnits_4_s.m.cpr ((cmdOf wPortUnits_4_msg wPortUnits_4_s wPortUnits_4_is).num 1)) ∧ ((cmdOf wPortUnits_4_msg wPortUnits_4_s wPortUnits_4_is).num 4 = 1) ∧ (wPortUnits_4_s.m.obj F.epMODE ((cmdOf wPortUnits_4_msg wPortUnits_4_s wPortUnits_4_is).num 1) = 1)) ∧
    (Accepts epSetPositionCard wPortUnits_5_msg wPortUnits_4_s wPortUnits_5_is) :=
  ⟨by decide +kernel, accepts_of (by decide +kernel), by decide +kernel, by decide +kernel, by decide +kernel, accepts_of (by decide +kernel),
   by decide +kernel, accepts_of (by decide +kernel)⟩

theorem witness_PortUnits_2 :
    ((isSys (cmdOf wPortUnits_5_msg wPortUnits_4_s wPortUnits_5_is).owner = true ∨ wPortUnits_4_s.m.epOwner wPortUnits_4_s.ram ((cmdOf wPortUnits_5_msg wPortUnits_4_s wPortUnits_5_is).num 1) = some (cmdOf wPortUnits_5_msg wPortUnits_4_s wPortUnits_5_is).owner) ∧ (wPortUnits_4_s.m.obj F.epSTATE ((cmdOf wPortUnits_5_msg wPortUnits_4_s wPortUnits_5_is).num 1) ≠ 2) ∧ (wPortUnits_4_s.m.obj F.epMODE ((cmdOf wPortUnits_5_msg wPortUnits_4_s wPortUnits_5_is).num 1) ≠ 0) ∧ ((cmdOf wPortUnits_5_msg wPortUnits_4_s wPortUnits_5_is).num 2 < wPortUnits_4_s.m.cpr ((cmdOf wPortUnits_5_msg wPortUnits_4_s wPortUnits_5_is).num 1)) ∧ ((cmdOf wPortUnits_5_msg wPortUnits_4_s wPortUnits_5_is).num 4 = 2) ∧ ((wPortUnits_4_s.m.epOwner wPortUnits_4_s.ram ((cmdOf wPortUnits_5_msg wPortUnits_4_s wPortUnits_5_is).num 1)).isSome = true)) ∧
    (Accepts epSetPositionCard wPortUnits_5_msg wPortUnits_6_s wPortUnits_5_is) ∧
    ((isSys (cmdOf wPortUnits_5_msg wPortUnits_6_s wPortUnits_5_is).owner = true ∨ wPortUnits_6_s.m.epOwner wPortUnits_6_s.ram ((cmdOf wPortUnits_5_msg wPortUnits_6_s wPortUnits_5_is).num 1) = some (cmdOf wPortUnits_5_msg wPortUnits_6_s wPortUnits_5_is).owner) ∧ (wPortUnits_6_s.m.obj F.epSTATE ((cmdOf wPortUnits_5_msg wPortUnits_6_s wPortUnits_5_is).num 1) = 2)) ∧
    (Accepts epUnfenceCard wPortUnits_7_msg wPortUnits_6_s wPortUnits_7_is) ∧
    ((isSys (cmdOf wPortUnits_7_msg wPortUnits_6_s wPortUnits_7_is).owner = true ∨ wPortUnits_6_s.m.epOwner wPortUnits_6_s.ram ((cmdOf wPortUnits_7_msg wPortUnits_6_s wPortUnits_7_is).num 1) = some (cmdOf wPortUnits_7_msg wPortUnits_6_s wPortUnits_7_is).owner) ∧ (wPortUnits_6_s.m.obj F.epSTATE ((cmdOf wPortUnits_7_msg wPortUnits_6_s wPortUnits_7_is).num 1) = 2) ∧ (¬(wPortUnits_6_s.m.obj F.epFENCE_CAUSE ((cmdOf wPortUnits_7_msg wPortUnits_6_s wPortUnits_7_is).num 1) = 4 ∧ hallPlace (wPortUnits_6_s.m.ep ((cmdOf wPortUnits_7_msg wPortUnits_6_s wPortUnits_7_is).num 1)).hall = none ∨ wPortUnits_6_s.m.obj F.epFENCE_CAUSE ((cmdOf wPortUnits_7_msg wPortUnits_6_s wPortUnits_7_is).num 1) ≠ 3 ∧ wPortUnits_6_s.m.obj F.epFENCE_CAUSE ((cmdOf wPortUnits_7_msg wPortUnits_6_s wPortUnits_7_is).num 1) ≠ 4 ∧ true = true))) ∧
    (Accepts epUnfenceCard wPortUnits_7_msg wPortUnits_8_s wPortUnits_7_is) ∧
    ((isSys (cmdOf wPortUnits_7_msg wPortUnits_8_s wPortUnits_7_is).owner = true ∨ wPortUnits_8_s.m.epOwner wPortUnits_8_s.ram ((cmdOf wPortUnits_7_msg wPortUnits_8_s wPortUnits_7_is).num 1) = some (cmdOf wPortUnits_7_msg wPortUnits_8_s wPortUnits_7_is).owner) ∧ (wPortUnits_8_s.m.obj F.epSTATE ((cmdOf wPortUnits_7_msg wPortUnits_8_s wPortUnits_7_is).num 1) = 2) ∧ (wPortUnits_8_s.m.obj F.epFENCE_CAUSE ((cmdOf wPortUnits_7_msg wPortUnits_8_s wPortUnits_7_is).num 1) = 4 ∧ hallPlace (wPortUnits_8_s.m.ep ((cmdOf wPortUnits_7_msg wPortUnits_8_s wPortUnits_7_is).num 1)).hall = none ∨ wPortUnits_8_s.m.obj F.epFENCE_CAUSE ((cmdOf wPortUnits_7_msg wPortUnits_8_s wPortUnits_7_is).num 1) ≠ 3 ∧ wPortUnits_8_s.m.obj F.epFENCE_CAUSE ((cmdOf wPortUnits_7_msg wPortUnits_8_s wPortUnits_7_is).num 1) ≠ 4 ∧ true = true)) :=
  ⟨by decide +kernel, accepts_of (by decide +kernel), by decide +kernel, accepts_of (by decide +kernel), by decide +kernel,
   accepts_of (by decide +kernel), by decide +kernel⟩

theorem witness_AxisEvents_1 :
    ((wAxisEvents_1_s.m.groupOf (↑wAxisEvents_1_n : Nat) = none) ∧ ((wAxisEvents_1_s.m.ax ↑wAxisEvents_1_n).plan ≠ []) ∧ (((wAxisEvents_1_s.m.upTo wAxisEvents_1_t).planNow ↑wAxisEvents_1_n).snd.snd.snd.fst = true)) ∧
    ((wAxisEvents_1_s.m.groupOf (↑wAxisEvents_1_n : Nat) = none)) ∧
    ((wAxisEvents_1_s.m.groupOf (↑wAxisEvents_1_n : Nat) = none) ∧ ((wAxisEvents_1_s.m.ax ↑wAxisEvents_1_n).plan ≠ []) ∧ (((wAxisEvents_1_s.m.upTo wAxisEvents_2_t).planNow ↑wAxisEvents_1_n).snd.snd.snd.fst = false) ∧ (((wAxisEvents_1_s.m.upTo wAxisEvents_2_t).planNow ↑wAxisEvents_1_n).snd.snd.fst ≠ 0) ∧ ((wAxisEvents_1_s.m.upTo wAxisEvents_2_t).dirWaits ↑wAxisEvents_1_n (decide (0 < ((wAxisEvents_1_s.m.upTo wAxisEvents_2_t).planNow ↑wAxisEvents_1_n).snd.snd.fst)) = false)) ∧
    ((wAxisEvents_1_s.m.groupOf (↑wAxisEvents_1_n : Nat) = none) ∧ ((if true = true then (wAxisEvents_1_s.m.ax ↑wAxisEvents_1_n).limPos else (wAxisEvents_1_s.m.ax ↑wAxisEvents_1_n).limNeg) = false) ∧ ((wAxisEvents_1_s.m.ax ↑wAxisEvents_1_n).plan ≠ []) ∧ (((wAxisEvents_1_s.m.upTo wAxisEvents_2_t).planNow ↑wAxisEvents_1_n).snd.snd.snd.fst = false) ∧ (((wAxisEvents_1_s.m.upTo wAxisEvents_2_t).planNow ↑wAxisEvents_1_n).snd.snd.fst ≠ 0) ∧ ((wAxisEvents_1_s.m.ax ↑wAxisEvents_1_n).kind = 1) ∧ ((wAxisEvents_1_s.m.ax ↑wAxisEvents_1_n).busy = true)) ∧
    ((wAxisEvents_4_s.m.groupOf (↑wAxisEvents_1_n : Nat) = none) ∧ (wAxisEvents_4_s.m.obj F.axDRIVE (↑wAxisEvents_1_n : Nat) = 2) ∧ ((wAxisEvents_4_s.m.ax ↑wAxisEvents_1_n).stall = false) ∧ ((wAxisEvents_4_s.m.ax ↑wAxisEvents_1_n).kind ≤ 5)) ∧
    ((wAxisEvents_4_s.m.groupOf (↑wAxisEvents_1_n : Nat) = none) ∧ (wAxisEvents_4_s.m.obj F.axFE_MAX (↑wAxisEvents_1_n : Nat) ≠ 0) ∧ (wAxisEvents_4_s.m.obj F.axFB_PORT (↑wAxisEvents_1_n : Nat) < 8) ∧ (wAxisEvents_4_s.m.obj F.axDRIVE (↑wAxisEvents_1_n : Nat) ≠ 0) ∧ (wAxisEvents_4_s.m.obj F.axFE_MAX (↑wAxisEvents_1_n : Nat) < ((wAxisEvents_4_s.m.upTo wAxisEvents_3_t).followErr ↑wAxisEvents_1_n).natAbs) ∧ (Option.any (fun (j : Nat) => wAxisEvents_4_s.m.obj F.msSTAGE_MODE j == 1) (wAxisEvents_4_s.m.stageOf ↑wAxisEvents_1_n) = false) ∧ ((wAxisEvents_4_s.m.ax ↑wAxisEvents_1_n).kind ≤ 4)) :=
  ⟨by decide +kernel, by decide +kernel, by decide +kernel, by decide +kernel, by decide +kernel, by decide +kernel⟩

theorem witness_AxisEvents_2 :
    ((wAxisEvents_5_s.m.groupOf (↑wAxisEvents_5_n : Nat) = none) ∧ (wAxisEvents_5_s.m.obj F.axFE_MAX (↑wAxisEvents_5_n : Nat) ≠ 0) ∧ (wAxisEvents_5_s.m.obj F.axFB_PORT (↑wAxisEvents_5_n : Nat) < 8) ∧ (wAxisEvents_5_s.m.obj F.axDRIVE (↑wAxisEvents_5_n : Nat) ≠ 0) ∧ (wAxisEvents_5_s.m.obj F.axFE_MAX (↑wAxisEvents_5_n : Nat) < ((wAxisEvents_5_s.m.upTo wAxisEvents_3_t).followErr ↑wAxisEvents_5_n).natAbs) ∧ (Option.any (fun (j : Nat) => wAxisEvents_5_s.m.obj F.msSTAGE_MODE j == 1) (wAxisEvents_5_s.m.stageOf ↑wAxisEvents_5_n) = true) ∧ ((wAxisEvents_5_s.m.ax ↑wAxisEvents_5_n).stall = false) ∧ ((wAxisEvents_5_s.m.ax ↑wAxisEvents_5_n).kind ≤ 5)) ∧
    ((wAxisEvents_5_s.m.groupOf (↑wAxisEvents_5_n : Nat) = none) ∧ ((↑wAxisEvents_5_n : Nat) = ↑wAxisEvents_1_k) ∧ (wAxisEvents_5_s.m.obj F.axDRIVE (↑wAxisEvents_5_n : Nat) = 2) ∧ (wAxisEvents_5_s.m.isM4 = true) ∧ (wAxisEvents_5_s.m.obj F.msSTAGE_MODE (↑wAxisEvents_1_k : Nat) ≠ 0) ∧ (wAxisEvents_5_s.m.obj F.msFAULT (↑wAxisEvents_1_k : Nat) = 0)) ∧
    ((wAxisEvents_6_s.m.groupOf (↑wAxisEvents_6_n : Nat) = none) ∧ ((↑wAxisEvents_6_n : Nat) = ↑wAxisEvents_1_k) ∧ (wAxisEvents_6_s.m.obj F.axDRIVE (↑wAxisEvents_6_n : Nat) = 2) ∧ (wAxisEvents_6_s.m.obj F.msSTAGE_MODE (↑wAxisEvents_1_k : Nat) = 1) ∧ (wAxisEvents_6_s.m.obj F.msSTATE (↑wAxisEvents_1_k : Nat) = 1) ∧ (wAxisEvents_6_s.m.obj F.msFAULT (↑wAxisEvents_1_k : Nat) = 0) ∧ ((wAxisEvents_6_s.m.ax ↑wAxisEvents_6_n).plan = []) ∧ ((wAxisEvents_6_s.m.ax ↑wAxisEvents_6_n).isl = false) ∧ ((wAxisEvents_6_s.m.ax ↑wAxisEvents_6_n).off = false) ∧ ((wAxisEvents_6_s.m.ax ↑wAxisEvents_6_n).fell = false ∨ wAxisEvents_6_s.m.obj F.msFALLBACK_STAGE (↑wAxisEvents_1_k : Nat) ≠ 1) ∧ ((wAxisEvents_6_s.m.ax ↑wAxisEvents_6_n).stepAt + wAxisEvents_6_s.m.obj F.msHOLD_DELAY_MS ↑wAxisEvents_1_k * 10 ^ 6 ≤ wAxisEvents_6_s.at_ wAxisEvents_3_t)) ∧
    ((wAxisEvents_7_s.m.groupOf (↑wAxisEvents_6_n : Nat) = none) ∧ ((↑wAxisEvents_6_n : Nat) = ↑wAxisEvents_1_k) ∧ (wAxisEvents_7_s.m.obj F.axDRIVE (↑wAxisEvents_6_n : Nat) = 2) ∧ (wAxisEvents_7_s.m.obj F.msFAULT (↑wAxisEvents_1_k : Nat) = 3 ∨ wAxisEvents_7_s.m.obj F.msFAULT (↑wAxisEvents_1_k : Nat) = 4)) ∧
    ((wAxisEvents_8_s.m.groupOf (↑wAxisEvents_6_n : Nat) = none) ∧ ((↑wAxisEvents_6_n : Nat) = ↑wAxisEvents_1_k) ∧ (wAxisEvents_8_s.m.obj F.axDRIVE (↑wAxisEvents_6_n : Nat) = 2) ∧ (wAxisEvents_8_s.m.obj F.msFAULT (↑wAxisEvents_1_k : Nat) = 2 ∨ wAxisEvents_8_s.m.obj F.msFAULT (↑wAxisEvents_1_k : Nat) = 5)) :=
  ⟨by decide +kernel, by decide +kernel, by decide +kernel, by decide +kernel, by decide +kernel⟩

theorem witness_GroupsAndAxisCommands_1 :
    (((wGroupsAndAxisCommands_1_s.m.gg ↑wGroupsAndAxisCommands_1_g).state = 1) ∧ (∀ (n : Nat), n ∈ wGroupsAndAxisCommands_1_s.m.membersOf ↑wGroupsAndAxisCommands_1_g → (wGroupsAndAxisCommands_1_s.m.ax n).speedAt ≤ wGroupsAndAxisCommands_1_s.at_ wGroupsAndAxisCommands_1_t)) ∧
    (((wGroupsAndAxisCommands_1_s.m.gg ↑wGroupsAndAxisCommands_1_g).splice = some (wGroupsAndAxisCommands_1_num, wGroupsAndAxisCommands_1_den, wGroupsAndAxisCommands_1_pos, true)) ∧ (if true = true then wGroupsAndAxisCommands_1_pos ≤ ((wGroupsAndAxisCommands_1_s.m.upTo wGroupsAndAxisCommands_1_t).masterNow ↑wGroupsAndAxisCommands_1_g).fst else ((wGroupsAndAxisCommands_1_s.m.upTo wGroupsAndAxisCommands_1_t).masterNow ↑wGroupsAndAxisCommands_1_g).fst ≤ wGroupsAndAxisCommands_1_pos)) ∧
    (((wGroupsAndAxisCommands_3_s.m.gg ↑wGroupsAndAxisCommands_1_g).state = 3) ∧ ((wGroupsAndAxisCommands_3_s.m.gg ↑wGroupsAndAxisCommands_1_g).downAt + (wGroupsAndAxisCommands_3_s.m.gg ↑wGroupsAndAxisCommands_1_g).downT ≤ wGroupsAndAxisCommands_3_s.at_ wGroupsAndAxisCommands_1_t)) ∧
    (Accepts axisJogCard wGroupsAndAxisCommands_4_msg wGroupsAndAxisCommands_4_s wGroupsAndAxisCommands_1_is) ∧
    ((isSys (cmdOf wGroupsAndAxisCommands_4_msg wGroupsAndAxisCommands_4_s wGroupsAndAxisCommands_1_is).owner = true ∨ wGroupsAndAxisCommands_4_s.m.axOwner wGroupsAndAxisCommands_4_s.ram ((cmdOf wGroupsAndAxisCommands_4_msg wGroupsAndAxisCommands_4_s wGroupsAndAxisCommands_1_is).num 1) = some (cmdOf wGroupsAndAxisCommands_4_msg wGroupsAndAxisCommands_4_s wGroupsAndAxisCommands_1_is).owner) ∧ ((wGroupsAndAxisCommands_4_s.m.intake wGroupsAndAxisCommands_4_msg).refusal ((cmdOf wGroupsAndAxisCommands_4_msg wGroupsAndAxisCommands_4_s wGroupsAndAxisCommands_1_is).num 1) ((cmdOf wGroupsAndAxisCommands_4_msg wGroupsAndAxisCommands_4_s wGroupsAndAxisCommands_1_is).num 2) ((cmdOf wGroupsAndAxisCommands_4_msg wGroupsAndAxisCommands_4_s wGroupsAndAxisCommands_1_is).num 4) (sint 64 ((cmdOf wGroupsAndAxisCommands_4_msg wGroupsAndAxisCommands_4_s wGroupsAndAxisCommands_1_is).num 3)) = 0)) :=
  ⟨by decide +kernel, by decide +kernel, by decide +kernel, accepts_of (by decide +kernel), by decide +kernel⟩

theorem witness_GroupsAndAxisCommands_2 :
    (Accepts axisStopCard wGroupsAndAxisCommands_5_msg wGroupsAndAxisCommands_5_s wGroupsAndAxisCommands_5_is) ∧
    ((isSys (cmdOf wGroupsAndAxisCommands_5_msg wGroupsAndAxisCommands_5_s wGroupsAndAxisCommands_5_is).owner = true ∨ wGroupsAndAxisCommands_5_s.m.axOwner wGroupsAndAxisCommands_5_s.ram ((cmdOf wGroupsAndAxisCommands_5_msg wGroupsAndAxisCommands_5_s wGroupsAndAxisCommands_5_is).num 1) = some (cmdOf wGroupsAndAxisCommands_5_msg wGroupsAndAxisCommands_5_s wGroupsAndAxisCommands_5_is).owner) ∧ (wGroupsAndAxisCommands_5_s.m.groupOf ((cmdOf wGroupsAndAxisCommands_5_msg wGroupsAndAxisCommands_5_s wGroupsAndAxisCommands_5_is).num 1) = none) ∧ ((wGroupsAndAxisCommands_5_s.m.ax ((cmdOf wGroupsAndAxisCommands_5_msg wGroupsAndAxisCommands_5_s wGroupsAndAxisCommands_5_is).num 1)).plan ≠ []) ∧ (((wGroupsAndAxisCommands_5_s.m.upTo wGroupsAndAxisCommands_5_msg.t).planNow ((cmdOf wGroupsAndAxisCommands_5_msg wGroupsAndAxisCommands_5_s wGroupsAndAxisCommands_5_is).num 1)).snd.snd.snd.fst = false) ∧ (((wGroupsAndAxisCommands_5_s.m.upTo wGroupsAndAxisCommands_5_msg.t).planNow ((cmdOf wGroupsAndAxisCommands_5_msg wGroupsAndAxisCommands_5_s wGroupsAndAxisCommands_5_is).num 1)).snd.snd.fst ≠ 0) ∧ ((wGroupsAndAxisCommands_5_s.m.ax ((cmdOf wGroupsAndAxisCommands_5_msg wGroupsAndAxisCommands_5_s wGroupsAndAxisCommands_5_is).num 1)).kind ≤ 2)) ∧
    (Accepts axisHomeCard wGroupsAndAxisCommands_7_msg wGroupsAndAxisCommands_7_s wGroupsAndAxisCommands_7_is) ∧
    ((isSys (cmdOf wGroupsAndAxisCommands_7_msg wGroupsAndAxisCommands_7_s wGroupsAndAxisCommands_7_is).owner = true ∨ wGroupsAndAxisCommands_7_s.m.axOwner wGroupsAndAxisCommands_7_s.ram ((cmdOf wGroupsAndAxisCommands_7_msg wGroupsAndAxisCommands_7_s wGroupsAndAxisCommands_7_is).num 1) = some (cmdOf wGroupsAndAxisCommands_7_msg wGroupsAndAxisCommands_7_s wGroupsAndAxisCommands_7_is).owner) ∧ (wGroupsAndAxisCommands_7_s.m.groupOf ((cmdOf wGroupsAndAxisCommands_7_msg wGroupsAndAxisCommands_7_s wGroupsAndAxisCommands_7_is).num 1) = none) ∧ ((wGroupsAndAxisCommands_7_s.m.ax ((cmdOf wGroupsAndAxisCommands_7_msg wGroupsAndAxisCommands_7_s wGroupsAndAxisCommands_7_is).num 1)).plan = [])) :=
  ⟨accepts_of (by decide +kernel), by decide +kernel, accepts_of (by decide +kernel), by decide +kernel⟩

theorem witness_DoorTicks :
    ((wDoorTicks_1_s.m.mode ≠ 3 ∧ wDoorTicks_1_s.m.mode ≠ 255)) ∧
    ((wDoorTicks_1_s.m.mode ≠ 3 ∧ wDoorTicks_1_s.m.mode ≠ 255) ∧ (wDoorTicks_1_s.m.doorsOn = [↑wDoorTicks_1_d]) ∧ (wDoorTicks_1_s.m.bindsOn = []) ∧ (wDoorTicks_1_s.m.obj F.doorDRIVE_KIND (↑wDoorTicks_1_d : Nat) = 2) ∧ (8 ≤ wDoorTicks_1_s.m.obj F.doorFB_PORT ↑wDoorTicks_1_d) ∧ (wDoorTicks_1_s.m.obj F.doorOBST_METHODS (↑wDoorTicks_1_d : Nat) = 0) ∧ (wDoorTicks_1_s.m.obj F.doorSTEP_PRESENT (↑wDoorTicks_1_d : Nat) = 0) ∧ (wDoorTicks_1_s.m.obj F.doorHOLD (↑wDoorTicks_1_d : Nat) = 0) ∧ ((bit (wDoorTicks_1_s.m.dinNow ↑wDoorTicks_1_d) 0 && bit (wDoorTicks_1_s.m.dinNow ↑wDoorTicks_1_d) 1) = false) ∧ ((wDoorTicks_1_s.m.door ↑wDoorTicks_1_d).pend = none) ∧ ((wDoorTicks_1_s.m.door ↑wDoorTicks_1_d).fallAt = none) ∧ ((wDoorTicks_1_s.m.door ↑wDoorTicks_1_d).learn = none) ∧ ((wDoorTicks_1_s.m.door ↑wDoorTicks_1_d).cmdAt ≠ some (wDoorTicks_1_s.at_ wDoorTicks_1_t)) ∧ (wDoorTicks_1_s.m.doorOwner wDoorTicks_1_s.ram (↑wDoorTicks_1_d : Nat) = none) ∧ (wDoorTicks_1_s.m.obj F.doorROW (↑wDoorTicks_1_d : Nat) ≠ 255) ∧ ((wDoorTicks_1_s.m.door ↑wDoorTicks_1_d).rowAt < wDoorTicks_1_s.at_ wDoorTicks_1_t) ∧ (rowB (wDoorTicks_1_s.m.door ↑wDoorTicks_1_d).board (wDoorTicks_1_s.m.obj F.doorROW ↑wDoorTicks_1_d) 10 = 3) ∧ ((wDoorTicks_1_s.m.door ↑wDoorTicks_1_d).rowAt + rowH (wDoorTicks_1_s.m.door ↑wDoorTicks_1_d).board (wDoorTicks_1_s.m.obj F.doorROW ↑wDoorTicks_1_d) 12 * 10 ^ 6 ≤ wDoorTicks_1_s.at_ wDoorTicks_1_t) ∧ (rowB (wDoorTicks_1_s.m.door ↑wDoorTicks_1_d).board (wDoorTicks_1_s.m.obj F.doorROW ↑wDoorTicks_1_d) 14 = wDoorTicks_1_ok) ∧ (wDoorTicks_1_ok < 255) ∧ (rowB (wDoorTicks_1_s.m.door ↑wDoorTicks_1_d).board wDoorTicks_1_ok 0 = 255) ∧ (rowB (wDoorTicks_1_s.m.door ↑wDoorTicks_1_d).board wDoorTicks_1_ok 1 = 0)) ∧
    ((wDoorTicks_2_s.m.mode ≠ 3 ∧ wDoorTicks_2_s.m.mode ≠ 255) ∧ (wDoorTicks_2_s.m.doorsOn = [↑wDoorTicks_1_d]) ∧ (wDoorTicks_2_s.m.bindsOn = []) ∧ (wDoorTicks_2_s.m.obj F.doorDRIVE_KIND (↑wDoorTicks_1_d : Nat) = 2) ∧ (8 ≤ wDoorTicks_2_s.m.obj F.doorFB_PORT ↑wDoorTicks_1_d) ∧ (wDoorTicks_2_s.m.obj F.doorOBST_METHODS (↑wDoorTicks_1_d : Nat) = 0) ∧ (wDoorTicks_2_s.m.obj F.doorSTEP_PRESENT (↑wDoorTicks_1_d : Nat) = 0) ∧ (wDoorTicks_2_s.m.obj F.doorHOLD (↑wDoorTicks_1_d : Nat) = 0) ∧ ((bit (wDoorTicks_2_s.m.dinNow ↑wDoorTicks_1_d) 0 && bit (wDoorTicks_2_s.m.dinNow ↑wDoorTicks_1_d) 1) = false) ∧ ((wDoorTicks_2_s.m.door ↑wDoorTicks_1_d).pend = none) ∧ ((wDoorTicks_2_s.m.door ↑wDoorTicks_1_d).fallAt = none) ∧ ((wDoorTicks_2_s.m.door ↑wDoorTicks_1_d).learn = none) ∧ ((wDoorTicks_2_s.m.door ↑wDoorTicks_1_d).cmdAt ≠ some (wDoorTicks_2_s.at_ wDoorTicks_1_t)) ∧ (wDoorTicks_2_s.m.doorOwner wDoorTicks_2_s.ram (↑wDoorTicks_1_d : Nat) = none) ∧ (wDoorTicks_2_s.m.obj F.doorROW (↑wDoorTicks_1_d : Nat) ≠ 255) ∧ ((wDoorTicks_2_s.m.door ↑wDoorTicks_1_d).rowAt < wDoorTicks_2_s.at_ wDoorTicks_1_t) ∧ (rowB (wDoorTicks_2_s.m.door ↑wDoorTicks_1_d).board (wDoorTicks_2_s.m.obj F.doorROW ↑wDoorTicks_1_d) 10 = 3) ∧ ((wDoorTicks_2_s.m.door ↑wDoorTicks_1_d).rowAt + rowH (wDoorTicks_2_s.m.door ↑wDoorTicks_1_d).board (wDoorTicks_2_s.m.obj F.doorROW ↑wDoorTicks_1_d) 12 * 10 ^ 6 ≤ wDoorTicks_2_s.at_ wDoorTicks_1_t) ∧ (rowB (wDoorTicks_2_s.m.door ↑wDoorTicks_1_d).board (wDoorTicks_2_s.m.obj F.doorROW ↑wDoorTicks_1_d) 14 = 255) ∧ ((wDoorTicks_2_s.m.door ↑wDoorTicks_1_d).next_ = none)) ∧
    ((wDoorTicks_3_s.m.mode = 3)) ∧
    ((wDoorTicks_4_s.m.mode ≠ 3 ∧ wDoorTicks_4_s.m.mode ≠ 255) ∧ (wDoorTicks_4_s.m.obj F.doorDRIVE_KIND (↑wDoorTicks_1_d : Nat) ≠ 1) ∧ ((wDoorTicks_4_s.m.upTo wDoorTicks_1_t).waitMet (↑wDoorTicks_1_d : Nat) = false) ∧ ((wDoorTicks_4_s.m.upTo wDoorTicks_1_t).rowLate (↑wDoorTicks_1_d : Nat) = true) ∧ (wDoorTicks_4_s.m.obj F.doorROW (↑wDoorTicks_1_d : Nat) ≠ 255) ∧ ((wDoorTicks_4_s.m.door ↑wDoorTicks_1_d).rowAt < wDoorTicks_4_s.at_ wDoorTicks_1_t) ∧ (rowB (wDoorTicks_4_s.m.door ↑wDoorTicks_1_d).board (wDoorTicks_4_s.m.obj F.doorROW ↑wDoorTicks_1_d) 15 = wDoorTicks_1_to_) ∧ (wDoorTicks_1_to_ < 255) ∧ (rowB (wDoorTicks_4_s.m.door ↑wDoorTicks_1_d).board wDoorTicks_1_to_ 0 = 255) ∧ (rowB (wDoorTicks_4_s.m.door ↑wDoorTicks_1_d).board wDoorTicks_1_to_ 1 = 0)) ∧
    ((wDoorTicks_5_s.m.mode ≠ 3 ∧ wDoorTicks_5_s.m.mode ≠ 255) ∧ (wDoorTicks_5_s.m.obj F.doorSTEP_PRESENT (↑wDoorTicks_1_d : Nat) ≠ 0) ∧ ((wDoorTicks_5_s.m.door ↑wDoorTicks_1_d).stepFault = false) ∧ (bit (wDoorTicks_5_s.m.door ↑wDoorTicks_1_d).outs 0 = true ∧ bit (wDoorTicks_5_s.m.door ↑wDoorTicks_1_d).din 5 = false ∧ (wDoorTicks_5_s.m.door ↑wDoorTicks_1_d).depAt = some wDoorTicks_5_a ∨ bit (wDoorTicks_5_s.m.door ↑wDoorTicks_1_d).outs 1 = true ∧ bit (wDoorTicks_5_s.m.door ↑wDoorTicks_1_d).din 4 = false ∧ (wDoorTicks_5_s.m.door ↑wDoorTicks_1_d).stowAt = some wDoorTicks_5_a) ∧ (wDoorTicks_5_a + wDoorTicks_5_s.m.obj F.doorSTEP_TIME_MS ↑wDoorTicks_1_d * 10 ^ 6 ≤ wDoorTicks_5_s.at_ wDoorTicks_1_t)) :=
  ⟨by decide +kernel, by decide +kernel, by decide +kernel, by decide +kernel, by decide +kernel, by decide +kernel⟩

theorem witness_DoorCommands_1 :
    (Accepts doorCommandCard wDoorCommands_1_msg wDoorCommands_1_s wDoorCommands_1_is) ∧
    ((wDoorCommands_1_s.m.obj F.doorSTORYBOARD ((cmdOf wDoorCommands_1_msg wDoorCommands_1_s wDoorCommands_1_is).num 1) ≠ 255 ∧ (isSys (cmdOf wDoorCommands_1_msg wDoorCommands_1_s wDoorCommands_1_is).owner = true ∨ wDoorCommands_1_s.m.doorOwner wDoorCommands_1_s.ram ((cmdOf wDoorCommands_1_msg wDoorCommands_1_s wDoorCommands_1_is).num 1) = some (cmdOf wDoorCommands_1_msg wDoorCommands_1_s wDoorCommands_1_is).owner)) ∧ ((cmdOf wDoorCommands_1_msg wDoorCommands_1_s wDoorCommands_1_is).num 1 ≤ 255) ∧ ((wDoorCommands_1_s.m.intake wDoorCommands_1_msg).doorRefusal ((cmdOf wDoorCommands_1_msg wDoorCommands_1_s wDoorCommands_1_is).num 1) ((cmdOf wDoorCommands_1_msg wDoorCommands_1_s wDoorCommands_1_is).num 2) = 0)) ∧
    (Accepts doorCommandCard wDoorCommands_2_msg wDoorCommands_1_s wDoorCommands_2_is) ∧
    ((wDoorCommands_1_s.m.obj F.doorSTORYBOARD ((cmdOf wDoorCommands_2_msg wDoorCommands_1_s wDoorCommands_2_is).num 1) ≠ 255 ∧ (isSys (cmdOf wDoorCommands_2_msg wDoorCommands_1_s wDoorCommands_2_is).owner = true ∨ wDoorCommands_1_s.m.doorOwner wDoorCommands_1_s.ram ((cmdOf wDoorCommands_2_msg wDoorCommands_1_s wDoorCommands_2_is).num 1) = some (cmdOf wDoorCommands_2_msg wDoorCommands_1_s wDoorCommands_2_is).owner)) ∧ ((wDoorCommands_1_s.m.door ((cmdOf wDoorCommands_2_msg wDoorCommands_1_s wDoorCommands_2_is).num 1)).learn = none) ∧ ((wDoorCommands_1_s.m.intake wDoorCommands_2_msg).doorRefusal ((cmdOf wDoorCommands_2_msg wDoorCommands_1_s wDoorCommands_2_is).num 1) ((cmdOf wDoorCommands_2_msg wDoorCommands_1_s wDoorCommands_2_is).num 2) = wDoorCommands_1_why) ∧ (wDoorCommands_1_why ≠ 0)) ∧
    (Accepts doorLearnCard wDoorCommands_3_msg wDoorCommands_3_s wDoorCommands_3_is) :=
  ⟨accepts_of (by decide +kernel), by decide +kernel, accepts_of (by decide +kernel), by decide +kernel, accepts_of (by decide +kernel)⟩

theorem witness_DoorCommands_2 :
    ((wDoorCommands_3_s.m.obj F.doorSTORYBOARD ((cmdOf wDoorCommands_3_msg wDoorCommands_3_s wDoorCommands_3_is).num 1) ≠ 255 ∧ (isSys (cmdOf wDoorCommands_3_msg wDoorCommands_3_s wDoorCommands_3_is).owner = true ∨ wDoorCommands_3_s.m.doorOwner wDoorCommands_3_s.ram ((cmdOf wDoorCommands_3_msg wDoorCommands_3_s wDoorCommands_3_is).num 1) = some (cmdOf wDoorCommands_3_msg wDoorCommands_3_s wDoorCommands_3_is).owner)) ∧ ((wDoorCommands_3_s.m.door ((cmdOf wDoorCommands_3_msg wDoorCommands_3_s wDoorCommands_3_is).num 1)).learn = none) ∧ ((wDoorCommands_3_s.m.upTo wDoorCommands_3_msg.t).doorHeld ((cmdOf wDoorCommands_3_msg wDoorCommands_3_s wDoorCommands_3_is).num 1) = false) ∧ (wDoorCommands_3_s.m.obj F.doorDOOR_STATE ((cmdOf wDoorCommands_3_msg wDoorCommands_3_s wDoorCommands_3_is).num 1) = 1) ∧ ((wDoorCommands_3_s.m.upTo wDoorCommands_3_msg.t).doorStill ((cmdOf wDoorCommands_3_msg wDoorCommands_3_s wDoorCommands_3_is).num 1) = true) ∧ (wDoorCommands_3_s.m.obj F.doorREF_LOST ((cmdOf wDoorCommands_3_msg wDoorCommands_3_s wDoorCommands_3_is).num 1) = 0) ∧ (wDoorCommands_3_s.m.obj F.doorDRIVE_KIND ((cmdOf wDoorCommands_3_msg wDoorCommands_3_s wDoorCommands_3_is).num 1) ≠ 1) ∧ (tb (wDoorCommands_3_s.m.board (wDoorCommands_3_s.m.obj F.doorSTORYBOARD ((cmdOf wDoorCommands_3_msg wDoorCommands_3_s wDoorCommands_3_is).num 1))) 0 ≠ 255) ∧ (tb (wDoorCommands_3_s.m.board (wDoorCommands_3_s.m.obj F.doorSTORYBOARD ((cmdOf wDoorCommands_3_msg wDoorCommands_3_s wDoorCommands_3_is).num 1))) 1 ≠ 255)) ∧
    (((wDoorCommands_4_s.m.door ↑wDoorCommands_1_n).learn = some wDoorCommands_4_l) ∧ (wDoorCommands_4_l.result = some 0)) ∧
    (((wDoorCommands_5_s.m.door ↑wDoorCommands_1_n).learn = some wDoorCommands_5_l) ∧ (wDoorCommands_5_l.result = some (wDoorCommands_5_why + 1))) ∧
    (Accepts storyboardLoadCard wDoorCommands_6_msg wDoorCommands_6_s wDoorCommands_6_is) ∧
    ((((cmdOf wDoorCommands_6_msg wDoorCommands_6_s wDoorCommands_6_is).bytes 2).length = 16 + 16 * tb ((cmdOf wDoorCommands_6_msg wDoorCommands_6_s wDoorCommands_6_is).bytes 2) 8) ∧ (boardFault ((cmdOf wDoorCommands_6_msg wDoorCommands_6_s wDoorCommands_6_is).bytes 2) = none) ∧ (∀ (n : Nat), n ∈ wDoorCommands_6_s.m.doorsOn → wDoorCommands_6_s.m.obj F.doorSTORYBOARD n = (cmdOf wDoorCommands_6_msg wDoorCommands_6_s wDoorCommands_6_is).num 1 → wDoorCommands_6_s.m.boardMisfits ((cmdOf wDoorCommands_6_msg wDoorCommands_6_s wDoorCommands_6_is).bytes 2) n = false)) :=
  ⟨by decide +kernel, by decide +kernel, by decide +kernel, accepts_of (by decide +kernel), by decide +kernel⟩

theorem witness_PowerEvents_1 :
    (((wPowerEvents_1_s.m.upTo wPowerEvents_1_t).overdrawn ↑wPowerEvents_1_k wPowerEvents_1_ma wPowerEvents_1_mv = true) ∧ ((wPowerEvents_1_s.m.rail ↑wPowerEvents_1_k).trig = true) ∧ ((wPowerEvents_1_s.m.rail ↑wPowerEvents_1_k).since + wPowerEvents_1_s.m.obj F.railSHED_MS ↑wPowerEvents_1_k * 10 ^ 6 ≤ wPowerEvents_1_s.at_ wPowerEvents_1_t) ∧ ((wPowerEvents_1_s.m.rail ↑wPowerEvents_1_k).riseAt + wPowerEvents_1_s.m.obj F.railSHED_MS ↑wPowerEvents_1_k * 10 ^ 6 ≤ wPowerEvents_1_s.at_ wPowerEvents_1_t) ∧ (wPowerEvents_1_s.m.obj F.railSHED_STAGE (↑wPowerEvents_1_k : Nat) < 15)) ∧
    ((wPowerEvents_1_cc < 2 ^ 32) ∧ (wPowerEvents_1_v < 2 ^ 32) ∧ (4000 < ((↑wPowerEvents_1_cc : Int) - (↑wPowerEvents_1_v : Int)).natAbs) ∧ (wPowerEvents_1_s.m.obj F.gaugeGAUGE_STATE ≠ 1)) ∧
    ((wPowerEvents_1_s.m.gauge.testing = true) ∧ (wPowerEvents_1_esr * 2 ≤ wPowerEvents_1_s.m.obj F.gaugeESR_MOHM * 3) ∧ (wPowerEvents_1_s.m.obj F.gaugeE_V_MJ < 2 ^ 32)) ∧
    ((wPowerEvents_1_cc < 2 ^ 32)) ∧
    (((wPowerEvents_2_s.m.upTo wPowerEvents_1_t).overdrawn ↑wPowerEvents_1_k wPowerEvents_2_ma wPowerEvents_1_mv = false) ∧ ((wPowerEvents_2_s.m.rail ↑wPowerEvents_1_k).trig = false ∨ wPowerEvents_2_s.at_ wPowerEvents_1_t < (wPowerEvents_2_s.m.rail ↑wPowerEvents_1_k).since + wPowerEvents_2_s.m.obj F.railSHED_MS ↑wPowerEvents_1_k * 10 ^ 6) ∧ (max (wPowerEvents_2_s.m.rail ↑wPowerEvents_1_k).ended (wPowerEvents_2_s.m.rail ↑wPowerEvents_1_k).fallAt + wPowerEvents_2_s.m.obj F.railRESTORE_S ↑wPowerEvents_1_k * 10 ^ 9 ≤ wPowerEvents_2_s.at_ wPowerEvents_1_t) ∧ (0 < wPowerEvents_2_s.m.obj F.railSHED_STAGE ↑wPowerEvents_1_k) ∧ (wPowerEvents_2_s.m.obj F.railSHED_STAGE (↑wPowerEvents_1_k : Nat) ≤ 15)) :=
  ⟨by decide +kernel, by decide +kernel, by decide +kernel, by decide +kernel, by decide +kernel⟩

theorem witness_PowerEvents_2 :
    ((wPowerEvents_1_cc < 2 ^ 32) ∧ (wPowerEvents_2_v < 2 ^ 32) ∧ (((↑wPowerEvents_1_cc : Int) - (↑wPowerEvents_2_v : Int)).natAbs ≤ 2000)) ∧
    ((wPowerEvents_2_s.m.obj F.gaugeGAUGE_STATE = 1) ∧ (wPowerEvents_2_s.m.obj F.powPOWER_STATE = 0) ∧ (wPowerEvents_2_s.m.gauge.hourAt + 3600 * 10 ^ 9 ≤ wPowerEvents_2_s.at_ wPowerEvents_1_t)) ∧
    (Accepts gaugeTestCard wPowerEvents_1_msg wPowerEvents_2_s wPowerEvents_1_is) ∧
    ((wPowerEvents_2_s.m.obj F.powPOWER_STATE = 0) ∧ (wPowerEvents_2_s.m.gauge.testing = false) ∧ (∀ (a : Nat), wPowerEvents_2_s.m.gauge.testAt = some a → a + 60 * 10 ^ 9 ≤ wPowerEvents_2_s.at_ wPowerEvents_1_msg.t)) :=
  ⟨by decide +kernel, by decide +kernel, accepts_of (by decide +kernel), by decide +kernel⟩

theorem witness_AlarmStates_1 :
    ((wAlarmStates_1_s.m.obj F.alarmOWNER (↑wAlarmStates_1_a : Nat) ≠ 255) ∧ (wAlarmStates_1_s.m.isSet F.alarmIN_SERVICE (↑wAlarmStates_1_a : Nat) = true ∧ (wAlarmStates_1_s.m.alarm ↑wAlarmStates_1_a).sup = false ∧ (wAlarmStates_1_s.m.alarm ↑wAlarmStates_1_a).flood = false ∧ (wAlarmStates_1_s.m.alarm ↑wAlarmStates_1_a).ack = false ∧ wAlarmStates_1_s.m.inFlood (wAlarmStates_1_s.m.obj F.alarmFLOOD_GROUP ↑wAlarmStates_1_a) = false) ∧ ((wAlarmStates_1_s.m.alarm ↑wAlarmStates_1_a).shelf = none) ∧ ((wAlarmStates_1_s.m.alarm ↑wAlarmStates_1_a).cond = true) ∧ ((wAlarmStates_1_s.m.alarm ↑wAlarmStates_1_a).active = false) ∧ ((wAlarmStates_1_s.m.alarm ↑wAlarmStates_1_a).condAt + wAlarmStates_1_s.m.obj F.alarmON_DELAY_MS ↑wAlarmStates_1_a * 10 ^ 6 ≤ wAlarmStates_1_s.at_ wAlarmStates_1_t) ∧ (wAlarmStates_1_s.m.obj F.alarmSTATE ↑wAlarmStates_1_a ∈ [0, 3, 4])) ∧
    ((wAlarmStates_2_s.m.obj F.alarmOWNER (↑wAlarmStates_1_a : Nat) ≠ 255) ∧ (wAlarmStates_2_s.m.isSet F.alarmIN_SERVICE (↑wAlarmStates_1_a : Nat) = true ∧ (wAlarmStates_2_s.m.alarm ↑wAlarmStates_1_a).sup = false ∧ (wAlarmStates_2_s.m.alarm ↑wAlarmStates_1_a).flood = false ∧ (wAlarmStates_2_s.m.alarm ↑wAlarmStates_1_a).ack = false ∧ wAlarmStates_2_s.m.inFlood (wAlarmStates_2_s.m.obj F.alarmFLOOD_GROUP ↑wAlarmStates_1_a) = false) ∧ ((wAlarmStates_2_s.m.alarm ↑wAlarmStates_1_a).shelf = none) ∧ ((wAlarmStates_2_s.m.alarm ↑wAlarmStates_1_a).cond = false) ∧ ((wAlarmStates_2_s.m.alarm ↑wAlarmStates_1_a).active = true) ∧ ((wAlarmStates_2_s.m.alarm ↑wAlarmStates_1_a).condAt + wAlarmStates_2_s.m.obj F.alarmOFF_DELAY_MS ↑wAlarmStates_1_a * 10 ^ 6 ≤ wAlarmStates_2_s.at_ wAlarmStates_1_t) ∧ (wAlarmStates_2_s.m.obj F.alarmSTATE (↑wAlarmStates_1_a : Nat) = 1)) ∧
    (Accepts alarmAckCard wAlarmStates_1_msg wAlarmStates_2_s wAlarmStates_1_is) ∧
    (((cmdOf wAlarmStates_1_msg wAlarmStates_2_s wAlarmStates_1_is).num 1 = ↑wAlarmStates_1_a ∧ (cmdOf wAlarmStates_1_msg wAlarmStates_2_s wAlarmStates_1_is).num 2 1 = 1 ∧ wAlarmStates_2_s.m.obj F.alarmOWNER (↑wAlarmStates_1_a : Nat) ≠ 255 ∧ (isSys (cmdOf wAlarmStates_1_msg wAlarmStates_2_s wAlarmStates_1_is).owner = true ∨ wAlarmStates_2_s.m.obj F.alarmOWNER (↑wAlarmStates_1_a : Nat) = (cmdOf wAlarmStates_1_msg wAlarmStates_2_s wAlarmStates_1_is).owner)) ∧ (wAlarmStates_2_s.m.obj F.alarmSTATE ↑wAlarmStates_1_a ∈ [1, 3, 4])) ∧
    ((wAlarmStates_3_s.m.obj F.alarmOWNER (↑wAlarmStates_1_a : Nat) ≠ 255) ∧ (wAlarmStates_3_s.m.isSet F.alarmIN_SERVICE (↑wAlarmStates_1_a : Nat) = true ∧ (wAlarmStates_3_s.m.alarm ↑wAlarmStates_1_a).sup = false ∧ (wAlarmStates_3_s.m.alarm ↑wAlarmStates_1_a).flood = false ∧ (wAlarmStates_3_s.m.alarm ↑wAlarmStates_1_a).ack = false ∧ wAlarmStates_3_s.m.inFlood (wAlarmStates_3_s.m.obj F.alarmFLOOD_GROUP ↑wAlarmStates_1_a) = false) ∧ ((wAlarmStates_3_s.m.alarm ↑wAlarmStates_1_a).shelf = none) ∧ ((wAlarmStates_3_s.m.alarm ↑wAlarmStates_1_a).cond = false) ∧ ((wAlarmStates_3_s.m.alarm ↑wAlarmStates_1_a).active = true) ∧ ((wAlarmStates_3_s.m.alarm ↑wAlarmStates_1_a).condAt + wAlarmStates_3_s.m.obj F.alarmOFF_DELAY_MS ↑wAlarmStates_1_a * 10 ^ 6 ≤ wAlarmStates_3_s.at_ wAlarmStates_1_t) ∧ (wAlarmStates_3_s.m.obj F.alarmSTATE (↑wAlarmStates_1_a : Nat) = 2)) ∧
    ((wAlarmStates_4_s.m.isSet F.alarmIN_SERVICE (↑wAlarmStates_1_a : Nat) = true ∧ (wAlarmStates_4_s.m.alarm ↑wAlarmStates_1_a).sup = false ∧ (wAlarmStates_4_s.m.alarm ↑wAlarmStates_1_a).flood = false ∧ (wAlarmStates_4_s.m.alarm ↑wAlarmStates_1_a).ack = false ∧ wAlarmStates_4_s.m.inFlood (wAlarmStates_4_s.m.obj F.alarmFLOOD_GROUP ↑wAlarmStates_1_a) = false) ∧ ((wAlarmStates_4_s.m.alarm ↑wAlarmStates_1_a).shelf = some (wAlarmStates_1_b, wAlarmStates_1_e)) ∧ (wAlarmStates_4_s.m.shelfEnd (↑wAlarmStates_1_a : Nat) ≤ wAlarmStates_4_s.at_ wAlarmStates_4_t) ∧ (wAlarmStates_4_s.m.obj F.alarmSTATE (↑wAlarmStates_1_a : Nat) = 5)) :=
  ⟨by decide +kernel, by decide +kernel, accepts_of (by decide +kernel), by decide +kernel, by decide +kernel, by decide +kernel⟩

theorem witness_AlarmStates_2 :
    (Accepts alarmUnshelveCard wAlarmStates_4_msg wAlarmStates_4_s wAlarmStates_1_is) ∧
    (((cmdOf wAlarmStates_4_msg wAlarmStates_4_s wAlarmStates_1_is).num 1 = ↑wAlarmStates_1_a ∧ (cmdOf wAlarmStates_4_msg wAlarmStates_4_s wAlarmStates_1_is).num 2 1 = 1 ∧ wAlarmStates_4_s.m.obj F.alarmOWNER (↑wAlarmStates_1_a : Nat) ≠ 255 ∧ (isSys (cmdOf wAlarmStates_4_msg wAlarmStates_4_s wAlarmStates_1_is).owner = true ∨ wAlarmStates_4_s.m.obj F.alarmOWNER (↑wAlarmStates_1_a : Nat) = (cmdOf wAlarmStates_4_msg wAlarmStates_4_s wAlarmStates_1_is).owner)) ∧ (wAlarmStates_4_s.m.isSet F.alarmIN_SERVICE (↑wAlarmStates_1_a : Nat) = true ∧ (wAlarmStates_4_s.m.alarm ↑wAlarmStates_1_a).sup = false ∧ (wAlarmStates_4_s.m.alarm ↑wAlarmStates_1_a).flood = false ∧ (wAlarmStates_4_s.m.alarm ↑wAlarmStates_1_a).ack = false ∧ wAlarmStates_4_s.m.inFlood (wAlarmStates_4_s.m.obj F.alarmFLOOD_GROUP ↑wAlarmStates_1_a) = false) ∧ ((wAlarmStates_4_s.m.alarm ↑wAlarmStates_1_a).shelf.isSome = true) ∧ (wAlarmStates_4_s.m.obj F.alarmSTATE (↑wAlarmStates_1_a : Nat) = 5)) ∧
    ((wAlarmStates_5_s.m.inFlood (↑wAlarmStates_1_g : Nat) = true) ∧ (2 * (wAlarmStates_5_s.m.upTo wAlarmStates_4_t).floodCount (↑wAlarmStates_1_g : Nat) < wAlarmStates_5_s.m.obj F.floodFLOOD_COUNT ↑wAlarmStates_1_g) ∧ ((wAlarmStates_5_s.m.floodG ↑wAlarmStates_1_g).began + wAlarmStates_5_s.m.obj F.floodFLOOD_HOLD_S ↑wAlarmStates_1_g * 10 ^ 9 ≤ wAlarmStates_5_s.at_ wAlarmStates_4_t) ∧ (∀ (a' : Nat), a' ∈ wAlarmStates_5_s.m.listed F.alarmOWNER [] → (wAlarmStates_5_s.m.alarm a').flood = false ∨ wAlarmStates_5_s.m.obj F.alarmFLOOD_GROUP a' ≠ ↑wAlarmStates_1_g)) ∧
    (Accepts alarmShelveCard wAlarmStates_6_msg wAlarmStates_6_s wAlarmStates_6_is) ∧
    (((cmdOf wAlarmStates_6_msg wAlarmStates_6_s wAlarmStates_6_is).num 1 = ↑wAlarmStates_1_a ∧ (cmdOf wAlarmStates_6_msg wAlarmStates_6_s wAlarmStates_6_is).num 2 1 = 1 ∧ wAlarmStates_6_s.m.obj F.alarmOWNER (↑wAlarmStates_1_a : Nat) ≠ 255 ∧ (isSys (cmdOf wAlarmStates_6_msg wAlarmStates_6_s wAlarmStates_6_is).owner = true ∨ wAlarmStates_6_s.m.obj F.alarmOWNER (↑wAlarmStates_1_a : Nat) = (cmdOf wAlarmStates_6_msg wAlarmStates_6_s wAlarmStates_6_is).owner)) ∧ (wAlarmStates_6_s.m.isSet F.alarmIN_SERVICE (↑wAlarmStates_1_a : Nat) = true ∧ (wAlarmStates_6_s.m.alarm ↑wAlarmStates_1_a).sup = false ∧ (wAlarmStates_6_s.m.alarm ↑wAlarmStates_1_a).flood = false ∧ (wAlarmStates_6_s.m.alarm ↑wAlarmStates_1_a).ack = false ∧ wAlarmStates_6_s.m.inFlood (wAlarmStates_6_s.m.obj F.alarmFLOOD_GROUP ↑wAlarmStates_1_a) = false) ∧ ((cmdOf wAlarmStates_6_msg wAlarmStates_6_s wAlarmStates_6_is).num 3 ≤ wAlarmStates_6_s.m.obj F.alarmMAX_SHELVE_MIN ↑wAlarmStates_1_a)) :=
  ⟨accepts_of (by decide +kernel), by decide +kernel, by decide +kernel, accepts_of (by decide +kernel), by decide +kernel⟩

theorem witness_MatrixCommands :
    ((List.find? (fun (x : Nat × List Nat) => x.fst == ↑wMatrixCommands_1_e) wMatrixCommands_1_s.m.matrix.effects = some (↑wMatrixCommands_1_e, effB)) ∧ (wMatrixCommands_1_s.m.effOwner wMatrixCommands_1_s.ram effB = some wMatrixCommands_1_p) ∧ (wMatrixCommands_1_s.m.mode ≠ 3) ∧ (wMatrixCommands_1_s.m.mode ≠ 4) ∧ ((wMatrixCommands_1_s.m.eff ↑wMatrixCommands_1_e).since = some wMatrixCommands_1_a) ∧ (1 ≤ enB effB 1) ∧ (enB effB 1 ≤ wMatrixCommands_1_s.m.votesOf (wMatrixCommands_1_s.m.matrixOf wMatrixCommands_1_p) ↑wMatrixCommands_1_e) ∧ (wMatrixCommands_1_a + enH effB 12 * 10 ^ 6 ≤ wMatrixCommands_1_s.at_ wMatrixCommands_1_t)) ∧
    (Accepts causeMatrixLoadCard wMatrixCommands_1_msg wMatrixCommands_1_s wMatrixCommands_1_is) ∧
    ((wMatrixCommands_1_s.m.stageTaken (↑wMatrixCommands_1_msg.conn : Nat) = false) ∧ ((cmdOf wMatrixCommands_1_msg wMatrixCommands_1_s wMatrixCommands_1_is).has 3 = true) ∧ (((cmdOf wMatrixCommands_1_msg wMatrixCommands_1_s wMatrixCommands_1_is).bytes 3).length % sectionSize ((cmdOf wMatrixCommands_1_msg wMatrixCommands_1_s wMatrixCommands_1_is).num 1) = 0) ∧ ((cmdOf wMatrixCommands_1_msg wMatrixCommands_1_s wMatrixCommands_1_is).num 2 + ((cmdOf wMatrixCommands_1_msg wMatrixCommands_1_s wMatrixCommands_1_is).bytes 3).length / sectionSize ((cmdOf wMatrixCommands_1_msg wMatrixCommands_1_s wMatrixCommands_1_is).num 1) ≤ sectionMax ((cmdOf wMatrixCommands_1_msg wMatrixCommands_1_s wMatrixCommands_1_is).num 1)) ∧ ((cmdOf wMatrixCommands_1_msg wMatrixCommands_1_s wMatrixCommands_1_is).num 4 ≠ 1)) :=
  ⟨by decide +kernel, accepts_of (by decide +kernel), by decide +kernel⟩

theorem witness_SafetyInputs :
    ((wSafetyInputs_1_s.m.pairMode (↑wSafetyInputs_1_n : Nat) ≠ 0) ∧ (false ≠ (if true = true then (wSafetyInputs_1_s.m.pair ↑wSafetyInputs_1_n).b else (wSafetyInputs_1_s.m.pair ↑wSafetyInputs_1_n).a).closed) ∧ ((if true = true then (wSafetyInputs_1_s.m.pair ↑wSafetyInputs_1_n).b else (wSafetyInputs_1_s.m.pair ↑wSafetyInputs_1_n).a).hold ≤ wSafetyInputs_1_s.at_ wSafetyInputs_1_t) ∧ ((if true = true then (wSafetyInputs_1_s.m.pair ↑wSafetyInputs_1_n).b else (wSafetyInputs_1_s.m.pair ↑wSafetyInputs_1_n).a).cand = some wSafetyInputs_1_a) ∧ (wSafetyInputs_1_a + (setB wSafetyInputs_1_s.m.isl.set (pairAt ↑wSafetyInputs_1_n + 2) + if setB wSafetyInputs_1_s.m.isl.set (pairAt ↑wSafetyInputs_1_n + 1) = 1 then 1 else 0) * 10 ^ 6 ≤ wSafetyInputs_1_s.at_ wSafetyInputs_1_t)) ∧
    ((List.find? (fun (c : Nat) => wSafetyInputs_1_conn != 0 && setH wSafetyInputs_1_s.m.isl.set (linkAt c) == wSafetyInputs_1_conn && setB wSafetyInputs_1_s.m.isl.set (linkAt c + 2) == ↑wSafetyInputs_1_place / 256 && setB wSafetyInputs_1_s.m.isl.set (linkAt c + 3) == ↑wSafetyInputs_1_place % 256) (List.range 256) = some wSafetyInputs_1_c') ∧ (crc32c (telegramBytes (wSafetyInputs_1_s.m.obj F.modMODULE_ID) ↑wSafetyInputs_1_place wSafetyInputs_1_conn wSafetyInputs_1_counter wSafetyInputs_1_data) = wSafetyInputs_1_crc) ∧ (1 ≤ wSafetyInputs_1_counter) ∧ (wSafetyInputs_1_counter ≤ 65535) ∧ ((wSafetyInputs_1_s.m.link wSafetyInputs_1_c').last = some wSafetyInputs_1_l) ∧ (1 ≤ (wSafetyInputs_1_counter + 65535 - wSafetyInputs_1_l) % 65535) ∧ ((wSafetyInputs_1_counter + 65535 - wSafetyInputs_1_l) % 65535 ≤ 32) ∧ (wSafetyInputs_1_data < 2 ^ 64)) ∧
    ((List.find? (fun (c : Nat) => wSafetyInputs_1_conn != 0 && setH wSafetyInputs_2_s.m.isl.set (linkAt c) == wSafetyInputs_1_conn && setB wSafetyInputs_2_s.m.isl.set (linkAt c + 2) == ↑wSafetyInputs_1_place / 256 && setB wSafetyInputs_2_s.m.isl.set (linkAt c + 3) == ↑wSafetyInputs_1_place % 256) (List.range 256) = none ∨ ¬crc32c (telegramBytes (wSafetyInputs_2_s.m.obj F.modMODULE_ID) ↑wSafetyInputs_1_place wSafetyInputs_1_conn wSafetyInputs_1_counter wSafetyInputs_1_data) = wSafetyInputs_2_crc ∨ wSafetyInputs_1_counter = 0)) ∧
    ((linkOn wSafetyInputs_2_s.m.isl.set (↑wSafetyInputs_1_c : Nat) = true) ∧ (setH wSafetyInputs_2_s.m.isl.set (linkAt ↑wSafetyInputs_1_c + 4) ≤ (wSafetyInputs_2_s.m.link ↑wSafetyInputs_1_c).quiet) ∧ ((wSafetyInputs_2_s.m.link ↑wSafetyInputs_1_c).healthy = true)) ∧
    ((wSafetyInputs_3_s.m.pairMode (↑wSafetyInputs_1_n : Nat) ≠ 0) ∧ ((wSafetyInputs_3_s.m.pair ↑wSafetyInputs_1_n).phase = 1 ∨ (wSafetyInputs_3_s.m.pair ↑wSafetyInputs_1_n).phase = 3) ∧ ((wSafetyInputs_3_s.m.pair ↑wSafetyInputs_1_n).at_ + setH wSafetyInputs_3_s.m.isl.set (pairAt ↑wSafetyInputs_1_n + 4) * 10 ^ 6 ≤ wSafetyInputs_3_s.at_ wSafetyInputs_1_t)) :=
  ⟨by decide +kernel, by decide +kernel, by decide +kernel, by decide +kernel, by decide +kernel⟩

theorem witness_SafetyFunctions_1 :
    ((wSafetyFunctions_1_s.m.obj F.islSTATE ≠ 3) ∧ (wSafetyFunctions_1_ppm.natAbs ≤ 10000)) ∧ ((wSafetyFunctions_1_s.m.obj F.islSTATE ≠ 3)) ∧
    ((bit wSafetyFunctions_1_s.m.isl.sqOn (↑wSafetyFunctions_1_n : Nat) = true)) ∧
    ((bit wSafetyFunctions_2_s.m.isl.sqOn (↑wSafetyFunctions_1_n : Nat) = false)) ∧
    ((wSafetyFunctions_3_s.m.isl.darkAt + setH wSafetyFunctions_3_s.m.isl.set 16 * 10 ^ 9 ≤ wSafetyFunctions_3_s.at_ wSafetyFunctions_3_t) ∧ (wSafetyFunctions_1_stuck.land wSafetyFunctions_3_s.m.isl.sqOn = 0) ∧ (wSafetyFunctions_3_s.m.isl.darks % 8 ≠ 7)) :=
  ⟨by decide +kernel, by decide +kernel, by decide +kernel, by decide +kernel, by decide +kernel⟩

theorem witness_SafetyFunctions_2 :
    ((wSafetyFunctions_4_s.m.isl.darkAt + setH wSafetyFunctions_4_s.m.isl.set 16 * 10 ^ 9 ≤ wSafetyFunctions_4_s.at_ wSafetyFunctions_3_t) ∧ (bit wSafetyFunctions_1_stuck (↑wSafetyFunctions_1_n : Nat) = true) ∧ (bit wSafetyFunctions_4_s.m.isl.sqOn (↑wSafetyFunctions_1_n : Nat) = true)) ∧
    ((fnOn wSafetyFunctions_6_s.m.isl.set (↑wSafetyFunctions_6_f : Nat) = true) ∧ (wSafetyFunctions_6_s.m.obj F.sfSTATE (↑wSafetyFunctions_6_f : Nat) = 4) ∧ ((wSafetyFunctions_6_s.m.sfn ↑wSafetyFunctions_6_f).delayEnd = some wSafetyFunctions_6_e) ∧ (wSafetyFunctions_6_e ≤ wSafetyFunctions_6_s.at_ wSafetyFunctions_5_t)) ∧
    ((fnOn wSafetyFunctions_7_s.m.isl.set (↑wSafetyFunctions_6_f : Nat) = true) ∧ (wSafetyFunctions_7_s.m.obj F.sfSTATE (↑wSafetyFunctions_6_f : Nat) = 2 ∨ wSafetyFunctions_7_s.m.obj F.sfSTATE (↑wSafetyFunctions_6_f : Nat) = 3) ∧ (fnManual wSafetyFunctions_7_s.m.isl.set (↑wSafetyFunctions_6_f : Nat) = false) ∧ ((wSafetyFunctions_7_s.m.sfn ↑wSafetyFunctions_6_f).need = false) ∧ ((wSafetyFunctions_7_s.m.upTo wSafetyFunctions_5_t).sfReady wSafetyFunctions_7_s.ram (↑wSafetyFunctions_6_f : Nat) = true) ∧ ((wSafetyFunctions_7_s.m.sfn ↑wSafetyFunctions_6_f).since = some wSafetyFunctions_1_a) ∧ (wSafetyFunctions_1_a + 100000000 ≤ wSafetyFunctions_7_s.at_ wSafetyFunctions_5_t)) ∧
    ((wSafetyFunctions_8_f ∈ fnsOn wSafetyFunctions_8_s.m.isl.set) ∧ (fnReset wSafetyFunctions_8_s.m.isl.set wSafetyFunctions_8_f = ↑wSafetyFunctions_1_src) ∧ (fnManual wSafetyFunctions_8_s.m.isl.set wSafetyFunctions_8_f = true) ∧ ((ug { } wSafetyFunctions_8_s.m.isl.rsts ↑wSafetyFunctions_1_src).level = true) ∧ ((ug { } wSafetyFunctions_8_s.m.isl.rsts ↑wSafetyFunctions_1_src).riseAt = some wSafetyFunctions_1_a) ∧ (wSafetyFunctions_1_a + setH wSafetyFunctions_8_s.m.isl.set 12 * 10 ^ 6 ≤ wSafetyFunctions_8_s.at_ wSafetyFunctions_5_t) ∧ (wSafetyFunctions_8_s.at_ wSafetyFunctions_5_t ≤ wSafetyFunctions_1_a + setH wSafetyFunctions_8_s.m.isl.set 14 * 10 ^ 6) ∧ (2 ≤ wSafetyFunctions_8_s.m.obj F.sfSTATE wSafetyFunctions_8_f) ∧ ((wSafetyFunctions_8_s.m.sfn wSafetyFunctions_8_f).tripAt < wSafetyFunctions_1_a) ∧ ((wSafetyFunctions_8_s.m.upTo wSafetyFunctions_5_t).sfReady wSafetyFunctions_8_s.ram wSafetyFunctions_8_f = true)) ∧
    ((wSafetyFunctions_8_f ∈ fnsOn wSafetyFunctions_9_s.m.isl.set) ∧ (fnReset wSafetyFunctions_9_s.m.isl.set wSafetyFunctions_8_f = ↑wSafetyFunctions_1_src) ∧ (fnManual wSafetyFunctions_9_s.m.isl.set wSafetyFunctions_8_f = true) ∧ ((ug { } wSafetyFunctions_9_s.m.isl.rsts ↑wSafetyFunctions_1_src).level = true) ∧ ((ug { } wSafetyFunctions_9_s.m.isl.rsts ↑wSafetyFunctions_1_src).riseAt = none)) :=
  ⟨by decide +kernel, by decide +kernel, by decide +kernel, by decide +kernel, by decide +kernel⟩

theorem witness_Brakes :
    ((setB wBrakes_1_s.m.isl.set (brakeAt ↑wBrakes_1_k) ≠ 255) ∧ (setH wBrakes_1_s.m.isl.set (brakeAt ↑wBrakes_1_k + 8) ≠ 0) ∧ ((wBrakes_1_s.m.brake ↑wBrakes_1_k).passedAt + setH wBrakes_1_s.m.isl.set (brakeAt ↑wBrakes_1_k + 8) * 3600 ≤ wBrakes_1_s.m.time.opSeconds)) ∧
    (((wBrakes_2_s.m.brake ↑wBrakes_1_k).test = some wBrakes_1_b) ∧ ((wBrakes_1_b.start + 50000000 + (wBrakes_1_b.step - 2) * (setH wBrakes_2_s.m.isl.set (brakeAt ↑wBrakes_1_k + 4) * 10 ^ 6) + if wBrakes_1_b.step = 5 then setH wBrakes_2_s.m.isl.set (brakeAt ↑wBrakes_1_k + 10) * 10 ^ 6 - setH wBrakes_2_s.m.isl.set (brakeAt ↑wBrakes_1_k + 4) * 10 ^ 6 else 0) ≤ wBrakes_2_s.at_ wBrakes_1_t) ∧ (wBrakes_2_s.m.obj F.epSTATE (wBrakes_2_s.m.obj F.axFB_PORT (setB wBrakes_2_s.m.isl.set (brakeAt ↑wBrakes_1_k))) ≠ 2) ∧ (wBrakes_1_b.step = 2)) ∧
    (((wBrakes_2_s.m.brake ↑wBrakes_1_k).test = some wBrakes_1_b) ∧ ((wBrakes_1_b.start + 50000000 + (wBrakes_1_b.step - 2) * (setH wBrakes_2_s.m.isl.set (brakeAt ↑wBrakes_1_k + 4) * 10 ^ 6) + if wBrakes_1_b.step = 5 then setH wBrakes_2_s.m.isl.set (brakeAt ↑wBrakes_1_k + 10) * 10 ^ 6 - setH wBrakes_2_s.m.isl.set (brakeAt ↑wBrakes_1_k + 4) * 10 ^ 6 else 0) ≤ wBrakes_2_s.at_ wBrakes_1_t) ∧ (wBrakes_2_s.m.obj F.epSTATE (wBrakes_2_s.m.obj F.axFB_PORT (setB wBrakes_2_s.m.isl.set (brakeAt ↑wBrakes_1_k))) ≠ 2)) ∧
    (((wBrakes_3_s.m.brake ↑wBrakes_1_k).test = some wBrakes_3_b) ∧ ((wBrakes_3_b.start + 50000000 + (wBrakes_3_b.step - 2) * (setH wBrakes_3_s.m.isl.set (brakeAt ↑wBrakes_1_k + 4) * 10 ^ 6) + if wBrakes_3_b.step = 5 then setH wBrakes_3_s.m.isl.set (brakeAt ↑wBrakes_1_k + 10) * 10 ^ 6 - setH wBrakes_3_s.m.isl.set (brakeAt ↑wBrakes_1_k + 4) * 10 ^ 6 else 0) ≤ wBrakes_3_s.at_ wBrakes_1_t) ∧ (wBrakes_3_s.m.obj F.epSTATE (wBrakes_3_s.m.obj F.axFB_PORT (setB wBrakes_3_s.m.isl.set (brakeAt ↑wBrakes_1_k))) ≠ 2) ∧ (wBrakes_3_b.step = 3)) ∧
    (((wBrakes_4_s.m.brake ↑wBrakes_1_k).test = some wBrakes_4_b) ∧ ((wBrakes_4_b.start + 50000000 + (wBrakes_4_b.step - 2) * (setH wBrakes_4_s.m.isl.set (brakeAt ↑wBrakes_1_k + 4) * 10 ^ 6) + if wBrakes_4_b.step = 5 then setH wBrakes_4_s.m.isl.set (brakeAt ↑wBrakes_1_k + 10) * 10 ^ 6 - setH wBrakes_4_s.m.isl.set (brakeAt ↑wBrakes_1_k + 4) * 10 ^ 6 else 0) ≤ wBrakes_4_s.at_ wBrakes_1_t) ∧ (wBrakes_4_s.m.obj F.epSTATE (wBrakes_4_s.m.obj F.axFB_PORT (setB wBrakes_4_s.m.isl.set (brakeAt ↑wBrakes_1_k))) ≠ 2) ∧ (wBrakes_4_b.step = 4)) ∧
    (((wBrakes_5_s.m.brake ↑wBrakes_1_k).test = some wBrakes_5_b) ∧ ((wBrakes_5_b.start + 50000000 + (wBrakes_5_b.step - 2) * (setH wBrakes_5_s.m.isl.set (brakeAt ↑wBrakes_1_k + 4) * 10 ^ 6) + if wBrakes_5_b.step = 5 then setH wBrakes_5_s.m.isl.set (brakeAt ↑wBrakes_1_k + 10) * 10 ^ 6 - setH wBrakes_5_s.m.isl.set (brakeAt ↑wBrakes_1_k + 4) * 10 ^ 6 else 0) ≤ wBrakes_5_s.at_ wBrakes_1_t) ∧ (wBrakes_5_s.m.obj F.epSTATE (wBrakes_5_s.m.obj F.axFB_PORT (setB wBrakes_5_s.m.isl.set (brakeAt ↑wBrakes_1_k))) ≠ 2) ∧ (wBrakes_5_b.step = 5) ∧ (wBrakes_5_b.pos ≤ setH wBrakes_5_s.m.isl.set (brakeAt ↑wBrakes_1_k + 6)) ∧ (wBrakes_5_b.neg ≤ setH wBrakes_5_s.m.isl.set (brakeAt ↑wBrakes_1_k + 6))) ∧
    (Accepts brakeTestCard wBrakes_1_msg wBrakes_6_s wBrakes_1_is) ∧
    (((cmdOf wBrakes_1_msg wBrakes_6_s wBrakes_1_is).num 1 = 4 + ↑wBrakes_1_k) ∧ (isSys (cmdOf wBrakes_1_msg wBrakes_6_s wBrakes_1_is).owner = true) ∧ (setB wBrakes_6_s.m.isl.set (brakeAt ↑wBrakes_1_k) < 4) ∧ (wBrakes_6_s.m.obj F.axDRIVE (setB wBrakes_6_s.m.isl.set (brakeAt ↑wBrakes_1_k)) = 2) ∧ (wBrakes_6_s.m.obj F.axFB_PORT (setB wBrakes_6_s.m.isl.set (brakeAt ↑wBrakes_1_k)) < 8) ∧ ((wBrakes_6_s.m.brake ↑wBrakes_1_k).test = none) ∧ ((wBrakes_6_s.m.intake wBrakes_1_msg).cmdVel (setB wBrakes_6_s.m.isl.set (brakeAt ↑wBrakes_1_k)) = 0) ∧ ((wBrakes_6_s.m.ax (setB wBrakes_6_s.m.isl.set (brakeAt ↑wBrakes_1_k))).plan = []) ∧ (wBrakes_6_s.m.groupOf (setB wBrakes_6_s.m.isl.set (brakeAt ↑wBrakes_1_k)) = none) ∧ (wBrakes_6_s.m.axHeld (setB wBrakes_6_s.m.isl.set (brakeAt ↑wBrakes_1_k)) = false) ∧ (∀ (f : Nat), f ∈ fnsOn wBrakes_6_s.m.isl.set → bit ((fnNow wBrakes_6_s.m.isl.set f).lor (fnDelayed wBrakes_6_s.m.isl.set f)) (4 + ↑wBrakes_1_k) = true → wBrakes_6_s.m.obj F.sfSTATE f = 1)) :=
  ⟨by decide +kernel, by decide +kernel, by decide +kernel, by decide +kernel, by decide +kernel, by decide +kernel, accepts_of (by decide +kernel),
   by decide +kernel⟩

theorem witness_SafetySets :
    (Accepts safetyParamWriteCard wSafetySets_1_msg wSafetySets_1_s wSafetySets_1_is) ∧
    (Accepts slateConfirmCard wSafetySets_2_msg wSafetySets_2_s wSafetySets_2_is) ∧
    ((wSafetySets_2_s.m.sys.window = none) ∧ (wSafetySets_2_s.m.isl.staged = some wSafetySets_2_st) ∧ ((cmdOf wSafetySets_2_msg wSafetySets_2_s wSafetySets_2_is).num 1 = wSafetySets_2_s.m.obj F.islSTAGED_SLATE)) :=
  ⟨accepts_of (by decide +kernel), accepts_of (by decide +kernel), by decide +kernel⟩

theorem witness_StandinTakes_1 :
    ((wStandinTakes_1_s.m.paired = true) ∧ (wStandinTakes_1_s.m.mode = 3) ∧ ((wStandinTakes_1_s.m.upTo wStandinTakes_1_t).pairUp = true) ∧ (wStandinTakes_1_s.m.macPass 2 wStandinTakes_1_f.secured = true) ∧ (wStandinTakes_1_f.etherType = wStandinTakes_1_s.m.sys.pairType) ∧ (wStandinTakes_1_f.moduleId = wStandinTakes_1_s.m.obj F.modMODULE_ID) ∧ (wStandinTakes_1_f.part = wStandinTakes_1_p) ∧ (↑wStandinTakes_1_p ∈ wStandinTakes_1_s.m.redundants) ∧ (wStandinTakes_1_f.slice = false) ∧ (wStandinTakes_1_f.index = 0) ∧ (wStandinTakes_1_f.last = true) ∧ (wStandinTakes_1_f.crc = crc32c wStandinTakes_1_f.payload) ∧ (wStandinTakes_1_f.gen < 2 ^ 32) ∧ ((wStandinTakes_1_s.m.take ↑wStandinTakes_1_p).seen = true) ∧ ((wStandinTakes_1_f.gen + 2 ^ 32 - wStandinTakes_1_s.m.obj F.takeLAST_GEN ↑wStandinTakes_1_p) % 2 ^ 32 = 1) ∧ (wStandinTakes_1_f.migrate = false) ∧ (wStandinTakes_1_f.restart = false)) ∧
    ((wStandinTakes_1_s.m.paired = true) ∧ (wStandinTakes_1_s.m.mode = 3 ∧ wStandinTakes_1_s.m.obj F.powPOWER_STATE ≠ 2 ∧ ((List.find? (fun (q : Nat) => decide (wStandinTakes_1_s.m.pm.dryPart < q)) wStandinTakes_1_s.m.redundants).orElse fun (x : Unit) => wStandinTakes_1_s.m.redundants.head?) = some ↑wStandinTakes_1_p ∧ wStandinTakes_1_s.m.pm.dryAt + wStandinTakes_1_s.m.obj F.pairDRY_S * 10 ^ 9 ≤ wStandinTakes_1_s.at_ wStandinTakes_1_t)) ∧
    ((wStandinTakes_1_s.m.paired = true) ∧ (wStandinTakes_1_s.m.mode = 3) ∧ (wStandinTakes_1_s.m.pm.healthAt + 10 ^ 9 ≤ wStandinTakes_1_s.at_ wStandinTakes_1_t)) ∧
    ((wStandinTakes_1_s.m.paired = true) ∧ (wStandinTakes_1_s.m.sys.off = false) ∧ (wStandinTakes_1_s.m.mode = 3)) ∧
    ((wStandinTakes_1_s.m.paired = true) ∧ (wStandinTakes_1_s.m.sys.off = false)) :=
  ⟨by decide +kernel, by decide +kernel, by decide +kernel, by decide +kernel, by decide +kernel⟩

theorem witness_StandinTakes_2 :
    ((wStandinTakes_1_s.m.paired = true) ∧ (wStandinTakes_1_s.m.mode = 3) ∧ (wStandinTakes_1_s.m.pm.hubAt + 24 * 3600 * 10 ^ 9 ≤ wStandinTakes_1_s.at_ wStandinTakes_1_t)) ∧
    ((wStandinTakes_2_s.m.paired = true) ∧ (wStandinTakes_2_s.m.mode = 3) ∧ ((wStandinTakes_2_s.m.upTo wStandinTakes_1_t).pairUp = true) ∧ (wStandinTakes_2_s.m.macPass 2 wStandinTakes_1_f.secured = true) ∧ (wStandinTakes_1_f.etherType = wStandinTakes_2_s.m.sys.pairType) ∧ (wStandinTakes_1_f.moduleId = wStandinTakes_2_s.m.obj F.modMODULE_ID) ∧ (wStandinTakes_1_f.part = wStandinTakes_1_p) ∧ (↑wStandinTakes_1_p ∈ wStandinTakes_2_s.m.redundants) ∧ (wStandinTakes_1_f.slice = false) ∧ (wStandinTakes_1_f.index = 0) ∧ (wStandinTakes_1_f.last = true) ∧ (wStandinTakes_1_f.crc = crc32c wStandinTakes_1_f.payload) ∧ (wStandinTakes_1_f.gen < 2 ^ 32) ∧ ((wStandinTakes_2_s.m.take ↑wStandinTakes_1_p).seen = true) ∧ (2 ≤ (wStandinTakes_1_f.gen + 2 ^ 32 - wStandinTakes_2_s.m.obj F.takeLAST_GEN ↑wStandinTakes_1_p) % 2 ^ 32) ∧ ((wStandinTakes_1_f.gen + 2 ^ 32 - wStandinTakes_2_s.m.obj F.takeLAST_GEN ↑wStandinTakes_1_p) % 2 ^ 32 < 2 ^ 31)) ∧
    ((wStandinTakes_3_s.m.paired = true) ∧ (wStandinTakes_3_s.m.running = true) ∧ (wStandinTakes_3_s.m.obj F.partREDUNDANT (↑wStandinTakes_1_p : Nat) ≠ 0) ∧ (1000 ≤ (wStandinTakes_3_s.m.take ↑wStandinTakes_1_p).claps)) ∧
    ((wStandinTakes_4_s.m.paired = true) ∧ (wStandinTakes_4_s.m.sys.off = false) ∧ (wStandinTakes_4_s.m.obj F.cePARTITION (↑wStandinTakes_1_k : Nat) < 8) ∧ (wStandinTakes_4_s.m.obj F.partSTATE (wStandinTakes_4_s.m.obj F.cePARTITION ↑wStandinTakes_1_k) = 1) ∧ (wStandinTakes_4_e ∈ [(MemWord.bank true, 2), (MemWord.data, 3), (MemWord.frame, 1)])) :=
  ⟨by decide +kernel, by decide +kernel, by decide +kernel, by decide +kernel⟩

theorem witness_PartnerAndRoles_1 :
    ((wPartnerAndRoles_1_s.m.paired = true) ∧ (wPartnerAndRoles_1_s.m.obj F.pairEPOCH < 2 ^ 32) ∧ (wPartnerAndRoles_1_s.m.sys.off = false) ∧ (wPartnerAndRoles_1_h.etherType = wPartnerAndRoles_1_s.m.sys.pairType) ∧ ((wPartnerAndRoles_1_s.m.upTo wPartnerAndRoles_1_t).blockOut (32 + if true = true then ↑wPartnerAndRoles_1_h.port else 2) = false) ∧ (wPartnerAndRoles_1_s.m.macPass (if true = true then ↑wPartnerAndRoles_1_h.port else 2) wPartnerAndRoles_1_h.secured = true) ∧ ((wPartnerAndRoles_1_s.m.meets (wPartnerAndRoles_1_s.m.obj F.pairPARTNER_SERIAL) (({} : Peer).note wPartnerAndRoles_1_h) && bit wPartnerAndRoles_1_h.flags 1 != (wPartnerAndRoles_1_s.m.obj F.pairROLE_HOME == 1)) = true) ∧ (wPartnerAndRoles_1_h.epoch < 2 ^ 32)) ∧
    ((wPartnerAndRoles_1_s.m.paired = true) ∧ (wPartnerAndRoles_1_s.m.obj F.pairEPOCH < 2 ^ 32) ∧ (wPartnerAndRoles_1_s.m.pm.peer.clap + ((if true = true then wPartnerAndRoles_1_s.m.pm.peer.missNet else wPartnerAndRoles_1_s.m.pm.peer.missPair) + 1) * wPartnerAndRoles_1_s.m.hbPeriod + wPartnerAndRoles_1_s.m.obj F.timeTRANSIT_US * 1000 ≤ wPartnerAndRoles_1_s.at_ wPartnerAndRoles_1_t)) ∧
    ((wPartnerAndRoles_1_s.m.paired = true) ∧ (wPartnerAndRoles_1_s.m.obj F.pairEPOCH < 2 ^ 32) ∧ (wPartnerAndRoles_1_s.m.pm.takeover = none) ∧ (3 ≤ wPartnerAndRoles_1_s.m.pm.peer.missPair) ∧ (3 ≤ wPartnerAndRoles_1_s.m.pm.peer.missNet) ∧ (wPartnerAndRoles_1_s.m.pm.peer.clap + 3 * wPartnerAndRoles_1_s.m.hbPeriod + wPartnerAndRoles_1_s.m.obj F.timeTRANSIT_US * 1000 ≤ wPartnerAndRoles_1_s.at_ wPartnerAndRoles_1_t) ∧ (wPartnerAndRoles_1_s.m.pm.peer.role = some 1) ∧ (wPartnerAndRoles_1_s.m.mode = 3) ∧ (wPartnerAndRoles_1_s.m.pm.peer.slate = wPartnerAndRoles_1_s.m.obj F.islSLATE) ∧ (∀ (p : Nat), p ∈ wPartnerAndRoles_1_s.m.redundants → wPartnerAndRoles_1_s.m.partHolds p = true) ∧ ((wPartnerAndRoles_1_s.m.upTo wPartnerAndRoles_1_t).readyAtLoss = true)) ∧
    ((wPartnerAndRoles_2_s.m.paired = true) ∧ (wPartnerAndRoles_2_s.m.obj F.pairEPOCH < 2 ^ 32) ∧ (wPartnerAndRoles_2_s.m.sys.off = false) ∧ (wPartnerAndRoles_2_h.etherType = wPartnerAndRoles_2_s.m.sys.pairType) ∧ ((wPartnerAndRoles_2_s.m.upTo wPartnerAndRoles_1_t).blockOut (32 + if false = true then ↑wPartnerAndRoles_2_h.port else 2) = false) ∧ (wPartnerAndRoles_2_s.m.macPass (if false = true then ↑wPartnerAndRoles_2_h.port else 2) wPartnerAndRoles_2_h.secured = true) ∧ ((wPartnerAndRoles_2_s.m.meets (wPartnerAndRoles_2_s.m.obj F.pairPARTNER_SERIAL) (({} : Peer).note wPartnerAndRoles_2_h) && bit wPartnerAndRoles_2_h.flags 1 != (wPartnerAndRoles_2_s.m.obj F.pairROLE_HOME == 1)) = false)) ∧
    ((wPartnerAndRoles_2_s.m.paired = true) ∧ (wPartnerAndRoles_2_s.m.obj F.pairEPOCH < 2 ^ 32) ∧ (wPartnerAndRoles_2_s.m.pm.takeover = none) ∧ (3 ≤ wPartnerAndRoles_2_s.m.pm.peer.missPair) ∧ (3 ≤ wPartnerAndRoles_2_s.m.pm.peer.missNet) ∧ (wPartnerAndRoles_2_s.m.pm.peer.clap + 3 * wPartnerAndRoles_2_s.m.hbPeriod + wPartnerAndRoles_2_s.m.obj F.timeTRANSIT_US * 1000 ≤ wPartnerAndRoles_2_s.at_ wPartnerAndRoles_1_t) ∧ (wPartnerAndRoles_2_s.m.pm.peer.role.isSome = true) ∧ (wPartnerAndRoles_2_s.m.running = true) ∧ (wPartnerAndRoles_2_s.m.pm.switch = none)) :=
  ⟨by decide +kernel, by decide +kernel, by decide +kernel, by decide +kernel, by decide +kernel⟩

theorem witness_PartnerAndRoles_2 :
    ((wPartnerAndRoles_4_s.m.paired = true) ∧ (wPartnerAndRoles_4_s.m.obj F.pairEPOCH < 2 ^ 32) ∧ (wPartnerAndRoles_4_s.m.pm.takeover = some wPartnerAndRoles_4_k) ∧ (wPartnerAndRoles_4_k.restored = none) ∧ (wPartnerAndRoles_4_k.at_ + wPartnerAndRoles_4_s.m.restoreNs ≤ wPartnerAndRoles_4_s.at_ wPartnerAndRoles_1_t)) ∧
    ((wPartnerAndRoles_5_s.m.paired = true) ∧ (wPartnerAndRoles_5_s.m.obj F.pairEPOCH < 2 ^ 32) ∧ (wPartnerAndRoles_5_s.m.pm.takeover = some wPartnerAndRoles_5_k) ∧ (wPartnerAndRoles_5_k.restored = some wPartnerAndRoles_5_a) ∧ (wPartnerAndRoles_5_a + 1000000 ≤ wPartnerAndRoles_5_s.at_ wPartnerAndRoles_1_t)) ∧
    ((wPartnerAndRoles_6_s.m.paired = true) ∧ (wPartnerAndRoles_6_s.m.obj F.pairEPOCH < 2 ^ 32) ∧ (wPartnerAndRoles_6_s.m.sys.bringup = 8) ∧ (wPartnerAndRoles_6_s.m.pm.standin = none) ∧ (wPartnerAndRoles_6_s.m.sys.stepAt + 2 * 10 ^ 9 ≤ wPartnerAndRoles_6_s.at_ wPartnerAndRoles_1_t)) ∧
    ((wPartnerAndRoles_7_s.m.paired = true) ∧ (wPartnerAndRoles_7_s.m.obj F.pairEPOCH < 2 ^ 32) ∧ (wPartnerAndRoles_7_s.m.pm.aloneAt = some wPartnerAndRoles_7_a) ∧ (wPartnerAndRoles_7_s.m.mode = 3) ∧ (wPartnerAndRoles_7_a + wPartnerAndRoles_7_s.m.obj F.pairALONE_WAIT_S * 10 ^ 9 ≤ wPartnerAndRoles_7_s.at_ wPartnerAndRoles_1_t) ∧ (∀ (n : Nat), (n ∈ wPartnerAndRoles_7_s.m.placesOf fun (x : Nat) => true) → (wPartnerAndRoles_7_s.m.place n).missed ≠ 0 ∨ bit (wPartnerAndRoles_7_s.m.place n).flags 7 = true ∨ bit (wPartnerAndRoles_7_s.m.place n).flags 6 = true) ∧ (∀ (n : Nat), (n ∈ wPartnerAndRoles_7_s.m.nodesOfAny fun (x : Nat) => true) → (wPartnerAndRoles_7_s.m.node n).missed ≠ 0 ∨ bit (wPartnerAndRoles_7_s.m.node n).header 5 = true ∨ bit (wPartnerAndRoles_7_s.m.node n).header 4 = true)) ∧
    ((wPartnerAndRoles_8_s.m.paired = true) ∧ (wPartnerAndRoles_8_s.m.obj F.pairEPOCH < 2 ^ 32) ∧ (wPartnerAndRoles_8_s.m.pm.testing = true)) :=
  ⟨by decide +kernel, by decide +kernel, by decide +kernel, by decide +kernel, by decide +kernel⟩

theorem witness_PlannedSwitches_1 :
    ((wPlannedSwitches_1_s.m.pm.switch = some wPlannedSwitches_1_w) ∧ (wPlannedSwitches_1_w.at_ ≤ wPlannedSwitches_1_s.at_ wPlannedSwitches_1_t) ∧ (wPlannedSwitches_1_s.m.obj F.pairEPOCH < 2 ^ 32) ∧ (wPlannedSwitches_1_w.incoming = false) ∧ (wPlannedSwitches_1_s.m.running = true) ∧ (wPlannedSwitches_1_s.m.partnerReady = true)) ∧
    ((wPlannedSwitches_1_s.m.pm.switch = some wPlannedSwitches_1_w) ∧ (wPlannedSwitches_1_w.at_ ≤ wPlannedSwitches_1_s.at_ wPlannedSwitches_1_t) ∧ (wPlannedSwitches_1_s.m.obj F.pairEPOCH < 2 ^ 32) ∧ (wPlannedSwitches_1_w.incoming = false) ∧ (wPlannedSwitches_1_s.m.running = true) ∧ (wPlannedSwitches_1_s.m.partnerReady = true) ∧ (wPlannedSwitches_1_w.start + wPlannedSwitches_1_w.maxMs * 10 ^ 6 ≤ wPlannedSwitches_1_s.at_ wPlannedSwitches_1_t)) ∧
    ((wPlannedSwitches_1_s.m.paired = true) ∧ ((wPlannedSwitches_1_s.m.upTo wPlannedSwitches_1_t).pairUp = true) ∧ (wPlannedSwitches_1_s.m.running = true)) ∧
    ((wPlannedSwitches_1_s.m.paired = true) ∧ ((wPlannedSwitches_1_s.m.upTo wPlannedSwitches_1_t).pairUp = true)) ∧
    ((wPlannedSwitches_2_s.m.pm.switch = some wPlannedSwitches_2_w) ∧ (wPlannedSwitches_2_w.at_ ≤ wPlannedSwitches_2_s.at_ wPlannedSwitches_1_t) ∧ (wPlannedSwitches_2_s.m.obj F.pairEPOCH < 2 ^ 32) ∧ (wPlannedSwitches_2_w.incoming = true) ∧ (wPlannedSwitches_2_s.m.mode = 3)) ∧
    ((wPlannedSwitches_2_s.m.pm.switch = some wPlannedSwitches_2_w) ∧ (wPlannedSwitches_2_w.at_ ≤ wPlannedSwitches_2_s.at_ wPlannedSwitches_1_t) ∧ (wPlannedSwitches_2_s.m.obj F.pairEPOCH < 2 ^ 32) ∧ (wPlannedSwitches_2_w.incoming = true) ∧ (wPlannedSwitches_2_s.m.mode = 3) ∧ (wPlannedSwitches_2_w.start + wPlannedSwitches_2_w.maxMs * 10 ^ 6 ≤ wPlannedSwitches_2_s.at_ wPlannedSwitches_1_t)) ∧
    ((wPlannedSwitches_2_s.m.paired = true) ∧ ((wPlannedSwitches_2_s.m.upTo wPlannedSwitches_1_t).pairUp = true) ∧ (wPlannedSwitches_2_s.m.mode = 3)) :=
  ⟨by decide +kernel, by decide +kernel, by decide +kernel, by decide +kernel, by decide +kernel, by decide +kernel, by decide +kernel⟩

theorem witness_PlannedSwitches_2 :
    ((wPlannedSwitches_3_s.m.mode = 3) ∧ (wPlannedSwitches_3_s.m.obj F.pairREVERTIVE ≠ 0) ∧ (wPlannedSwitches_3_s.m.cleanNow = true) ∧ (wPlannedSwitches_3_s.m.pm.cleanAt = some wPlannedSwitches_3_a) ∧ (wPlannedSwitches_3_a + wPlannedSwitches_3_s.m.obj F.pairCLEAN_S * 10 ^ 9 ≤ wPlannedSwitches_3_s.at_ wPlannedSwitches_1_t) ∧ (wPlannedSwitches_3_s.m.pm.switch = none)) ∧
    (Accepts pairSetCard wPlannedSwitches_4_msg wPlannedSwitches_4_s wPlannedSwitches_4_is) ∧
    ((wPlannedSwitches_4_s.m.obj F.secLIFECYCLE = 2) ∧ ((cmdOf wPlannedSwitches_4_msg wPlannedSwitches_4_s wPlannedSwitches_4_is).num 1 ≤ 2) ∧ ((cmdOf wPlannedSwitches_4_msg wPlannedSwitches_4_s wPlannedSwitches_4_is).num 1 ≠ 0 → (wPlannedSwitches_4_s.m.intake wPlannedSwitches_4_msg).hearsPair = false ∨ wPlannedSwitches_4_s.m.meets ((cmdOf wPlannedSwitches_4_msg wPlannedSwitches_4_s wPlannedSwitches_4_is).num 2) wPlannedSwitches_4_s.m.pm.peer = true)) ∧
    (Accepts switchoverCard wPlannedSwitches_6_msg wPlannedSwitches_6_s wPlannedSwitches_6_is) ∧ ((wPlannedSwitches_6_s.m.switchRefused = none)) ∧
    ((wPlannedSwitches_6_s.m.paired = true) ∧ ((wPlannedSwitches_6_s.m.upTo wPlannedSwitches_1_t).pairUp = true) ∧ (wPlannedSwitches_6_s.m.running = true) ∧ (wPlannedSwitches_6_s.m.obj F.pairROLE_HOME = 2) ∧ (wPlannedSwitches_6_s.m.switchRefused = none)) ∧
    (Accepts handbackCard wPlannedSwitches_7_msg wPlannedSwitches_6_s wPlannedSwitches_7_is) :=
  ⟨by decide +kernel, accepts_of (by decide +kernel), by decide +kernel, accepts_of (by decide +kernel), by decide +kernel, by decide +kernel,
   accepts_of (by decide +kernel)⟩

theorem witness_PlannedSwitches_3 :
    ((wPlannedSwitches_6_s.m.obj F.pairROLE_HOME = 2) ∧ (wPlannedSwitches_6_s.m.switchRefused = none) ∧ ((cmdOf wPlannedSwitches_7_msg wPlannedSwitches_6_s wPlannedSwitches_7_is).num 2 ≠ 0 ∨ ∃ (a : Nat), wPlannedSwitches_6_s.m.pm.cleanAt = some a ∧ a + wPlannedSwitches_6_s.m.obj F.pairCLEAN_S * 10 ^ 9 ≤ wPlannedSwitches_6_s.at_ wPlannedSwitches_7_msg.t)) ∧
    (Accepts fullTakeCard wPlannedSwitches_8_msg wPlannedSwitches_6_s wPlannedSwitches_8_is) ∧
    ((wPlannedSwitches_6_s.m.heard = true) ∧ (wPlannedSwitches_6_s.m.pm.peer.role = some 2) ∧ ((cmdOf wPlannedSwitches_8_msg wPlannedSwitches_6_s wPlannedSwitches_8_is).num 1 = 255 ∨ (cmdOf wPlannedSwitches_8_msg wPlannedSwitches_6_s wPlannedSwitches_8_is).num 1 ∈ wPlannedSwitches_6_s.m.redundants)) ∧
    ((wPlannedSwitches_11_s.m.paired = true) ∧ ((wPlannedSwitches_11_s.m.upTo wPlannedSwitches_1_t).pairUp = true) ∧ (wPlannedSwitches_11_s.m.sys.changeAsk = some (pkg0, wPlannedSwitches_11_q)) ∧ (true = false ∨ wPlannedSwitches_11_id ≠ pkg0.programId)) ∧
    ((wPlannedSwitches_11_s.m.paired = true) ∧ ((wPlannedSwitches_11_s.m.upTo wPlannedSwitches_1_t).pairUp = true) ∧ (wPlannedSwitches_11_s.m.sys.changeAsk = some (pkg0, wPlannedSwitches_11_q)) ∧ (wPlannedSwitches_11_s.m.cfg = some pkg0)) :=
  ⟨by decide +kernel, accepts_of (by decide +kernel), by decide +kernel, by decide +kernel, by decide +kernel⟩

theorem witness_RecorderCommands_1 :
    ((wRecorderCommands_1_s.m.recd.rushes = wRecorderCommands_1_x :: wRecorderCommands_1_rest) ∧ (wRecorderCommands_1_x.cls = 1 ∨ wRecorderCommands_1_x.cls = 2) ∧ (wRecorderCommands_1_s.m.recd.staging.length < 65536)) ∧
    ((wRecorderCommands_1_s.m.obj F.recSTATE ≠ 1) ∧ (wRecorderCommands_1_s.m.obj F.recSPARE_BLOCKS ≠ 0) ∧ (wRecorderCommands_1_s.m.obj F.recSPARE_BLOCKS < 2 ^ 32)) ∧
    ((wRecorderCommands_1_s.m.obj F.recSTATE ≠ 1) ∧ (wRecorderCommands_1_s.m.obj F.recSTATE = 0)) ∧
    (Accepts openWindowCard wRecorderCommands_1_msg wRecorderCommands_1_s wRecorderCommands_1_is) ∧
    (((if (cmdOf wRecorderCommands_1_msg wRecorderCommands_1_s wRecorderCommands_1_is).has 4 = true then (cmdOf wRecorderCommands_1_msg wRecorderCommands_1_s wRecorderCommands_1_is).num 4 else reachMask (cmdOf wRecorderCommands_1_msg wRecorderCommands_1_s wRecorderCommands_1_is).owner) &&& reachMask (cmdOf wRecorderCommands_1_msg wRecorderCommands_1_s wRecorderCommands_1_is).owner = if (cmdOf wRecorderCommands_1_msg wRecorderCommands_1_s wRecorderCommands_1_is).has 4 = true then (cmdOf wRecorderCommands_1_msg wRecorderCommands_1_s wRecorderCommands_1_is).num 4 else reachMask (cmdOf wRecorderCommands_1_msg wRecorderCommands_1_s wRecorderCommands_1_is).owner) ∧ ((cmdOf wRecorderCommands_1_msg wRecorderCommands_1_s wRecorderCommands_1_is).num 2 ≤ wRecorderCommands_1_s.m.obj (nextFld ((cmdOf wRecorderCommands_1_msg wRecorderCommands_1_s wRecorderCommands_1_is).num 1)) ∨ (cmdOf wRecorderCommands_1_msg wRecorderCommands_1_s wRecorderCommands_1_is).num 2 = 2 ^ 64 - 1) ∧ (List.find? (fun (h : Nat) => !wRecorderCommands_1_s.m.recd.wins.any fun (w : Nat × Win) => w.fst == h) (List.range 8) = some wRecorderCommands_1_h)) :=
  ⟨by decide +kernel, by decide +kernel, by decide +kernel, accepts_of (by decide +kernel), by decide +kernel⟩

theorem witness_RecorderCommands_2 :
    (((List.take 256 (List.filter (fun (e : Nat × Nat × List Nat) => e.fst == ↑wRecorderCommands_1_cls + 1) wRecorderCommands_2_s.m.recd.staging)).length = 256) ∧ (wRecorderCommands_2_s.m.obj F.recSTATE ≠ 1)) ∧
    (Accepts readWindowCard wRecorderCommands_3_msg wRecorderCommands_3_s wRecorderCommands_3_is) ∧
    ((List.find? (fun (w : Nat × Win) => w.fst == (cmdOf wRecorderCommands_3_msg wRecorderCommands_3_s wRecorderCommands_3_is).num 1 && w.snd.queue == wRecorderCommands_3_msg.queue) wRecorderCommands_3_s.m.recd.wins = some wRecorderCommands_3_w)) ∧
    (Accepts closeWindowCard wRecorderCommands_4_msg wRecorderCommands_3_s wRecorderCommands_4_is) :=
  ⟨by decide +kernel, accepts_of (by decide +kernel), by decide +kernel, accepts_of (by decide +kernel)⟩

theorem witness_ResetSources_1 :
    ((wResetSources_1_s.m.sys.off = true)) ∧ ((wResetSources_2_s.m.sys.off = false)) ∧
    ((wResetSources_2_s.m.sys.off = false) ∧ (wResetSources_2_s.m.obj F.powPOWER_STATE ≠ 1) ∧ (50000 ≤ wResetSources_1_low ∨ 10000 ≤ wResetSources_1_low ∧ false = true)) ∧
    ((wResetSources_2_s.m.sys.off = false) ∧ (wResetSources_2_s.m.sys.bringup = 0 ∨ 5 ≤ wResetSources_2_s.m.sys.bringup) ∧ (wResetSources_2_s.m.sys.wdAt = none)) ∧
    ((wResetSources_2_s.m.sys.off = false) ∧ (wResetSources_4_low < 10000)) ∧
    ((wResetSources_5_s.m.sys.off = false) ∧ (wResetSources_5_s.m.sys.bringup = 0 ∨ 5 ≤ wResetSources_5_s.m.sys.bringup) ∧ (wResetSources_5_s.m.sys.wdAt = some wResetSources_5_a) ∧ (wResetSources_5_s.at_ wResetSources_1_t ≤ wResetSources_5_a + 60 * 10 ^ 9)) :=
  ⟨by decide +kernel, by decide +kernel, by decide +kernel, by decide +kernel, by decide +kernel, by decide +kernel⟩

theorem witness_ResetSources_2 :
    ((wResetSources_6_s.m.sys.restarting = some wResetSources_6_a)) ∧
    ((wResetSources_6_s.m.sys.restarting = some wResetSources_6_a) ∧ (wResetSources_6_a + 3 * 10 ^ 9 ≤ wResetSources_6_s.at_ wResetSources_1_t)) ∧
    ((wResetSources_7_s.m.sys.resetDue = some (wResetSources_7_due, wResetSources_7_cause)) ∧ (wResetSources_7_due ≤ wResetSources_7_s.at_ wResetSources_1_t) ∧ (wResetSources_7_cause < 256) ∧ (wResetSources_7_s.m.sys.lifeNext = none)) ∧
    ((wResetSources_8_s.m.sys.resetDue = some (wResetSources_7_due, wResetSources_7_cause)) ∧ (wResetSources_7_due ≤ wResetSources_8_s.at_ wResetSources_1_t) ∧ (wResetSources_7_cause < 256) ∧ (wResetSources_8_s.m.sys.lifeNext = some wResetSources_8_l) ∧ (wResetSources_8_l < 4)) ∧
    ((wResetSources_9_s.m.obj F.secDEBUG_LEVEL = 2) ∧ (wResetSources_9_s.m.mode = 5)) :=
  ⟨by decide +kernel, by decide +kernel, by decide +kernel, by decide +kernel, by decide +kernel⟩

theorem witness_BringUpSteps :
    ((wBringUpSteps_1_s.m.sys.off = false) ∧ (wBringUpSteps_1_s.m.sys.bootFailed = false) ∧ (wBringUpSteps_1_s.m.sys.bringup = wBringUpSteps_1_k) ∧ (1 ≤ wBringUpSteps_1_k) ∧ (wBringUpSteps_1_k ≤ 7) ∧ (wBringUpSteps_1_k = 1 → wBringUpSteps_1_b.ok = true ∧ wBringUpSteps_1_s.m.sys.stepAt + 10 ^ 7 ≤ wBringUpSteps_1_s.at_ wBringUpSteps_1_t) ∧ (wBringUpSteps_1_k = 2 → (wBringUpSteps_1_s.m.upTo wBringUpSteps_1_t).precharged = true) ∧ (wBringUpSteps_1_k = 4 → wBringUpSteps_1_b.bootFail = false) ∧ (wBringUpSteps_1_k = 6 → wBringUpSteps_1_s.m.timeState = 1 ∨ (wBringUpSteps_1_s.m.upTo wBringUpSteps_1_t).acqOver = true) ∧ (wBringUpSteps_1_k = 7 → (wBringUpSteps_1_s.m.upTo wBringUpSteps_1_t).discovered = true)) ∧
    ((wBringUpSteps_4_s.m.sys.off = false) ∧ (wBringUpSteps_4_s.m.sys.bringup = 6) ∧ (wBringUpSteps_4_s.m.sys.stepAt + wBringUpSteps_4_s.m.obj F.timeACQ_TIMEOUT * 10 ^ 9 ≤ wBringUpSteps_4_s.at_ wBringUpSteps_1_t)) ∧
    ((wBringUpSteps_5_s.m.sys.off = false) ∧ (wBringUpSteps_5_s.m.sys.bootFailed = false) ∧ (wBringUpSteps_5_s.m.sys.bringup = 4) ∧ (wBringUpSteps_5_b.bootFail = true)) ∧
    ((wBringUpSteps_6_s.m.sys.off = false) ∧ (wBringUpSteps_6_s.m.sys.bootFailed = false) ∧ (wBringUpSteps_6_s.m.sys.bringup = 8) ∧ (wBringUpSteps_6_s.m.paired = false ∨ wBringUpSteps_6_s.m.pm.standin.isSome = true)) ∧
    ((wBringUpSteps_7_s.m.sys.off = false) ∧ (wBringUpSteps_7_s.m.mode ≠ 255) ∧ (wBringUpSteps_7_s.m.mode ≠ 4)) :=
  ⟨by decide +kernel, by decide +kernel, by decide +kernel, by decide +kernel, by decide +kernel⟩

theorem witness_CertificatesAndLinks_1 :
    (Accepts certGetCard wCertificatesAndLinks_1_msg wCertificatesAndLinks_1_s wCertificatesAndLinks_1_is) ∧
    (((cmdOf wCertificatesAndLinks_1_msg wCertificatesAndLinks_1_s wCertificatesAndLinks_1_is).num 1 = 0)) ∧
    (Accepts certGetCard wCertificatesAndLinks_2_msg wCertificatesAndLinks_2_s wCertificatesAndLinks_2_is) ∧
    (((cmdOf wCertificatesAndLinks_2_msg wCertificatesAndLinks_2_s wCertificatesAndLinks_2_is).num 1 = 1) ∧ (wCertificatesAndLinks_2_s.m.sec.ownerCert ≠ [])) ∧
    ((wCertificatesAndLinks_2_s.m.obj F.psecMACSEC_MODE (↑wCertificatesAndLinks_1_port : Nat) ≠ 0) ∧ (wCertificatesAndLinks_2_cipher = 2 ∨ wCertificatesAndLinks_2_cipher = 1 ∧ wCertificatesAndLinks_1_port ≠ 2)) ∧
    ((wCertificatesAndLinks_2_s.m.obj F.psecMACSEC_MODE (↑wCertificatesAndLinks_1_port : Nat) ≠ 0)) ∧
    ((wCertificatesAndLinks_2_s.m.obj F.psecSTATE (↑wCertificatesAndLinks_1_port : Nat) = 2) ∧ (true = true ∨ alook 0 wCertificatesAndLinks_2_s.m.sec.sakAt ↑wCertificatesAndLinks_1_port + 24 * 3600 * 10 ^ 9 ≤ wCertificatesAndLinks_2_s.at_ wCertificatesAndLinks_1_t)) :=
  ⟨accepts_of (by decide +kernel), by decide +kernel, accepts_of (by decide +kernel), by decide +kernel, by decide +kernel, by decide +kernel,
   by decide +kernel⟩

theorem witness_CertificatesAndLinks_2 :
    (Accepts certGetCard wCertificatesAndLinks_3_msg wCertificatesAndLinks_2_s wCertificatesAndLinks_3_is) ∧
    (((cmdOf wCertificatesAndLinks_3_msg wCertificatesAndLinks_2_s wCertificatesAndLinks_3_is).num 1 = 2) ∧ (List.find? (fun (a : Nat × List Nat) => a.fst == (cmdOf wCertificatesAndLinks_3_msg wCertificatesAndLinks_2_s wCertificatesAndLinks_3_is).num 2) wCertificatesAndLinks_2_s.m.sec.anchors = some wCertificatesAndLinks_3_a)) ∧
    (Accepts certInstallCard wCertificatesAndLinks_5_msg wCertificatesAndLinks_5_s wCertificatesAndLinks_5_is) ∧
    ((wCertificatesAndLinks_5_s.m.sys.window = none) ∧ ((cmdOf wCertificatesAndLinks_5_msg wCertificatesAndLinks_5_s wCertificatesAndLinks_5_is).num 1 ≤ 1 → wCertificatesAndLinks_5_s.m.obj F.secLIFECYCLE = 2 → wCertificatesAndLinks_5_s.m.securityAnchors ≠ [(cmdOf wCertificatesAndLinks_5_msg wCertificatesAndLinks_5_s wCertificatesAndLinks_5_is).num 2])) ∧
    (Accepts lifecycleSetCard wCertificatesAndLinks_6_msg wCertificatesAndLinks_5_s wCertificatesAndLinks_6_is) ∧
    ((wCertificatesAndLinks_5_s.m.obj F.powPOWER_STATE ≠ 1) ∧ (wCertificatesAndLinks_5_s.m.sys.window = none) ∧ (lifeStep (wCertificatesAndLinks_5_s.m.obj F.secLIFECYCLE) ((cmdOf wCertificatesAndLinks_6_msg wCertificatesAndLinks_5_s wCertificatesAndLinks_6_is).num 1) = some wCertificatesAndLinks_6_a) ∧ ((cmdOf wCertificatesAndLinks_6_msg wCertificatesAndLinks_5_s wCertificatesAndLinks_6_is).num 1 = 2 → wCertificatesAndLinks_5_s.m.securityAnchors ≠ [])) :=
  ⟨accepts_of (by decide +kernel), by decide +kernel, accepts_of (by decide +kernel), by decide +kernel, accepts_of (by decide +kernel),
   by decide +kernel⟩

theorem witness_DebugAccess_1 :
    (Accepts debugAuthCard wDebugAccess_1_msg wDebugAccess_1_s wDebugAccess_1_is) ∧
    (((∀ (e : Nat), wDebugAccess_1_s.m.sec.blocked = some e → e ≤ wDebugAccess_1_s.at_ wDebugAccess_1_msg.t) ∧ 2 ≤ (wDebugAccess_1_s.m.conn ↑wDebugAccess_1_msg.conn).port ∧ wDebugAccess_1_s.m.obj F.powPOWER_STATE = 0 ∧ (cmdOf wDebugAccess_1_msg wDebugAccess_1_s wDebugAccess_1_is).num 2 ≤ debugMax (wDebugAccess_1_s.m.obj F.secLIFECYCLE) wDebugAccess_1_s.m.mode) ∧ ((cmdOf wDebugAccess_1_msg wDebugAccess_1_s wDebugAccess_1_is).num 1 = 0)) ∧
    (Accepts debugAuthCard wDebugAccess_2_msg wDebugAccess_2_s wDebugAccess_2_is) ∧
    (((∀ (e : Nat), wDebugAccess_2_s.m.sec.blocked = some e → e ≤ wDebugAccess_2_s.at_ wDebugAccess_2_msg.t) ∧ 2 ≤ (wDebugAccess_2_s.m.conn ↑wDebugAccess_2_msg.conn).port ∧ wDebugAccess_2_s.m.obj F.powPOWER_STATE = 0 ∧ (cmdOf wDebugAccess_2_msg wDebugAccess_2_s wDebugAccess_2_is).num 2 ≤ debugMax (wDebugAccess_2_s.m.obj F.secLIFECYCLE) wDebugAccess_2_s.m.mode) ∧ ((cmdOf wDebugAccess_2_msg wDebugAccess_2_s wDebugAccess_2_is).num 1 = 1) ∧ (wDebugAccess_2_s.m.sec.nonce = some (wDebugAccess_2_n, wDebugAccess_2_a)) ∧ (wDebugAccess_2_s.at_ wDebugAccess_2_msg.t ≤ wDebugAccess_2_a + 60 * 10 ^ 9) ∧ (((cmdOf wDebugAccess_2_msg wDebugAccess_2_s wDebugAccess_2_is).all 3).length ≤ 4) ∧ ((cmdOf wDebugAccess_2_msg wDebugAccess_2_s wDebugAccess_2_is).num 2 = 1)) ∧
    (Accepts debugAuthCard wDebugAccess_3_msg wDebugAccess_2_s wDebugAccess_3_is) ∧
    (((∀ (e : Nat), wDebugAccess_2_s.m.sec.blocked = some e → e ≤ wDebugAccess_2_s.at_ wDebugAccess_3_msg.t) ∧ 2 ≤ (wDebugAccess_2_s.m.conn ↑wDebugAccess_3_msg.conn).port ∧ wDebugAccess_2_s.m.obj F.powPOWER_STATE = 0 ∧ (cmdOf wDebugAccess_3_msg wDebugAccess_2_s wDebugAccess_3_is).num 2 ≤ debugMax (wDebugAccess_2_s.m.obj F.secLIFECYCLE) wDebugAccess_2_s.m.mode) ∧ ((cmdOf wDebugAccess_3_msg wDebugAccess_2_s wDebugAccess_3_is).num 1 = 1) ∧ (wDebugAccess_2_s.m.sec.nonce = some (wDebugAccess_2_n, wDebugAccess_2_a)) ∧ (wDebugAccess_2_s.at_ wDebugAccess_3_msg.t ≤ wDebugAccess_2_a + 60 * 10 ^ 9) ∧ (((cmdOf wDebugAccess_3_msg wDebugAccess_2_s wDebugAccess_3_is).all 3).length ≤ 4) ∧ ((cmdOf wDebugAccess_3_msg wDebugAccess_2_s wDebugAccess_3_is).num 2 = 2) ∧ (wDebugAccess_2_s.m.sys.window = none)) ∧
    (Accepts debugCloseCard wDebugAccess_4_msg wDebugAccess_4_s wDebugAccess_4_is) :=
  ⟨accepts_of (by decide +kernel), by decide +kernel, accepts_of (by decide +kernel), by decide +kernel, accepts_of (by decide +kernel),
   by decide +kernel, accepts_of (by decide +kernel)⟩

theorem witness_DebugAccess_2 :
    ((wDebugAccess_4_s.m.sec.leaseEnd = some wDebugAccess_4_e) ∧ (wDebugAccess_4_e ≤ wDebugAccess_4_s.at_ wDebugAccess_1_t) ∧ (wDebugAccess_4_s.m.obj F.secDEBUG_LEVEL ≠ 0)) ∧
    ((wDebugAccess_4_s.m.sec.blocked = some wDebugAccess_4_e) ∧ (wDebugAccess_4_e ≤ wDebugAccess_4_s.at_ wDebugAccess_1_t)) ∧
    ((wDebugAccess_4_s.m.obj F.secDEBUG_LEVEL = 2) ∧ (wDebugAccess_4_sp = 0 ∨ wDebugAccess_4_sp = 2 ∨ wDebugAccess_4_sp = 1 ∧ wDebugAccess_4_a < 2 ^ 24)) ∧
    ((wDebugAccess_4_s.m.obj F.secDEBUG_LEVEL = 2) ∧ (wDebugAccess_4_a < 48 * 2 ^ 20)) ∧
    ((wDebugAccess_4_s.m.obj F.secDEBUG_LEVEL = 2) ∧ (wDebugAccess_4_a < 2 ^ 20)) ∧
    ((wDebugAccess_4_s.m.obj F.secDEBUG_LEVEL = 2) ∧ (wDebugAccess_4_a < 2 ^ 16)) :=
  ⟨by decide +kernel, by decide +kernel, by decide +kernel, by decide +kernel, by decide +kernel, by decide +kernel⟩

theorem witness_PowerDown_1 :
    ((wPowerDown_1_s.m.sys.off = false) ∧ (wPowerDown_1_s.m.sys.mains = true) ∧ (wPowerDown_1_s.m.svc.cartIn = true) ∧ (wPowerDown_1_s.m.svc.cartFault = false)) ∧
    ((wPowerDown_2_s.m.sys.off = false) ∧ (wPowerDown_2_s.m.obj F.powPOWER_STATE = 1) ∧ (wPowerDown_2_s.m.sys.wrap = none)) ∧
    ((wPowerDown_2_s.m.sys.off = false) ∧ (wPowerDown_2_s.m.obj F.powPOWER_STATE = 1) ∧ (wPowerDown_2_s.m.sys.wrap = none) ∧ (wPowerDown_2_s.m.sys.lostAt = some wPowerDown_2_a) ∧ (wPowerDown_2_a + wPowerDown_2_s.m.obj F.powRIDE_MS * 10 ^ 6 ≤ wPowerDown_2_s.at_ wPowerDown_1_t)) ∧
    ((wPowerDown_3_s.m.sys.off = false) ∧ (wPowerDown_3_s.m.sys.wrap.isSome = true)) ∧
    ((wPowerDown_3_s.m.sys.off = false) ∧ (wPowerDown_3_s.m.sys.wrap = some wPowerDown_3_w) ∧ (wPowerDown_3_w.due ≤ wPowerDown_3_s.at_ wPowerDown_1_t) ∧ (wPowerDown_3_w.step = 1)) :=
  ⟨by decide +kernel, by decide +kernel, by decide +kernel, by decide +kernel, by decide +kernel⟩

theorem witness_PowerDown_2 :
    ((wPowerDown_4_s.m.sys.off = false) ∧ (wPowerDown_4_s.m.sys.wrap = some wPowerDown_4_w) ∧ (wPowerDown_4_w.due ≤ wPowerDown_4_s.at_ wPowerDown_1_t) ∧ (wPowerDown_4_w.step = 2)) ∧
    ((wPowerDown_5_s.m.sys.off = false) ∧ (wPowerDown_5_s.m.sys.wrap = some wPowerDown_5_w) ∧ (wPowerDown_5_w.due ≤ wPowerDown_5_s.at_ wPowerDown_1_t) ∧ (wPowerDown_5_w.step = 3)) ∧
    ((wPowerDown_6_s.m.sys.off = false) ∧ (wPowerDown_6_s.m.sys.wrap = some wPowerDown_6_w) ∧ (wPowerDown_6_w.due ≤ wPowerDown_6_s.at_ wPowerDown_1_t) ∧ (wPowerDown_6_w.step = 4) ∧ (wPowerDown_6_s.m.sys.mains = false)) ∧
    ((wPowerDown_7_s.m.sys.off = false) ∧ (wPowerDown_7_s.m.sys.wrap = some wPowerDown_6_w) ∧ (wPowerDown_6_w.due ≤ wPowerDown_7_s.at_ wPowerDown_1_t) ∧ (wPowerDown_6_w.step = 4) ∧ (wPowerDown_7_s.m.sys.mains = true)) ∧
    ((wPowerDown_8_s.m.sys.off = false) ∧ (wPowerDown_8_s.m.mode = 3) ∧ (wPowerDown_8_s.m.sys.standSince = some wPowerDown_2_a) ∧ (wPowerDown_2_a + 10 * 10 ^ 9 ≤ wPowerDown_8_s.at_ wPowerDown_1_t) ∧ (wPowerDown_8_s.m.obj F.pairLOW_OK ≠ 0) ∧ (wPowerDown_8_s.m.sys.mains = true) ∧ (wPowerDown_8_s.m.obj F.gaugePF_STATE = 0) ∧ (wPowerDown_8_s.m.obj F.secDEBUG_LEVEL = 0) ∧ (wPowerDown_8_s.m.obj F.powPOWER_STATE = 0)) :=
  ⟨by decide +kernel, by decide +kernel, by decide +kernel, by decide +kernel, by decide +kernel⟩

theorem witness_FirmwareUpdates_1 :
    (Accepts updateBeginCard wFirmwareUpdates_1_msg wFirmwareUpdates_1_s wFirmwareUpdates_1_is) ∧
    ((wFirmwareUpdates_1_s.m.svc.update = none) ∧ ((cmdOf wFirmwareUpdates_1_msg wFirmwareUpdates_1_s wFirmwareUpdates_1_is).num 1 = 4 ∨ (cmdOf wFirmwareUpdates_1_msg wFirmwareUpdates_1_s wFirmwareUpdates_1_is).num 1 = 5 → wFirmwareUpdates_1_s.m.nodeUp ((cmdOf wFirmwareUpdates_1_msg wFirmwareUpdates_1_s wFirmwareUpdates_1_is).num 1) ((cmdOf wFirmwareUpdates_1_msg wFirmwareUpdates_1_s wFirmwareUpdates_1_is).num 2) = true) ∧ ((cmdOf wFirmwareUpdates_1_msg wFirmwareUpdates_1_s wFirmwareUpdates_1_is).num 1 = 6 → (wFirmwareUpdates_1_s.m.intake wFirmwareUpdates_1_msg).partnerGone = true)) ∧
    (Accepts updateDataCard wFirmwareUpdates_5_msg wFirmwareUpdates_5_s wFirmwareUpdates_5_is) ∧
    ((wFirmwareUpdates_5_s.m.svc.update = some wFirmwareUpdates_5_x) ∧ ((cmdOf wFirmwareUpdates_5_msg wFirmwareUpdates_5_s wFirmwareUpdates_5_is).num 1 = wFirmwareUpdates_5_x.data.length) ∧ (wFirmwareUpdates_5_x.data.length + ((cmdOf wFirmwareUpdates_5_msg wFirmwareUpdates_5_s wFirmwareUpdates_5_is).bytes 2).length ≤ wFirmwareUpdates_5_x.size)) ∧
    ((wFirmwareUpdates_5_s.m.svc.update = some wFirmwareUpdates_5_x) ∧ (wFirmwareUpdates_5_x.lastAt + 600 * 10 ^ 9 ≤ wFirmwareUpdates_5_s.at_ wFirmwareUpdates_1_t)) ∧
    ((wFirmwareUpdates_6_s.m.svc.update = some wFirmwareUpdates_6_x) ∧ (wFirmwareUpdates_6_x.verified = false) ∧ (wFirmwareUpdates_6_x.data.length = wFirmwareUpdates_6_x.size) ∧ (wFirmwareUpdates_6_v.ok = false)) ∧
    ((wFirmwareUpdates_7_s.m.svc.update = some wFirmwareUpdates_6_x) ∧ (wFirmwareUpdates_6_x.verified = false) ∧ (wFirmwareUpdates_6_x.data.length = wFirmwareUpdates_6_x.size) ∧ (wFirmwareUpdates_7_v.ok = true) ∧ (wFirmwareUpdates_6_x.target ≤ 3) ∧ (wFirmwareUpdates_7_s.m.floorOf wFirmwareUpdates_6_x.target ≤ wFirmwareUpdates_7_v.version)) :=
  ⟨accepts_of (by decide +kernel), by decide +kernel, accepts_of (by decide +kernel), by decide +kernel, by decide +kernel, by decide +kernel,
   by decide +kernel⟩

theorem witness_FirmwareUpdates_2 :
    ((wFirmwareUpdates_8_s.m.svc.update = some wFirmwareUpdates_6_x) ∧ (wFirmwareUpdates_6_x.verified = false) ∧ (wFirmwareUpdates_6_x.data.length = wFirmwareUpdates_6_x.size) ∧ (wFirmwareUpdates_7_v.ok = true) ∧ (wFirmwareUpdates_6_x.target ≤ 3) ∧ (wFirmwareUpdates_7_v.version < wFirmwareUpdates_8_s.m.floorOf wFirmwareUpdates_6_x.target)) ∧
    (Accepts updateActivateCard wFirmwareUpdates_9_msg wFirmwareUpdates_9_s wFirmwareUpdates_9_is) ∧
    ((wFirmwareUpdates_9_s.m.svc.update = some wFirmwareUpdates_9_x) ∧ (wFirmwareUpdates_9_s.m.obj F.powPOWER_STATE = 0) ∧ (wFirmwareUpdates_9_x.verified = true) ∧ (wFirmwareUpdates_9_s.m.svc.activation = none) ∧ (wFirmwareUpdates_9_s.m.activatePresence wFirmwareUpdates_9_x = true) ∧ (wFirmwareUpdates_9_s.m.sys.window = none)) ∧
    (Accepts updateActivateCard wFirmwareUpdates_10_msg wFirmwareUpdates_10_s wFirmwareUpdates_10_is) ∧
    ((wFirmwareUpdates_10_s.m.svc.update = some wFirmwareUpdates_10_x) ∧ (wFirmwareUpdates_10_s.m.obj F.powPOWER_STATE = 0) ∧ (wFirmwareUpdates_10_x.verified = true) ∧ (wFirmwareUpdates_10_s.m.svc.activation = none) ∧ (wFirmwareUpdates_10_s.m.activatePresence wFirmwareUpdates_10_x = false) ∧ (wFirmwareUpdates_10_x.target ≤ 3)) ∧
    ((wFirmwareUpdates_11_s.m.svc.activation = some wFirmwareUpdates_11_a) ∧ (4 ≤ wFirmwareUpdates_11_a.target) ∧ (wFirmwareUpdates_11_a.sent = true)) ∧
    ((wFirmwareUpdates_12_s.m.svc.trial = some wFirmwareUpdates_12_x) ∧ (wFirmwareUpdates_12_x.ends ≤ wFirmwareUpdates_12_s.at_ wFirmwareUpdates_1_t)) :=
  ⟨by decide +kernel, accepts_of (by decide +kernel), by decide +kernel, accepts_of (by decide +kernel), by decide +kernel, by decide +kernel,
   by decide +kernel⟩

theorem witness_ConfigurationLoads_1 :
    (Accepts loadBeginCard wConfigurationLoads_1_msg wConfigurationLoads_1_s wConfigurationLoads_1_is) ∧
    ((wConfigurationLoads_1_s.m.svc.load = none)) ∧
    (Accepts loadAbortCard wConfigurationLoads_2_msg wConfigurationLoads_2_s wConfigurationLoads_2_is) ∧
    ((wConfigurationLoads_2_s.m.svc.load = some (wConfigurationLoads_2_kind, wConfigurationLoads_2_size, wConfigurationLoads_2_data, wConfigurationLoads_2_q, wConfigurationLoads_2_a)) ∧ (wConfigurationLoads_2_a + 600 * 10 ^ 9 ≤ wConfigurationLoads_2_s.at_ wConfigurationLoads_1_t)) ∧
    (Accepts loadDataCard wConfigurationLoads_3_msg wConfigurationLoads_2_s wConfigurationLoads_3_is) :=
  ⟨accepts_of (by decide +kernel), by decide +kernel, accepts_of (by decide +kernel), by decide +kernel, accepts_of (by decide +kernel)⟩

theorem witness_ConfigurationLoads_2 :
    ((wConfigurationLoads_2_s.m.svc.load = some (wConfigurationLoads_2_kind, wConfigurationLoads_2_size, wConfigurationLoads_2_data, wConfigurationLoads_2_q, wConfigurationLoads_2_a)) ∧ ((cmdOf wConfigurationLoads_3_msg wConfigurationLoads_2_s wConfigurationLoads_3_is).num 1 = wConfigurationLoads_2_data.length) ∧ (wConfigurationLoads_2_data.length + ((cmdOf wConfigurationLoads_3_msg wConfigurationLoads_2_s wConfigurationLoads_3_is).bytes 2).length ≤ wConfigurationLoads_2_size)) ∧
    (Accepts loadCommitCard wConfigurationLoads_4_msg sLoad wConfigurationLoads_4_is) ∧
    ((sLoad.m.svc.load = some (wConfigurationLoads_2_kind, wConfigurationLoads_2_size, wConfigurationLoads_4_data, wConfigurationLoads_2_q, wConfigurationLoads_2_a)) ∧ (wConfigurationLoads_2_kind = 0) ∧ (wConfigurationLoads_2_size ≤ wConfigurationLoads_4_data.length)) ∧
    (Accepts changeCommitCard wConfigurationLoads_5_msg sChg wConfigurationLoads_5_is) ∧
    ((sChg.m.svc.load = some (wConfigurationLoads_5_kind, wConfigurationLoads_2_size, wConfigurationLoads_4_data, wConfigurationLoads_2_q, wConfigurationLoads_2_a)) ∧ (wConfigurationLoads_5_kind = 1) ∧ (wConfigurationLoads_2_size ≤ wConfigurationLoads_4_data.length) ∧ (sChg.m.cfg = some pkg0) ∧ (sChg.m.sys.change = none) ∧ (sChg.m.sys.changeAsk = none)) :=
  ⟨by decide +kernel, accepts_of (by decide +kernel), by decide +kernel, accepts_of (by decide +kernel), by decide +kernel⟩

theorem witness_CalibrationAndCartridge_1 :
    (Accepts calibrateCard wCalibrationAndCartridge_1_msg wCalibrationAndCartridge_1_s wCalibrationAndCartridge_1_is) ∧
    ((isSys (cmdOf wCalibrationAndCartridge_1_msg wCalibrationAndCartridge_1_s wCalibrationAndCartridge_1_is).owner = true) ∧ (wCalibrationAndCartridge_1_s.m.svc.calib = none)) ∧
    ((wCalibrationAndCartridge_1_s.m.svc.cartIn = true)) ∧
    ((wCalibrationAndCartridge_1_s.m.svc.cartIn = true) ∧ (wCalibrationAndCartridge_1_s.m.obj F.gaugeWRAP_MJ < 2 ^ 32) ∧ (wCalibrationAndCartridge_1_s.m.obj F.gaugeE_CC_MJ < 2 ^ 32) ∧ (wCalibrationAndCartridge_1_s.m.obj F.gaugeE_V_MJ < 2 ^ 32)) ∧
    ((wCalibrationAndCartridge_1_s.m.svc.cartIn = true) ∧ (wCalibrationAndCartridge_1_l.cc < 2 ^ 32) ∧ (wCalibrationAndCartridge_1_l.v < 2 ^ 32)) ∧
    ((wCalibrationAndCartridge_2_s.m.svc.calib = some (wCalibrationAndCartridge_2_kind, wCalibrationAndCartridge_2_unit, wCalibrationAndCartridge_2_q, wCalibrationAndCartridge_2_sq, wCalibrationAndCartridge_2_e)) ∧ (wCalibrationAndCartridge_2_offset.natAbs ≤ 500) ∧ (wCalibrationAndCartridge_2_gain.natAbs ≤ 10000)) :=
  ⟨accepts_of (by decide +kernel), by decide +kernel, by decide +kernel, by decide +kernel, by decide +kernel, by decide +kernel⟩

theorem witness_CalibrationAndCartridge_2 :
    (Accepts cartridgeReplaceCard wCalibrationAndCartridge_2_msg wCalibrationAndCartridge_2_s wCalibrationAndCartridge_2_is) ∧
    ((wCalibrationAndCartridge_2_s.m.obj F.powPOWER_STATE = 0) ∧ (wCalibrationAndCartridge_2_s.m.svc.cartWin = none)) ∧
    ((wCalibrationAndCartridge_2_s.m.svc.calib = some (wCalibrationAndCartridge_2_kind, wCalibrationAndCartridge_2_unit, wCalibrationAndCartridge_2_q, wCalibrationAndCartridge_2_sq, wCalibrationAndCartridge_2_e)) ∧ (500 < wCalibrationAndCartridge_3_offset.natAbs ∨ 10000 < wCalibrationAndCartridge_2_gain.natAbs)) ∧
    ((wCalibrationAndCartridge_5_s.m.svc.cartIn = false)) ∧
    ((wCalibrationAndCartridge_5_s.m.svc.cartWin = some (wCalibrationAndCartridge_5_w, wCalibrationAndCartridge_2_e)) ∧ (wCalibrationAndCartridge_2_e ≤ wCalibrationAndCartridge_5_s.at_ wCalibrationAndCartridge_1_t) ∧ (wCalibrationAndCartridge_5_s.m.svc.cartIn = false)) :=
  ⟨accepts_of (by decide +kernel), by decide +kernel, by decide +kernel, by decide +kernel, by decide +kernel⟩

/-- The set of the message below, as its non-zero bytes. -/
def setLit : Table Nat := [(0, 1), (4, 9), (12, 100), (14, 184), (15, 11), (16, 10), (32, 1), (34, 3), (36, 244), (37, 1), (38, 144), (39, 1), (40, 100), (288, 255), (304, 255), (320, 255), (336, 255), (386, 255), (387, 255), (388, 255), (389, 255), (390, 255), (391, 255), (392, 255), (393, 255), (394, 255), (395, 255), (396, 255), (397, 255), (398, 255), (399, 255), (400, 255), (403, 3), (404, 255), (405, 255), (406, 255), (407, 255), (408, 15), (412, 31)]

theorem setBs_read : setOf setBs = setLit := by decide +kernel

theorem witness_SafetySets_valid :
    wSafetySets_1_s.m.sys.window = none ∧ wSafetySets_1_s.m.setInvalid (setOf ((cmdOf wSafetySets_1_msg wSafetySets_1_s wSafetySets_1_is).bytes 1)) = [] ∧
    wSafetySets_1_s.m.setRefused (setOf ((cmdOf wSafetySets_1_msg wSafetySets_1_s wSafetySets_1_is).bytes 1)) = [] := by
  rw [show (cmdOf wSafetySets_1_msg wSafetySets_1_s wSafetySets_1_is).bytes 1 = setBs from rfl, setBs_read]
  decide +kernel

/-! ### Ill-formed commands -/

theorem test_form_pbit : Form.ok .pbit 0xFFFFFF#24 = true ∧ Instr.wellFormed (.ld 0 0xFFFFFF#24) = true := by decide
theorem test_form_pq : Instr.wellFormed (.ldq 0 3#24) = true ∧ Instr.wellFormed (.ldq 0 4#24) = false := by decide
theorem test_form_pword : Instr.wellFormed (.lw16 0 1#24) = false ∧ Instr.wellFormed (.lw32 0 0x10#24) = false ∧
    Instr.wellFormed (.lw64 0 0x20#24) = false ∧ Instr.wellFormed (.lw64 0 0x40#24) = true := by decide
theorem test_form_ibit : Instr.wellFormed (.ldi 0 0x800E00#24) = false ∧ Instr.wellFormed (.ldi 0 0x800DFF#24) = true := by decide
theorem test_form_iword : Instr.wellFormed (.li16 0 1#24) = false ∧ Instr.wellFormed (.li32 0 0x8001C0#24) = false ∧
    Instr.wellFormed (.li32 0 0x8001BC#24) = true := by decide
theorem test_form_shift : Instr.wellFormed (.shlk 0 64#24) = false ∧ Instr.wellFormed (.sync 0 63#24) = true := by decide
theorem test_form_jump : Instr.wellFormed (.jmp 0 0#24) = false ∧ Instr.wellFormed (.loop 0 0xFFF#24) = false := by decide
theorem test_form_none : Instr.wellFormed (.nop 0 1#24) = false ∧ Instr.wellFormed (.endTask 0 0#24) = true := by decide

theorem test_message_lengths : mPing.ok = true ∧ Msg.ok { mPing with size := 33 } = false ∧ Msg.ok { mPing with plen := 1, size := 33 } = false ∧
    Msg.ok { mPing with plen := 1401, size := 1433, params := List.replicate 1401 0 } = false ∧
    Msg.ok { mPing with plen := 1, size := 33, params := [256] } = false := by decide +kernel
theorem test_message_fields : Msg.ok { mPing with magic := 2 ^ 16 } = false ∧ Msg.ok { mPing with version := 256 } = false ∧
    Msg.ok { mPing with flags := 256 } = false ∧ Msg.ok { mPing with queue := 2 ^ 16 } = false ∧ Msg.ok { mPing with opcode := 2 ^ 16 } = false ∧
    Msg.ok { mPing with tag := 2 ^ 32 } = false ∧ Msg.ok { mPing with seq := 2 ^ 32 } = false ∧ Msg.ok { mPing with status := 2 ^ 16 } = false ∧
    Msg.ok { mPing with part := 256 } = false ∧ Msg.ok { mPing with resv := 2 ^ 24 } = false ∧
    Msg.ok { mPing with deadline := 2 ^ 64 } = false := by decide +kernel
/-- A publication frame of one entry. -/
def pubOne : PubFrame :=
  { port := 0, etherType := 0x88B5, version := 1, last := true, index := 0, resv := 0, moduleId := 1, partition := 0, startCount := 0,
    cycle := 0, validFrom := 0, listHash := 0, firstEntry := 0, entryCount := 1, values := [5], quality := [3], secured := false }
theorem test_publication_entries : pubOne.ok = true ∧ PubFrame.ok { pubOne with values := [] } = false ∧
    PubFrame.ok { pubOne with quality := [3, 3] } = false ∧ PubFrame.ok { pubOne with values := [2 ^ 16] } = false ∧
    PubFrame.ok { pubOne with quality := [4] } = false := by decide +kernel
theorem test_no_word_is_a_command : decodeTableWord 32 0x07010044 = none := rfl

/-! ### Single steps -/

/-- The state a command leaves, or the one before where it stops. -/
def after (i : Instr) (s : State) : State := match exec i s with | .next u => u | _ => s

/-- spec/04, worked example: after `IDX 0x010, 68` with door number 75, `SET 0x4CB00.0` is not performed and the partition enters FAULT. -/
theorem test_index_above_its_maximum : (after (.set ce0 0x4CB000#24) (rg (fun e => { e with acc := true, idx := some (75, 68) }))).m.obj F.partSTATE 0 = 3 := by
  decide +kernel
/-- spec/00, worked example: the 32-bit counter 0x00012C40 at point 0x10402 is slots 0x2C40 and 0x0001; R102: LW.32 reads them. -/
theorem test_counter_of_two_slots :
    ((after (.lw32 ce0 0x104020#24) (ramSt [.put .own 0x10402 0x80, .put .own 0x10403 0x80, .put .front 0x10402 0x2C40, .put .front 0x10403 1]
      (rg id [] (fun m => { m with cfg := some pkg0 })))).m.eng 0).wacc = 0x12C40#64 := by
  decide +kernel
/-- R109: −2^63 divided by −1 gives −2^63. -/
theorem test_division_overflow : ((after (.divk ce0 0xFFFFFF#24) rgA).m.eng 0).wacc = 0x8000000000000000#64 := by
  decide +kernel
/-- R109: a division or remainder by 0 leaves WACC at 0 and sets ACC to 0. -/
theorem test_division_by_zero : ((after (.divk ce0 0#24) rgM).m.eng 0).wacc = 0#64 ∧
    ((after (.modk ce0 0#24) rgM).m.eng 0).wacc = 0#64 ∧
    ((after (.modk ce0 0#24) rgM).m.eng 0).acc = false := by
  decide +kernel
/-- spec/14, worked example: a coulomb count of 0.4 J against a voltage estimate of 33.1 J leaves E_USED at 0.4 J. -/
theorem test_gauge_takes_the_lower : (after (.gaugeDisagree 2000 400 33100) (sto [])).m.obj F.gaugeE_USED_MJ = 400 := by
  decide +kernel

/-- R167, worked example: the 69 door records of Kestrel Road, 106,536 bytes, migrate in 18,646 ns. -/
theorem test_migration_time : tMig 106536 = 18646 := by decide

/-! ### Hypotheses of the frames and the step -/

theorem witness_StepKeepsMemoryForm : rgI.ramOk = true ∧ rgI.ram ≠ [] := by decide +kernel

theorem witness_UnitFrames_1 :
    (Part.loadEvent (.lcShort 2000 3) = true ∧ ∃ u, exec (.lcShort 2000 3) wRun = .next u) ∧
    (Part.portEvent (.epStandstill 2000 3) = true ∧ ∃ u, exec (.epStandstill 2000 3) wRun = .next u) ∧
    (Part.trunkEvent (.discoveryComplete 2000 1) = true ∧ ∃ u, exec (.discoveryComplete 2000 1) wRun = .next u) ∧
    (Part.segmentEvent (.busOffRecovery 2000 1) = true ∧ ∃ u, exec (.busOffRecovery 2000 1) wRun = .next u) ∧
    (Part.axisEvent (.moveDone 2000 1) = true ∧ ∃ u, exec (.moveDone 2000 1) wRun = .next u) ∧
    (Part.doorEvent (.doorTick 2000 []) = true ∧ ∃ u, exec (.doorTick 2000 []) wRun = .next u) ∧
    (Part.powerEvent (.gaugeDisagree 2000 400 33100) = true ∧ ∃ u, exec (.gaugeDisagree 2000 400 33100) wRun = .next u) ∧
    (Part.alarmEvent (.alarmDelayExpiry 2000 1) = true ∧ ∃ u, exec (.alarmDelayExpiry 2000 1) wRun = .next u) :=
  ⟨⟨rfl, _, rfl⟩, ⟨rfl, _, rfl⟩, ⟨rfl, _, rfl⟩, ⟨rfl, _, rfl⟩, ⟨rfl, _, rfl⟩, ⟨rfl, _, rfl⟩, ⟨rfl, _, rfl⟩, ⟨rfl, _, rfl⟩⟩

theorem witness_UnitFrames_2 :
    (Part.islandEvent (.discrepancy 2000 1) = true ∧ ∃ u, exec (.discrepancy 2000 1) wRun = .next u) ∧
    (Part.recorderEvent (.recordCommit 2000) = true ∧ ∃ u, exec (.recordCommit 2000) wRun = .next u) ∧
    (Part.timeEvent (.operatingSecond 2000) = true ∧ ∃ u, exec (.operatingSecond 2000) wRun = .next u) ∧
    (Part.cartridgeEvent (.cartridgeRemoved 2000) = true ∧ ∃ u, exec (.cartridgeRemoved 2000) wRun = .next u) ∧
    (Part.pairEvent (.partnerLost 2000) = true ∧ ∃ u, exec (.partnerLost 2000) wRun = .next u) ∧
    (Part.computingEvent (.barrierTimeout 2000 0 1) = true ∧ ∃ u, exec (.barrierTimeout 2000 0 1) wRun = .next u) ∧
    (Part.securityEvent (.authBlockExpiry 2000) = true ∧ ∃ u, exec (.authBlockExpiry 2000) wRun = .next u) ∧
    (Part.sessionEvent (.handshakeTimeout 2000 1) = true ∧ ∃ u, exec (.handshakeTimeout 2000 1) wRun = .next u) :=
  ⟨⟨rfl, _, rfl⟩, ⟨rfl, _, rfl⟩, ⟨rfl, _, rfl⟩, ⟨rfl, _, rfl⟩, ⟨rfl, _, rfl⟩, ⟨rfl, _, rfl⟩, ⟨rfl, _, rfl⟩, ⟨rfl, _, rfl⟩⟩

theorem witness_RequestFrames :
    (Part.readingRequest (.sessionPing mPing) = true ∧ ∃ u, exec (.sessionPing mPing) wRun = .next u) ∧
    (Part.sessionRequest (.sessionClose mPing) = true ∧ ∃ u, exec (.sessionClose mPing) wRun = .next u) ∧
    (Part.objectRequest (.setObject mPing) = true ∧ ∃ u, exec (.setObject mPing) wRun = .next u) ∧
    (Part.computingRequest (.partStart mPing) = true ∧ ∃ u, exec (.partStart mPing) wRun = .next u) ∧
    (Part.motionRequest (.axisJog mPing) = true ∧ ∃ u, exec (.axisJog mPing) wRun = .next u) ∧
    (Part.loadRequest (.lcUnlock mPing) = true ∧ ∃ u, exec (.lcUnlock mPing) wRun = .next u) ∧
    (Part.portRequest (.epSetPosition mPing) = true ∧ ∃ u, exec (.epSetPosition mPing) wRun = .next u) ∧
    (Part.alarmRequest (.alarmAck mPing) = true ∧ ∃ u, exec (.alarmAck mPing) wRun = .next u) ∧
    (Part.fieldRequest (.trunkDiscover mPing) = true ∧ ∃ u, exec (.trunkDiscover mPing) wRun = .next u) ∧
    (Part.serviceRequest (.loadBegin mPing) = true ∧ ∃ u, exec (.loadBegin mPing) wRun = .next u) ∧
    (Part.safetyRequest (.safetyParamWrite mPing) = true ∧ ∃ u, exec (.safetyParamWrite mPing) wRun = .next u) ∧
    (Part.pairRequest (.pairSet mPing) = true ∧ ∃ u, exec (.pairSet mPing) wRun = .next u) ∧
    (Part.securityRequest (.debugAuth mPing) = true ∧ ∃ u, exec (.debugAuth mPing) wRun = .next u) :=
  ⟨⟨rfl, _, rfl⟩, ⟨rfl, _, rfl⟩, ⟨rfl, _, rfl⟩, ⟨rfl, _, rfl⟩, ⟨rfl, _, rfl⟩, ⟨rfl, _, rfl⟩, ⟨rfl, _, rfl⟩, ⟨rfl, _, rfl⟩, ⟨rfl, _, rfl⟩,
   ⟨rfl, _, rfl⟩, ⟨rfl, _, rfl⟩, ⟨rfl, _, rfl⟩, ⟨rfl, _, rfl⟩⟩

theorem witness_RungFrames : Part.rungInstr (.addk ce0 5#24) = true ∧ ∃ u, exec (.addk ce0 5#24) rgM = .next u := ⟨rfl, _, rfl⟩

theorem witness_DebugAccess_cells : (sto [(F.secDEBUG_LEVEL, 0, 2)]).m.obj F.secDEBUG_LEVEL = 2 ∧ (1 = 0 ∨ 1 = 2 ∨ ((1 : Nat) = 1 ∧ 2 ^ 24 - 1 < 2 ^ 24)) ∧
    48 * 2 ^ 20 - 1 < 48 * 2 ^ 20 ∧ 2 ^ 20 - 1 < 2 ^ 20 ∧ 2 ^ 16 - 1 < 2 ^ 16 := by
  decide +kernel

end Sys2Proof.Tests
end

section
/-! PROOFS. The rung instructions with an immediate, a 32-bit or an 8-byte field of a record, and single bits of WACC (R109 to R112). -/
namespace Sys2Proof.Machine

/-! ### What the load of a field leaves and gives -/

theorem load_ce (x : Rx) (sp : Buffered) (g : Nat) (k : BitVec 64) : (x.load sp g k).2.ce = x.ce := by
  unfold Rx.load
  simp only
  split
  · rfl
  · split
    · rfl
    · split <;> rfl

theorem iword_ce (x : Rx) (op : Operand) (n : Nat) : (x.iword op n).2.ce = x.ce := by
  unfold Rx.iword Rx.instLoad
  split
  · rfl
  · split
    · rfl
    · exact load_ce ..

theorem iword_wacc (x : Rx) (op : Operand) (n : Nat) : (x.iword op n).2.e.wacc = x.e.wacc :=
  (congrArg Engine.wacc (instLoad_regs x (opLocal op) (opIword op + n * x.index) n (ones (8 * n))) :)

/-- A load gives only bits of its mask. -/
theorem load_masked (x : Rx) (sp : Buffered) (g : Nat) (k : BitVec 64) : (x.load sp g k).1 &&& k = (x.load sp g k).1 := by
  unfold Rx.load
  simp only
  split
  · simp [BitVec.and_assoc]
  · split
    · simp [BitVec.and_assoc]
    · split <;> simp [BitVec.and_assoc]

/-- Bits of a shifted mask, shifted back, are bits of the mask. -/
theorem ushiftRight_masked {v k : BitVec 64} {n : Nat} (h : v &&& (k <<< n) = v) : (v >>> n) &&& k = v >>> n := by
  have hv : ∀ i, v.getLsbD (n + i) = true → k.getLsbD i = true := by
    intro i hi
    rw [← h] at hi
    simp only [BitVec.getLsbD_and, BitVec.getLsbD_shiftLeft, Nat.add_sub_cancel_left, Bool.and_eq_true] at hi
    exact hi.2.2
  apply BitVec.eq_of_getLsbD_eq
  intro i _
  simpa using hv i

theorem iword_masked (x : Rx) (op : Operand) (n : Nat) : (x.iword op n).1 &&& ones (8 * n) = (x.iword op n).1 := by
  unfold Rx.iword Rx.instLoad
  split
  · simp [BitVec.and_assoc]
  · split
    · simp
    · exact ushiftRight_masked (load_masked ..)

/-- A 4-byte field is its own low 32 bits. -/
theorem iword_toNat_setWidth (x : Rx) (op : Operand) : ((x.iword op 4).1.setWidth 32).toNat = (x.iword op 4).1.toNat := by
  have h := congrArg BitVec.toNat (iword_masked x op 4)
  have h32 : (ones (8 * 4)).toNat = 2 ^ 32 - 1 := by decide
  rw [BitVec.toNat_and, h32, Nat.and_two_pow_sub_one_eq_mod] at h
  rw [BitVec.toNat_setWidth, h]

/-! ### Instructions that change registers alone, or after a load -/

section
variable {s : State} {ce : Fin 8} {op : Operand} {n clk : Nat} {f : Rx → Rx} {g : Engine → Engine}
variable {a : Arith} {c : Word64 → Word64 → Bool} {ext : Word64 → Word64} {v r : Word64} {b : Bool}

/-- An instruction that, on this engine, only changes registers. -/
theorem rung_endE (h : s.canRun ce) (hf : f (s.rx ce) = (s.rx ce).endE g) : rung ce true f s = .next (s.withEng ce g) := by
  rw [rung_ends ce f s h (by rw [hf]; rfl), hf]
  rfl

/-- An instruction that loads a field of the region and changes registers. -/
theorem rung_iword (h : s.canRun ce) (hok : okIword op n = true) (hw : s.hasWord ce op n)
    (hf : f (s.rx ce) = ((s.rx ce).iword op n).2.endE g) :
    rung ce (okIword op n) f s = .next (s.ends (((s.rx ce).iword op n).2.endE g)) := by
  rw [hok, rung_ends ce f s h (by rw [hf]; exact iword_fault hw), hf]

theorem arith_of_acc {y : Rx} (ha : a y.e.wacc v = (r, some b)) :
    y.arith a v clk = y.endE (fun e => { e with wacc := r, acc := b }.on clk) := by
  simp only [Rx.arith, ha]
  rfl

theorem cmp_of_eq {y : Rx} (hc : c y.e.wacc v = b) : y.cmp c v = y.endE (fun e => { e with acc := b }.on 1) := by
  rw [← hc]
  rfl

/-- An instruction that only sets WACC. -/
theorem rung_wacc {ok : Bool} {w : Rx → Word64} (h : s.canRun ce) (hok : ok = true) :
    rung ce ok (fun y => (y.wacc (w y)).done 1) s = .next (s.withEng ce (fun e => { e with wacc := w (s.rx ce) }.on 1)) := by
  rw [hok, rung_endE (g := fun e => { e with wacc := w (s.rx ce) }.on 1) h rfl]

/-- An instruction that only sets ACC. -/
theorem rung_acc {ok : Bool} {t : Rx → Bool} (h : s.canRun ce) (hok : ok = true) :
    rung ce ok (fun y => (y.acc (t y)).done 1) s = .next (s.withEng ce (fun e => { e with acc := t (s.rx ce) }.on 1)) := by
  rw [hok, rung_endE (g := fun e => { e with acc := t (s.rx ce) }.on 1) h rfl]

/-- An instruction that loads a field of the region and sets WACC. -/
theorem rung_waccI {w : Rx → Word64} (h : s.canRun ce) (hok : okIword op n = true) (hw : s.hasWord ce op n) :
    rung ce (okIword op n) (fun y => ((y.iword op n).2.wacc (w y)).done 1) s =
      .next (s.ends (((s.rx ce).iword op n).2.endE (fun e => { e with wacc := w (s.rx ce) }.on 1))) :=
  rung_iword h hok hw rfl

/-- A division or remainder by an immediate: WACC and ACC as its operation gives them. -/
theorem rung_arith (h : s.canRun ce) (ha : a (s.m.eng ce.val).wacc v = (r, some b)) :
    rung ce true (fun x => x.arith a v clk) s = .next (s.withEng ce (fun e => { e with wacc := r, acc := b }.on clk)) :=
  rung_endE h (arith_of_acc ha)

/-- A division or remainder by a 32-bit field. -/
theorem rung_arithI (h : s.canRun ce) (hok : okIword op 4 = true) (hw : s.hasWord ce op 4)
    (ha : a (s.m.eng ce.val).wacc (ext ((s.rx ce).iword op 4).1) = (r, some b)) :
    rung ce (okIword op 4) (arithI a ext clk op) s =
      .next (s.ends (((s.rx ce).iword op 4).2.endE (fun e => { e with wacc := r, acc := b }.on clk))) :=
  rung_iword h hok hw (arith_of_acc (by rw [iword_wacc]; exact ha))

/-- A compare with an immediate: ACC as its relation says. -/
theorem rung_cmp (h : s.canRun ce) (hc : c (s.m.eng ce.val).wacc v = b) :
    rung ce true (fun x => x.cmp c v) s = .next (s.withEng ce (fun e => { e with acc := b }.on 1)) :=
  rung_endE h (cmp_of_eq hc)

/-- A compare with a 32-bit field. -/
theorem rung_cmpI (h : s.canRun ce) (hok : okIword op 4 = true) (hw : s.hasWord ce op 4)
    (hc : c (s.m.eng ce.val).wacc (ext ((s.rx ce).iword op 4).1) = b) :
    rung ce (okIword op 4) (cmpI c ext op) s = .next (s.ends (((s.rx ce).iword op 4).2.endE (fun e => { e with acc := b }.on 1))) :=
  rung_iword h hok hw (cmp_of_eq (by rw [iword_wacc]; exact hc))

/-- A compare with an 8-byte field. -/
theorem rung_cmpD (h : s.canRun ce) (hok : okIword op 8 = true) (hw : s.hasWord ce op 8)
    (hc : c (s.m.eng ce.val).wacc ((s.rx ce).iword op 8).1 = b) :
    rung ce (okIword op 8) (cmpD c op) s = .next (s.ends (((s.rx ce).iword op 8).2.endE (fun e => { e with acc := b }.on 1))) :=
  rung_iword h hok hw (cmp_of_eq (by rw [iword_wacc]; exact hc))

/-- The engine at the end of an instruction is the engine the instruction leaves. -/
theorem ends_eng (s : State) (y : Rx) : (s.ends y).m.eng y.ce = y.e :=
  Mach.updEng_eng y.m y.ce (fun _ => y.e)

end

/-! ### Operands -/

/-- Sign extension to WACC's width loses nothing. -/
theorem signExtend_ne_zero {w : Nat} {v : BitVec w} (hw : w ≤ 64) (hv : v ≠ 0#w) : v.signExtend 64 ≠ 0#64 := by
  intro h
  apply hv
  rw [← BitVec.toInt_inj, ← BitVec.toInt_signExtend_of_le hw, h, BitVec.toInt_zero, BitVec.toInt_zero]

theorem opKs_toInt (op : Operand) : (opKs op).toInt = op.toInt := BitVec.toInt_signExtend_of_le (by decide)

theorem opKz_toNat (op : Operand) : (opKz op).toNat = op.toNat := BitVec.toNat_setWidth_of_le (by decide)

theorem sext_toInt (v : Word64) : (sext 32 v).toInt = (v.setWidth 32).toInt := BitVec.toInt_signExtend_of_le (by decide)

/-! ### What the operations give -/

theorem divOp_zero (a : Word64) : divOp a 0#64 = (0#64, some false) := if_pos rfl

theorem modOp_zero (a : Word64) : modOp a 0#64 = (0#64, some false) := if_pos rfl

theorem divOp_of_ne_zero (a : Word64) {v : Word64} (hv : v ≠ 0#64) : divOp a v = (a.sdiv v, some true) := if_neg hv

theorem modOp_of_ne_zero (a : Word64) {v : Word64} (hv : v ≠ 0#64) : modOp a v = (a.srem v, some true) := if_neg hv

theorem divOp_intMin_neg_one : divOp (BitVec.ofInt 64 (-2 ^ 63)) (-1#64) = (BitVec.ofInt 64 (-2 ^ 63), some true) := by decide

theorem modOp_intMin_neg_one : modOp (BitVec.ofInt 64 (-2 ^ 63)) (-1#64) = (0#64, some true) := by decide

section
variable (a v : Word64)

theorem cmpEq_eq : cmpEq a v = decide (a = v) := rfl

theorem cmpNe_eq : cmpNe a v = decide (a ≠ v) := by
  rw [decide_not]
  rfl

theorem cmpEq_toInt : cmpEq a v = decide (a.toInt = v.toInt) := by rw [cmpEq_eq, decide_eq_decide, BitVec.toInt_inj]

theorem cmpNe_toInt : cmpNe a v = decide (a.toInt ≠ v.toInt) := by rw [cmpNe_eq, decide_eq_decide, BitVec.toInt_ne]

theorem cmpGt_toInt : cmpGt a v = decide (a.toInt > v.toInt) := BitVec.slt_eq_decide

theorem cmpGe_toInt : cmpGe a v = decide (a.toInt ≥ v.toInt) := BitVec.sle_eq_decide

theorem cmpLt_toInt : cmpLt a v = decide (a.toInt < v.toInt) := BitVec.slt_eq_decide

theorem cmpLe_toInt : cmpLe a v = decide (a.toInt ≤ v.toInt) := BitVec.sle_eq_decide

theorem cmpGtu_toNat : cmpGtu a v = decide (a.toNat > v.toNat) := BitVec.ult_eq_decide

theorem cmpLtu_toNat : cmpLtu a v = decide (a.toNat < v.toNat) := BitVec.ult_eq_decide

end

theorem opS_of_lt {op : Operand} (h : op.toNat < 64) : opS op = op.toNat := Nat.mod_eq_of_lt h

theorem okS_of_lt {op : Operand} (h : op.toNat < 64) : okS op = true := decide_eq_true h

/-- WACC with one bit replaced, bit by bit. -/
theorem setWBit_getLsbD (a : Word64) (b : Bool) {k n : Nat} (hn : n < 64) :
    (setWBit a k b).getLsbD n = if n = k then b else a.getLsbD n := by
  have h1 : ∀ i, (BitVec.ofNat 64 b.toNat).getLsbD i = (decide (i = 0) && b) := by
    intro i
    cases b <;> simp [BitVec.getLsbD_one]
  have h2 : n - k = 0 ↔ n ≤ k := by omega
  simp only [setWBit, BitVec.getLsbD_or, BitVec.getLsbD_and, BitVec.getLsbD_not, BitVec.getLsbD_shiftLeft, BitVec.getLsbD_one, h1, hn, h2]
  by_cases hk : n = k
  · simp [hk]
  · have h3 : n < k ∨ ¬ n ≤ k := by omega
    rcases h3 with h3 | h3 <;> simp [hk, h3]

end Sys2Proof.Machine
end

section
/-! PROOFS. The statements of spec/04 on divisions, single bits, compares and wide operands. -/
namespace Sys2Proof.Machine

variable {s : State} {ce : Fin 8} {op : Operand}

/-! ### The instructions that set WACC or ACC by themselves -/

theorem exec_ldk : exec (.ldk ce op) s = rung ce true (fun x => (x.wacc (opKs op)).done 1) s := rfl

theorem exec_lis32 : exec (.lis32 ce op) s =
    rung ce (okIword op 4) (fun x => ((x.iword op 4).2.wacc (sext 32 (x.iword op 4).1)).done 1) s := rfl

theorem exec_wbit : exec (.wbit ce op) s = rung ce (okS op) (fun x => (x.acc (x.e.wacc.getLsbD (opS op))).done 1) s := rfl

theorem exec_wsetb : exec (.wsetb ce op) s = rung ce (okS op) (fun x => (x.wacc (setWBit x.e.wacc (opS op) x.e.acc)).done 1) s := rfl

theorem exec_addd : exec (.addd ce op) s =
    rung ce (okIword op 8) (fun x => ((x.iword op 8).2.wacc (x.e.wacc + (x.iword op 8).1)).done 1) s := rfl

theorem exec_subd : exec (.subd ce op) s =
    rung ce (okIword op 8) (fun x => ((x.iword op 8).2.wacc (x.e.wacc - (x.iword op 8).1)).done 1) s := rfl

/-! ### The constants EQ and NE compare with -/

/-- LDK leaves its operand, sign-extended, in WACC. -/
theorem ldk_wacc (h : s.canRun ce) : ∃ x, exec (.ldk ce op) s = .next x ∧ (x.m.eng ce.val).wacc = opKs op := by
  refine ⟨_, exec_ldk.trans (rung_wacc h rfl), ?_⟩
  simp [State.withEng, Engine.on]

/-- LIS.32 leaves its field, sign-extended, in WACC. -/
theorem lis32_wacc (h : s.canRun ce) (hok : okIword op 4 = true) (hw : s.hasWord ce op 4) :
    ∃ x, exec (.lis32 ce op) s = .next x ∧ (x.m.eng ce.val).wacc = sext 32 ((s.rx ce).iword op 4).1 := by
  refine ⟨_, exec_lis32.trans (rung_waccI h hok hw), ?_⟩
  have hce : ((s.rx ce).iword op 4).2.ce = ce.val := iword_ce ..
  have he := ends_eng s (((s.rx ce).iword op 4).2.endE (fun e => { e with wacc := sext 32 ((s.rx ce).iword op 4).1 }.on 1))
  exact hce ▸ congrArg Engine.wacc he

end Sys2Proof.Machine

open Sys2Proof Sys2Proof.Machine

/-- Settles O10: the corners by the values of `divOp` and `modOp`; sign extension keeps 0, −1 and every other divisor apart. -/
theorem divisionCorners : Obligations.DivisionCorners := by
  intro ce op s h
  refine ⟨fun h0 => ?_, fun h1 hw => ?_, fun hne => ?_, fun hok hin => ⟨fun h0 => ?_, fun h1 hw => ?_, fun hne => ?_⟩⟩
  · have hv : opKs op = 0#64 := by rw [h0]; decide
    exact ⟨rung_arith h (by rw [hv, divOp_zero]), rung_arith h (by rw [hv, modOp_zero])⟩
  · have hv : opKs op = -1#64 := by rw [h1]; decide
    exact ⟨rung_arith h (by rw [hw, hv, divOp_intMin_neg_one]), rung_arith h (by rw [hw, hv, modOp_intMin_neg_one])⟩
  · have hv : opKs op ≠ 0#64 := signExtend_ne_zero (by decide) hne
    exact ⟨⟨_, rung_arith h (divOp_of_ne_zero _ hv)⟩, ⟨_, rung_arith h (modOp_of_ne_zero _ hv)⟩⟩
  · have hv : sext 32 ((s.rx ce).iword op 4).1 = 0#64 := by rw [sext, h0]; decide
    exact ⟨rung_arithI h hok hin (by rw [hv, divOp_zero]), rung_arithI h hok hin (by rw [hv, modOp_zero])⟩
  · have hv : sext 32 ((s.rx ce).iword op 4).1 = -1#64 := by rw [sext, h1]; decide
    exact ⟨rung_arithI h hok hin (by rw [hw, hv, divOp_intMin_neg_one]), rung_arithI h hok hin (by rw [hw, hv, modOp_intMin_neg_one])⟩
  · have hv : sext 32 ((s.rx ce).iword op 4).1 ≠ 0#64 := signExtend_ne_zero (by decide) hne
    exact ⟨⟨_, rung_arithI h hok hin (divOp_of_ne_zero _ hv)⟩, ⟨_, rung_arithI h hok hin (modOp_of_ne_zero _ hv)⟩⟩

/-- Settles O11: the bits of the word WSETB leaves, one by one. -/
theorem singleBits : Obligations.SingleBits := by
  intro ce op s h hop
  have hok : okS op = true := okS_of_lt hop
  have hn : opS op = op.toNat := opS_of_lt hop
  refine ⟨?_, _, exec_wsetb.trans (rung_wacc h hok), fun n h64 => ?_⟩
  · rw [← hn]
    exact exec_wbit.trans (rung_acc h hok)
  · rw [← hn]
    exact setWBit_getLsbD _ _ h64

/-- Settles O12: each compare is its relation on integers; EQ and NE on words give the agreement with LDK and LIS.32. -/
theorem compares : Obligations.Compares := by
  intro ce op s h
  refine ⟨⟨?_, ?_, ?_, ?_, ?_, ?_, ?_, ?_⟩, ?_, fun hok hin => ⟨⟨?_, ?_, ?_, ?_, ?_, ?_, ?_, ?_⟩, ?_⟩⟩
  · exact rung_cmp h (by rw [cmpEq_toInt, opKs_toInt])
  · exact rung_cmp h (by rw [cmpNe_toInt, opKs_toInt])
  · exact rung_cmp h (by rw [cmpGt_toInt, opKs_toInt])
  · exact rung_cmp h (by rw [cmpGe_toInt, opKs_toInt])
  · exact rung_cmp h (by rw [cmpLt_toInt, opKs_toInt])
  · exact rung_cmp h (by rw [cmpLe_toInt, opKs_toInt])
  · exact rung_cmp h (by rw [cmpGtu_toNat, opKz_toNat])
  · exact rung_cmp h (by rw [cmpLtu_toNat, opKz_toNat])
  · obtain ⟨x, hx, hw⟩ := ldk_wacc (op := op) h
    exact ⟨x, hx, rung_cmp h (by rw [cmpEq_eq, hw]), rung_cmp h (by rw [cmpNe_eq, hw])⟩
  · exact rung_cmpI h hok hin (by rw [cmpEq_toInt, sext_toInt])
  · exact rung_cmpI h hok hin (by rw [cmpNe_toInt, sext_toInt])
  · exact rung_cmpI h hok hin (by rw [cmpGt_toInt, sext_toInt])
  · exact rung_cmpI h hok hin (by rw [cmpGe_toInt, sext_toInt])
  · exact rung_cmpI h hok hin (by rw [cmpLt_toInt, sext_toInt])
  · exact rung_cmpI h hok hin (by rw [cmpLe_toInt, sext_toInt])
  · exact rung_cmpI h hok hin (by rw [cmpGtu_toNat, iword_toNat_setWidth, id])
  · exact rung_cmpI h hok hin (by rw [cmpLtu_toNat, iword_toNat_setWidth, id])
  · obtain ⟨x, hx, hw⟩ := lis32_wacc h hok hin
    exact ⟨x, hx, rung_cmpI h hok hin (by rw [cmpEq_eq, hw]), rung_cmpI h hok hin (by rw [cmpNe_eq, hw])⟩

/-- Settles O13: the field comes by one load, which leaves WACC for the operation. -/
theorem wideOperands : Obligations.WideOperands := by
  intro ce op s h hok hin
  refine ⟨exec_addd.trans (rung_waccI h hok hin), exec_subd.trans (rung_waccI h hok hin), ?_, ?_, ?_, ?_, ?_, ?_⟩
  · exact rung_cmpD h hok hin (cmpEq_eq ..)
  · exact rung_cmpD h hok hin (cmpNe_eq ..)
  · exact rung_cmpD h hok hin (cmpGt_toInt ..)
  · exact rung_cmpD h hok hin (cmpLt_toInt ..)
  · exact rung_cmpD h hok hin (cmpGtu_toNat ..)
  · exact rung_cmpD h hok hin (cmpLtu_toNat ..)
end
